-- ==== Sys2Proof/Word.lean ====
section
/-! DEFINITION. The machine's words: the 64-bit dictionary word and the byte. -/

namespace Sys2Proof

/-- A dictionary word (R33). -/
abbrev Word := BitVec 64
/-- One byte of a message, a record or a buffer. -/
abbrev Byte := BitVec 8
/-- A TIME96 value as one count of 2⁻¹⁶ ns (R89); its three fields are read by `Time.sec`, `Time.ns`, `Time.frac`. -/
abbrev T96 := Nat
/-- A BOUND32 in picoseconds, 0 to 0xFFFF_FFFF (R120). -/
abbrev Bound := Nat

end Sys2Proof
end

