-- ==== Sys2Proof/Config.lean ====
section
/-! DEFINITION. What the model leaves to the implementation: functions the spec gives no formula for, and the values it
leaves open. None has a body, so no proof can see a value of it. -/

namespace Sys2Proof.Config

/-- The keyed hash of R337: key, source prefix. -/
opaque rateHash : Nat → List Byte → Nat
/-- The variance of a code measurement in ps², from its C/N0 in 0.01 dB-Hz and its smoothing length in epochs (R372 gives no
formula: log 50). -/
opaque codeVariance : Nat → Nat → Nat
/-- The chi-square threshold of R374 in 10⁻⁶, for a number of redundant measurements and a false-alarm exponent (log 50). -/
opaque chiSquare : Nat → Nat → Nat
/-- The time protection level of R372 in ps, for the systems and variances of the measurements used and a false-alarm exponent
(log 50). -/
opaque protection : List (Nat × Nat) → Nat → Nat
/-- The gains of the ensemble's Kalman filter in 10⁻⁹ (R188 gives no noise of the measurement and no start of its covariance: log 52): of
the phase (0), frequency (1), aging (2) or temperature coefficient (3) of a member with `a` and `b` in 10⁻¹⁸, at its n-th update. -/
opaque kalmanGain : Nat → Nat → Nat → Nat → Nat
/-- The square root of the predicted variance of a member's innovation in as (R191, log 52): `a`, `b`, and the updates so far. -/
opaque innovDeviation : Nat → Nat → Nat → Nat
/-- a and b in 10⁻¹⁸ and D in 10⁻²¹ /s fitted to the Allan variances at 1 s to 10,000 s in 10⁻³⁶ (R188, log 53). -/
opaque allanFit : List Nat → Nat × Nat × Nat
/-- P₀ (0) and G₀ (1) of a band before any calibration, in 0.1 dB (R370; log 51). -/
opaque jamDefault : Nat → Nat → Int
/-- Bits drawn from the DRBG or from anything else the spec calls random: the n-th draw (log 8). -/
opaque draw : Nat → Nat
/-- A value the spec leaves open, numbered by the draw and by the place that needs it (log 9). -/
opaque freeValue : Nat → Nat

end Sys2Proof.Config
end

