-- ==== Sys2Proof/Syntax.lean ====
section
/-! DEFINITION. The commands: one constructor per row of the opcode table, with the row's operands. Every timed command
carries the Privet tick `t` at which it happens (log 1). -/

namespace Sys2Proof

/-- A master of the dictionary (R36, R38): a PCIe function 2·l + f, the SPI target, an Irlin session by its key
binding, the internal sequencer. -/
inductive Master where
  | pcie (f : Fin 8)
  | spit
  | irlin (k : Fin 16)
  | seq
deriving DecidableEq, Repr

/-- What an access names: a BAR0 offset with the access size in bytes (R37, R470), or an index:subindex. -/
inductive Target where
  | bar (off size : Nat)
  | obj (index sub : Nat)
deriving DecidableEq, Repr

/-- The way an Irlin message came in, which its reply goes back: a network port, a CMD ring's world, the SPI target. -/
inductive Via where
  | udp (port : Nat)
  | ring (w : Nat)
  | spi
deriving DecidableEq, Repr

/-- An item of an Irlin READ, or of a WRITE with its words (R61). -/
structure Item where
  index : Nat
  sub : Nat
  words : Nat := 1
  data : List Word := []
deriving DecidableEq, Repr

/-- What a handshake carries (R12, R25): a TIME96 or a BOUND32 with its residue, the command of an armed schedule slot (R15,
R113), or any other item. -/
inductive HsItem where
  | time (v : T96) (res : Byte)
  | bound (v : Bound) (res : Byte)
  | sched (slot : Fin 256)
  | data (bytes : List Byte)
deriving DecidableEq, Repr

/-- One transfer: the channel, the receiving island's domain and identifier, the item. -/
structure Handshake where
  chan : Nat
  dom : Fin 8
  island : Nat
  item : HsItem
deriving DecidableEq, Repr

/-- What a leaf measures at a strobe edge (R21): how far its copy has drifted from Privet since the last edge, in 2⁻⁵⁶ ns with the
vernier's own error, and the cycles of its island clock since then with the fine positions, in 2⁻¹⁶ cycles. -/
structure LeafObs where
  leaf : Fin 64
  drift : Int
  cycles : Nat
deriving DecidableEq, Repr

/-- What an epoch strobe's edge brings with it: the leaves' latches, the banks' coarse counters (R205), the ports whose
lane positions the monitor finds changed (R250), the leaves whose order mark does not get through (R116), and the residues that the results of the core arithmetic carry, to be compared
with the predicted ones (0 Privet's value, 1 the core bound, 2 Yew's integral, 3 to 8 the rest of R117: R26, R30). -/
structure StrobeObs where
  leaves : List LeafObs
  banks : List (Nat × Nat)
  moved : List (Fin 18)
  unmarked : List (Fin 64)
  residues : List (Fin 9 × Nat)
deriving DecidableEq, Repr

/-- What SECDED finds in a word (R27). -/
inductive Ecc where
  | clean | single | double
deriving DecidableEq, Repr

/-- What stage 4 finds in the boot flash (R73, R405, R461): whether the SFDP read answers, and what the reads bring, each by its
offset in the flash; with a bit per known-answer test that failed (R409). -/
structure FlashObs where
  answers : Bool
  reads : List (Nat × List Byte)
  failed : Nat
deriving DecidableEq, Repr

/-- What stage 6 measures of an MDLL (R222): the DTC steps of its 64 codes in fs, and the VCO's lowest and highest frequency in kHz. -/
structure MdllCal where
  steps : List Nat
  low : Nat
  high : Nat
deriving DecidableEq, Repr

/-- What stage 6 measures: each leaf's mean round trip in fs (R18), the MDLLs by number (R222), the converters (R208) by
2·channel + converter with q in fs and the high time. -/
structure CalObs where
  roundTripFs : List (Fin 64 × Nat)
  mdlls : List (Fin 4 × MdllCal)
  converters : List (Nat × Nat × Nat)
deriving DecidableEq, Repr

/-- Stage 5's tick, and the octets that the DMA reads of a host image have brought, where they came after IMAGE_LOAD's own row
(R73, R76). -/
structure ApplyObs where
  t : Nat
  dma : Option (List Byte)
deriving DecidableEq, Repr

/-- Where a count window stands (R224): how long after its tick it ends, and the first one after the VCO's start begins, in fs. -/
structure WindowObs where
  lead : Nat
  edge : Nat
deriving DecidableEq, Repr

/-- The deadlines a unit acts on only after every input path's order mark has passed them (R115, R116). -/
inductive Deadline where
  | handshake (chan : Nat) (dom : Fin 8) (island rose : Nat)
  | guardPair
  | activity (slot : Fin 32)
  | announce (i : Fin 16)
  | sync (i : Fin 16)
  | grant (slot kind : Nat)
  | esmc (slot : Fin 32)
  | partner (index : Nat)
deriving DecidableEq, Repr

/-- An edge as a channel's vernier converts it (R207): the tick of the bank clock transition that starts the fast ring, its
polarity, the cycle count N of the conversion, and whether that transition is the falling one. -/
structure EdgeObs where
  ch : Fin 26
  falling : Bool
  cycles : Nat
  fallTransition : Bool
deriving DecidableEq, Repr

/-- A frame received on a service port (R253, R254): how long after the tick its stamp point crossed the ball, in fs, whether it is
addressed to the engine (its addresses and the groups it listens to, log 70), its octets with the FCS, and what the FEC and the PCS find
in it. -/
structure RxObs where
  port : Fin 18
  edge : Nat
  own : Bool
  bytes : List Byte
  fecBad : Bool
  pcsErr : Bool
deriving DecidableEq, Repr

/-- A descriptor as the engine reads it over DMA, with the data of its buffer (R275); `none` where the host returned an abort,
an unsupported request or poisoned data. -/
structure DmaDesc where
  desc : List Byte
  data : Option (List Byte)
deriving DecidableEq, Repr

/-- A PTP message handed to the PTP engine with the metadata its frame carries (R253): the port, ingress stamp, its bound and
RXFLAGS, the transport (0 L2, 1 IPv4, 2 IPv6), whether it is addressed to the engine alone, its source address as ADDRESS of
R304, its outer tag, and the message's octets. -/
structure PtpRx where
  port : Fin 18
  stamp : T96
  bound : Bound
  flags : Nat
  transport : Fin 3
  unicast : Bool
  addr : List Byte
  vlan : Nat
  bytes : List Byte
deriving DecidableEq, Repr

/-- A request datagram for the NTP/NTS engine with the metadata its frame carries (R253, R327): the port, ingress stamp, its
bound and flags, whether it is IPv6, its source address as 16 bytes and UDP source port, and the UDP payload. `uni` says that it is
addressed to one of the engine's unicast addresses; `macs` are its two Ethernet addresses, `tags` its VLAN tags, `dst` its destination
address and `dscp` its DSCP, which the response carries back. -/
structure NtpRx where
  port : Fin 18
  stamp : T96
  bound : Bound
  flags : Nat
  v6 : Bool
  uni : Bool := true
  src : List Byte
  srcPort : Nat
  payload : List Byte
  macs : List Byte := []
  tags : List Byte := []
  dst : List Byte := []
  dscp : Nat := 0
deriving DecidableEq, Repr

/-- A frame seen on a capture port (R347): how long after the tick its stamp point crossed the ball, in fs, its octets
from the first after the SFD (before the error, where it is aborted), and whether it is aborted. -/
structure TapObs where
  port : Fin 16
  edge : Nat
  bytes : List Byte
  aborted : Bool
deriving DecidableEq, Repr

/-- What a tracking channel has at a measurement epoch (R366, R367): the age of its last valid sample in fs, the transmit time
its code phase there spells, in fs of the system's time; its code rate and carrier rate against 1 in 10⁻¹⁵; its
accumulated carrier phase there and the fitted delay of the direct path (R365), in fs; C/N0 in 0.01 dB-Hz; whether the carrier has
slipped; and the integration interval in ticks. -/
structure ChannelObs where
  age : Nat
  sent : Int
  rate : Int
  carrier : Int
  carrierRate : Int
  fit : Int
  cn0 : Nat
  slip : Bool
  interval : Nat
deriving DecidableEq, Repr

/-- A satellite slot at a measurement epoch: its channels by band, elevation and azimuth in 0.1°, its health, the modelled delay
of its signal (range, clock, troposphere, relativity, Sagnac) and the broadcast ionospheric delay of the band that is used
alone, in fs; the broadcast code biases in fs; the broadcast accuracy in ps; and how much a correction along the radial,
along-track and cross-track axes adds to the range, in 10⁻⁹. -/
structure SatObs where
  slot : Fin 64
  band1 : Option ChannelObs
  band2 : Option ChannelObs
  elev : Int
  azim : Nat
  healthy : Bool
  modelled : Int
  iono : Int
  bias1 : Int
  bias2 : Int
  accuracy : Nat
  radial : Int
  along : Int
  cross : Int
deriving DecidableEq, Repr

/-- A decoded ephemeris or almanac: system, PRN, IOD, reference time, end of validity, and its data. -/
structure Ephemeris where
  sys : Fin 4
  prn : Nat
  iod : Nat
  ref : T96
  until' : T96
  data : List Byte
deriving DecidableEq, Repr

/-- What a measurement epoch brings: the satellites, what has been decoded since the last one (ephemerides, almanacs, the
time of week, the UTC source's TAI − UTC, its leap second, and its UTC less system time in fs; the GPS–Galileo offset in fs), the carrier
solution (clock in fs, ambiguity and code variance in ps²), and a survey's position in mm with its 3D deviation in mm. -/
structure EpochObs where
  sats : List SatObs
  ephemerides : List Ephemeris
  almanacs : List Ephemeris
  timeKnown : Bool
  taiUtc : Option Int
  leap : Option (Nat × Int)
  utcFs : Int
  galileo : Option Int
  carrier : Option (Int × Nat × Nat)
  survey : Option (Int × Int × Int × Nat)
deriving DecidableEq, Repr

/-- A spectrum of one band (R369, R370): the bins that stand above the noise floor with the frequency from band centre in Hz and
the height in 0.1 dB, the in-band power after the notches and the scaler's gain, in 0.1 dB. -/
structure SpectrumObs where
  bins : List (Nat × Int × Nat)
  power : Int
  gain : Int
deriving DecidableEq, Repr

/-- A FIFO whose items the model holds: a port's stamp queue and its frames on the way to launch, the capture records on their way
to the rings, and the SPI target's queues of events and of Irlin replies (R30). -/
inductive Fifo where
  | stamps (p : Fin 18) | launch (p : Fin 18) | tap | spiEvents | spiReplies
deriving DecidableEq, Repr
/-- What the memory error of a fault event struck (R27, R30): nothing the model holds; a word of an array, as ECC_WRITEBACK numbers
them, whose corrected value waits for its write-back; an item of a FIFO, from the oldest; or a record of navigation memory. -/
inductive Struck where
  | nothing | word (array : Fin 8) (w : Nat) | item (f : Fifo) (i : Nat) | record (i : Nat)
deriving DecidableEq, Repr
/-- What an event names in DETAIL, and what its memory error struck. -/
structure FaultWhat where
  detail : Nat
  struck : Struck
deriving DecidableEq, Repr
/-- The cause of an error on Holly's own state (R426). -/
inductive SelfCause where
  | secded | residue
deriving DecidableEq, Repr

/-- The commands of the engine: what reaches it from outside and what its own units complete. -/
inductive Instr where
  -- domains, islands and the epoch strobe (R10 to R31)
  | handshakeTransfer (t : Nat) (h : Handshake)
  | hsStall (t chan : Nat) (dom : Fin 8) (island : Nat) (request : Nat × HsItem)
  | epochStrobe (t : Nat) (x : StrobeObs)
  | namedValueArrival (t : Nat) (leaf : Fin 64) (value : T96) (res : Byte)
  | copyMissLimitReached (t : Nat) (leaf : Fin 64)
  | treeRemeasure (t : Nat) (leaf : Fin 64) (roundTripFs : Nat)
  | eccWriteback (t : Nat) (array : Fin 8) (word : Nat) (functional : Bool)
  | scrubRead (t : Nat) (bank : Fin 5) (word : Nat) (ecc : Ecc)
  | scrubForced (t : Nat) (bank : Fin 5) (word : Nat) (ecc : Ecc)
  -- the object dictionary, Irlin and the worlds (R32 to R67)
  | registerWrite (t : Nat) (m : Master) (a : Target) (v : Word)
  | corRead (t : Nat) (m : Master) (a : Target)
  | latchRead (t : Nat) (m : Master) (a : Target)
  | stagedWordWrite (t : Nat) (m : Master) (a : Target) (v : Word)
  | guardedValueWrite (t : Nat) (f : Fin 8) (a : Target) (v : Word)
  | guardedComplementWrite (t : Nat) (f : Fin 8) (a : Target) (v : Word)
  | guardDeadlineExpiry (t : Nat)
  | lockCtrl (t : Nat) (m : Master) (v : Word)
  | bindPcie (t : Nat) (m : Master) (i : Fin 8) (v : Word)
  | irlinDatagram (t port udpPort : Nat) (bytes : List Byte)
  | irlinRead (t : Nat) (k : Fin 16) (via : Via) (tag : Nat) (peek : Bool) (items : List Item)
  | irlinWrite (t : Nat) (k : Fin 16) (via : Via) (tag : Nat) (items : List Item)
  | irlinGuardedWrite (t : Nat) (k : Fin 16) (via : Via) (tag index sub words : Nat) (v c : Word)
  | irlinBlockRead (t : Nat) (k : Fin 16) (via : Via) (tag : Nat) (peek : Bool) (index sub count : Nat)
  | irlinCommit (t : Nat) (k : Fin 16) (via : Via) (tag ref compl lock : Nat)
  | irlinSubscribe (t : Nat) (k : Fin 16) (via : Via) (tag domains minSev duration : Nat)
  | irlinSubscriptionExpiry (t n : Nat)
  | irlinReport (t : Nat) (k : Fin 16) (via : Via) (tag : Nat) (report : List Byte)
  | irlinDiscover (t : Nat) (k : Fin 16) (via : Via) (tag : Nat)
  | irlinRenew (t : Nat) (k : Fin 16) (via : Via) (tag : Nat)
  | commitRef (t : Nat) (m : Master) (v : Word)
  | pewterSweep (t : Nat)
  | sweepComplete (t : Nat) (seen : List (Nat × Nat × Word))
  | editOpen (t : Nat) (m : Master)
  | editClose (t : Nat) (m : Master)
  | editTimeoutExpiry (t : Nat)
  -- power-up, lifecycle, images, trim profiles (R68 to R88, R452)
  | resetRelease
  | pwrgoodFall (t : Nat)
  | resetAssert (t : Nat)
  | vddaoOutOfRange (t : Nat)
  | otpLoad (t : Nat) (ok : Bool)
  | rootGen (t : Nat) (health : List Bool) (writes : Bool)
  | stageBist (t : Nat) (sigs : List (Nat × Nat × Nat))
  | stageImageLoad (t : Nat) (x : FlashObs)
  | imageApply (x : ApplyObs)
  | calibrate (t : Nat) (x : CalObs)
  | quietEnd (t : Nat)
  | imageLoad (t : Nat) (m : Master) (v : Word) (dma : Option (List Byte))
  | firstLock (t : Nat)
  | lifecycleReq (t : Nat) (m : Master) (v : Word)
  | lifecycleBurnComplete (t : Nat)
  | bootOptionsBurn (t : Nat) (m : Master) (v : Word)
  | trimProfile (t : Nat) (m : Master) (v : Word)
  | trimApply (t : Nat)
  -- Privet (R89 to R119)
  | privetMode (t : Nat) (m : Master) (v : Word)
  | privetIncrNs (t : Nat) (m : Master) (v : Word)
  | privetIncrFrac (t : Nat) (m : Master) (v : Word)
  | privetSlewCmd (t : Nat) (m : Master) (v : Word)
  | privetStepCmd (t : Nat) (m : Master) (v : Word)
  | privetStepPermit (t : Nat) (m : Master) (v : Word)
  | permitTimeout (t : Nat)
  | retardEnd (t : Nat)
  | privetInitTime (t : Nat) (m : Master) (lo hi : Word)
  | leapTai (t : Nat) (m : Master) (j : Fin 64) (v : Word)
  | leapAnnounce (t tL : Nat) (offset : Int)
  | leapWithdraw (t tL : Nat)
  | leapStateChange (t : Nat)
  | leapDue (t : Nat) (j : Fin 64)
  | privetSnapshot (t : Nat) (m : Master)
  | schedArm (t : Nat) (m : Master) (slot : Fin 256)
  | schedDisarm (t : Nat) (m : Master) (slot : Fin 256)
  | schedEvent (t : Nat) (slot : Fin 256)
  | ppsoutSet (t : Nat) (slot : Fin 256)
  | ppsoutClear (t : Nat) (slot : Fin 256)
  | ppsoutPulse (t : Nat) (slot : Fin 256)
  | tapMark (t : Nat) (slot : Fin 256)
  | deadlineResolve (t : Nat) (d : Deadline) (at_ : Nat)
  | smearWindowEnd (t : Nat)
  -- the error bound, the ledger and attestation (R120 to R142)
  | releaseEnd (t : Nat)
  | ootExit (t : Nat)
  | ledgerEntryRead (t : Nat) (m : Master) (w : Fin 16)
  | attestBoundary (t : Nat)
  | attestSigned (t : Nat) (i : Fin 16)
  -- Hornbeam (R143 to R178)
  | activityTimeout (t : Nat) (n : Fin 32)
  | rateCheck (t : Nat)
  | hornbeamSecond (t : Nat)
  | refEnable (t : Nat) (m : Master) (n : Fin 32) (v : Word)
  | refType (t : Nat) (m : Master) (n : Fin 32) (v : Word)
  | hbPreferred (t : Nat) (m : Master) (v : Word)
  | qualTimeExpiry (t : Nat) (n : Fin 32)
  | wtrExpiry (t : Nat)
  | conflictAcceptSlew (t : Nat) (m : Master) (n : Fin 32)
  | conflictAcceptStep (t : Nat) (m : Master) (n : Fin 32)
  | conflictReject (t : Nat) (m : Master) (n : Fin 32)
  | autoAccept (t : Nat) (n : Fin 32)
  | esmcPdu (t port : Nat) (event : Bool) (ssm : Nat) (essm : Option Nat)
  | esmcTimeout (t : Nat) (n : Fin 32)
  | todLine (t : Nat) (p : Fin 4) (bytes : List Byte) (low : List Nat)
  | todMiss (t : Nat) (p : Fin 4)
  -- Yew (R179 to R202)
  | loopUpdate (t res : Nat)
  | ensembleUpdate (t res : Nat)
  | modelRefit (t : Nat) (m : Fin 5) (a b d : Nat)
  | ambiguityClose (t : Nat)
  | ensEnable (t : Nat) (m : Master) (i : Fin 5) (v : Word)
  | loopBw (t : Nat) (m : Master) (k : Fin 4) (v : Word)
  | loopDamp (t : Nat) (m : Master) (k : Fin 4) (v : Word)
  -- the interval counters (R203 to R219)
  | channelEdge (t : Nat) (x : EdgeObs)
  | counterWrap (t : Nat) (bank : Fin 4)
  | converterCal (t : Nat) (c : Fin 26) (b : Bool) (q h : Nat)
  | converterSwap (t : Nat) (c : Fin 26)
  | calStale (t : Nat) (c : Fin 26)
  | pairTimeout (t : Nat) (u : Fin 16)
  | pairClear (t : Nat) (m : Master) (u : Fin 16)
  | channelActivityLoss (t : Nat) (c : Fin 26)
  -- Synthesis: MDLLs, clocks, pulses, Time Lanes (R220 to R246)
  | mdllEnable (t : Nat) (m : Master) (i : Fin 4) (v : Word)
  | mdllMultN (t : Nat) (m : Master) (i : Fin 4) (v : Word)
  | mdllMultF (t : Nat) (m : Master) (i : Fin 4) (v : Word)
  | mdllWindow (t : Nat) (i : Fin 4) (count : Nat) (x : WindowObs)
  | mdllAligned (t : Nat) (i : Fin 4) (phaseErr : Int)
  | mdllReturnHold (t : Nat) (i : Fin 4)
  | bypassSwitch (t : Nat) (k : Fin 16)
  | clkoutDiv (t : Nat) (m : Master) (k : Fin 16) (v : Word)
  | clkoutEdgeReport (t : Nat) (k : Fin 16) (edge : Nat)
  | synRealign (t : Nat) (m : Master)
  | ppsEdge (t : Nat) (p : Fin 8)
  | tlFrame (t : Nat)
  | tlUnderrun (t : Nat) (l : Fin 8)
  | tlClockLoss (t : Nat) (l : Fin 8)
  | tlClockReturn (t : Nat) (l : Fin 8)
  | tlRealignEnd (t : Nat) (l : Fin 8)
  -- ports, the MAC and port stamping (R247 to R268)
  | portMode (t : Nat) (m : Master) (p : Fin 18) (v : Word)
  | linkUp (t : Nat) (p : Fin 18) (partnerOk : Bool)
  | linkDown (t : Nat) (p : Fin 18)
  | portCalDone (t : Nat) (p : Fin 18)
  | portRxFrame (t : Nat) (x : RxObs)
  | pauseResend (t : Nat) (p : Fin 18) (prio : Fin 8)
  | pauseXon (t : Nat) (p : Fin 18) (prio : Fin 8)
  | pauseReceived (t : Nat) (p : Fin 18) (prio : Fin 8) (quanta : Nat)
  | pauseExpiry (t : Nat) (p : Fin 18) (prio : Fin 8)
  | launchRequest (t : Nat) (p : Fin 18) (slack : Nat)
  | frameLaunch (t : Nat) (p : Fin 18)
  | launchMissed (t : Nat) (p : Fin 18) (handle : Nat) (late : Bool)
  | portTxFrame (t : Nat) (p : Fin 18) (edge : Nat)
  | stampQueueDrain (t : Nat) (p : Fin 18)
  | stampLossEntry (t : Nat) (p : Fin 18)
  | handleQuietExpiry (t : Nat) (p : Fin 18) (index : Fin 4096)
  | portHandleForce (t : Nat) (m : Master) (p : Fin 18)
  -- host links, rings, commands and the SPI target (R269 to R290)
  | pcieLinkUp (t : Nat) (l : Fin 4) (speed width : Nat)
  | pcieFlr (t : Nat) (f : Fin 8)
  | pcieLinkDown (t : Nat) (l : Fin 4)
  | busMasterClear (t : Nat) (f : Fin 8)
  | ringEnable (t : Nat) (m : Master) (w : Fin 16) (k : Fin 8)
  | ringHalt (t : Nat) (m : Master) (w : Fin 16) (k : Fin 8)
  | ringReset (t : Nat) (m : Master) (w : Fin 16) (k : Fin 8)
  | ringResetEndQuiet (t : Nat) (m : Master) (w : Fin 16) (k : Fin 8)
  | ringQuietExpiry (t : Nat) (w : Fin 16) (k : Fin 8)
  | ringDoorbell (t : Nat) (m : Master) (w : Fin 16) (k : Fin 8) (v : Word)
  | rxmFrame (t : Nat) (w : Fin 16) (descs : List DmaDesc)
  | txFrame (t : Nat) (w : Fin 16) (descs : List DmaDesc)
  | ringLossRecord (t : Nat) (w : Fin 16)
  | ringIrqTimeExpiry (t : Nat) (w : Fin 16) (k : Fin 8)
  | cmdIrlin (t : Nat) (w : Fin 16) (d : DmaDesc)
  | ntsMint (t : Nat) (w : Fin 16) (d : DmaDesc)
  | ntsKeyStatus (t : Nat) (w : Fin 16) (d : DmaDesc)
  | gnssCorr (t : Nat) (w : Fin 16) (d : DmaDesc)
  | spiRead (t index sub crc : Nat)
  | spiWrite (t index sub : Nat) (v : Word) (crc : Nat)
  | spiGuarded (t index sub : Nat) (v c : Word) (crc : Nat)
  | spiIrlin (t : Nat) (message : List Byte) (crc : Nat)
  | spiIrlinPop (t crc : Nat)
  | spiImage (t off : Nat) (data : List Byte) (crc : Nat)
  | spiEventPop (t crc : Nat)
  | spiAborted (t : Nat)
  -- PTP, its clients, associations and partners (R291 to R325)
  | ptpProfile (t : Nat) (m : Master) (i : Fin 16) (v : Word)
  | syncInterval (t : Nat) (i : Fin 16) (p : Fin 18) (client : Option Nat)
  | announceInterval (t : Nat) (i : Fin 16) (p : Fin 18) (client : Option Nat)
  | delayReqInterval (t : Nat) (i : Fin 16) (p : Fin 18) (um : Option (Fin 4))
  | syncReceived (t : Nat) (x : PtpRx)
  | followUpReceived (t : Nat) (x : PtpRx)
  | delayReqReceived (t : Nat) (x : PtpRx)
  | delayRespReceived (t : Nat) (x : PtpRx)
  | pdelayReqReceived (t : Nat) (x : PtpRx)
  | pdelayRespReceived (t : Nat) (x : PtpRx)
  | announceReceived (t : Nat) (x : PtpRx)
  | ptpSecond (t : Nat) (i : Fin 16)
  | announceTimeout (t : Nat) (i : Fin 16)
  | syncTimeout (t : Nat) (i : Fin 16)
  | respTimeout (t : Nat) (i : Fin 16)
  | requestUnicastTransmission (t : Nat) (x : PtpRx)
  | cancelUnicastTransmission (t : Nat) (x : PtpRx)
  | grantExpiry (t slot kind : Nat)
  | clientQuietExpiry (t slot : Nat)
  | ptpClientForce (t : Nat) (m : Master)
  | ptpClientSel (t : Nat) (m : Master) (w : Fin 16) (v : Word)
  | partnerReport (t : Nat) (x : PtpRx)
  | partnerAgeOut (t : Nat) (i : Fin 4096)
  | partnerQuietExpiry (t : Nat) (i : Fin 4096)
  | ptpPartnerForce (t : Nat) (m : Master)
  | ptpPartnerSel (t : Nat) (m : Master) (w : Fin 16) (v : Word)
  | saActivate (t : Nat) (m : Master) (a : Fin 1024)
  | saFree (t : Nat) (m : Master) (a : Fin 1024)
  | saQuietExpiry (t : Nat) (a : Fin 1024)
  -- NTP and NTS (R326 to R341)
  | ntpRequest (t : Nat) (x : NtpRx)
  | ntsRequest (t : Nat) (x : NtpRx)
  | ntsRotation (t : Nat)
  | ntsMkCurrent (t : Nat) (m : Master) (i : Fin 8)
  | ntsMkRetire (t : Nat) (m : Master) (i : Fin 8)
  -- tap and inline capture (R342 to R358)
  | tapFrame (t : Nat) (x : TapObs)
  | tapDigestComplete (t : Nat)
  | tapLossRecord (t : Nat) (w : Fin 16)
  | tapWorld (t : Nat) (m : Master) (p : Fin 16) (v : Word)
  | inlinePeer (t : Nat) (m : Master) (p : Fin 16) (v : Word)
  | inlineLockLoss (t : Nat) (p : Fin 16)
  | inlineLockReturn (t : Nat) (p : Fin 16)
  -- GNSS (R359 to R384)
  | gnssStrobeFault (t : Nat) (b : Fin 2) (monitor : Fin 3) (since : Nat)
  | gnssCoastTimeout (t : Nat) (b : Fin 2)
  | gnssStrobeReturn (t : Nat) (b : Fin 2)
  | gnssAcquisition (t : Nat) (sys : Fin 4) (prn : Nat) (elev : Int) (azim : Nat)
  | measurementEpoch (t : Nat) (x : EpochObs)
  | exclusionHoldExpiry (t : Nat) (slot : Fin 64)
  | spfHoldExpiry (t : Nat)
  | spectrum (t : Nat) (b : Fin 2) (x : SpectrumObs)
  | gnssJamCal (t : Nat) (m : Master)
  | solutionPulse (t : Nat)
  | gnssSleep (t : Nat)
  | gnssWake (t : Nat)
  | wakeIntervalExpiry (t : Nat)
  | gnssWakeCmd (t : Nat) (m : Master)
  | wakeDwellExpiry (t : Nat)
  -- the key vault (R385 to R412)
  | keyLoad (t : Nat) (m : Master) (k : Fin 4080)
  | keyGenerate (t : Nat) (m : Master) (k : Fin 4080)
  | keyInvalidate (t : Nat) (m : Master) (k : Fin 4080)
  | keyRevoke (t : Nat) (m : Master) (k : Fin 4080)
  | keyFree (t : Nat) (m : Master) (k : Fin 4080)
  | keyLoadWrapped (t : Nat) (m : Master) (k : Fin 4080) (wrap : Fin 4096)
  | derivationComplete (t : Nat)
  | vaultSlotQuietExpiry (t : Nat) (k : Fin 4080)
  | vaultQuietForce (t : Nat) (m : Master)
  | shLoad (t : Nat) (m : Master) (a : Fin 15)
  | shadowKcvCheck (t : Nat) (a : Fin 15)
  | shGenerate (t : Nat) (m : Master) (a : Fin 15)
  | shRemoval (t : Nat) (m : Master) (a : Fin 15)
  | shDiscard (t : Nat) (m : Master) (a : Fin 15)
  | anchorCommit (t : Nat) (m : Master) (v : Word)
  | anchorEraseDone (t : Nat)
  | anchorWriteDone (t : Nat)
  | anchorMarkDone (t : Nat)
  | anchorBurnDone (t : Nat)
  | anchorFlashTimeout (t : Nat) (readBackFails : Bool)
  | remaskPass (t : Nat)
  | drbgReseed (t : Nat)
  | entropyHealthFail (t : Nat)
  | drbgRecover (t : Nat) (passed : Nat)
  | selftestCmd (t : Nat) (m : Master) (failed : Nat)
  | boxCertBurn (t : Nat) (m : Master) (v : Word)
  -- Holly, the safe state and self-test (R413 to R434)
  | faultEvent (t : Nat) (src : Fin 512) (severity : Option (Fin 4)) (what : FaultWhat) (world : Nat)
  | conditionEnd (t : Nat) (src : Fin 512)
  | handlingEnd (t : Nat) (rec : Fin 256)
  | promotionExpiry (t : Nat) (src : Fin 512)
  | fltClear (t : Nat) (m : Master) (v : Word)
  | oscinLoss (t : Nat)
  | hollySelf (t : Nat) (cause : SelfCause)
  | maintEnter (t : Nat) (m : Master)
  | maintLeave (t : Nat) (m : Master)
  | bistStart (t : Nat) (m : Master) (v : Word)
  | bistComplete (t island sigLogic sigMem : Nat)
  -- performance monitoring (R435 to R443)
  | perfStart (t : Nat) (m : Master)
  | perfStop (t : Nat) (m : Master)
  | perfClear (t : Nat) (m : Master)
  | perfCtrl (t : Nat) (m : Master) (c : Fin 128)
  | perfSampleCtrl (t : Nat) (m : Master)
  | perfSampleSel (t : Nat) (m : Master) (w : Fin 2) (v : Word)
  -- temperatures and JTAG (R463, R464)
  | tempReading (t : Nat) (die : Int) (diode0 diode1 : Option Int)
  | jtagBypass (t : Nat) (tdi : List Bool)
  | jtagIdcode (t : Nat) (tdi : List Bool)
  | jtagSamplePreload (t : Nat) (pins tdi : List Bool)
  | jtagExtest (t : Nat) (pins tdi : List Bool)
deriving DecidableEq, Repr

end Sys2Proof
end

