-- ==== Sys2Proof/Decode.lean ====
section
/-! DEFINITION. The command a word of bits spells. No row of the opcode table gives its command bits: the engine's commands
reach it as accesses, messages, frames, pin events and completions, which `Syntax.lean` holds as operands. -/

namespace Sys2Proof

/-- No row of the table gives bits, so no word spells a command. -/
def decodeTableWord (_nbits _w : Nat) : Option Instr := none

end Sys2Proof
end

