-- ==== Sys2Proof/Machine/Bits.lean ====
section
/-! DEFINITION. Bit fields, byte orders, the CRCs and the residue of R25. -/

namespace Sys2Proof.Machine

/-- Bits `[hi:lo]` of a number. -/
def bitsOf (v hi lo : Nat) : Nat := v / 2 ^ lo % 2 ^ (hi + 1 - lo)
/-- Bit `b` of a number. -/
def bitOf (v b : Nat) : Bool := v / 2 ^ b % 2 = 1
/-- A Bool as 0 or 1. -/
def ofBool (b : Bool) : Nat := if b then 1 else 0
/-- A number with bit `b` set to `x`. -/
def setBit (v b : Nat) (x : Bool) : Nat := v - ofBool (bitOf v b) * 2 ^ b + ofBool x * 2 ^ b
/-- The mask of the numbers in `l`. -/
def maskOf (l : List Nat) : Nat := l.foldl (fun m b => if bitOf m b then m else m + 2 ^ b) 0
/-- The numbers below `n` whose bit is set. -/
def bitsSet (v n : Nat) : List Nat := (List.range n).filter (bitOf v)

/-- The word of an integer, in two's complement. -/
def wordOfInt (x : Int) : Word := BitVec.ofInt 64 x
/-- `n` bytes, most significant first. -/
def be : Nat → Nat → List Byte
  | 0, _ => []
  | n + 1, v => BitVec.ofNat 8 (v / 256 ^ n) :: be n v
/-- `n` bytes, least significant first. -/
def le : Nat → Nat → List Byte
  | 0, _ => []
  | n + 1, v => BitVec.ofNat 8 v :: le n (v / 256)
/-- The number that bytes spell, most significant first. -/
def ofBe (l : List Byte) : Nat := l.foldl (fun a b => a * 256 + b.toNat) 0
/-- The number that bytes spell, least significant first. -/
def ofLe (l : List Byte) : Nat := l.foldr (fun b a => a * 256 + b.toNat) 0
/-- Bytes `off` to `off + n - 1` of a message, as a number, most significant first. -/
def beAt (l : List Byte) (off n : Nat) : Nat := ofBe ((l.drop off).take n)
/-- Bytes `off` to `off + n - 1` as a number, least significant first. -/
def leAt (l : List Byte) (off n : Nat) : Nat := ofLe ((l.drop off).take n)
/-- `n` zero bytes. -/
def zeros (n : Nat) : List Byte := List.replicate n 0#8
/-- A list of bytes cut or filled with zeros to `n`. -/
def padTo (n : Nat) (l : List Byte) : List Byte := l.take n ++ zeros (n - l.length)

/-- One bit of a reflected CRC. -/
def crcBit (poly v : Nat) : Nat := if v % 2 = 1 then (v / 2).xor poly else v / 2
/-- One byte of a reflected CRC. -/
def crcByte (poly v : Nat) (b : Byte) : Nat :=
  (List.range 8).foldl (fun x _ => crcBit poly x) (v.xor b.toNat)
/-- The frame check sequence of Ethernet (R254; IEEE 802.3, log 43): CRC-32, polynomial 0x04C1_1DB7 reflected. -/
def fcsOf (l : List Byte) : Nat := (l.foldl (crcByte 0xEDB88320) 0xFFFFFFFF).xor 0xFFFFFFFF
/-- A frame's last four octets are its frame check sequence, sent least significant octet first. -/
def fcsOk (l : List Byte) : Bool := decide (4 ≤ l.length ∧ fcsOf (l.take (l.length - 4)) = leAt l (l.length - 4) 4)
/-- CRC-32C (R64): polynomial 0x1EDC_6F41 reflected, initial value and final XOR all ones. -/
def crc32c (l : List Byte) : Nat := (l.foldl (crcByte 0x82F63B78) 0xFFFFFFFF).xor 0xFFFFFFFF

/-- One bit of a CRC taken most significant bit first, 16 bits wide. -/
def crc16Bit (poly v : Nat) : Nat :=
  if v ≥ 0x8000 then ((v * 2) % 0x10000).xor poly else (v * 2) % 0x10000
/-- A 16-bit CRC, most significant bit first. -/
def crc16 (poly init : Nat) (l : List Byte) : Nat :=
  l.foldl (fun v b => (List.range 8).foldl (fun x _ => crc16Bit poly x) (v.xor (b.toNat * 256))) init

/-- The residue modulo 255 of a value, formed byte by byte (R25). -/
def residue (bytes : List Byte) : Nat :=
  bytes.foldl (fun s b => let x := s + b.toNat; if x ≥ 255 then x - 255 else x) 0
/-- A received residue agrees with the value (R25): 0xFF never does. -/
def residueOk (bytes : List Byte) (r : Byte) : Bool := decide (residue bytes = r.toNat)
/-- The predicted residue of a TIME96 sum; `k` is 1 when the nanosecond field rolled over (R26). -/
def residueSum (a b k : Nat) : Nat := (a + b + 96 * k) % 255
/-- The predicted residue of a TIME96 difference; `k` is 1 when the nanosecond field borrowed (R26). -/
def residueDifference (a b k : Nat) : Nat := (a + (255 - b % 255) + 159 * k) % 255
/-- The predicted residue of a product (R26). -/
def residueProduct (a b : Nat) : Nat := a * b % 255

/-- A number as an I64 entry holds it (log 15). -/
def satI64 (x : Int) : Int := max (-2 ^ 63) (min x (2 ^ 63 - 1))
/-- The least natural not below `a / b`. -/
def ceilDiv (a b : Nat) : Nat := (a + b - 1) / b
/-- `a / b` rounded to the nearest integer, halves up. -/
def roundDiv (a b : Int) : Int := Int.fdiv (2 * a + b) (2 * b)
/-- A sum of BOUND32 values (R121): unbounded when an operand is, else saturating at 0xFFFF_FFFE. -/
def boundAdd (a b : Bound) : Bound :=
  if a ≥ 0xFFFFFFFF ∨ b ≥ 0xFFFFFFFF then 0xFFFFFFFF else min (a + b) 0xFFFFFFFE
/-- The predicted residue of a BOUND32 sum that is not unbounded, from the operands' residues (R26): that of 0xFFFF_FFFE where it
saturates. -/
def residueBoundSum (ra rb : Nat) (saturates : Bool) : Nat := if saturates then residue (be 4 0xFFFFFFFE) else (ra + rb) % 255
/-- A term of any size as a BOUND32 (R121). -/
def boundOf (x : Nat) : Bound := min x 0xFFFFFFFE

/-- Integer square root by `fuel` halvings of the step: the largest `r` found with `r * r ≤ v`. -/
def isqrtStep (v : Nat) : Nat → Nat → Nat
  | 0, r => r
  | n + 1, r => let c := r + 2 ^ n; isqrtStep v n (if c * c ≤ v then c else r)
/-- The integer square root of a number below 2^256. -/
def isqrt (v : Nat) : Nat := isqrtStep v 128 0

end Sys2Proof.Machine
end

