-- ==== Sys2Proof/Machine/Crypto.lean ====
section
/-! DEFINITION. The cryptographic functions the spec names by their standards (log 49): SHA-256 and HMAC (FIPS 180-4, RFC 2104),
AES, CMAC, GMAC, key wrap with padding (FIPS 197, SP 800-38B, SP 800-38D, RFC 5649), AEAD_AES_SIV_CMAC_256 (RFC 5297), and ECDSA with
deterministic nonces (FIPS 186-4, RFC 6979). Numbers stand for bytes and words inside; byte strings outside. -/

namespace Sys2Proof.Machine

/-! ### SHA-256 and HMAC -/

/-- The round constants of SHA-256 (FIPS 180-4). -/
def shaConst : List Nat :=
  [0x428A2F98, 0x71374491, 0xB5C0FBCF, 0xE9B5DBA5, 0x3956C25B, 0x59F111F1, 0x923F82A4, 0xAB1C5ED5] ++
  [0xD807AA98, 0x12835B01, 0x243185BE, 0x550C7DC3, 0x72BE5D74, 0x80DEB1FE, 0x9BDC06A7, 0xC19BF174] ++
  [0xE49B69C1, 0xEFBE4786, 0x0FC19DC6, 0x240CA1CC, 0x2DE92C6F, 0x4A7484AA, 0x5CB0A9DC, 0x76F988DA] ++
  [0x983E5152, 0xA831C66D, 0xB00327C8, 0xBF597FC7, 0xC6E00BF3, 0xD5A79147, 0x06CA6351, 0x14292967] ++
  [0x27B70A85, 0x2E1B2138, 0x4D2C6DFC, 0x53380D13, 0x650A7354, 0x766A0ABB, 0x81C2C92E, 0x92722C85] ++
  [0xA2BFE8A1, 0xA81A664B, 0xC24B8B70, 0xC76C51A3, 0xD192E819, 0xD6990624, 0xF40E3585, 0x106AA070] ++
  [0x19A4C116, 0x1E376C08, 0x2748774C, 0x34B0BCB5, 0x391C0CB3, 0x4ED8AA4A, 0x5B9CCA4F, 0x682E6FF3] ++
  [0x748F82EE, 0x78A5636F, 0x84C87814, 0x8CC70208, 0x90BEFFFA, 0xA4506CEB, 0xBEF9A3F7, 0xC67178F2]
/-- The initial hash value of SHA-256. -/
def shaInit : List Nat :=
  [0x6A09E667, 0xBB67AE85, 0x3C6EF372, 0xA54FF53A, 0x510E527F, 0x9B05688C, 0x1F83D9AB, 0x5BE0CD19]
/-- A 32-bit word rotated right. -/
def rotr (x n : Nat) : Nat := (x >>> n) ||| ((x <<< (32 - n)) % 2 ^ 32)
/-- The words of a byte string, four bytes each. -/
def beWords : List Byte → List Nat
  | a :: b :: c :: d :: rest => (((a.toNat * 256 + b.toNat) * 256 + c.toNat) * 256 + d.toNat) :: beWords rest
  | _ => []
/-- One round of SHA-256: the eight working words, and the sixteen schedule words from the round's own on. -/
def shaRound (x : List Nat × List Nat) (k : Nat) : List Nat × List Nat :=
  match x with
  | ([a, b, c, d, e, f, g, h], w :: ws) =>
    let s1 := rotr e 6 ^^^ rotr e 11 ^^^ rotr e 25
    let ch := (e &&& f) ^^^ ((0xFFFFFFFF ^^^ e) &&& g)
    let t1 := h + s1 + ch + k + w
    let s0 := rotr a 2 ^^^ rotr a 13 ^^^ rotr a 22
    let maj := (a &&& b) ^^^ (a &&& c) ^^^ (b &&& c)
    let p := ws.getD 0 0
    let q := ws.getD 13 0
    let next := (rotr q 17 ^^^ rotr q 19 ^^^ q >>> 10) + ws.getD 8 0 + (rotr p 7 ^^^ rotr p 18 ^^^ p >>> 3) + w
    ([(t1 + s0 + maj) % 2 ^ 32, a, b, c, (d + t1) % 2 ^ 32, e, f, g], ws ++ [next % 2 ^ 32])
  | x => x
/-- One block of SHA-256. -/
def shaBlock (h block : List Nat) : List Nat :=
  (h.zip (shaConst.foldl shaRound (h, block)).1).map (fun p => (p.1 + p.2) % 2 ^ 32)
/-- The blocks of a padded message, `fuel` at most. -/
def shaBlocks : Nat → List Nat → List Nat → List Nat
  | 0, h, _ => h
  | n + 1, h, m => if m.isEmpty then h else shaBlocks n (shaBlock h (m.take 16)) (m.drop 16)
/-- SHA-256 of a byte string: 32 bytes. -/
def sha256 (m : List Byte) : List Byte :=
  let padded := m ++ [0x80#8] ++ zeros ((119 - m.length % 64) % 64) ++ be 8 (m.length * 8)
  let h := shaBlocks (padded.length / 64) shaInit (beWords padded)
  (List.range 8).flatMap (fun i => be 4 (h.getD i 0))
/-- HMAC-SHA-256 of a byte string under a key: 32 bytes. -/
def hmac (key m : List Byte) : List Byte :=
  let k := padTo 64 (if 64 < key.length then sha256 key else key)
  sha256 (k.map (· ^^^ 0x5C#8) ++ sha256 (k.map (· ^^^ 0x36#8) ++ m))

/-! ### AES -/

/-- The S-box of AES (FIPS 197): 32 bytes a number, the first the least significant. -/
def sboxRows : List Nat :=
  [0xC072A49CAFA2D4ADF04759FA7DC982CA76ABD7FE2B670130C56F6BF27B777C63,
   0x75B227EBE28012079A059618C323C7041531D871F1E5A534CCF73F362693FDB7,
   0xCF584C4A39BECB6A5BB1FC20ED00D153842FE329B3D63B52A05A6E1B1A2C8309,
   0xD2F3FF1021DAB6BCF5389D928F40A351A89F3C507F02F94585334D43FBAAEFD0,
   0xDB0B5EDE14B8EE4688902A22DC4F816073195D643D7EA7C41744975FEC130CCD,
   0x08AE7A65EAF4566CA94ED58D6D37C8E779E4959162ACD3C25C2406490A3A32E0,
   0x9E1DC186B95735610EF6034866B53E708A8BBD4B1F74DDE8C6B4A61C2E2578BA,
   0x16BB54B00F2D99416842E6BF0D89A18CDF2855CEE9871E9B948ED9691198F8E1]
/-- The inverse S-box of AES. -/
def sboxInvRows : List Nat :=
  [0xCBE9DEC444438E3487FF2F9B8239E37CFBD7F3819EA340BF38A53630D56A0952,
   0x25D18B6D49A25B76B224D92866A12E084EC3FA420B954CEE3D23C2A632947B54,
   0x849D8DA75746155EDAB9EDFD5048706C92B6655DCC5CA4D41698688664F6F872,
   0x6B8A130103BDAFC1020F3FCA8F1E2CD00645B3B80558E4F70AD3BC8C00ABD890,
   0x6EDF751CE837F9E28535ADE72274AC9673E6B4F0CECFF297EADC674F4111913A,
   0xF45ACD78FEC0DB9A2079D2C64B3E56FC1BBE18AA0E62B76F89C5291D711AF147,
   0xEF9CC9939F7AE52D0D4AB519A97F51605FEC8027591012B131C7078833A8DD1F,
   0x7D0C2155631469E126D677BA7E042B17619953833CBBEBC8B0F52AAE4D3BE0A0]
/-- A byte of a table. -/
def tableByte (t : List Nat) (x : Nat) : Nat := t.getD (x / 32) 0 >>> (8 * (x % 32)) % 256
/-- The S-box. -/
def sbox (x : Nat) : Nat := tableByte sboxRows x
/-- The inverse S-box. -/
def sboxInv (x : Nat) : Nat := tableByte sboxInvRows x
/-- Two strings of numbers combined by XOR, as long as the shorter. -/
def xorNats (a b : List Nat) : List Nat := List.zipWith (· ^^^ ·) a b
/-- Multiplication by x in GF(2⁸) of AES. -/
def xtime (a : Nat) : Nat := if a < 128 then 2 * a else (2 * a) ^^^ 0x11B
/-- A byte times a small constant in GF(2⁸). -/
def gmul (a c : Nat) : Nat :=
  let x2 := xtime a
  let x4 := xtime x2
  (if bitOf c 0 then a else 0) ^^^ (if bitOf c 1 then x2 else 0) ^^^ (if bitOf c 2 then x4 else 0) ^^^
    (if bitOf c 3 then xtime x4 else 0)
/-- The next word of a key schedule from those before, oldest first; `nk` words a key. -/
def keyNext (nk : Nat) (ws : List (List Nat)) : List Nat :=
  let i := ws.length
  let w := ws.getD (i - 1) []
  let g := if i % nk = 0 then
      match (w.drop 1 ++ w.take 1).map sbox with
      | a :: r => (a ^^^ (List.range (i / nk - 1)).foldl (fun c _ => xtime c) 1) :: r
      | [] => []
    else if 6 < nk ∧ i % nk = 4 then w.map sbox else w
  xorNats (ws.getD (i - nk) []) g
/-- The words of a byte string as lists of four. -/
def words4 : List Nat → List (List Nat)
  | a :: b :: c :: d :: rest => [a, b, c, d] :: words4 rest
  | _ => []
/-- The round keys of an AES-128 or AES-256 key, each of 16 bytes. -/
def aesKeys (key : List Byte) : List (List Nat) :=
  let k := if key.length ≤ 16 then padTo 16 key else padTo 32 key
  let nk := k.length / 4
  let ws := (List.range (4 * (nk + 7) - nk)).foldl (fun ws _ => ws ++ [keyNext nk ws]) (words4 (k.map (·.toNat)))
  (List.range (nk + 7)).map (fun r => ((ws.drop (4 * r)).take 4).flatten)
/-- The bytes of a block in another order. -/
def permute (x : List Nat) (l : List Nat) : List Nat := l.map (fun i => x.getD i 0)
/-- MixColumns with the constants of one row. -/
def mixWith (c : List Nat) (x : List Nat) : List Nat :=
  (List.range 16).map (fun i =>
    (List.range 4).foldl (fun a j => a ^^^ gmul (x.getD (i / 4 * 4 + j) 0) (c.getD ((j + 4 - i % 4) % 4) 0)) 0)
/-- ShiftRows. -/
def shiftRows (x : List Nat) : List Nat := permute x ((List.range 16).map (fun i => (i + 4 * (i % 4)) % 16))
/-- The inverse of ShiftRows. -/
def unshiftRows (x : List Nat) : List Nat := permute x ((List.range 16).map (fun i => (i + 12 * (i % 4)) % 16))
/-- A block encrypted under round keys. -/
def aesEncrypt (ks : List (List Nat)) (x : List Nat) : List Nat :=
  let y := (ks.drop 1).dropLast.foldl (fun y k => xorNats (mixWith [2, 3, 1, 1] (shiftRows (y.map sbox))) k)
    (xorNats x (ks.headD []))
  xorNats (shiftRows (y.map sbox)) (ks.getLastD [])
/-- A block decrypted under round keys. -/
def aesDecrypt (ks : List (List Nat)) (x : List Nat) : List Nat :=
  let y := (ks.drop 1).dropLast.foldr
    (fun k y => mixWith [14, 11, 13, 9] (xorNats ((unshiftRows y).map sboxInv) k)) (xorNats x (ks.getLastD []))
  xorNats ((unshiftRows y).map sboxInv) (ks.headD [])

/-! ### CMAC, GMAC, SIV and key wrap -/

/-- The number a block spells, most significant byte first. -/
def blockNum (x : List Nat) : Nat := x.foldl (fun a b => a * 256 + b) 0
/-- The 16 bytes of a number. -/
def blockOf (v : Nat) : List Nat := (be 16 v).map (·.toNat)
/-- A block doubled in GF(2¹²⁸) of CMAC and SIV. -/
def dbl (v : Nat) : Nat := if v < 2 ^ 127 then 2 * v else (2 * v % 2 ^ 128) ^^^ 0x87
/-- A block encrypted, as a number. -/
def encNum (ks : List (List Nat)) (v : Nat) : Nat := blockNum (aesEncrypt ks (blockOf v))
/-- The chaining value over the whole blocks but the last, and the last bytes: 1 to 16 of them, or none of an empty message. -/
def cbcBlocks (ks : List (List Nat)) : Nat → Nat → List Byte → Nat × List Byte
  | 0, c, m => (c, m)
  | n + 1, c, m => if m.length ≤ 16 then (c, m) else cbcBlocks ks n (encNum ks (c ^^^ ofBe (m.take 16))) (m.drop 16)
/-- AES-CMAC under round keys, as a number. -/
def cmacNum (ks : List (List Nat)) (m : List Byte) : Nat :=
  let k1 := dbl (encNum ks 0)
  let (c, last) := cbcBlocks ks (m.length / 16) 0 m
  encNum ks (c ^^^ (if last.length = 16 then ofBe last ^^^ k1 else ofBe (padTo 16 (last ++ [0x80#8])) ^^^ dbl k1))
/-- AES-CMAC: 16 bytes. -/
def cmac (key m : List Byte) : List Byte := be 16 (cmacNum (aesKeys key) m)
/-- One step of the product in GF(2¹²⁸) of GCM: bit `i` from the most significant one. -/
def ghashStep (x : Nat) (zv : Nat × Nat) (i : Nat) : Nat × Nat :=
  (if bitOf x (127 - i) then zv.1 ^^^ zv.2 else zv.1,
   if bitOf zv.2 0 then zv.2 / 2 ^^^ 0xE1 * 2 ^ 120 else zv.2 / 2)
/-- The product in GF(2¹²⁸) of GCM. -/
def ghashMul (x y : Nat) : Nat := ((List.range 128).foldl (ghashStep x) (0, y)).1
/-- GHASH over padded bytes, `fuel` blocks at most. -/
def ghash (h : Nat) : Nat → Nat → List Byte → Nat
  | 0, y, _ => y
  | n + 1, y, m => if m.isEmpty then y else ghash h n (ghashMul (y ^^^ ofBe (m.take 16)) h) (m.drop 16)
/-- AES-GMAC with a 12-byte initialisation vector: 16 bytes. -/
def gmac (key iv m : List Byte) : List Byte :=
  let ks := aesKeys key
  let padded := m ++ zeros ((16 - m.length % 16) % 16) ++ be 8 (m.length * 8) ++ be 8 0
  let y := ghash (encNum ks 0) (padded.length / 16) 0 padded
  be 16 (y ^^^ encNum ks (ofBe (padTo 12 iv ++ be 4 1)))
/-- S2V of RFC 5297 over associated data, a nonce and a plaintext. -/
def s2v (ks : List (List Nat)) (ad nonce m : List Byte) : Nat :=
  let d := dbl (dbl (cmacNum ks (zeros 16)) ^^^ cmacNum ks ad) ^^^ cmacNum ks nonce
  if 16 ≤ m.length then
    cmacNum ks (m.take (m.length - 16) ++ be 16 (ofBe (m.drop (m.length - 16)) ^^^ d))
  else cmacNum ks (be 16 (dbl d ^^^ ofBe (padTo 16 (m ++ [0x80#8]))))
/-- Counter mode over a byte string, `fuel` blocks at most. -/
def ctrMode (ks : List (List Nat)) : Nat → Nat → List Byte → List Byte
  | 0, _, _ => []
  | n + 1, c, m =>
    List.zipWith (· ^^^ ·) (m.take 16) (be 16 (encNum ks c)) ++ ctrMode ks n ((c + 1) % 2 ^ 128) (m.drop 16)
/-- The counter an initialisation vector starts from: bits 31 and 63 cleared (RFC 5297). -/
def sivCounter (v : Nat) : Nat := setBit (setBit v 31 false) 63 false
/-- AEAD_AES_SIV_CMAC_256 sealing: key, associated data, nonce, plaintext. -/
def sivSeal (key ad nonce m : List Byte) : List Byte :=
  let k := padTo 32 key
  let v := s2v (aesKeys (k.take 16)) ad nonce m
  be 16 v ++ ctrMode (aesKeys (k.drop 16)) ((m.length + 15) / 16) (sivCounter v) m
/-- AEAD_AES_SIV_CMAC_256 opening; `none` when the tag does not verify. -/
def sivOpen (key ad nonce c : List Byte) : Option (List Byte) :=
  let k := padTo 32 key
  let body := c.drop 16
  let v := ofBe (c.take 16)
  let m := ctrMode (aesKeys (k.drop 16)) ((body.length + 15) / 16) (sivCounter v) body
  if 16 ≤ c.length ∧ s2v (aesKeys (k.take 16)) ad nonce m = v then some m else none
/-- The 64-bit parts of a byte string. -/
def parts8 : Nat → List Byte → List Nat
  | 0, _ => []
  | n + 1, m => beAt m 0 8 :: parts8 n (m.drop 8)
/-- Step `t` of the wrapping process of key wrap. -/
def wrapStep (ks : List (List Nat)) (n : Nat) (x : Nat × List Nat) (t : Nat) : Nat × List Nat :=
  let i := (t - 1) % n
  let b := encNum ks (x.1 * 2 ^ 64 + x.2.getD i 0)
  ((b / 2 ^ 64) ^^^ t, x.2.set i (b % 2 ^ 64))
/-- Step `t` undone. -/
def unwrapStep (ks : List (List Nat)) (n t : Nat) (x : Nat × List Nat) : Nat × List Nat :=
  let i := (t - 1) % n
  let b := blockNum (aesDecrypt ks (blockOf ((x.1 ^^^ t) * 2 ^ 64 + x.2.getD i 0)))
  (b / 2 ^ 64, x.2.set i (b % 2 ^ 64))
/-- AES key wrap with padding: wrapping key, material. -/
def kwpWrap (key m : List Byte) : List Byte :=
  let ks := aesKeys key
  let n := (m.length + 7) / 8
  let a := 0xA65959A6 * 2 ^ 32 + m.length
  let r := parts8 n (padTo (8 * n) m)
  if n = 1 then be 16 (encNum ks (a * 2 ^ 64 + r.headD 0))
  else
    let (a, r) := (List.range (6 * n)).foldl (fun x t => wrapStep ks n x (t + 1)) (a, r)
    be 8 a ++ r.flatMap (be 8)
/-- AES key unwrap with padding; `none` when the check fails. -/
def kwpUnwrap (key c : List Byte) : Option (List Byte) :=
  let ks := aesKeys key
  let n := c.length / 8 - 1
  let (a, r) : Nat × List Nat :=
    if n = 1 then
      let b := blockNum (aesDecrypt ks (c.map (·.toNat)))
      (b / 2 ^ 64, [b % 2 ^ 64])
    else (List.range (6 * n)).foldr (fun t x => unwrapStep ks n (t + 1) x) (beAt c 0 8, parts8 n (c.drop 8))
  let len := a % 2 ^ 32
  let m := r.flatMap (be 8)
  if c.length % 8 = 0 ∧ 1 ≤ n ∧ a / 2 ^ 32 = 0xA65959A6 ∧ 8 * n < len + 8 ∧ len ≤ 8 * n ∧ (m.drop len).all (· == 0#8) then
    some (m.take len)
  else none

/-! ### ECDSA -/

/-- A curve y² = x³ − 3x + b over a prime field: its prime, b, order, and generator (FIPS 186-4). -/
structure Curve where
  p : Nat
  b : Nat
  n : Nat
  gx : Nat
  gy : Nat
/-- P-256. -/
def p256 : Curve where
  p := 0xFFFFFFFF00000001000000000000000000000000FFFFFFFFFFFFFFFFFFFFFFFF
  b := 0x5AC635D8AA3A93E7B3EBBD55769886BC651D06B0CC53B0F63BCE3C3E27D2604B
  n := 0xFFFFFFFF00000000FFFFFFFFFFFFFFFFBCE6FAADA7179E84F3B9CAC2FC632551
  gx := 0x6B17D1F2E12C4247F8BCE6E563A440F277037D812DEB33A0F4A13945D898C296
  gy := 0x4FE342E2FE1A7F9B8EE7EB4A7C0F9E162BCE33576B315ECECBB6406837BF51F5
/-- P-384. -/
def p384 : Curve where
  p := 0xFFFFFFFFFFFFFFFFFFFFFFFFFFFFFFFFFFFFFFFFFFFFFFFFFFFFFFFFFFFFFFFEFFFFFFFF0000000000000000FFFFFFFF
  b := 0xB3312FA7E23EE7E4988E056BE3F82D19181D9C6EFE8141120314088F5013875AC656398D8A2ED19D2A85C8EDD3EC2AEF
  n := 0xFFFFFFFFFFFFFFFFFFFFFFFFFFFFFFFFFFFFFFFFFFFFFFFFC7634D81F4372DDF581A0DB248B0A77AECEC196ACCC52973
  gx := 0xAA87CA22BE8B05378EB1C71EF320AD746E1D3B628BA79B9859F741E082542A385502F25DBF55296C3A545E3872760AB7
  gy := 0x3617DE4A96262C6F5D9E98BF9292DC29F8F41DBD289A147CE9DA3113B5F0B8C00A60B1CE1D7E819D7A431D7C90EA0E5F
/-- The bits of a number of 384 bits, most significant first. -/
def bits384 (k : Nat) : List Bool := (List.range 384).map (fun i => bitOf k (383 - i))
/-- A power modulo `n`. -/
def powMod (n a k : Nat) : Nat :=
  (bits384 k).foldl (fun r b => if b then r * r % n * a % n else r * r % n) (1 % n)
/-- The inverse modulo a prime. -/
def invMod (n a : Nat) : Nat := powMod n a (n - 2)
/-- A difference modulo `p` of reduced numbers. -/
def subMod (p a b : Nat) : Nat := (a + p - b) % p
/-- A point in Jacobian coordinates; Z = 0 is the point at infinity. -/
structure JPoint where
  x : Nat
  y : Nat
  z : Nat
/-- A point doubled. -/
def Curve.double (c : Curve) (a : JPoint) : JPoint :=
  let p := c.p
  let d := a.z * a.z % p
  let g := a.y * a.y % p
  let b := a.x * g % p
  let al := 3 * (subMod p a.x d * (a.x + d) % p) % p
  let x := subMod p (al * al % p) (8 * b % p)
  let z := subMod p ((a.y + a.z) * (a.y + a.z) % p) ((g + d) % p)
  ⟨x, subMod p (al * subMod p (4 * b % p) x % p) (8 * (g * g % p) % p), z⟩
/-- The sum of two points. -/
def Curve.add (c : Curve) (a b : JPoint) : JPoint :=
  let p := c.p
  if a.z = 0 then b else if b.z = 0 then a
  else
    let z1 := a.z * a.z % p
    let z2 := b.z * b.z % p
    let u1 := a.x * z2 % p
    let u2 := b.x * z1 % p
    let s1 := a.y * z2 % p * b.z % p
    let s2 := b.y * z1 % p * a.z % p
    if u1 = u2 then (if s1 = s2 then c.double a else ⟨1, 1, 0⟩)
    else
      let h := subMod p u2 u1
      let r := subMod p s2 s1
      let h2 := h * h % p
      let h3 := h2 * h % p
      let v := u1 * h2 % p
      let x := subMod p (subMod p (r * r % p) h3) (2 * v % p)
      ⟨x, subMod p (r * subMod p v x % p) (s1 * h3 % p), h * a.z % p * b.z % p⟩
/-- A multiple of a point. -/
def Curve.mul (c : Curve) (k : Nat) (a : JPoint) : JPoint :=
  (bits384 k).foldl (fun r b => let d := c.double r; if b then c.add d a else d) ⟨1, 1, 0⟩
/-- The coordinates of a point that is not at infinity. -/
def Curve.affine (c : Curve) (a : JPoint) : Nat × Nat :=
  let i := invMod c.p a.z
  let i2 := i * i % c.p
  (a.x * i2 % c.p, a.y * i2 % c.p * i % c.p)
/-- The generator. -/
def Curve.gen (c : Curve) : JPoint := ⟨c.gx, c.gy, 1⟩
/-- The public key of a P-256 or P-384 private key, X then Y. -/
def ecdsaPublic (key : List Byte) : List Byte :=
  let n := if 32 < key.length then 48 else 32
  let c := if 32 < key.length then p384 else p256
  let (x, y) := c.affine (c.mul (ofBe key) c.gen)
  be n x ++ be n y
/-- ECDSA P-256 verification: public key, digest, signature. -/
def ecdsaVerify (key digest sig : List Byte) : Bool :=
  let n := p256.n
  let x := beAt key 0 32
  let y := beAt key 32 32
  let r := beAt sig 0 32
  let s := beAt sig 32 32
  if key.length = 64 ∧ sig.length = 64 ∧ x < p256.p ∧ y < p256.p ∧
      y * y % p256.p = (x * x % p256.p * x + (p256.p - 3) * x + p256.b) % p256.p ∧
      1 ≤ r ∧ r < n ∧ 1 ≤ s ∧ s < n then
    let w := invMod n s
    let q := p256.add (p256.mul (ofBe digest * w % n) p256.gen) (p256.mul (r * w % n) ⟨x, y, 1⟩)
    decide (q.z ≠ 0 ∧ (p256.affine q).1 % n = r)
  else false
/-- The deterministic nonces of RFC 6979 in turn: the first that gives a signature, `fuel` tries at most. -/
def signWith (d e : Nat) : Nat → List Byte → List Byte → List Byte
  | 0, _, _ => zeros 64
  | fuel + 1, k, v =>
    let v := hmac k v
    let nonce := ofBe v
    let n := p256.n
    let r := (p256.affine (p256.mul nonce p256.gen)).1 % n
    let s := invMod n nonce * (e + r * d) % n
    if 1 ≤ nonce ∧ nonce < n ∧ r ≠ 0 ∧ s ≠ 0 then be 32 r ++ be 32 s
    else
      let k := hmac k (v ++ be 1 0)
      signWith d e fuel k (hmac k v)
/-- ECDSA P-256 signing with the deterministic nonce of RFC 6979: private key, SHA-256 digest. -/
def ecdsaSign (key digest : List Byte) : List Byte :=
  let d := be 32 (ofBe key)
  let e := be 32 (ofBe digest % p256.n)
  let v := List.replicate 32 1#8
  let k := hmac (zeros 32) (v ++ be 1 0 ++ d ++ e)
  let v := hmac k v
  let k := hmac k (v ++ be 1 1 ++ d ++ e)
  let v := hmac k v
  signWith (ofBe key) (ofBe digest) 100 k v

end Sys2Proof.Machine
end

