-- ==== Sys2Proof/Machine/EntryTypes.lean ====
section
/-! DEFINITION. What the dictionary says of one entry (R32 to R35): address, type, access class, default, owner,
check set, stated values. -/

namespace Sys2Proof.Machine

/-- Entry types (R33). -/
inductive Ty where
  | bool | u8 | u16 | u32 | u64 | i32 | i64 | enum | bound32 | keyref | handle | time96 | octstr
deriving DecidableEq, Repr

/-- Access classes (R35). -/
inductive Cls where
  | ro | rw | wo | cor | grd | w1 | cmd
deriving DecidableEq, Repr

/-- The owner column of the entry lists: a world, the world the block belongs to (R473), the world of `SCHED_OWNER`
(R119), or nobody. -/
inductive Owner where
  | world (w : Nat)
  | perWorld
  | schedOwner
  | nobody
deriving DecidableEq, Repr

/-- One row of a chapter's entry list, with the repeated block it lies in (R471). Instance `i` of the entry lies at
index `idx + stride * ((i / arr) / inner) + (i / arr) % inner` and subindex `sub + i % arr`. -/
structure Entry where
  idx : Nat
  sub : Nat
  arr : Nat := 1
  stride : Nat := 0
  count : Nat := 1
  inner : Nat := 1
  first : Nat := 0
  words : Nat := 1
  ty : Ty
  cls : Cls
  dflt : Nat := 0
  dfltAt : List (Nat × Nat) := []
  owner : Owner := .nobody
  check : Bool := false
  vals : List (Int × Int) := []
deriving DecidableEq, Repr

namespace Entry

/-- The default of instance `i`, as one word (R32). -/
def default (e : Entry) (i : Nat) : Nat := (e.dfltAt.lookup i).getD e.dflt

/-- One above the largest instance number, array elements included. -/
def total (e : Entry) : Nat := (e.first + e.count) * e.arr

/-- The instance a dictionary address names, with the word of it; `none` when the entry does not lie there. -/
def at? (e : Entry) (index subindex : Nat) : Option (Nat × Nat) :=
  let d := index - e.idx
  if index < e.idx then none else
  let g := if e.stride = 0 then d else d / e.stride
  let r := if e.stride = 0 then 0 else d % e.stride
  if r < e.inner ∧ e.first ≤ g * e.inner + r ∧ g * e.inner + r < e.first + e.count ∧ (e.stride ≠ 0 ∨ d = 0) then
    let b := g * e.inner + r
    if e.sub ≤ subindex ∧ subindex < e.sub + e.arr * e.words then
      some (b * e.arr + (subindex - e.sub) / e.words, (subindex - e.sub) % e.words)
    else none
  else none

/-- The address of instance `i`, word `k`. -/
def addr (e : Entry) (i k : Nat) : Nat × Nat :=
  let b := i / e.arr
  (e.idx + e.stride * (b / e.inner) + b % e.inner, e.sub + (i % e.arr) * e.words + k)

end Entry
end Sys2Proof.Machine
end

