-- ==== Sys2Proof/Machine/Entries1.lean ====
section
/-! DEFINITION. The dictionary entries of chapters 00, 01, 02, 03, 04: one definition per row of the chapters' entry
    lists
(name, address, type, access class, default, owner, check set, stated values). -/

namespace Sys2Proof.Machine.E

/-- `PART_NUMBER` (R4). -/
def partNumber : Entry :=
  { idx := 0x1, sub := 0x0, ty := .u32, cls := .ro }
/-- `STEPPING` (R4). -/
def stepping : Entry :=
  { idx := 0x2, sub := 0x0, ty := .u8, cls := .ro, dflt := 33 }
/-- `TEMP_GRADE` (R4). -/
def tempGrade : Entry :=
  { idx := 0x3, sub := 0x0, ty := .enum, cls := .ro }
/-- `UNIT_PRESENT` (R4). -/
def unitPresent : Entry :=
  { idx := 0x10, sub := 0x0, ty := .u64, cls := .ro, check := true }

/-- The entry list of chapter 00. -/
def chapterScope : List Entry :=
  [partNumber, stepping, tempGrade, unitPresent]

/-- `HS_TIMEOUT` (R31). -/
def hsTimeout : Entry :=
  { idx := 0x200, sub := 0x0, ty := .u16, cls := .rw, dflt := 4096, owner := (.world 0), check := true, vals :=
    [(256, 65535)] }
/-- `SCRUB_PASS` (R31). -/
def scrubPass : Entry :=
  { idx := 0x201, sub := 0x0, ty := .u32, cls := .ro, dflt := 8000 }
/-- `ECC_CORR` (R31). -/
def eccCorr : Entry :=
  { idx := 0x210, sub := 0x0, ty := .u64, cls := .cor }
/-- `ECC_UNCORR` (R31). -/
def eccUncorr : Entry :=
  { idx := 0x211, sub := 0x0, ty := .u64, cls := .cor }
/-- `RES_ERR` (R31). -/
def resErr : Entry :=
  { idx := 0x212, sub := 0x0, ty := .u64, cls := .cor }
/-- `TREE_LEAVES` (R31). -/
def treeLeaves : Entry :=
  { idx := 0x2700, sub := 0x0, ty := .u64, cls := .ro }
/-- `TREE_CAL_STATE` (R31). -/
def treeCalState : Entry :=
  { idx := 0x2701, sub := 0x0, ty := .enum, cls := .ro }
/-- `TREE_DRIFT_LIMIT` (R31). -/
def treeDriftLimit : Entry :=
  { idx := 0x2702, sub := 0x0, ty := .u16, cls := .rw, dflt := 15, owner := (.world 0), check := true, vals := [(5,
    50)] }
/-- `COPY_RELOAD_LIMIT` (R31). -/
def copyReloadLimit : Entry :=
  { idx := 0x2703, sub := 0x0, ty := .u16, cls := .rw, dflt := 100, owner := (.world 0), check := true, vals :=
    [(25, 1000)] }
/-- `COPY_MISS_LIMIT` (R31). -/
def copyMissLimit : Entry :=
  { idx := 0x2704, sub := 0x0, ty := .u8, cls := .rw, dflt := 8, owner := (.world 0), check := true, vals := [(2,
    64)] }
/-- `LEAF_ISLAND` (R31). -/
def leafIsland : Entry :=
  { idx := 0x2740, sub := 0x0, stride := 0x1, count := 64, ty := .u16, cls := .ro, dflt := 65535 }
/-- `LEAF_FWD_DELAY` (R31). -/
def leafFwdDelay : Entry :=
  { idx := 0x2740, sub := 0x1, stride := 0x1, count := 64, ty := .u32, cls := .ro }
/-- `COPY_STATE` (R31). -/
def copyState : Entry :=
  { idx := 0x2740, sub := 0x2, stride := 0x1, count := 64, ty := .enum, cls := .ro }
/-- `COPY_ERR_LAST` (R31). -/
def copyErrLast : Entry :=
  { idx := 0x2740, sub := 0x3, stride := 0x1, count := 64, ty := .i32, cls := .ro }
/-- `COPY_ERR_MAX` (R31). -/
def copyErrMax : Entry :=
  { idx := 0x2740, sub := 0x4, stride := 0x1, count := 64, ty := .u32, cls := .cor }
/-- `COPY_RATE` (R31). -/
def copyRate : Entry :=
  { idx := 0x2740, sub := 0x5, stride := 0x1, count := 64, ty := .u64, cls := .ro }
/-- `COPY_MISSED` (R31). -/
def copyMissed : Entry :=
  { idx := 0x2740, sub := 0x6, stride := 0x1, count := 64, ty := .u32, cls := .cor }

/-- The entry list of chapter 01. -/
def chapterDomains : List Entry :=
  [hsTimeout, scrubPass, eccCorr, eccUncorr, resErr, treeLeaves, treeCalState, treeDriftLimit, copyReloadLimit,
    copyMissLimit, leafIsland, leafFwdDelay, copyState, copyErrLast, copyErrMax, copyRate, copyMissed]

/-- `EDIT_CTRL` (R67). -/
def editCtrl : Entry :=
  { idx := 0xF00, sub := 0x0, ty := .u8, cls := .cmd, owner := (.world 0), vals := [(1, 2)] }
/-- `COMMIT_REF` (R67). -/
def commitRef : Entry :=
  { idx := 0xF01, sub := 0x0, ty := .u32, cls := .grd, owner := (.world 0) }
/-- `LOCK_CTRL` (R67). -/
def lockCtrl : Entry :=
  { idx := 0xF02, sub := 0x0, ty := .bool, cls := .grd, owner := (.world 0) }
/-- `COMMIT_STATE` (R67). -/
def commitState : Entry :=
  { idx := 0xF03, sub := 0x0, ty := .enum, cls := .ro }
/-- `RUNNING_CHECK` (R67). -/
def runningCheck : Entry :=
  { idx := 0xF04, sub := 0x0, ty := .u32, cls := .ro }
/-- `CHECK_SEVERITY` (R67). -/
def checkSeverity : Entry :=
  { idx := 0xF05, sub := 0x0, ty := .enum, cls := .rw, dflt := 1, owner := (.world 0), check := true, vals := [(0,
    3)] }
/-- `EDIT_TIMEOUT` (R67). -/
def editTimeout : Entry :=
  { idx := 0xF06, sub := 0x0, ty := .u32, cls := .rw, dflt := 10000, owner := (.world 0), check := true, vals :=
    [(100, 600000)] }
/-- `CHECK_MISMATCH` (R67). -/
def checkMismatch : Entry :=
  { idx := 0xF07, sub := 0x0, ty := .u32, cls := .cor }
/-- `COMMITTED_REF` (R67). -/
def committedRef : Entry :=
  { idx := 0xF08, sub := 0x0, ty := .u32, cls := .ro }
/-- `BIND_PCIE` (R67). -/
def bindPcie : Entry :=
  { idx := 0x1000, sub := 0x0, arr := 8, ty := .u8, cls := .grd, dflt := 255, dfltAt := [(0, 0)], owner := (.world
    0), check := true, vals := [(0, 15), (255, 255)] }
/-- `BIND_SPIT` (R67). -/
def bindSpit : Entry :=
  { idx := 0x1001, sub := 0x0, ty := .u8, cls := .grd, owner := (.world 0), check := true, vals := [(0, 15), (255,
    255)] }
/-- `VENDOR_ADMIT` (R67). -/
def vendorAdmit : Entry :=
  { idx := 0x1002, sub := 0x0, ty := .bool, cls := .grd, owner := (.world 0) }
/-- `UNBOUND_ACCESS` (R67). -/
def unboundAccess : Entry :=
  { idx := 0x1003, sub := 0x0, ty := .u32, cls := .cor }
/-- `WORLD_BOUND` (R67). -/
def worldBound : Entry :=
  { idx := 0x1100, sub := 0x0, stride := 0x10, count := 16, ty := .u32, cls := .ro }
/-- `LAST_ABORT` (R67). -/
def lastAbort : Entry :=
  { idx := 0x1100, sub := 0x1, stride := 0x10, count := 16, ty := .u64, cls := .ro }
/-- `REFUSED` (R67). -/
def refused : Entry :=
  { idx := 0x1100, sub := 0x2, stride := 0x10, count := 16, ty := .u32, cls := .cor }
/-- `GUARD_MISMATCH` (R67). -/
def guardMismatch : Entry :=
  { idx := 0x1100, sub := 0x3, stride := 0x10, count := 16, ty := .u32, cls := .cor }
/-- `VIOLATIONS` (R67). -/
def violations : Entry :=
  { idx := 0x1100, sub := 0x4, stride := 0x10, count := 16, ty := .u32, cls := .cor }
/-- `LATCH_MISS` (R67). -/
def latchMiss : Entry :=
  { idx := 0x1100, sub := 0x5, stride := 0x10, count := 16, ty := .u32, cls := .cor }
/-- `IRLIN_UDP_PORT` (R67). -/
def irlinUdpPort : Entry :=
  { idx := 0x1200, sub := 0x0, ty := .u16, cls := .grd, owner := (.world 0), check := true }
/-- `IRLIN_PORT_MASK` (R67). -/
def irlinPortMask : Entry :=
  { idx := 0x1200, sub := 0x1, ty := .u32, cls := .rw, dflt := 0x30000, owner := (.world 0), check := true }
/-- `IRLIN_NONCE` (R67). -/
def irlinNonce : Entry :=
  { idx := 0x1200, sub := 0x2, ty := .u32, cls := .ro }
/-- `IRLIN_DROP_AUTH` (R67). -/
def irlinDropAuth : Entry :=
  { idx := 0x1201, sub := 0x0, ty := .u32, cls := .cor }
/-- `IRLIN_KEY` (R67). -/
def irlinKey : Entry :=
  { idx := 0x1210, sub := 0x0, stride := 0x1, count := 16, ty := .keyref, cls := .grd, owner := (.world 0), check :=
    true }
/-- `IRLIN_WORLD` (R67). -/
def irlinWorld : Entry :=
  { idx := 0x1210, sub := 0x1, stride := 0x1, count := 16, ty := .u8, cls := .grd, dflt := 255, owner := (.world 0),
    check := true, vals := [(0, 15), (255, 255)] }
/-- `IRLIN_SEQ_HIGH` (R67). -/
def irlinSeqHigh : Entry :=
  { idx := 0x1210, sub := 0x2, stride := 0x1, count := 16, ty := .u32, cls := .ro }
/-- `IRLIN_DROP_SEQ` (R67). -/
def irlinDropSeq : Entry :=
  { idx := 0x1210, sub := 0x3, stride := 0x1, count := 16, ty := .u32, cls := .cor }

/-- The entry list of chapter 02. -/
def chapterDictionary : List Entry :=
  [editCtrl, commitRef, lockCtrl, commitState, runningCheck, checkSeverity, editTimeout, checkMismatch,
    committedRef, bindPcie, bindSpit, vendorAdmit, unboundAccess, worldBound, lastAbort, refused, guardMismatch,
    violations, latchMiss, irlinUdpPort, irlinPortMask, irlinNonce, irlinDropAuth, irlinKey, irlinWorld,
    irlinSeqHigh, irlinDropSeq]

/-- `BOOT_STAGE` (R88). -/
def bootStage : Entry :=
  { idx := 0x20, sub := 0x0, ty := .enum, cls := .ro, dflt := 1 }
/-- `BOOT_RESULT` (R88). -/
def bootResult : Entry :=
  { idx := 0x21, sub := 0x0, ty := .enum, cls := .ro }
/-- `QUIET_CLOCKS` (R88). -/
def quietClocks : Entry :=
  { idx := 0x22, sub := 0x0, ty := .enum, cls := .rw, owner := (.world 0), check := true, vals := [(0, 1)] }
/-- `BOOT_OPTIONS` (R88). -/
def bootOptions : Entry :=
  { idx := 0x23, sub := 0x0, ty := .u32, cls := .ro }
/-- `BOOT_OPTIONS_BURN` (R88). -/
def bootOptionsBurn : Entry :=
  { idx := 0x23, sub := 0x1, ty := .u32, cls := .grd, owner := (.world 0), vals := [(0, 3)] }
/-- `IMAGE_HOST_ADDR` (R88). -/
def imageHostAddr : Entry :=
  { idx := 0x24, sub := 0x0, ty := .u64, cls := .rw, owner := (.world 0) }
/-- `IMAGE_LOAD` (R88). -/
def imageLoad : Entry :=
  { idx := 0x25, sub := 0x0, ty := .u32, cls := .cmd, owner := (.world 0), vals := [(104, 4194304)] }
/-- `IMAGE_SERIAL` (R88). -/
def imageSerial : Entry :=
  { idx := 0x26, sub := 0x0, ty := .u32, cls := .ro }
/-- `IMAGE_SLOT` (R88). -/
def imageSlot : Entry :=
  { idx := 0x27, sub := 0x0, ty := .enum, cls := .ro }
/-- `BOOT_TIME` (R88). -/
def bootTime : Entry :=
  { idx := 0x28, sub := 0x0, ty := .u32, cls := .ro }
/-- `FIRST_LOCK` (R88). -/
def firstLock : Entry :=
  { idx := 0x29, sub := 0x0, ty := .bool, cls := .ro }
/-- `OUTPUT_STATE` (R88). -/
def outputState : Entry :=
  { idx := 0x2A, sub := 0x0, ty := .enum, cls := .ro }
/-- `LIFECYCLE` (R88). -/
def lifecycle : Entry :=
  { idx := 0x30, sub := 0x0, ty := .enum, cls := .ro }
/-- `LIFECYCLE_REQ` (R88). -/
def lifecycleReq : Entry :=
  { idx := 0x31, sub := 0x0, ty := .u8, cls := .grd, owner := (.world 0) }
/-- `TRIM_PROFILE` (R88). -/
def trimProfile : Entry :=
  { idx := 0x40, sub := 0x0, ty := .enum, cls := .grd, owner := (.world 0), check := true, vals := [(0, 4)] }
/-- `TRIM_ACTIVE` (R88). -/
def trimActive : Entry :=
  { idx := 0x41, sub := 0x0, ty := .enum, cls := .ro }
/-- `TRIM_EVICTED` (R88). -/
def trimEvicted : Entry :=
  { idx := 0x42, sub := 0x0, ty := .u32, cls := .cor }
/-- `POWER_CAP` (R88). -/
def powerCap : Entry :=
  { idx := 0x43, sub := 0x0, ty := .u16, cls := .ro, dflt := 42 }
/-- `STEER_TARGET` (R88). -/
def steerTarget : Entry :=
  { idx := 0x6900, sub := 0x0, stride := 0x1, count := 16, ty := .enum, cls := .rw, dfltAt := [(4, 1), (6, 3), (7,
    1), (12, 1), (13, 3), (14, 3), (15, 3)], owner := (.world 0), check := true, vals := [(0, 3)] }
/-- `STEER_WORLD` (R88). -/
def steerWorld : Entry :=
  { idx := 0x6900, sub := 0x1, stride := 0x1, count := 16, ty := .u8, cls := .rw, owner := (.world 0), check :=
    true, vals := [(0, 14)] }
/-- `STEER_DROP` (R88). -/
def steerDrop : Entry :=
  { idx := 0x6900, sub := 0x2, stride := 0x1, count := 16, ty := .u32, cls := .cor }

/-- The entry list of chapter 03. -/
def chapterBringup : List Entry :=
  [bootStage, bootResult, quietClocks, bootOptions, bootOptionsBurn, imageHostAddr, imageLoad, imageSerial,
    imageSlot, bootTime, firstLock, outputState, lifecycle, lifecycleReq, trimProfile, trimActive, trimEvicted,
    powerCap, steerTarget, steerWorld, steerDrop]

/-- `PRIVET_SNAPSHOT` (R119). -/
def privetSnapshot : Entry :=
  { idx := 0x2000, sub := 0x0, words := 2, ty := .time96, cls := .ro }
/-- `PRIVET_SNAP_BOUND` (R119). -/
def privetSnapBound : Entry :=
  { idx := 0x2000, sub := 0x2, ty := .bound32, cls := .ro, dflt := 0xFFFFFFFF }
/-- `PRIVET_SNAP_STATUS` (R119). -/
def privetSnapStatus : Entry :=
  { idx := 0x2000, sub := 0x3, ty := .u64, cls := .ro }
/-- `PRIVET_STATUS` (R119). -/
def privetStatus : Entry :=
  { idx := 0x2001, sub := 0x0, ty := .u64, cls := .ro }
/-- `PRIVET_MODE` (R119). -/
def privetMode : Entry :=
  { idx := 0x2010, sub := 0x0, ty := .enum, cls := .grd, owner := (.world 0), check := true, vals := [(0, 1)] }
/-- `PRIVET_INCR_DELTA` (R119). -/
def privetIncrDelta : Entry :=
  { idx := 0x2010, sub := 0x1, ty := .i64, cls := .ro }
/-- `PRIVET_INCR_NS` (R119). -/
def privetIncrNs : Entry :=
  { idx := 0x2010, sub := 0x2, ty := .u8, cls := .rw, dflt := 2, owner := (.world 0) }
/-- `PRIVET_INCR_FRAC` (R119). -/
def privetIncrFrac : Entry :=
  { idx := 0x2010, sub := 0x3, ty := .u64, cls := .rw, owner := (.world 0), vals := [(0, 72057594037927935)] }
/-- `PRIVET_OUT_TOL` (R119). -/
def privetOutTol : Entry :=
  { idx := 0x2011, sub := 0x0, ty := .u32, cls := .rw, dflt := 4600000, owner := (.world 0), check := true, vals :=
    [(100000, 100000000)] }
/-- `PRIVET_SLEW_LIMIT` (R119). -/
def privetSlewLimit : Entry :=
  { idx := 0x2012, sub := 0x0, ty := .u32, cls := .rw, dflt := 2000000, owner := (.world 0), check := true, vals :=
    [(10000, 10000000)] }
/-- `PRIVET_SLEW_CMD` (R119). -/
def privetSlewCmd : Entry :=
  { idx := 0x2013, sub := 0x0, ty := .i64, cls := .cmd, owner := (.world 0) }
/-- `PRIVET_SLEW_REMAIN` (R119). -/
def privetSlewRemain : Entry :=
  { idx := 0x2013, sub := 0x1, ty := .i64, cls := .ro }
/-- `PRIVET_STEP_PERMIT` (R119). -/
def privetStepPermit : Entry :=
  { idx := 0x2014, sub := 0x0, ty := .bool, cls := .grd, owner := (.world 0) }
/-- `PRIVET_PERMIT_TIMEOUT` (R119). -/
def privetPermitTimeout : Entry :=
  { idx := 0x2014, sub := 0x1, ty := .u32, cls := .rw, dflt := 60, owner := (.world 0), check := true, vals := [(1,
    3600)] }
/-- `PRIVET_STEP_CMD` (R119). -/
def privetStepCmd : Entry :=
  { idx := 0x2014, sub := 0x2, ty := .i64, cls := .cmd, owner := (.world 0) }
/-- `PRIVET_RETARD_MAX` (R119). -/
def privetRetardMax : Entry :=
  { idx := 0x2014, sub := 0x3, ty := .u32, cls := .rw, dflt := 1000, owner := (.world 0), check := true, vals :=
    [(1, 3600000)] }
/-- `PRIVET_STEP_COUNT` (R119). -/
def privetStepCount : Entry :=
  { idx := 0x2014, sub := 0x4, ty := .u32, cls := .cor }
/-- `PRIVET_STEP_REFUSED` (R119). -/
def privetStepRefused : Entry :=
  { idx := 0x2014, sub := 0x5, ty := .u32, cls := .cor }
/-- `PRIVET_INIT_TIME` (R119). -/
def privetInitTime : Entry :=
  { idx := 0x2015, sub := 0x0, words := 2, ty := .time96, cls := .rw, owner := (.world 0) }
/-- `PRIVET_TAI_UTC` (R119). -/
def privetTaiUtc : Entry :=
  { idx := 0x2020, sub := 0x0, ty := .i32, cls := .rw, dflt := 37, owner := (.world 0), vals := [(0, 255)] }
/-- `PRIVET_LEAP_STATE` (R119). -/
def privetLeapState : Entry :=
  { idx := 0x2020, sub := 0x1, ty := .enum, cls := .ro }
/-- `PRIVET_LEAP_NOTICE` (R119). -/
def privetLeapNotice : Entry :=
  { idx := 0x2020, sub := 0x2, ty := .u32, cls := .rw, dflt := 43200, owner := (.world 0), check := true, vals :=
    [(3600, 2419200)] }
/-- `PRIVET_LEAP_SOURCE` (R119). -/
def privetLeapSource : Entry :=
  { idx := 0x2020, sub := 0x3, ty := .enum, cls := .rw, owner := (.world 0), check := true, vals := [(0, 1)] }
/-- `PRIVET_SMEAR_ENABLE` (R119). -/
def privetSmearEnable : Entry :=
  { idx := 0x2021, sub := 0x0, ty := .bool, cls := .rw, owner := (.world 0), check := true }
/-- `PRIVET_SMEAR_WINDOW` (R119). -/
def privetSmearWindow : Entry :=
  { idx := 0x2021, sub := 0x1, ty := .u32, cls := .rw, dflt := 86400, owner := (.world 0), check := true, vals :=
    [(3600, 86400)] }
/-- `LEAP_TAI` (R119). -/
def leapTai : Entry :=
  { idx := 0x2030, sub := 0x0, stride := 0x1, count := 64, ty := .u64, cls := .rw, owner := (.world 0), vals := [(0,
    281474976710655)] }
/-- `LEAP_OFFSET` (R119). -/
def leapOffset : Entry :=
  { idx := 0x2030, sub := 0x1, stride := 0x1, count := 64, ty := .i32, cls := .rw, owner := (.world 0) }
/-- `LEAP_ORIGIN` (R119). -/
def leapOrigin : Entry :=
  { idx := 0x2030, sub := 0x2, stride := 0x1, count := 64, ty := .enum, cls := .ro }
/-- `SCHED_TIME` (R119). -/
def schedTime : Entry :=
  { idx := 0x2100, sub := 0x0, stride := 0x1, count := 256, words := 2, ty := .time96, cls := .rw, owner :=
    .schedOwner }
/-- `SCHED_ACTION` (R119). -/
def schedAction : Entry :=
  { idx := 0x2100, sub := 0x2, stride := 0x1, count := 256, ty := .u32, cls := .rw, owner := .schedOwner, vals :=
    [(0, 65535)] }
/-- `SCHED_PERIOD` (R119). -/
def schedPeriod : Entry :=
  { idx := 0x2100, sub := 0x3, stride := 0x1, count := 256, ty := .u32, cls := .rw, owner := .schedOwner, vals :=
    [(0, 0), (16, 4294967295)] }
/-- `SCHED_ARM` (R119). -/
def schedArm : Entry :=
  { idx := 0x2100, sub := 0x4, stride := 0x1, count := 256, ty := .u8, cls := .cmd, owner := .schedOwner, vals :=
    [(1, 2)] }
/-- `SCHED_STATE` (R119). -/
def schedState : Entry :=
  { idx := 0x2100, sub := 0x5, stride := 0x1, count := 256, ty := .enum, cls := .ro }
/-- `SCHED_HANDLE` (R119). -/
def schedHandle : Entry :=
  { idx := 0x2100, sub := 0x6, stride := 0x1, count := 256, ty := .handle, cls := .ro }
/-- `SCHED_OWNER` (R119). -/
def schedOwner : Entry :=
  { idx := 0x2100, sub := 0x7, stride := 0x1, count := 256, ty := .u8, cls := .grd, owner := (.world 0), check :=
    true, vals := [(0, 14)] }
/-- `SCHED_MISSED` (R119). -/
def schedMissed : Entry :=
  { idx := 0x2100, sub := 0x8, stride := 0x1, count := 256, ty := .u32, cls := .cor }

/-- The entry list of chapter 04. -/
def chapterPrivet : List Entry :=
  [privetSnapshot, privetSnapBound, privetSnapStatus, privetStatus, privetMode, privetIncrDelta, privetIncrNs,
    privetIncrFrac, privetOutTol, privetSlewLimit, privetSlewCmd, privetSlewRemain, privetStepPermit,
    privetPermitTimeout, privetStepCmd, privetRetardMax, privetStepCount, privetStepRefused, privetInitTime,
    privetTaiUtc, privetLeapState, privetLeapNotice, privetLeapSource, privetSmearEnable, privetSmearWindow,
    leapTai, leapOffset, leapOrigin, schedTime, schedAction, schedPeriod, schedArm, schedState, schedHandle,
    schedOwner, schedMissed]

end Sys2Proof.Machine.E
end

