-- ==== Sys2Proof/Machine/Entries2.lean ====
section
/-! DEFINITION. The dictionary entries of chapters 05, 06, 07, 08: one definition per row of the chapters' entry lists
(name, address, type, access class, default, owner, check set, stated values). -/

namespace Sys2Proof.Machine.E

/-- `BOUND_CORE` (R142). -/
def boundCore : Entry :=
  { idx := 0x2800, sub := 0x0, ty := .bound32, cls := .ro, dflt := 0xFFFFFFFF }
/-- `BOUND_TARGET` (R142). -/
def boundTarget : Entry :=
  { idx := 0x2800, sub := 0x1, ty := .bound32, cls := .ro, dflt := 0xFFFFFFFF }
/-- `BOUND_STATUS` (R142). -/
def boundStatus : Entry :=
  { idx := 0x2800, sub := 0x2, ty := .u64, cls := .ro, dflt := 1 }
/-- `BOUND_TERM` (R142). -/
def boundTerm : Entry :=
  { idx := 0x2801, sub := 0x0, arr := 6, ty := .bound32, cls := .ro }
/-- `BOUND_SERVICE_LIMIT` (R142). -/
def boundServiceLimit : Entry :=
  { idx := 0x2802, sub := 0x0, ty := .bound32, cls := .rw, dflt := 100000, owner := (.world 0), check := true, vals
    := [(1000, 4294967294)] }
/-- `OOT_CLEAR_HOLD` (R142). -/
def ootClearHold : Entry :=
  { idx := 0x2802, sub := 0x1, ty := .u32, cls := .rw, dflt := 10, owner := (.world 0), check := true, vals := [(0,
    3600)] }
/-- `PULSE_SQUELCH` (R142). -/
def pulseSquelch : Entry :=
  { idx := 0x2802, sub := 0x2, ty := .bool, cls := .rw, owner := (.world 0), check := true }
/-- `OOT_COUNT` (R142). -/
def ootCount : Entry :=
  { idx := 0x2802, sub := 0x3, ty := .u32, cls := .cor }
/-- `RELEASE_PERIOD` (R142). -/
def releasePeriod : Entry :=
  { idx := 0x2803, sub := 0x0, ty := .u32, cls := .rw, dflt := 64, owner := (.world 0), check := true, vals := [(1,
    3600)] }
/-- `HOLD_K` (R142). -/
def holdK : Entry :=
  { idx := 0x2803, sub := 0x1, ty := .u16, cls := .rw, dflt := 30, owner := (.world 0), check := true, vals := [(10,
    60)] }
/-- `LEDGER_STEP_MIN` (R142). -/
def ledgerStepMin : Entry :=
  { idx := 0x2803, sub := 0x2, ty := .u32, cls := .rw, dflt := 100, owner := (.world 0), check := true, vals := [(1,
    1000000)] }
/-- `HOLD_ELAPSED` (R142). -/
def holdElapsed : Entry :=
  { idx := 0x2804, sub := 0x0, ty := .u32, cls := .ro }
/-- `HOLD_Y_ENTRY` (R142). -/
def holdYEntry : Entry :=
  { idx := 0x2804, sub := 0x1, ty := .u32, cls := .ro }
/-- `HOLD_B_ENTRY` (R142). -/
def holdBEntry : Entry :=
  { idx := 0x2804, sub := 0x2, ty := .bound32, cls := .ro }
/-- `OUT_ADD` (R142). -/
def outAdd : Entry :=
  { idx := 0x2810, sub := 0x0, arr := 9, ty := .bound32, cls := .ro, dfltAt := [(1, 100), (2, 800), (3, 100), (4,
    100), (5, 30), (6, 25), (7, 25), (8, 30)] }
/-- `DIS_KIND` (R142). -/
def disKind : Entry :=
  { idx := 0x2820, sub := 0x0, stride := 0x1, count := 8, ty := .enum, cls := .ro }
/-- `DIS_SLOTS` (R142). -/
def disSlots : Entry :=
  { idx := 0x2820, sub := 0x1, stride := 0x1, count := 8, ty := .u16, cls := .ro, dflt := 65535 }
/-- `DIS_VALUE` (R142). -/
def disValue : Entry :=
  { idx := 0x2820, sub := 0x2, stride := 0x1, count := 8, ty := .bound32, cls := .ro }
/-- `DIS_START` (R142). -/
def disStart : Entry :=
  { idx := 0x2820, sub := 0x3, stride := 0x1, count := 8, words := 2, ty := .time96, cls := .ro }
/-- `DIS_MEMBERS` (R142). -/
def disMembers : Entry :=
  { idx := 0x2820, sub := 0x5, stride := 0x1, count := 8, ty := .u16, cls := .ro }
/-- `BREF_CONFIG` (R142). -/
def brefConfig : Entry :=
  { idx := 0x2840, sub := 0x0, stride := 0x1, count := 32, ty := .bound32, cls := .rw, dflt := 0xFFFFFFFF, owner :=
    (.world 0), check := true }
/-- `BASYM` (R142). -/
def basym : Entry :=
  { idx := 0x2840, sub := 0x1, stride := 0x1, count := 32, ty := .bound32, cls := .rw, owner := (.world 0), check :=
    true }
/-- `BMEAS_CAL` (R142). -/
def bmeasCal : Entry :=
  { idx := 0x2840, sub := 0x2, stride := 0x1, count := 32, ty := .bound32, cls := .rw, dflt := 1000, owner :=
    (.world 0), check := true, vals := [(0, 1000000)] }
/-- `BFREQ_CONFIG` (R142). -/
def bfreqConfig : Entry :=
  { idx := 0x2840, sub := 0x3, stride := 0x1, count := 32, ty := .u32, cls := .rw, dflt := 1000, owner := (.world
    0), check := true, vals := [(1, 1000000000)] }
/-- `BREF_LIVE` (R142). -/
def brefLive : Entry :=
  { idx := 0x2840, sub := 0x4, stride := 0x1, count := 32, ty := .bound32, cls := .ro, dflt := 0xFFFFFFFF }
/-- `BMEAS_LIVE` (R142). -/
def bmeasLive : Entry :=
  { idx := 0x2840, sub := 0x5, stride := 0x1, count := 32, ty := .bound32, cls := .ro }
/-- `LEDGER_ID` (R142). -/
def ledgerId : Entry :=
  { idx := 0x2880, sub := 0x0, ty := .u64, cls := .ro }
/-- `LEDGER_HEAD_SEQ` (R142). -/
def ledgerHeadSeq : Entry :=
  { idx := 0x2880, sub := 0x1, ty := .u32, cls := .ro }
/-- `LEDGER_OLDEST_SEQ` (R142). -/
def ledgerOldestSeq : Entry :=
  { idx := 0x2880, sub := 0x2, ty := .u32, cls := .ro }
/-- `LEDGER_BASE_CHAIN` (R142). -/
def ledgerBaseChain : Entry :=
  { idx := 0x2880, sub := 0x3, words := 32, ty := .octstr, cls := .ro, dflt := 32 }
/-- `LEDGER_OVERWRITTEN` (R142). -/
def ledgerOverwritten : Entry :=
  { idx := 0x2881, sub := 0x0, ty := .u32, cls := .cor }
/-- `LEDGER_CURSOR` (R142). -/
def ledgerCursor : Entry :=
  { idx := 0x28C0, sub := 0x0, stride := 0x1, count := 16, ty := .u32, cls := .rw, owner := .perWorld }
/-- `LEDGER_ENTRY` (R142). -/
def ledgerEntry : Entry :=
  { idx := 0x28C0, sub := 0x1, stride := 0x1, count := 16, words := 32, ty := .octstr, cls := .ro }
/-- `ATTEST_KEY` (R142). -/
def attestKey : Entry :=
  { idx := 0x2900, sub := 0x0, ty := .keyref, cls := .grd, owner := (.world 0), check := true }
/-- `ATTEST_PERIOD` (R142). -/
def attestPeriod : Entry :=
  { idx := 0x2900, sub := 0x1, ty := .u32, cls := .rw, dflt := 3600, owner := (.world 0), check := true, vals :=
    [(60, 86400)] }
/-- `ATTEST_SEQ` (R142). -/
def attestSeq : Entry :=
  { idx := 0x2900, sub := 0x2, ty := .u32, cls := .ro }
/-- `ATTEST_RECORD` (R142). -/
def attestRecord : Entry :=
  { idx := 0x2910, sub := 0x0, stride := 0x1, count := 16, words := 32, ty := .octstr, cls := .ro }

/-- The entry list of chapter 05. -/
def chapterBound : List Entry :=
  [boundCore, boundTarget, boundStatus, boundTerm, boundServiceLimit, ootClearHold, pulseSquelch, ootCount,
    releasePeriod, holdK, ledgerStepMin, holdElapsed, holdYEntry, holdBEntry, outAdd, disKind, disSlots, disValue,
    disStart, disMembers, brefConfig, basym, bmeasCal, bfreqConfig, brefLive, bmeasLive, ledgerId, ledgerHeadSeq,
    ledgerOldestSeq, ledgerBaseChain, ledgerOverwritten, ledgerCursor, ledgerEntry, attestKey, attestPeriod,
    attestSeq, attestRecord]

/-- `HB_SELECTED` (R176). -/
def hbSelected : Entry :=
  { idx := 0x3000, sub := 0x0, ty := .u8, cls := .ro, dflt := 255 }
/-- `HB_PREFERRED` (R176). -/
def hbPreferred : Entry :=
  { idx := 0x3000, sub := 0x1, ty := .u8, cls := .rw, dflt := 255, owner := (.world 0), check := true, vals := [(0,
    31), (255, 255)] }
/-- `HB_REVERTIVE` (R176). -/
def hbRevertive : Entry :=
  { idx := 0x3000, sub := 0x2, ty := .bool, cls := .rw, owner := (.world 0), check := true }
/-- `HB_WTR` (R176). -/
def hbWtr : Entry :=
  { idx := 0x3000, sub := 0x3, ty := .u32, cls := .rw, dflt := 300, owner := (.world 0), check := true, vals := [(0,
    3600)] }
/-- `HB_QUAL_TIME` (R176). -/
def hbQualTime : Entry :=
  { idx := 0x3000, sub := 0x4, ty := .u32, cls := .rw, dflt := 60, owner := (.world 0), check := true, vals := [(1,
    3600)] }
/-- `HB_SWITCHES` (R176). -/
def hbSwitches : Entry :=
  { idx := 0x3000, sub := 0x5, ty := .u32, cls := .cor }
/-- `HB_DISAGREE_COUNT` (R176). -/
def hbDisagreeCount : Entry :=
  { idx := 0x3001, sub := 0x0, ty := .u8, cls := .rw, dflt := 10, owner := (.world 0), check := true, vals := [(1,
    255)] }
/-- `HB_AMBIGUOUS` (R176). -/
def hbAmbiguous : Entry :=
  { idx := 0x3001, sub := 0x1, ty := .u32, cls := .cor }
/-- `HB_CONFLICT_SLOTS` (R176). -/
def hbConflictSlots : Entry :=
  { idx := 0x3002, sub := 0x0, ty := .u32, cls := .ro }
/-- `HB_CONFLICT_CMD` (R176). -/
def hbConflictCmd : Entry :=
  { idx := 0x3002, sub := 0x1, ty := .u16, cls := .cmd, owner := (.world 0) }
/-- `HB_AUTO_ACCEPT` (R176). -/
def hbAutoAccept : Entry :=
  { idx := 0x3002, sub := 0x2, ty := .u16, cls := .rw, owner := (.world 0), check := true, vals := [(0, 0), (1,
    1440)] }
/-- `REF_SOURCE` (R177). -/
def refSource : Entry :=
  { idx := 0x3100, sub := 0x0, stride := 0x10, count := 32, ty := .u16, cls := .rw, owner := (.world 0), check :=
    true }
/-- `REF_ENABLE` (R177). -/
def refEnable : Entry :=
  { idx := 0x3100, sub := 0x1, stride := 0x10, count := 32, ty := .enum, cls := .rw, owner := (.world 0), check :=
    true, vals := [(0, 2)] }
/-- `REF_TYPE` (R177). -/
def refType : Entry :=
  { idx := 0x3100, sub := 0x2, stride := 0x10, count := 32, ty := .enum, cls := .rw, owner := (.world 0), check :=
    true, vals := [(0, 3)] }
/-- `REF_PRIORITY` (R177). -/
def refPriority : Entry :=
  { idx := 0x3100, sub := 0x3, stride := 0x10, count := 32, ty := .u8, cls := .rw, dflt := 15, owner := (.world 0),
    check := true, vals := [(0, 15)] }
/-- `REF_QL_SOURCE` (R177). -/
def refQlSource : Entry :=
  { idx := 0x3100, sub := 0x4, stride := 0x10, count := 32, ty := .enum, cls := .rw, owner := (.world 0), check :=
    true, vals := [(0, 1)] }
/-- `REF_QL_CONFIG` (R177). -/
def refQlConfig : Entry :=
  { idx := 0x3100, sub := 0x5, stride := 0x10, count := 32, ty := .u8, cls := .rw, dflt := 1, owner := (.world 0),
    check := true, vals := [(0, 7)] }
/-- `REF_NOMINAL` (R177). -/
def refNominal : Entry :=
  { idx := 0x3100, sub := 0x6, stride := 0x10, count := 32, ty := .u32, cls := .rw, dflt := 10000000, owner :=
    (.world 0), check := true, vals := [(1, 156250000)] }
/-- `REF_ESMC_PORT` (R177). -/
def refEsmcPort : Entry :=
  { idx := 0x3100, sub := 0x7, stride := 0x10, count := 32, ty := .u8, cls := .rw, dflt := 255, owner := (.world 0),
    check := true, vals := [(0, 15), (255, 255)] }
/-- `REF_GLITCH` (R177). -/
def refGlitch : Entry :=
  { idx := 0x3100, sub := 0x8, stride := 0x10, count := 32, ty := .u16, cls := .rw, dflt := 100, owner := (.world
    0), check := true, vals := [(1, 2500)] }
/-- `REF_DELAY` (R177). -/
def refDelay : Entry :=
  { idx := 0x3100, sub := 0x9, stride := 0x10, count := 32, ty := .i32, cls := .rw, owner := (.world 0), check :=
    true, vals := [(-2000000000, 2000000000)] }
/-- `REF_FREQ_LIM_1` (R177). -/
def refFreqLim1 : Entry :=
  { idx := 0x3101, sub := 0x0, stride := 0x10, count := 32, ty := .u64, cls := .rw, dflt := 10000000, owner :=
    (.world 0), check := true, vals := [(1, 1000000000000)] }
/-- `REF_FREQ_LIM_10` (R177). -/
def refFreqLim10 : Entry :=
  { idx := 0x3101, sub := 0x1, stride := 0x10, count := 32, ty := .u64, cls := .rw, dflt := 1000000, owner :=
    (.world 0), check := true, vals := [(1, 1000000000000)] }
/-- `REF_FREQ_LIM_100` (R177). -/
def refFreqLim100 : Entry :=
  { idx := 0x3101, sub := 0x2, stride := 0x10, count := 32, ty := .u64, cls := .rw, dflt := 100000, owner := (.world
    0), check := true, vals := [(1, 1000000000000)] }
/-- `REF_DRIFT_WINDOW` (R177). -/
def refDriftWindow : Entry :=
  { idx := 0x3101, sub := 0x3, stride := 0x10, count := 32, ty := .u32, cls := .rw, dflt := 1000, owner := (.world
    0), check := true, vals := [(100, 10000)] }
/-- `REF_DRIFT_HORIZON` (R177). -/
def refDriftHorizon : Entry :=
  { idx := 0x3101, sub := 0x4, stride := 0x10, count := 32, ty := .u32, cls := .rw, dflt := 300, owner := (.world
    0), check := true, vals := [(10, 3600)] }
/-- `TOD_ENABLE` (R177). -/
def todEnable : Entry :=
  { idx := 0x3102, sub := 0x0, stride := 0x10, count := 32, ty := .bool, cls := .rw, owner := (.world 0), check :=
    true }
/-- `TOD_BAUD` (R177). -/
def todBaud : Entry :=
  { idx := 0x3102, sub := 0x1, stride := 0x10, count := 32, ty := .u32, cls := .rw, dflt := 115200, owner := (.world
    0), check := true, vals := [(9600, 9600), (19200, 19200), (38400, 38400), (57600, 57600), (115200, 115200),
    (230400, 230400), (460800, 460800), (921600, 921600)] }
/-- `TOD_NAMES` (R177). -/
def todNames : Entry :=
  { idx := 0x3102, sub := 0x2, stride := 0x10, count := 32, ty := .enum, cls := .rw, owner := (.world 0), check :=
    true, vals := [(0, 1)] }
/-- `TOD_MISS_LIMIT` (R177). -/
def todMissLimit : Entry :=
  { idx := 0x3102, sub := 0x3, stride := 0x10, count := 32, ty := .u8, cls := .rw, dflt := 3, owner := (.world 0),
    check := true, vals := [(1, 16)] }
/-- `REF_STATE` (R177). -/
def refState : Entry :=
  { idx := 0x3108, sub := 0x0, stride := 0x10, count := 32, ty := .enum, cls := .ro }
/-- `REF_CAUSE` (R177). -/
def refCause : Entry :=
  { idx := 0x3108, sub := 0x1, stride := 0x10, count := 32, ty := .u32, cls := .ro }
/-- `REF_QL_RX` (R177). -/
def refQlRx : Entry :=
  { idx := 0x3108, sub := 0x2, stride := 0x10, count := 32, ty := .u16, cls := .ro }
/-- `REF_QL` (R177). -/
def refQl : Entry :=
  { idx := 0x3108, sub := 0x3, stride := 0x10, count := 32, ty := .u8, cls := .ro }
/-- `REF_FREQ_OFFSET` (R177). -/
def refFreqOffset : Entry :=
  { idx := 0x3108, sub := 0x4, stride := 0x10, count := 32, ty := .i64, cls := .ro }
/-- `REF_PHASE` (R177). -/
def refPhase : Entry :=
  { idx := 0x3108, sub := 0x5, stride := 0x10, count := 32, ty := .i64, cls := .ro }
/-- `REF_DRIFT_SLOPE` (R177). -/
def refDriftSlope : Entry :=
  { idx := 0x3108, sub := 0x6, stride := 0x10, count := 32, ty := .i64, cls := .ro }
/-- `REF_PREDICT_CROSS` (R177). -/
def refPredictCross : Entry :=
  { idx := 0x3108, sub := 0x7, stride := 0x10, count := 32, ty := .u32, cls := .ro, dflt := 0xFFFFFFFF }
/-- `REF_QUAL_ELAPSED` (R177). -/
def refQualElapsed : Entry :=
  { idx := 0x3108, sub := 0x8, stride := 0x10, count := 32, ty := .u32, cls := .ro }
/-- `REF_QUALIFIED_AT` (R177). -/
def refQualifiedAt : Entry :=
  { idx := 0x3108, sub := 0x9, stride := 0x10, count := 32, words := 2, ty := .time96, cls := .ro }
/-- `REF_FAILS` (R177). -/
def refFails : Entry :=
  { idx := 0x3108, sub := 0xB, stride := 0x10, count := 32, ty := .u32, cls := .cor }
/-- `TOD_ERRORS` (R177). -/
def todErrors : Entry :=
  { idx := 0x3108, sub := 0xC, stride := 0x10, count := 32, ty := .u32, cls := .cor }

/-- The entry list of chapter 06. -/
def chapterHornbeam : List Entry :=
  [hbSelected, hbPreferred, hbRevertive, hbWtr, hbQualTime, hbSwitches, hbDisagreeCount, hbAmbiguous,
    hbConflictSlots, hbConflictCmd, hbAutoAccept, refSource, refEnable, refType, refPriority, refQlSource,
    refQlConfig, refNominal, refEsmcPort, refGlitch, refDelay, refFreqLim1, refFreqLim10, refFreqLim100,
    refDriftWindow, refDriftHorizon, todEnable, todBaud, todNames, todMissLimit, refState, refCause, refQlRx, refQl,
    refFreqOffset, refPhase, refDriftSlope, refPredictCross, refQualElapsed, refQualifiedAt] ++ [refFails,
    todErrors]

/-- `YEW_STATE` (R201). -/
def yewState : Entry :=
  { idx := 0x4000, sub := 0x0, ty := .enum, cls := .ro }
/-- `YEW_LOOP_TYPE` (R201). -/
def yewLoopType : Entry :=
  { idx := 0x4000, sub := 0x1, ty := .u8, cls := .ro, dflt := 255 }
/-- `YEW_FREQ` (R201). -/
def yewFreq : Entry :=
  { idx := 0x4000, sub := 0x2, ty := .i64, cls := .ro }
/-- `YEW_STEER` (R201). -/
def yewSteer : Entry :=
  { idx := 0x4000, sub := 0x3, ty := .i64, cls := .ro }
/-- `YEW_PHASE_ERR` (R201). -/
def yewPhaseErr : Entry :=
  { idx := 0x4000, sub := 0x4, ty := .i64, cls := .ro }
/-- `YEW_TRACK_ALLOW` (R201). -/
def yewTrackAllow : Entry :=
  { idx := 0x4000, sub := 0x5, ty := .bound32, cls := .ro }
/-- `YEW_CLAMPS` (R201). -/
def yewClamps : Entry :=
  { idx := 0x4000, sub := 0x6, ty := .u32, cls := .cor }
/-- `YEW_TRUE_FREQ` (R201). -/
def yewTrueFreq : Entry :=
  { idx := 0x4000, sub := 0x7, ty := .i64, cls := .ro }
/-- `YEW_TRACK_WINDOW` (R201). -/
def yewTrackWindow : Entry :=
  { idx := 0x4001, sub := 0x0, ty := .u16, cls := .rw, dflt := 64, owner := (.world 0), check := true, vals := [(16,
    1024)] }
/-- `YEW_TRACK_MARGIN` (R201). -/
def yewTrackMargin : Entry :=
  { idx := 0x4001, sub := 0x1, ty := .bound32, cls := .rw, dflt := 100, owner := (.world 0), check := true, vals :=
    [(0, 100000)] }
/-- `YEW_TRACK_INIT` (R201). -/
def yewTrackInit : Entry :=
  { idx := 0x4001, sub := 0x2, ty := .bound32, cls := .rw, dflt := 1000, owner := (.world 0), check := true, vals :=
    [(0, 1000000)] }
/-- `YEW_DRIFT_FF` (R201). -/
def yewDriftFf : Entry :=
  { idx := 0x4001, sub := 0x3, ty := .bool, cls := .rw, dflt := 1, owner := (.world 0), check := true }
/-- `LOOP_BW` (R201). -/
def loopBw : Entry :=
  { idx := 0x4010, sub := 0x0, stride := 0x1, count := 4, ty := .u32, cls := .rw, dfltAt := [(0, 1000), (1, 5000),
    (2, 10000), (3, 1000000)], owner := (.world 0), check := true, vals := [(1, 100000000)] }
/-- `LOOP_DAMP` (R201). -/
def loopDamp : Entry :=
  { idx := 0x4010, sub := 0x1, stride := 0x1, count := 4, ty := .u16, cls := .rw, dfltAt := [(0, 2000), (1, 1500),
    (2, 1000), (3, 5000)], owner := (.world 0), check := true, vals := [(500, 10000)] }
/-- `LOOP_KP` (R201). -/
def loopKp : Entry :=
  { idx := 0x4010, sub := 0x2, stride := 0x1, count := 4, ty := .u64, cls := .ro, dfltAt := [(0, 5915000000), (1,
    28300000000), (2, 50620000000), (3, 6221000000000)] }
/-- `LOOP_KI` (R201). -/
def loopKi : Entry :=
  { idx := 0x4010, sub := 0x3, stride := 0x1, count := 4, ty := .u64, cls := .ro, dfltAt := [(0, 2187000000), (1,
    88990000000), (2, 640700000000), (3, 387000000000000)] }
/-- `LOOP_UPDATE` (R201). -/
def loopUpdate : Entry :=
  { idx := 0x4010, sub := 0x4, stride := 0x1, count := 4, ty := .u32, cls := .ro, dfltAt := [(0, 1000000), (1,
    1000000), (2, 1000000), (3, 1000)] }
/-- `YEW_HOLD_AVG` (R201). -/
def yewHoldAvg : Entry :=
  { idx := 0x4020, sub := 0x0, ty := .u32, cls := .rw, dflt := 1000, owner := (.world 0), check := true, vals :=
    [(10, 10000)] }
/-- `YEW_HOLD_FREQ` (R201). -/
def yewHoldFreq : Entry :=
  { idx := 0x4020, sub := 0x1, ty := .i64, cls := .ro }
/-- `YEW_HOLD_DRIFT` (R201). -/
def yewHoldDrift : Entry :=
  { idx := 0x4020, sub := 0x2, ty := .i64, cls := .ro }
/-- `YEW_HOLD_D` (R201). -/
def yewHoldD : Entry :=
  { idx := 0x4020, sub := 0x3, ty := .u64, cls := .ro }
/-- `YEW_SIGMA_A` (R201). -/
def yewSigmaA : Entry :=
  { idx := 0x4020, sub := 0x4, ty := .u64, cls := .ro }
/-- `YEW_SIGMA_B` (R201). -/
def yewSigmaB : Entry :=
  { idx := 0x4020, sub := 0x5, ty := .u64, cls := .ro }
/-- `ENS_STANDING` (R201). -/
def ensStanding : Entry :=
  { idx := 0x4030, sub := 0x0, ty := .bool, cls := .ro }
/-- `ENS_MIN_MEMBERS` (R201). -/
def ensMinMembers : Entry :=
  { idx := 0x4030, sub := 0x1, ty := .u8, cls := .rw, dflt := 2, owner := (.world 0), check := true, vals := [(1,
    5)] }
/-- `ENS_WEIGHT_MAX` (R201). -/
def ensWeightMax : Entry :=
  { idx := 0x4030, sub := 0x2, ty := .u16, cls := .rw, dflt := 600, owner := (.world 0), check := true, vals :=
    [(250, 1000)] }
/-- `ENS_WEIGHT_TAU` (R201). -/
def ensWeightTau : Entry :=
  { idx := 0x4030, sub := 0x3, ty := .u32, cls := .rw, dflt := 1000, owner := (.world 0), check := true, vals :=
    [(10, 100000)] }
/-- `ENS_OUTLIER_K` (R201). -/
def ensOutlierK : Entry :=
  { idx := 0x4030, sub := 0x4, ty := .u16, cls := .rw, dflt := 50, owner := (.world 0), check := true, vals := [(30,
    200)] }
/-- `ENS_OUTLIER_COUNT` (R201). -/
def ensOutlierCount : Entry :=
  { idx := 0x4030, sub := 0x5, ty := .u8, cls := .rw, dflt := 3, owner := (.world 0), check := true, vals := [(1,
    60)] }
/-- `ENS_EXCLUSIONS` (R201). -/
def ensExclusions : Entry :=
  { idx := 0x4030, sub := 0x6, ty := .u32, cls := .cor }
/-- `ENS_SCALE_OFFSET` (R201). -/
def ensScaleOffset : Entry :=
  { idx := 0x4030, sub := 0x7, ty := .i64, cls := .ro }
/-- `ENS_ENABLE` (R202). -/
def ensEnable : Entry :=
  { idx := 0x4100, sub := 0x0, stride := 0x10, count := 5, ty := .bool, cls := .rw, dfltAt := [(0, 1)], owner :=
    (.world 0), check := true }
/-- `ENS_CLASS` (R202). -/
def ensClass : Entry :=
  { idx := 0x4100, sub := 0x1, stride := 0x10, count := 5, ty := .enum, cls := .rw, dflt := 1, dfltAt := [(0, 0)],
    owner := (.world 0), check := true, vals := [(0, 4)] }
/-- `ENS_WEIGHT_MODE` (R202). -/
def ensWeightMode : Entry :=
  { idx := 0x4100, sub := 0x2, stride := 0x10, count := 5, ty := .enum, cls := .rw, owner := (.world 0), check :=
    true, vals := [(0, 1)] }
/-- `ENS_NOMINAL` (R202). -/
def ensNominal : Entry :=
  { idx := 0x4100, sub := 0x3, stride := 0x10, count := 5, ty := .u32, cls := .rw, dflt := 10000000, owner :=
    (.world 0), check := true, vals := [(1, 156250000)] }
/-- `ENS_TEMP_SRC` (R202). -/
def ensTempSrc : Entry :=
  { idx := 0x4100, sub := 0x4, stride := 0x10, count := 5, ty := .enum, cls := .rw, owner := (.world 0), check :=
    true, vals := [(0, 3)] }
/-- `ENS_TEMPCO_LEARN` (R202). -/
def ensTempcoLearn : Entry :=
  { idx := 0x4100, sub := 0x5, stride := 0x10, count := 5, ty := .bool, cls := .rw, dflt := 1, owner := (.world 0),
    check := true }
/-- `ENS_WARMUP` (R202). -/
def ensWarmup : Entry :=
  { idx := 0x4100, sub := 0x6, stride := 0x10, count := 5, ty := .u32, cls := .rw, dflt := 600, owner := (.world 0),
    check := true, vals := [(0, 86400)] }
/-- `ENS_PROBATION` (R202). -/
def ensProbation : Entry :=
  { idx := 0x4100, sub := 0x7, stride := 0x10, count := 5, ty := .u32, cls := .rw, dflt := 3600, owner := (.world
    0), check := true, vals := [(60, 604800)] }
/-- `ENS_STATE` (R202). -/
def ensState : Entry :=
  { idx := 0x4108, sub := 0x0, stride := 0x10, count := 5, ty := .enum, cls := .ro }
/-- `ENS_WEIGHT` (R202). -/
def ensWeight : Entry :=
  { idx := 0x4108, sub := 0x1, stride := 0x10, count := 5, ty := .u32, cls := .ro }
/-- `ENS_FREQ` (R202). -/
def ensFreq : Entry :=
  { idx := 0x4108, sub := 0x2, stride := 0x10, count := 5, ty := .i64, cls := .ro }
/-- `ENS_AGING` (R202). -/
def ensAging : Entry :=
  { idx := 0x4108, sub := 0x3, stride := 0x10, count := 5, ty := .i64, cls := .ro }
/-- `ENS_SIGMA_A` (R202). -/
def ensSigmaA : Entry :=
  { idx := 0x4108, sub := 0x4, stride := 0x10, count := 5, ty := .u64, cls := .ro, dflt := 5000000, dfltAt := [(0,
    10000000)] }
/-- `ENS_SIGMA_B` (R202). -/
def ensSigmaB : Entry :=
  { idx := 0x4108, sub := 0x5, stride := 0x10, count := 5, ty := .u64, cls := .ro, dflt := 30000, dfltAt := [(0,
    1000000)] }
/-- `ENS_TEMPCO` (R202). -/
def ensTempco : Entry :=
  { idx := 0x4108, sub := 0x6, stride := 0x10, count := 5, ty := .i64, cls := .ro }
/-- `ENS_INNOV` (R202). -/
def ensInnov : Entry :=
  { idx := 0x4108, sub := 0x7, stride := 0x10, count := 5, ty := .i32, cls := .ro }
/-- `ENS_EXCLUDED_AT` (R202). -/
def ensExcludedAt : Entry :=
  { idx := 0x4108, sub := 0x8, stride := 0x10, count := 5, words := 2, ty := .time96, cls := .ro }
/-- `ENS_CAUSE` (R202). -/
def ensCause : Entry :=
  { idx := 0x4108, sub := 0xA, stride := 0x10, count := 5, ty := .enum, cls := .ro }

/-- The entry list of chapter 07. -/
def chapterYew : List Entry :=
  [yewState, yewLoopType, yewFreq, yewSteer, yewPhaseErr, yewTrackAllow, yewClamps, yewTrueFreq, yewTrackWindow,
    yewTrackMargin, yewTrackInit, yewDriftFf, loopBw, loopDamp, loopKp, loopKi, loopUpdate, yewHoldAvg, yewHoldFreq,
    yewHoldDrift, yewHoldD, yewSigmaA, yewSigmaB, ensStanding, ensMinMembers, ensWeightMax, ensWeightTau,
    ensOutlierK, ensOutlierCount, ensExclusions, ensScaleOffset, ensEnable, ensClass, ensWeightMode, ensNominal,
    ensTempSrc, ensTempcoLearn, ensWarmup, ensProbation, ensState] ++ [ensWeight, ensFreq, ensAging, ensSigmaA,
    ensSigmaB, ensTempco, ensInnov, ensExcludedAt, ensCause]

/-- `TIC_WRAPS` (R219). -/
def ticWraps : Entry :=
  { idx := 0xA000, sub := 0x0, ty := .u16, cls := .ro }
/-- `TIC_SLIPS` (R219). -/
def ticSlips : Entry :=
  { idx := 0xA001, sub := 0x0, ty := .u32, cls := .cor }
/-- `CH_ENABLE` (R219). -/
def chEnable : Entry :=
  { idx := 0xA100, sub := 0x0, stride := 0x8, count := 26, ty := .bool, cls := .rw, dflt := 1, dfltAt := [(16, 0),
    (17, 0), (18, 0), (19, 0), (20, 0), (21, 0), (22, 0), (23, 0)], owner := (.world 0), check := true }
/-- `CH_EDGE` (R219). -/
def chEdge : Entry :=
  { idx := 0xA100, sub := 0x1, stride := 0x8, count := 26, ty := .enum, cls := .rw, owner := (.world 0), check :=
    true, vals := [(0, 2)] }
/-- `CH_DELAY` (R219). -/
def chDelay : Entry :=
  { idx := 0xA100, sub := 0x2, stride := 0x8, count := 26, ty := .i32, cls := .rw, owner := (.world 0), check :=
    true, vals := [(-100000, 100000)] }
/-- `CH_PRESCALE` (R219). -/
def chPrescale : Entry :=
  { idx := 0xA100, sub := 0x3, stride := 0x8, count := 26, ty := .u32, cls := .ro, dflt := 1 }
/-- `CH_EXPORT_WORLD` (R219). -/
def chExportWorld : Entry :=
  { idx := 0xA100, sub := 0x4, stride := 0x8, count := 26, ty := .u8, cls := .rw, dflt := 255, owner := (.world 0),
    check := true, vals := [(0, 14), (255, 255)] }
/-- `CH_EXPORT_KINDS` (R219). -/
def chExportKinds : Entry :=
  { idx := 0xA100, sub := 0x5, stride := 0x8, count := 26, ty := .u8, cls := .rw, dflt := 1, owner := (.world 0),
    check := true, vals := [(0, 3)] }
/-- `CH_STATUS` (R219). -/
def chStatus : Entry :=
  { idx := 0xA101, sub := 0x0, stride := 0x8, count := 26, ty := .u64, cls := .ro }
/-- `CH_Q_A` (R219). -/
def chQA : Entry :=
  { idx := 0xA101, sub := 0x1, stride := 0x8, count := 26, ty := .u32, cls := .ro }
/-- `CH_Q_B` (R219). -/
def chQB : Entry :=
  { idx := 0xA101, sub := 0x2, stride := 0x8, count := 26, ty := .u32, cls := .ro }
/-- `CH_EDGES` (R219). -/
def chEdges : Entry :=
  { idx := 0xA101, sub := 0x3, stride := 0x8, count := 26, ty := .u64, cls := .ro }
/-- `CH_DEADTIME_MISSED` (R219). -/
def chDeadtimeMissed : Entry :=
  { idx := 0xA101, sub := 0x4, stride := 0x8, count := 26, ty := .u32, cls := .cor }
/-- `CH_OVERFLOWS` (R219). -/
def chOverflows : Entry :=
  { idx := 0xA101, sub := 0x5, stride := 0x8, count := 26, ty := .u32, cls := .cor }
/-- `CH_LAST_STAMP` (R219). -/
def chLastStamp : Entry :=
  { idx := 0xA102, sub := 0x0, stride := 0x8, count := 26, words := 2, ty := .time96, cls := .ro }
/-- `CH_LAST_BOUND` (R219). -/
def chLastBound : Entry :=
  { idx := 0xA102, sub := 0x2, stride := 0x8, count := 26, ty := .bound32, cls := .ro, dflt := 0xFFFFFFFF }
/-- `CH_LAST_RAW` (R219). -/
def chLastRaw : Entry :=
  { idx := 0xA102, sub := 0x3, stride := 0x8, count := 26, ty := .u64, cls := .ro }
/-- `CH_LAST_PERIOD` (R219). -/
def chLastPeriod : Entry :=
  { idx := 0xA102, sub := 0x4, stride := 0x8, count := 26, ty := .i64, cls := .ro }
/-- `CH_LAST_FLAGS` (R219). -/
def chLastFlags : Entry :=
  { idx := 0xA102, sub := 0x5, stride := 0x8, count := 26, ty := .u16, cls := .ro }
/-- `PAIR_A` (R219). -/
def pairA : Entry :=
  { idx := 0xA300, sub := 0x0, stride := 0x8, count := 16, ty := .u8, cls := .rw, owner := (.world 0), check :=
    true, vals := [(0, 25)] }
/-- `PAIR_B` (R219). -/
def pairB : Entry :=
  { idx := 0xA300, sub := 0x1, stride := 0x8, count := 16, ty := .u8, cls := .rw, owner := (.world 0), check :=
    true, vals := [(0, 25)] }
/-- `PAIR_MODE` (R219). -/
def pairMode : Entry :=
  { idx := 0xA300, sub := 0x2, stride := 0x8, count := 16, ty := .enum, cls := .rw, owner := (.world 0), check :=
    true, vals := [(0, 2)] }
/-- `PAIR_TIMEOUT` (R219). -/
def pairTimeout : Entry :=
  { idx := 0xA300, sub := 0x3, stride := 0x8, count := 16, ty := .u32, cls := .rw, dflt := 2000, owner := (.world
    0), check := true, vals := [(1, 100000)] }
/-- `PAIR_EXPORT_WORLD` (R219). -/
def pairExportWorld : Entry :=
  { idx := 0xA300, sub := 0x4, stride := 0x8, count := 16, ty := .u8, cls := .rw, dflt := 255, owner := (.world 0),
    check := true, vals := [(0, 14), (255, 255)] }
/-- `PAIR_CLEAR` (R219). -/
def pairClear : Entry :=
  { idx := 0xA300, sub := 0x5, stride := 0x8, count := 16, ty := .u8, cls := .cmd, owner := (.world 0), vals := [(1,
    1)] }
/-- `PAIR_LAST` (R219). -/
def pairLast : Entry :=
  { idx := 0xA301, sub := 0x0, stride := 0x8, count := 16, ty := .i64, cls := .ro }
/-- `PAIR_STATS` (R219). -/
def pairStats : Entry :=
  { idx := 0xA301, sub := 0x1, stride := 0x8, count := 16, words := 6, ty := .octstr, cls := .ro, dflt := 40 }
/-- `PAIR_MISSING` (R219). -/
def pairMissing : Entry :=
  { idx := 0xA301, sub := 0x7, stride := 0x8, count := 16, ty := .u32, cls := .cor }

/-- The entry list of chapter 08. -/
def chapterCounters : List Entry :=
  [ticWraps, ticSlips, chEnable, chEdge, chDelay, chPrescale, chExportWorld, chExportKinds, chStatus, chQA, chQB,
    chEdges, chDeadtimeMissed, chOverflows, chLastStamp, chLastBound, chLastRaw, chLastPeriod, chLastFlags, pairA,
    pairB, pairMode, pairTimeout, pairExportWorld, pairClear, pairLast, pairStats, pairMissing]

end Sys2Proof.Machine.E
end

