-- ==== Sys2Proof/Machine/Entries3.lean ====
section
/-! DEFINITION. The dictionary entries of chapters 09, 10, 11, 12: one definition per row of the chapters' entry lists
(name, address, type, access class, default, owner, check set, stated values). -/

namespace Sys2Proof.Machine.E

/-- `SYN_SAFE_CLOCKS` (R246). -/
def synSafeClocks : Entry :=
  { idx := 0x5000, sub := 0x0, ty := .enum, cls := .rw, dflt := 1, owner := (.world 0), check := true, vals := [(0,
    1)] }
/-- `SYN_SAFE_PULSES` (R246). -/
def synSafePulses : Entry :=
  { idx := 0x5000, sub := 0x1, ty := .enum, cls := .rw, owner := (.world 0), check := true, vals := [(0, 1)] }
/-- `SYN_REALIGN_ON_STEP` (R246). -/
def synRealignOnStep : Entry :=
  { idx := 0x5000, sub := 0x2, ty := .bool, cls := .rw, owner := (.world 0), check := true }
/-- `SYN_REALIGN` (R246). -/
def synRealign : Entry :=
  { idx := 0x5000, sub := 0x3, ty := .u8, cls := .cmd, owner := (.world 0), vals := [(1, 1)] }
/-- `SYN_BYPASS_SWITCHES` (R246). -/
def synBypassSwitches : Entry :=
  { idx := 0x5000, sub := 0x4, ty := .u32, cls := .cor }
/-- `MDLL_ENABLE` (R246). -/
def mdllEnable : Entry :=
  { idx := 0x5100, sub := 0x0, stride := 0x20, count := 4, ty := .bool, cls := .rw, dfltAt := [(0, 1), (1, 1)],
    owner := (.world 0), check := true }
/-- `MDLL_REF` (R246). -/
def mdllRef : Entry :=
  { idx := 0x5100, sub := 0x1, stride := 0x20, count := 4, ty := .enum, cls := .rw, owner := (.world 0), check :=
    true, vals := [(0, 8)] }
/-- `MDLL_REF_HZ` (R246). -/
def mdllRefHz : Entry :=
  { idx := 0x5100, sub := 0x2, stride := 0x20, count := 4, ty := .u32, cls := .rw, dflt := 10000000, owner :=
    (.world 0), check := true, vals := [(5000000, 156250000)] }
/-- `MDLL_MULT_N` (R246). -/
def mdllMultN : Entry :=
  { idx := 0x5100, sub := 0x3, stride := 0x20, count := 4, ty := .u16, cls := .rw, dflt := 500, dfltAt := [(1,
    515)], owner := (.world 0), check := true, vals := [(20, 1280)] }
/-- `MDLL_MULT_F` (R246). -/
def mdllMultF : Entry :=
  { idx := 0x5100, sub := 0x4, stride := 0x20, count := 4, ty := .u32, cls := .rw, dfltAt := [(1, 2684354560)],
    owner := (.world 0), check := true }
/-- `MDLL_GLITCH` (R246). -/
def mdllGlitch : Entry :=
  { idx := 0x5100, sub := 0x5, stride := 0x20, count := 4, ty := .u16, cls := .rw, dflt := 100, owner := (.world 0),
    check := true, vals := [(1, 2500)] }
/-- `MDLL_RETURN_HOLD` (R246). -/
def mdllReturnHold : Entry :=
  { idx := 0x5100, sub := 0x6, stride := 0x20, count := 4, ty := .u32, cls := .rw, dflt := 1000, owner := (.world
    0), check := true, vals := [(10, 60000)] }
/-- `MDLL_STATE` (R246). -/
def mdllState : Entry :=
  { idx := 0x5110, sub := 0x0, stride := 0x20, count := 4, ty := .enum, cls := .ro }
/-- `MDLL_VCO_FREQ` (R246). -/
def mdllVcoFreq : Entry :=
  { idx := 0x5110, sub := 0x1, stride := 0x20, count := 4, ty := .u64, cls := .ro }
/-- `MDLL_COUNT_ERR` (R246). -/
def mdllCountErr : Entry :=
  { idx := 0x5110, sub := 0x2, stride := 0x20, count := 4, ty := .i32, cls := .ro }
/-- `MDLL_PHASE_ERR` (R246). -/
def mdllPhaseErr : Entry :=
  { idx := 0x5110, sub := 0x3, stride := 0x20, count := 4, ty := .i32, cls := .ro }
/-- `MDLL_LOCK_LOSSES` (R246). -/
def mdllLockLosses : Entry :=
  { idx := 0x5110, sub := 0x4, stride := 0x20, count := 4, ty := .u32, cls := .cor }
/-- `CLKOUT_ENABLE` (R246). -/
def clkoutEnable : Entry :=
  { idx := 0x5400, sub := 0x0, stride := 0x10, count := 16, ty := .bool, cls := .rw, owner := (.world 0), check :=
    true }
/-- `CLKOUT_SRC` (R246). -/
def clkoutSrc : Entry :=
  { idx := 0x5400, sub := 0x1, stride := 0x10, count := 16, ty := .u8, cls := .rw, owner := (.world 0), check :=
    true, vals := [(0, 3)] }
/-- `CLKOUT_DIV` (R246). -/
def clkoutDiv : Entry :=
  { idx := 0x5400, sub := 0x2, stride := 0x10, count := 16, ty := .u32, cls := .rw, dflt := 32, owner := (.world 0),
    check := true, vals := [(4, 16777215)] }
/-- `CLKOUT_PHASE` (R246). -/
def clkoutPhase : Entry :=
  { idx := 0x5400, sub := 0x3, stride := 0x10, count := 16, ty := .u64, cls := .rw, owner := (.world 0), check :=
    true }
/-- `CLKOUT_STATE` (R246). -/
def clkoutState : Entry :=
  { idx := 0x5400, sub := 0x4, stride := 0x10, count := 16, ty := .enum, cls := .ro }
/-- `CLKOUT_STATUS` (R246). -/
def clkoutStatus : Entry :=
  { idx := 0x5400, sub := 0x5, stride := 0x10, count := 16, ty := .u32, cls := .ro }
/-- `CLKOUT_EDGE_TIME` (R246). -/
def clkoutEdgeTime : Entry :=
  { idx := 0x5400, sub := 0x6, stride := 0x10, count := 16, words := 2, ty := .time96, cls := .ro }
/-- `CLKOUT_EDGE_BOUND` (R246). -/
def clkoutEdgeBound : Entry :=
  { idx := 0x5400, sub := 0x8, stride := 0x10, count := 16, ty := .bound32, cls := .ro, dflt := 0xFFFFFFFF }
/-- `CLKOUT_BYPASS_DIV` (R246). -/
def clkoutBypassDiv : Entry :=
  { idx := 0x5400, sub := 0x9, stride := 0x10, count := 16, ty := .u32, cls := .ro }
/-- `PPS_MODE` (R246). -/
def ppsMode : Entry :=
  { idx := 0x5600, sub := 0x0, stride := 0x10, count := 8, ty := .enum, cls := .rw, owner := (.world 0), check :=
    true, vals := [(0, 3)] }
/-- `PPS_PERIOD` (R246). -/
def ppsPeriod : Entry :=
  { idx := 0x5600, sub := 0x1, stride := 0x10, count := 8, ty := .u64, cls := .rw, dflt := 1000000000000, owner :=
    (.world 0), check := true, vals := [(16000, 4294967295000000)] }
/-- `PPS_OFFSET` (R246). -/
def ppsOffset : Entry :=
  { idx := 0x5600, sub := 0x2, stride := 0x10, count := 8, ty := .i64, cls := .rw, owner := (.world 0), check :=
    true, vals := [(-500000000000, 500000000000)] }
/-- `PPS_WIDTH` (R246). -/
def ppsWidth : Entry :=
  { idx := 0x5600, sub := 0x3, stride := 0x10, count := 8, ty := .u64, cls := .rw, dflt := 100000000000, owner :=
    (.world 0), check := true, vals := [(4000, 18446744073709551615)] }
/-- `PPS_POLARITY` (R246). -/
def ppsPolarity : Entry :=
  { idx := 0x5600, sub := 0x4, stride := 0x10, count := 8, ty := .enum, cls := .rw, owner := (.world 0), check :=
    true, vals := [(0, 1)] }
/-- `PPS_FOLLOW_CH` (R246). -/
def ppsFollowCh : Entry :=
  { idx := 0x5600, sub := 0x5, stride := 0x10, count := 8, ty := .u8, cls := .rw, owner := (.world 0), check :=
    true, vals := [(0, 11)] }
/-- `PPS_STATE` (R246). -/
def ppsState : Entry :=
  { idx := 0x5600, sub := 0x6, stride := 0x10, count := 8, ty := .enum, cls := .ro }
/-- `PPS_LAST_EDGE` (R246). -/
def ppsLastEdge : Entry :=
  { idx := 0x5600, sub := 0x7, stride := 0x10, count := 8, words := 2, ty := .time96, cls := .ro }
/-- `PPS_LAST_BOUND` (R246). -/
def ppsLastBound : Entry :=
  { idx := 0x5600, sub := 0x9, stride := 0x10, count := 8, ty := .bound32, cls := .ro, dflt := 0xFFFFFFFF }
/-- `PPS_MISSED` (R246). -/
def ppsMissed : Entry :=
  { idx := 0x5600, sub := 0xA, stride := 0x10, count := 8, ty := .u32, cls := .cor }
/-- `PPS_SKIPPED` (R246). -/
def ppsSkipped : Entry :=
  { idx := 0x5600, sub := 0xB, stride := 0x10, count := 8, ty := .u32, cls := .cor }
/-- `TL_MDLL` (R246). -/
def tlMdll : Entry :=
  { idx := 0x5800, sub := 0x0, ty := .u8, cls := .rw, dflt := 1, owner := (.world 0), check := true, vals := [(0,
    3)] }
/-- `TL_GROUP_SEQ` (R246). -/
def tlGroupSeq : Entry :=
  { idx := 0x5800, sub := 0x1, ty := .u16, cls := .ro }
/-- `TL_ENABLE` (R246). -/
def tlEnable : Entry :=
  { idx := 0x5810, sub := 0x0, stride := 0x10, count := 8, ty := .bool, cls := .rw, owner := (.world 0), check :=
    true }
/-- `TL_STATE` (R246). -/
def tlState : Entry :=
  { idx := 0x5810, sub := 0x1, stride := 0x10, count := 8, ty := .enum, cls := .ro }
/-- `TL_REASON` (R246). -/
def tlReason : Entry :=
  { idx := 0x5810, sub := 0x2, stride := 0x10, count := 8, ty := .enum, cls := .ro }
/-- `TL_UNDERRUNS` (R246). -/
def tlUnderruns : Entry :=
  { idx := 0x5810, sub := 0x3, stride := 0x10, count := 8, ty := .u32, cls := .cor }
/-- `TL_CLOCK_LOSSES` (R246). -/
def tlClockLosses : Entry :=
  { idx := 0x5810, sub := 0x4, stride := 0x10, count := 8, ty := .u32, cls := .cor }
/-- `TL_INVALID_FRAMES` (R246). -/
def tlInvalidFrames : Entry :=
  { idx := 0x5810, sub := 0x5, stride := 0x10, count := 8, ty := .u32, cls := .cor }

/-- The entry list of chapter 09. -/
def chapterSynthesis : List Entry :=
  [synSafeClocks, synSafePulses, synRealignOnStep, synRealign, synBypassSwitches, mdllEnable, mdllRef, mdllRefHz,
    mdllMultN, mdllMultF, mdllGlitch, mdllReturnHold, mdllState, mdllVcoFreq, mdllCountErr, mdllPhaseErr,
    mdllLockLosses, clkoutEnable, clkoutSrc, clkoutDiv, clkoutPhase, clkoutState, clkoutStatus, clkoutEdgeTime,
    clkoutEdgeBound, clkoutBypassDiv, ppsMode, ppsPeriod, ppsOffset, ppsWidth, ppsPolarity, ppsFollowCh, ppsState,
    ppsLastEdge, ppsLastBound, ppsMissed, ppsSkipped, tlMdll, tlGroupSeq, tlEnable] ++ [tlState, tlReason,
    tlUnderruns, tlClockLosses, tlInvalidFrames]

/-- `PORT_RXBUF_USED` (R268). -/
def portRxbufUsed : Entry :=
  { idx := 0x6000, sub := 0x0, ty := .u32, cls := .ro }
/-- `PORT_MODE` (R268). -/
def portMode : Entry :=
  { idx := 0x6100, sub := 0x0, stride := 0x40, count := 18, ty := .enum, cls := .rw, owner := (.world 0), check :=
    true, vals := [(0, 6)] }
/-- `PORT_ROLE` (R268). -/
def portRole : Entry :=
  { idx := 0x6100, sub := 0x1, stride := 0x40, count := 18, ty := .enum, cls := .rw, owner := (.world 0), check :=
    true, vals := [(0, 2)] }
/-- `PORT_MAC_ADDR` (R268). -/
def portMacAddr : Entry :=
  { idx := 0x6100, sub := 0x2, stride := 0x40, count := 18, ty := .u64, cls := .rw, owner := (.world 0), check :=
    true, vals := [(0, 281474976710655)] }
/-- `PORT_MAX_FRAME` (R268). -/
def portMaxFrame : Entry :=
  { idx := 0x6100, sub := 0x3, stride := 0x40, count := 18, ty := .u16, cls := .rw, dflt := 1522, owner := (.world
    0), check := true, vals := [(64, 16383)] }
/-- `PORT_LANE_TX_EQ` (R268). -/
def portLaneTxEq : Entry :=
  { idx := 0x6100, sub := 0x4, stride := 0x40, count := 18, ty := .u32, cls := .rw, dflt := 2560, owner := (.world
    0), check := true, vals := [(0, 16777215)] }
/-- `PORT_FC_MODE` (R268). -/
def portFcMode : Entry :=
  { idx := 0x6101, sub := 0x0, stride := 0x40, count := 18, ty := .enum, cls := .rw, owner := (.world 0), check :=
    true, vals := [(0, 2)] }
/-- `PORT_PFC_MASK` (R268). -/
def portPfcMask : Entry :=
  { idx := 0x6101, sub := 0x1, stride := 0x40, count := 18, ty := .u8, cls := .rw, dflt := 8, owner := (.world 0),
    check := true }
/-- `PORT_RXBUF` (R268). -/
def portRxbuf : Entry :=
  { idx := 0x6101, sub := 0x2, stride := 0x40, count := 18, ty := .u16, cls := .rw, dflt := 256, owner := (.world
    0), check := true, vals := [(64, 2048)] }
/-- `PORT_XOFF_PCT` (R268). -/
def portXoffPct : Entry :=
  { idx := 0x6101, sub := 0x3, stride := 0x40, count := 18, ty := .u8, cls := .rw, dflt := 75, owner := (.world 0),
    check := true, vals := [(10, 95)] }
/-- `PORT_XON_PCT` (R268). -/
def portXonPct : Entry :=
  { idx := 0x6101, sub := 0x4, stride := 0x40, count := 18, ty := .u8, cls := .rw, dflt := 25, owner := (.world 0),
    check := true, vals := [(5, 90)] }
/-- `PORT_PAUSE_QUANTA` (R268). -/
def portPauseQuanta : Entry :=
  { idx := 0x6101, sub := 0x5, stride := 0x40, count := 18, ty := .u16, cls := .rw, dflt := 65535, owner := (.world
    0), check := true, vals := [(1, 65535)] }
/-- `PORT_PAUSE_RX` (R268). -/
def portPauseRx : Entry :=
  { idx := 0x6101, sub := 0x6, stride := 0x40, count := 18, ty := .bool, cls := .rw, dflt := 1, owner := (.world 0),
    check := true }
/-- `PORT_STAMP_MODE` (R268). -/
def portStampMode : Entry :=
  { idx := 0x6102, sub := 0x0, stride := 0x40, count := 18, ty := .enum, cls := .rw, dflt := 2, owner := (.world 0),
    check := true, vals := [(0, 2)] }
/-- `PORT_RX_DELAY` (R268). -/
def portRxDelay : Entry :=
  { idx := 0x6102, sub := 0x1, stride := 0x40, count := 18, ty := .i32, cls := .rw, owner := (.world 0), check :=
    true, vals := [(-1000000, 1000000)] }
/-- `PORT_TX_DELAY` (R268). -/
def portTxDelay : Entry :=
  { idx := 0x6102, sub := 0x2, stride := 0x40, count := 18, ty := .i32, cls := .rw, owner := (.world 0), check :=
    true, vals := [(-1000000, 1000000)] }
/-- `PORT_LAUNCH_LEAD` (R268). -/
def portLaunchLead : Entry :=
  { idx := 0x6102, sub := 0x3, stride := 0x40, count := 18, ty := .u32, cls := .rw, dflt := 2000, owner := (.world
    0), check := true, vals := [(500, 100000)] }
/-- `PORT_HANDLE_QUIET` (R268). -/
def portHandleQuiet : Entry :=
  { idx := 0x6102, sub := 0x4, stride := 0x40, count := 18, ty := .u32, cls := .rw, dflt := 100, owner := (.world
    0), check := true, vals := [(1, 10000)] }
/-- `PORT_HANDLE_FORCE` (R268). -/
def portHandleForce : Entry :=
  { idx := 0x6102, sub := 0x5, stride := 0x40, count := 18, ty := .u8, cls := .cmd, owner := (.world 0), vals :=
    [(1, 1)] }
/-- `PORT_LINK` (R268). -/
def portLink : Entry :=
  { idx := 0x6108, sub := 0x0, stride := 0x40, count := 18, ty := .enum, cls := .ro }
/-- `PORT_CAL_STATE` (R268). -/
def portCalState : Entry :=
  { idx := 0x6108, sub := 0x1, stride := 0x40, count := 18, ty := .enum, cls := .ro }
/-- `PORT_STAMP_ACTIVE` (R268). -/
def portStampActive : Entry :=
  { idx := 0x6108, sub := 0x2, stride := 0x40, count := 18, ty := .enum, cls := .ro }
/-- `PORT_RX_OCCUPANCY` (R268). -/
def portRxOccupancy : Entry :=
  { idx := 0x6108, sub := 0x3, stride := 0x40, count := 18, ty := .u32, cls := .ro }
/-- `PORT_XOFF_ACTIVE` (R268). -/
def portXoffActive : Entry :=
  { idx := 0x6108, sub := 0x4, stride := 0x40, count := 18, ty := .u8, cls := .ro }
/-- `PORT_QUEUE_FILL` (R268). -/
def portQueueFill : Entry :=
  { idx := 0x6108, sub := 0x5, stride := 0x40, count := 18, ty := .u16, cls := .ro }
/-- `PORT_LAUNCH_FILL` (R268). -/
def portLaunchFill : Entry :=
  { idx := 0x6108, sub := 0x6, stride := 0x40, count := 18, ty := .u16, cls := .ro }
/-- `PORT_RX_FRAMES` (R268). -/
def portRxFrames : Entry :=
  { idx := 0x6109, sub := 0x0, stride := 0x40, count := 18, ty := .u64, cls := .cor }
/-- `PORT_RX_RUNT` (R268). -/
def portRxRunt : Entry :=
  { idx := 0x6109, sub := 0x1, stride := 0x40, count := 18, ty := .u32, cls := .cor }
/-- `PORT_RX_FCS_ERR` (R268). -/
def portRxFcsErr : Entry :=
  { idx := 0x6109, sub := 0x2, stride := 0x40, count := 18, ty := .u32, cls := .cor }
/-- `PORT_RX_TRUNC` (R268). -/
def portRxTrunc : Entry :=
  { idx := 0x6109, sub := 0x3, stride := 0x40, count := 18, ty := .u32, cls := .cor }
/-- `PORT_RX_FEC_UNCORR` (R268). -/
def portRxFecUncorr : Entry :=
  { idx := 0x6109, sub := 0x4, stride := 0x40, count := 18, ty := .u32, cls := .cor }
/-- `PORT_RX_PCS_ERR` (R268). -/
def portRxPcsErr : Entry :=
  { idx := 0x6109, sub := 0x5, stride := 0x40, count := 18, ty := .u32, cls := .cor }
/-- `PORT_RX_OVERFLOW` (R268). -/
def portRxOverflow : Entry :=
  { idx := 0x6109, sub := 0x6, stride := 0x40, count := 18, ty := .u32, cls := .cor }
/-- `PORT_TX_FRAMES` (R268). -/
def portTxFrames : Entry :=
  { idx := 0x6109, sub := 0x7, stride := 0x40, count := 18, ty := .u64, cls := .cor }
/-- `PORT_TX_OVERSIZE` (R268). -/
def portTxOversize : Entry :=
  { idx := 0x6109, sub := 0x8, stride := 0x40, count := 18, ty := .u32, cls := .cor }
/-- `PORT_LAUNCHES` (R268). -/
def portLaunches : Entry :=
  { idx := 0x6109, sub := 0x9, stride := 0x40, count := 18, ty := .u64, cls := .cor }
/-- `PORT_LAUNCH_RESCHED` (R268). -/
def portLaunchResched : Entry :=
  { idx := 0x6109, sub := 0xA, stride := 0x40, count := 18, ty := .u32, cls := .cor }
/-- `PORT_LAUNCH_DROPPED` (R268). -/
def portLaunchDropped : Entry :=
  { idx := 0x6109, sub := 0xB, stride := 0x40, count := 18, ty := .u32, cls := .cor }
/-- `PORT_STAMP_LOST` (R268). -/
def portStampLost : Entry :=
  { idx := 0x6109, sub := 0xC, stride := 0x40, count := 18, ty := .u32, cls := .cor }
/-- `PORT_PAUSE_SENT` (R268). -/
def portPauseSent : Entry :=
  { idx := 0x6109, sub := 0xD, stride := 0x40, count := 18, ty := .u32, cls := .cor }
/-- `PORT_PAUSE_RCVD` (R268). -/
def portPauseRcvd : Entry :=
  { idx := 0x6109, sub := 0xE, stride := 0x40, count := 18, ty := .u32, cls := .cor }
/-- `PORT_RECALS` (R268). -/
def portRecals : Entry :=
  { idx := 0x6109, sub := 0xF, stride := 0x40, count := 18, ty := .u32, cls := .cor }
/-- `PORT_LINK_REFUSED` (R268). -/
def portLinkRefused : Entry :=
  { idx := 0x6109, sub := 0x10, stride := 0x40, count := 18, ty := .u32, cls := .cor }

/-- The entry list of chapter 10. -/
def chapterPorts : List Entry :=
  [portRxbufUsed, portMode, portRole, portMacAddr, portMaxFrame, portLaneTxEq, portFcMode, portPfcMask, portRxbuf,
    portXoffPct, portXonPct, portPauseQuanta, portPauseRx, portStampMode, portRxDelay, portTxDelay, portLaunchLead,
    portHandleQuiet, portHandleForce, portLink, portCalState, portStampActive, portRxOccupancy, portXoffActive,
    portQueueFill, portLaunchFill, portRxFrames, portRxRunt, portRxFcsErr, portRxTrunc, portRxFecUncorr,
    portRxPcsErr, portRxOverflow, portTxFrames, portTxOversize, portLaunches, portLaunchResched, portLaunchDropped,
    portStampLost, portPauseSent] ++ [portPauseRcvd, portRecals, portLinkRefused]

/-- `PCIE_BIFUR` (R290). -/
def pcieBifur : Entry :=
  { idx := 0x6800, sub := 0x0, ty := .enum, cls := .ro }
/-- `PCIE_BIFUR_BURN` (R290). -/
def pcieBifurBurn : Entry :=
  { idx := 0x6800, sub := 0x1, ty := .u8, cls := .grd, owner := (.world 0), vals := [(0, 2)] }
/-- `PCIE_LINK_STATE` (R290). -/
def pcieLinkState : Entry :=
  { idx := 0x6810, sub := 0x0, stride := 0x1, count := 4, ty := .enum, cls := .ro }
/-- `PCIE_LINK_SPEED` (R290). -/
def pcieLinkSpeed : Entry :=
  { idx := 0x6810, sub := 0x1, stride := 0x1, count := 4, ty := .u8, cls := .ro }
/-- `PCIE_LINK_WIDTH` (R290). -/
def pcieLinkWidth : Entry :=
  { idx := 0x6810, sub := 0x2, stride := 0x1, count := 4, ty := .u8, cls := .ro }
/-- `PCIE_FLR_COUNT` (R290). -/
def pcieFlrCount : Entry :=
  { idx := 0x6810, sub := 0x3, stride := 0x1, count := 4, ty := .u32, cls := .cor }
/-- `HOSTCMD_WORLDS` (R290). -/
def hostcmdWorlds : Entry :=
  { idx := 0x6820, sub := 0x0, ty := .u16, cls := .rw, dflt := 1, owner := (.world 0), check := true }
/-- `SPIT_IRQ_PIN` (R290). -/
def spitIrqPin : Entry :=
  { idx := 0x6830, sub := 0x0, ty := .u8, cls := .rw, dflt := 255, owner := (.world 0), check := true, vals := [(0,
    3), (255, 255)] }
/-- `SPIT_CRC_ERR` (R290). -/
def spitCrcErr : Entry :=
  { idx := 0x6830, sub := 0x1, ty := .u32, cls := .cor }
/-- `SPIT_ABORTED` (R290). -/
def spitAborted : Entry :=
  { idx := 0x6830, sub := 0x2, ty := .u32, cls := .cor }
/-- `RING_BASE` (R290). -/
def ringBase : Entry :=
  { idx := 0x6A00, sub := 0x0, stride := 0x1, count := 128, ty := .u64, cls := .rw, owner := .perWorld }
/-- `RING_SIZE` (R290). -/
def ringSize : Entry :=
  { idx := 0x6A00, sub := 0x1, stride := 0x1, count := 128, ty := .u32, cls := .rw, owner := .perWorld, vals := [(0,
    65536)] }
/-- `RING_WB_ADDR` (R290). -/
def ringWbAddr : Entry :=
  { idx := 0x6A00, sub := 0x2, stride := 0x1, count := 128, ty := .u64, cls := .rw, owner := .perWorld }
/-- `RING_FUNC` (R290). -/
def ringFunc : Entry :=
  { idx := 0x6A00, sub := 0x3, stride := 0x1, count := 128, ty := .u8, cls := .rw, dflt := 255, owner := .perWorld,
    vals := [(0, 7)] }
/-- `RING_CTRL` (R290). -/
def ringCtrl : Entry :=
  { idx := 0x6A00, sub := 0x4, stride := 0x1, count := 128, ty := .u8, cls := .cmd, owner := .perWorld, vals := [(1,
    4)] }
/-- `RING_STATE` (R290). -/
def ringState : Entry :=
  { idx := 0x6A00, sub := 0x5, stride := 0x1, count := 128, ty := .enum, cls := .ro }
/-- `RING_DOORBELL` (R290). -/
def ringDoorbell : Entry :=
  { idx := 0x6A00, sub := 0x6, stride := 0x1, count := 128, ty := .u32, cls := .rw, owner := .perWorld }
/-- `RING_ENGINE_IDX` (R290). -/
def ringEngineIdx : Entry :=
  { idx := 0x6A00, sub := 0x7, stride := 0x1, count := 128, ty := .u32, cls := .ro }
/-- `RING_IRQ_VEC` (R290). -/
def ringIrqVec : Entry :=
  { idx := 0x6A00, sub := 0x8, stride := 0x1, count := 128, ty := .u8, cls := .rw, dflt := 255, owner := .perWorld,
    vals := [(0, 31), (128, 131), (255, 255)] }
/-- `RING_IRQ_COUNT` (R290). -/
def ringIrqCount : Entry :=
  { idx := 0x6A00, sub := 0x9, stride := 0x1, count := 128, ty := .u32, cls := .rw, dflt := 1, owner := .perWorld,
    vals := [(1, 65536)] }
/-- `RING_IRQ_TIME` (R290). -/
def ringIrqTime : Entry :=
  { idx := 0x6A00, sub := 0xA, stride := 0x1, count := 128, ty := .u32, cls := .rw, dflt := 10, owner := .perWorld,
    vals := [(0, 10000)] }
/-- `RING_QUIET` (R290). -/
def ringQuiet : Entry :=
  { idx := 0x6A00, sub := 0xB, stride := 0x1, count := 128, ty := .u32, cls := .rw, dflt := 1000, owner :=
    .perWorld, vals := [(0, 1000000)] }
/-- `RING_ERR` (R290). -/
def ringErr : Entry :=
  { idx := 0x6A00, sub := 0xC, stride := 0x1, count := 128, ty := .u64, cls := .ro }
/-- `RING_STARVED` (R290). -/
def ringStarved : Entry :=
  { idx := 0x6A00, sub := 0xD, stride := 0x1, count := 128, ty := .u32, cls := .cor }
/-- `RING_EMPTY` (R290). -/
def ringEmpty : Entry :=
  { idx := 0x6A00, sub := 0xE, stride := 0x1, count := 128, ty := .u32, cls := .cor }
/-- `RING_LOST` (R290). -/
def ringLost : Entry :=
  { idx := 0x6A00, sub := 0xF, stride := 0x1, count := 128, ty := .u32, cls := .cor }
/-- `RING_STALE` (R290). -/
def ringStale : Entry :=
  { idx := 0x6A00, sub := 0x10, stride := 0x1, count := 128, ty := .u32, cls := .cor }
/-- `RING_DESC_ERR` (R290). -/
def ringDescErr : Entry :=
  { idx := 0x6A00, sub := 0x11, stride := 0x1, count := 128, ty := .u32, cls := .cor }

/-- The entry list of chapter 11. -/
def chapterHost : List Entry :=
  [pcieBifur, pcieBifurBurn, pcieLinkState, pcieLinkSpeed, pcieLinkWidth, pcieFlrCount, hostcmdWorlds, spitIrqPin,
    spitCrcErr, spitAborted, ringBase, ringSize, ringWbAddr, ringFunc, ringCtrl, ringState, ringDoorbell,
    ringEngineIdx, ringIrqVec, ringIrqCount, ringIrqTime, ringQuiet, ringErr, ringStarved, ringEmpty, ringLost,
    ringStale, ringDescErr]

/-- `PTP_CLIENT_COUNT` (R323). -/
def ptpClientCount : Entry :=
  { idx := 0x7000, sub := 0x0, ty := .u32, cls := .ro }
/-- `PTP_CLIENT_QUIET` (R323). -/
def ptpClientQuiet : Entry :=
  { idx := 0x7000, sub := 0x1, ty := .u32, cls := .rw, dflt := 2000, owner := (.world 0), check := true, vals :=
    [(0, 60000)] }
/-- `PTP_CLIENT_FORCE` (R323). -/
def ptpClientForce : Entry :=
  { idx := 0x7000, sub := 0x2, ty := .u8, cls := .cmd, owner := (.world 0), vals := [(1, 1)] }
/-- `PTP_PLAN_PCT` (R323). -/
def ptpPlanPct : Entry :=
  { idx := 0x7000, sub := 0x3, ty := .u8, cls := .rw, dflt := 90, owner := (.world 0), check := true, vals := [(10,
    100)] }
/-- `PTP_PLAN_LOAD` (R323). -/
def ptpPlanLoad : Entry :=
  { idx := 0x7000, sub := 0x4, ty := .u32, cls := .ro }
/-- `PTP_PLAN_AUTH` (R323). -/
def ptpPlanAuth : Entry :=
  { idx := 0x7000, sub := 0x5, ty := .u32, cls := .ro }
/-- `PTP_SVC_DROP` (R323). -/
def ptpSvcDrop : Entry :=
  { idx := 0x7000, sub := 0x6, ty := .u32, cls := .cor }
/-- `PTP_RESP_TIMEOUT` (R323). -/
def ptpRespTimeout : Entry :=
  { idx := 0x7000, sub := 0x7, ty := .u32, cls := .rw, dflt := 1000, owner := (.world 0), check := true, vals :=
    [(10, 10000)] }
/-- `PTP_PARTNER_COUNT` (R323). -/
def ptpPartnerCount : Entry :=
  { idx := 0x7001, sub := 0x0, ty := .u16, cls := .ro }
/-- `PTP_PARTNER_MISS` (R323). -/
def ptpPartnerMiss : Entry :=
  { idx := 0x7001, sub := 0x1, ty := .u8, cls := .rw, dflt := 3, owner := (.world 0), check := true, vals := [(1,
    16)] }
/-- `PTP_PARTNER_QUIET` (R323). -/
def ptpPartnerQuiet : Entry :=
  { idx := 0x7001, sub := 0x2, ty := .u32, cls := .rw, dflt := 60, owner := (.world 0), check := true, vals := [(0,
    3600)] }
/-- `PTP_PARTNER_FORCE` (R323). -/
def ptpPartnerForce : Entry :=
  { idx := 0x7001, sub := 0x3, ty := .u8, cls := .cmd, owner := (.world 0), vals := [(1, 1)] }
/-- `PTP_PARTNER_AUTH` (R323). -/
def ptpPartnerAuth : Entry :=
  { idx := 0x7001, sub := 0x4, ty := .bool, cls := .rw, dflt := 1, owner := (.world 0), check := true }
/-- `PTP_PARTNER_LIMIT` (R323). -/
def ptpPartnerLimit : Entry :=
  { idx := 0x7001, sub := 0x5, ty := .bound32, cls := .rw, dflt := 100000, owner := (.world 0), check := true }
/-- `PTP_PARTNER_WORST` (R323). -/
def ptpPartnerWorst : Entry :=
  { idx := 0x7001, sub := 0x6, ty := .bound32, cls := .ro }
/-- `PTP_PARTNER_FULL` (R323). -/
def ptpPartnerFull : Entry :=
  { idx := 0x7001, sub := 0x7, ty := .u32, cls := .cor }
/-- `PTP_PARTNER_STALE` (R323). -/
def ptpPartnerStale : Entry :=
  { idx := 0x7001, sub := 0x8, ty := .u32, cls := .cor }
/-- `PTP_SA_QUIET` (R323). -/
def ptpSaQuiet : Entry :=
  { idx := 0x7002, sub := 0x0, ty := .u32, cls := .rw, dflt := 10, owner := (.world 0), check := true, vals := [(0,
    3600)] }
/-- `PTP_ENABLE` (R324). -/
def ptpEnable : Entry :=
  { idx := 0x7100, sub := 0x0, stride := 0x20, count := 16, ty := .bool, cls := .rw, owner := (.world 0), check :=
    true }
/-- `PTP_PROFILE` (R324). -/
def ptpProfile : Entry :=
  { idx := 0x7100, sub := 0x1, stride := 0x20, count := 16, ty := .enum, cls := .rw, owner := (.world 0), check :=
    true, vals := [(0, 3)] }
/-- `PTP_DOMAIN` (R324). -/
def ptpDomain : Entry :=
  { idx := 0x7100, sub := 0x2, stride := 0x20, count := 16, ty := .u8, cls := .rw, owner := (.world 0), check :=
    true }
/-- `PTP_TRANSPORT` (R324). -/
def ptpTransport : Entry :=
  { idx := 0x7100, sub := 0x3, stride := 0x20, count := 16, ty := .enum, cls := .rw, dflt := 1, owner := (.world 0),
    check := true, vals := [(0, 2)] }
/-- `PTP_PORTS_MASTER` (R324). -/
def ptpPortsMaster : Entry :=
  { idx := 0x7100, sub := 0x4, stride := 0x20, count := 16, ty := .u32, cls := .rw, owner := (.world 0), check :=
    true, vals := [(0, 262143)] }
/-- `PTP_PORTS_UPSTREAM` (R324). -/
def ptpPortsUpstream : Entry :=
  { idx := 0x7100, sub := 0x5, stride := 0x20, count := 16, ty := .u32, cls := .rw, owner := (.world 0), check :=
    true, vals := [(0, 262143)] }
/-- `PTP_TWO_STEP` (R324). -/
def ptpTwoStep : Entry :=
  { idx := 0x7100, sub := 0x6, stride := 0x20, count := 16, ty := .bool, cls := .rw, owner := (.world 0), check :=
    true }
/-- `PTP_UNICAST` (R324). -/
def ptpUnicast : Entry :=
  { idx := 0x7100, sub := 0x7, stride := 0x20, count := 16, ty := .bool, cls := .rw, owner := (.world 0), check :=
    true }
/-- `PTP_CLOCK_ID` (R324). -/
def ptpClockId : Entry :=
  { idx := 0x7100, sub := 0x8, stride := 0x20, count := 16, ty := .u64, cls := .rw, owner := (.world 0), check :=
    true }
/-- `PTP_PRIORITY1` (R324). -/
def ptpPriority1 : Entry :=
  { idx := 0x7100, sub := 0x9, stride := 0x20, count := 16, ty := .u8, cls := .rw, dflt := 128, owner := (.world 0),
    check := true }
/-- `PTP_PRIORITY2` (R324). -/
def ptpPriority2 : Entry :=
  { idx := 0x7100, sub := 0xA, stride := 0x20, count := 16, ty := .u8, cls := .rw, dflt := 128, owner := (.world 0),
    check := true }
/-- `PTP_L2_DEST` (R324). -/
def ptpL2Dest : Entry :=
  { idx := 0x7100, sub := 0xB, stride := 0x20, count := 16, ty := .enum, cls := .rw, owner := (.world 0), check :=
    true, vals := [(0, 1)] }
/-- `PTP_LOG_ANNOUNCE` (R324). -/
def ptpLogAnnounce : Entry :=
  { idx := 0x7101, sub := 0x0, stride := 0x20, count := 16, ty := .i32, cls := .rw, dflt := 1, owner := (.world 0),
    check := true, vals := [(-3, 4)] }
/-- `PTP_LOG_SYNC` (R324). -/
def ptpLogSync : Entry :=
  { idx := 0x7101, sub := 0x1, stride := 0x20, count := 16, ty := .i32, cls := .rw, owner := (.world 0), check :=
    true, vals := [(-7, 4)] }
/-- `PTP_LOG_MIN_DELAY` (R324). -/
def ptpLogMinDelay : Entry :=
  { idx := 0x7101, sub := 0x2, stride := 0x20, count := 16, ty := .i32, cls := .rw, owner := (.world 0), check :=
    true, vals := [(-7, 4)] }
/-- `PTP_ANNOUNCE_TIMEOUT` (R324). -/
def ptpAnnounceTimeout : Entry :=
  { idx := 0x7101, sub := 0x3, stride := 0x20, count := 16, ty := .u8, cls := .rw, dflt := 3, owner := (.world 0),
    check := true, vals := [(2, 10)] }
/-- `PTP_SYNC_TIMEOUT` (R324). -/
def ptpSyncTimeout : Entry :=
  { idx := 0x7101, sub := 0x4, stride := 0x20, count := 16, ty := .u8, cls := .rw, dflt := 3, owner := (.world 0),
    check := true, vals := [(2, 10)] }
/-- `PTP_FILTER_PCT` (R324). -/
def ptpFilterPct : Entry :=
  { idx := 0x7101, sub := 0x5, stride := 0x20, count := 16, ty := .u8, cls := .rw, dflt := 25, owner := (.world 0),
    check := true, vals := [(1, 100)] }
/-- `PTP_GRANT_MIN` (R324). -/
def ptpGrantMin : Entry :=
  { idx := 0x7102, sub := 0x0, stride := 0x20, count := 16, ty := .u32, cls := .rw, dflt := 60, owner := (.world 0),
    check := true, vals := [(10, 10000)] }
/-- `PTP_GRANT_MAX` (R324). -/
def ptpGrantMax : Entry :=
  { idx := 0x7102, sub := 0x1, stride := 0x20, count := 16, ty := .u32, cls := .rw, dflt := 1000, owner := (.world
    0), check := true, vals := [(10, 10000)] }
/-- `PTP_MIN_LOG_SYNC` (R324). -/
def ptpMinLogSync : Entry :=
  { idx := 0x7102, sub := 0x2, stride := 0x20, count := 16, ty := .i32, cls := .rw, dflt := 18446744073709551609,
    owner := (.world 0), check := true }
/-- `PTP_MIN_LOG_ANNOUNCE` (R324). -/
def ptpMinLogAnnounce : Entry :=
  { idx := 0x7102, sub := 0x3, stride := 0x20, count := 16, ty := .i32, cls := .rw, dflt := 18446744073709551613,
    owner := (.world 0), check := true }
/-- `PTP_MIN_LOG_DELAY` (R324). -/
def ptpMinLogDelay : Entry :=
  { idx := 0x7102, sub := 0x4, stride := 0x20, count := 16, ty := .i32, cls := .rw, dflt := 18446744073709551609,
    owner := (.world 0), check := true }
/-- `PTP_AUTH_MODE` (R324). -/
def ptpAuthMode : Entry :=
  { idx := 0x7103, sub := 0x0, stride := 0x20, count := 16, ty := .enum, cls := .rw, owner := (.world 0), check :=
    true, vals := [(0, 2)] }
/-- `PTP_TX_SA` (R324). -/
def ptpTxSa : Entry :=
  { idx := 0x7103, sub := 0x1, stride := 0x20, count := 16, ty := .u16, cls := .rw, owner := (.world 0), check :=
    true, vals := [(0, 1023)] }
/-- `PTP_BOUND_TLV` (R324). -/
def ptpBoundTlv : Entry :=
  { idx := 0x7103, sub := 0x2, stride := 0x20, count := 16, ty := .bool, cls := .rw, dflt := 1, owner := (.world 0),
    check := true }
/-- `PTP_BOUND_UNAUTH` (R324). -/
def ptpBoundUnauth : Entry :=
  { idx := 0x7103, sub := 0x3, stride := 0x20, count := 16, ty := .bool, cls := .rw, owner := (.world 0), check :=
    true }
/-- `PTP_HOLD_OOS_CLASS` (R324). -/
def ptpHoldOosClass : Entry :=
  { idx := 0x7103, sub := 0x4, stride := 0x20, count := 16, ty := .u8, cls := .rw, dflt := 140, owner := (.world 0),
    check := true, vals := [(140, 140), (150, 150), (160, 160)] }
/-- `PTP_OSLV` (R324). -/
def ptpOslv : Entry :=
  { idx := 0x7103, sub := 0x5, stride := 0x20, count := 16, ty := .u16, cls := .rw, dflt := 20061, owner := (.world
    0), check := true }
/-- `PTP_PARTNER_ACCEPT` (R324). -/
def ptpPartnerAccept : Entry :=
  { idx := 0x7103, sub := 0x6, stride := 0x20, count := 16, ty := .bool, cls := .rw, dflt := 1, owner := (.world 0),
    check := true }
/-- `PTP_UM_ADDR_HI` (R324). -/
def ptpUmAddrHi : Entry :=
  { idx := 0x7104, sub := 0x0, stride := 0x20, count := 64, inner := 4, ty := .u64, cls := .rw, owner := (.world 0),
    check := true }
/-- `PTP_UM_ADDR_LO` (R324). -/
def ptpUmAddrLo : Entry :=
  { idx := 0x7104, sub := 0x1, stride := 0x20, count := 64, inner := 4, ty := .u64, cls := .rw, owner := (.world 0),
    check := true }
/-- `PTP_UM_ENABLE` (R324). -/
def ptpUmEnable : Entry :=
  { idx := 0x7104, sub := 0x2, stride := 0x20, count := 64, inner := 4, ty := .bool, cls := .rw, owner := (.world
    0), check := true }
/-- `PTP_STATE` (R324). -/
def ptpState : Entry :=
  { idx := 0x7108, sub := 0x0, stride := 0x20, count := 16, ty := .enum, cls := .ro }
/-- `PTP_ROLE` (R324). -/
def ptpRole : Entry :=
  { idx := 0x7108, sub := 0x1, stride := 0x20, count := 16, ty := .enum, cls := .ro }
/-- `PTP_CLASS_TX` (R324). -/
def ptpClassTx : Entry :=
  { idx := 0x7108, sub := 0x2, stride := 0x20, count := 16, ty := .u8, cls := .ro, dflt := 248 }
/-- `PTP_ACCURACY_TX` (R324). -/
def ptpAccuracyTx : Entry :=
  { idx := 0x7108, sub := 0x3, stride := 0x20, count := 16, ty := .u8, cls := .ro, dflt := 254 }
/-- `PTP_PARENT_ID` (R324). -/
def ptpParentId : Entry :=
  { idx := 0x7108, sub := 0x4, stride := 0x20, count := 16, ty := .u64, cls := .ro }
/-- `PTP_OFFSET` (R324). -/
def ptpOffset : Entry :=
  { idx := 0x7108, sub := 0x5, stride := 0x20, count := 16, ty := .i64, cls := .ro }
/-- `PTP_MEAN_DELAY` (R324). -/
def ptpMeanDelay : Entry :=
  { idx := 0x7108, sub := 0x6, stride := 0x20, count := 16, ty := .i64, cls := .ro }
/-- `PTP_CLIENTS` (R324). -/
def ptpClients : Entry :=
  { idx := 0x7108, sub := 0x7, stride := 0x20, count := 16, ty := .u32, cls := .ro }
/-- `PTP_REQ_EPOCH` (R324). -/
def ptpReqEpoch : Entry :=
  { idx := 0x7108, sub := 0x8, stride := 0x20, count := 16, ty := .u16, cls := .ro }
/-- `PTP_SYNC_EPOCH` (R324). -/
def ptpSyncEpoch : Entry :=
  { idx := 0x7108, sub := 0x9, stride := 0x20, count := 16, ty := .u16, cls := .ro }
/-- `PTP_RX_MSGS` (R324). -/
def ptpRxMsgs : Entry :=
  { idx := 0x7109, sub := 0x0, stride := 0x20, count := 16, ty := .u64, cls := .cor }
/-- `PTP_TX_MSGS` (R324). -/
def ptpTxMsgs : Entry :=
  { idx := 0x7109, sub := 0x1, stride := 0x20, count := 16, ty := .u64, cls := .cor }
/-- `PTP_RX_DROP` (R324). -/
def ptpRxDrop : Entry :=
  { idx := 0x7109, sub := 0x2, stride := 0x20, count := 16, ty := .u32, cls := .cor }
/-- `PTP_AUTH_FAIL` (R324). -/
def ptpAuthFail : Entry :=
  { idx := 0x7109, sub := 0x3, stride := 0x20, count := 16, ty := .u32, cls := .cor }
/-- `PTP_STALE` (R324). -/
def ptpStale : Entry :=
  { idx := 0x7109, sub := 0x4, stride := 0x20, count := 16, ty := .u32, cls := .cor }
/-- `PTP_GRANT_DENIED` (R324). -/
def ptpGrantDenied : Entry :=
  { idx := 0x7109, sub := 0x5, stride := 0x20, count := 16, ty := .u32, cls := .cor }
/-- `PTP_STORE_FULL` (R324). -/
def ptpStoreFull : Entry :=
  { idx := 0x7109, sub := 0x6, stride := 0x20, count := 16, ty := .u32, cls := .cor }
/-- `PTP_FOLLOWUP_LOST` (R324). -/
def ptpFollowupLost : Entry :=
  { idx := 0x7109, sub := 0x7, stride := 0x20, count := 16, ty := .u32, cls := .cor }
/-- `PTP_UNMATCHED` (R324). -/
def ptpUnmatched : Entry :=
  { idx := 0x7109, sub := 0x8, stride := 0x20, count := 16, ty := .u32, cls := .cor }
/-- `PTP_TX_SUPPRESSED` (R324). -/
def ptpTxSuppressed : Entry :=
  { idx := 0x7109, sub := 0x9, stride := 0x20, count := 16, ty := .u32, cls := .cor }
/-- `PTP_KEY_FAIL` (R324). -/
def ptpKeyFail : Entry :=
  { idx := 0x7109, sub := 0xA, stride := 0x20, count := 16, ty := .u32, cls := .cor }
/-- `SA_KEY` (R325). -/
def saKey : Entry :=
  { idx := 0x7400, sub := 0x0, stride := 0x1, count := 1024, ty := .keyref, cls := .rw, owner := (.world 0), check
    := true }
/-- `SA_ALG` (R325). -/
def saAlg : Entry :=
  { idx := 0x7400, sub := 0x1, stride := 0x1, count := 1024, ty := .enum, cls := .rw, owner := (.world 0), check :=
    true, vals := [(0, 1)] }
/-- `SA_SPP` (R325). -/
def saSpp : Entry :=
  { idx := 0x7400, sub := 0x2, stride := 0x1, count := 1024, ty := .u8, cls := .rw, owner := (.world 0), check :=
    true }
/-- `SA_INSTANCES` (R325). -/
def saInstances : Entry :=
  { idx := 0x7400, sub := 0x3, stride := 0x1, count := 1024, ty := .u16, cls := .rw, owner := (.world 0), check :=
    true }
/-- `SA_CTRL` (R325). -/
def saCtrl : Entry :=
  { idx := 0x7400, sub := 0x4, stride := 0x1, count := 1024, ty := .u8, cls := .cmd, owner := (.world 0), vals :=
    [(1, 2)] }
/-- `SA_HANDLE` (R325). -/
def saHandle : Entry :=
  { idx := 0x7400, sub := 0x5, stride := 0x1, count := 1024, ty := .handle, cls := .ro }
/-- `SA_STATE` (R325). -/
def saState : Entry :=
  { idx := 0x7400, sub := 0x6, stride := 0x1, count := 1024, ty := .enum, cls := .ro }
/-- `SA_TX_SEQ` (R325). -/
def saTxSeq : Entry :=
  { idx := 0x7400, sub := 0x7, stride := 0x1, count := 1024, ty := .u32, cls := .ro }
/-- `PTP_CLIENT_SEL` (R325). -/
def ptpClientSel : Entry :=
  { idx := 0x7080, sub := 0x0, stride := 0x1, count := 16, ty := .u32, cls := .rw, owner := .perWorld }
/-- `PTP_CLIENT_REC` (R325). -/
def ptpClientRec : Entry :=
  { idx := 0x7080, sub := 0x1, stride := 0x1, count := 16, words := 32, ty := .octstr, cls := .ro }
/-- `PTP_PARTNER_SEL` (R325). -/
def ptpPartnerSel : Entry :=
  { idx := 0x7080, sub := 0x21, stride := 0x1, count := 16, ty := .u16, cls := .rw, owner := .perWorld, vals := [(0,
    4095)] }
/-- `PTP_PARTNER_REC` (R325). -/
def ptpPartnerRec : Entry :=
  { idx := 0x7080, sub := 0x22, stride := 0x1, count := 16, words := 32, ty := .octstr, cls := .ro }

/-- The entry list of chapter 12. -/
def chapterPtp : List Entry :=
  [ptpClientCount, ptpClientQuiet, ptpClientForce, ptpPlanPct, ptpPlanLoad, ptpPlanAuth, ptpSvcDrop, ptpRespTimeout,
    ptpPartnerCount, ptpPartnerMiss, ptpPartnerQuiet, ptpPartnerForce, ptpPartnerAuth, ptpPartnerLimit,
    ptpPartnerWorst, ptpPartnerFull, ptpPartnerStale, ptpSaQuiet, ptpEnable, ptpProfile, ptpDomain, ptpTransport,
    ptpPortsMaster, ptpPortsUpstream, ptpTwoStep, ptpUnicast, ptpClockId, ptpPriority1, ptpPriority2, ptpL2Dest,
    ptpLogAnnounce, ptpLogSync, ptpLogMinDelay, ptpAnnounceTimeout, ptpSyncTimeout, ptpFilterPct, ptpGrantMin,
    ptpGrantMax, ptpMinLogSync, ptpMinLogAnnounce] ++ [ptpMinLogDelay, ptpAuthMode, ptpTxSa, ptpBoundTlv,
    ptpBoundUnauth, ptpHoldOosClass, ptpOslv, ptpPartnerAccept, ptpUmAddrHi, ptpUmAddrLo, ptpUmEnable, ptpState,
    ptpRole, ptpClassTx, ptpAccuracyTx, ptpParentId, ptpOffset, ptpMeanDelay, ptpClients, ptpReqEpoch, ptpSyncEpoch,
    ptpRxMsgs, ptpTxMsgs, ptpRxDrop, ptpAuthFail, ptpStale, ptpGrantDenied, ptpStoreFull, ptpFollowupLost,
    ptpUnmatched, ptpTxSuppressed, ptpKeyFail, saKey, saAlg, saSpp, saInstances, saCtrl, saHandle, saState, saTxSeq]
    ++ [ptpClientSel, ptpClientRec, ptpPartnerSel, ptpPartnerRec]

end Sys2Proof.Machine.E
end

