-- ==== Sys2Proof/Machine/Entries4.lean ====
section
/-! DEFINITION. The dictionary entries of chapters 13, 14, 15, 16, 17, 18, 19: one definition per row of the
    chapters' entry lists
(name, address, type, access class, default, owner, check set, stated values). -/

namespace Sys2Proof.Machine.E

/-- `NTP_ENABLE` (R340). -/
def ntpEnable : Entry :=
  { idx := 0x7800, sub := 0x0, ty := .bool, cls := .rw, owner := (.world 0), check := true }
/-- `NTP_UDP_PORT` (R340). -/
def ntpUdpPort : Entry :=
  { idx := 0x7800, sub := 0x1, ty := .u16, cls := .rw, dflt := 123, owner := (.world 0), check := true, vals := [(1,
    65535)] }
/-- `NTP_PORTS` (R340). -/
def ntpPorts : Entry :=
  { idx := 0x7800, sub := 0x2, ty := .u32, cls := .rw, owner := (.world 0), check := true, vals := [(0, 262143)] }
/-- `NTP_AUTH_MODE` (R340). -/
def ntpAuthMode : Entry :=
  { idx := 0x7800, sub := 0x3, ty := .enum, cls := .rw, owner := (.world 0), check := true, vals := [(0, 1)] }
/-- `NTP_POLL_MIN` (R340). -/
def ntpPollMin : Entry :=
  { idx := 0x7800, sub := 0x4, ty := .i32, cls := .rw, dflt := 4, owner := (.world 0), check := true, vals := [(3,
    17)] }
/-- `NTP_POLL_MAX` (R340). -/
def ntpPollMax : Entry :=
  { idx := 0x7800, sub := 0x5, ty := .i32, cls := .rw, dflt := 17, owner := (.world 0), check := true, vals := [(3,
    17)] }
/-- `NTP_OOT_STRATUM` (R340). -/
def ntpOotStratum : Entry :=
  { idx := 0x7800, sub := 0x6, ty := .u8, cls := .rw, dflt := 16, owner := (.world 0), check := true, vals := [(1,
    16)] }
/-- `NTP_SMEAR_REFID` (R340). -/
def ntpSmearRefid : Entry :=
  { idx := 0x7800, sub := 0x7, ty := .u32, cls := .rw, dflt := 0x534D4552, owner := (.world 0), check := true }
/-- `NTP_RATE_PREFIX4` (R340). -/
def ntpRatePrefix4 : Entry :=
  { idx := 0x7801, sub := 0x0, ty := .u8, cls := .rw, dflt := 32, owner := (.world 0), check := true, vals := [(8,
    32)] }
/-- `NTP_RATE_PREFIX6` (R340). -/
def ntpRatePrefix6 : Entry :=
  { idx := 0x7801, sub := 0x1, ty := .u8, cls := .rw, dflt := 64, owner := (.world 0), check := true, vals := [(16,
    128)] }
/-- `NTP_RATE_PER_S` (R340). -/
def ntpRatePerS : Entry :=
  { idx := 0x7801, sub := 0x2, ty := .u16, cls := .rw, dflt := 4, owner := (.world 0), check := true, vals := [(1,
    1000)] }
/-- `NTP_RATE_BURST` (R340). -/
def ntpRateBurst : Entry :=
  { idx := 0x7801, sub := 0x3, ty := .u16, cls := .rw, dflt := 16, owner := (.world 0), check := true, vals := [(1,
    4096)] }
/-- `NTP_KOD_ENABLE` (R340). -/
def ntpKodEnable : Entry :=
  { idx := 0x7801, sub := 0x4, ty := .bool, cls := .rw, dflt := 1, owner := (.world 0), check := true }
/-- `NTP_KOD_POLL` (R340). -/
def ntpKodPoll : Entry :=
  { idx := 0x7801, sub := 0x5, ty := .i32, cls := .rw, dflt := 10, owner := (.world 0), check := true, vals := [(4,
    17)] }
/-- `NTP_KOD_INTERVAL` (R340). -/
def ntpKodInterval : Entry :=
  { idx := 0x7801, sub := 0x6, ty := .u32, cls := .rw, dflt := 1000, owner := (.world 0), check := true, vals :=
    [(10, 60000)] }
/-- `NTS_KEY_SOURCE` (R340). -/
def ntsKeySource : Entry :=
  { idx := 0x7802, sub := 0x0, ty := .enum, cls := .grd, owner := (.world 0), check := true, vals := [(0, 1)] }
/-- `NTS_PARENT_KEY` (R340). -/
def ntsParentKey : Entry :=
  { idx := 0x7802, sub := 0x1, ty := .keyref, cls := .grd, owner := (.world 0), check := true }
/-- `NTS_ROTATE_PERIOD` (R340). -/
def ntsRotatePeriod : Entry :=
  { idx := 0x7802, sub := 0x2, ty := .u32, cls := .rw, dflt := 86400, owner := (.world 0), check := true, vals :=
    [(3600, 2592000)] }
/-- `NTS_KEEP` (R340). -/
def ntsKeep : Entry :=
  { idx := 0x7802, sub := 0x3, ty := .u8, cls := .rw, dflt := 1, owner := (.world 0), check := true, vals := [(0,
    7)] }
/-- `NTS_KEY_ID` (R340). -/
def ntsKeyId : Entry :=
  { idx := 0x7802, sub := 0x4, ty := .u32, cls := .ro }
/-- `NTS_ROTATE_IN` (R340). -/
def ntsRotateIn : Entry :=
  { idx := 0x7802, sub := 0x5, ty := .u32, cls := .ro, dflt := 0xFFFFFFFF }
/-- `NTP_REQUESTS` (R340). -/
def ntpRequests : Entry :=
  { idx := 0x7820, sub := 0x0, ty := .u64, cls := .cor }
/-- `NTP_RESPONSES` (R340). -/
def ntpResponses : Entry :=
  { idx := 0x7820, sub := 0x1, ty := .u64, cls := .cor }
/-- `NTP_NTS_REQUESTS` (R340). -/
def ntpNtsRequests : Entry :=
  { idx := 0x7820, sub := 0x2, ty := .u64, cls := .cor }
/-- `NTP_NAK` (R340). -/
def ntpNak : Entry :=
  { idx := 0x7820, sub := 0x3, ty := .u32, cls := .cor }
/-- `NTP_KOD_SENT` (R340). -/
def ntpKodSent : Entry :=
  { idx := 0x7820, sub := 0x4, ty := .u32, cls := .cor }
/-- `NTP_RATE_DROP` (R340). -/
def ntpRateDrop : Entry :=
  { idx := 0x7820, sub := 0x5, ty := .u32, cls := .cor }
/-- `NTP_MALFORMED` (R340). -/
def ntpMalformed : Entry :=
  { idx := 0x7820, sub := 0x6, ty := .u32, cls := .cor }
/-- `NTP_PLAIN_REFUSED` (R340). -/
def ntpPlainRefused : Entry :=
  { idx := 0x7820, sub := 0x7, ty := .u32, cls := .cor }
/-- `NTP_MINTED` (R340). -/
def ntpMinted : Entry :=
  { idx := 0x7820, sub := 0x8, ty := .u64, cls := .cor }
/-- `NTS_MK_KEY` (R341). -/
def ntsMkKey : Entry :=
  { idx := 0x7810, sub := 0x0, stride := 0x1, count := 8, ty := .keyref, cls := .rw, owner := (.world 0), check :=
    true }
/-- `NTS_MK_ID` (R341). -/
def ntsMkId : Entry :=
  { idx := 0x7810, sub := 0x1, stride := 0x1, count := 8, ty := .u32, cls := .rw, owner := (.world 0), check := true }
/-- `NTS_MK_CTRL` (R341). -/
def ntsMkCtrl : Entry :=
  { idx := 0x7810, sub := 0x2, stride := 0x1, count := 8, ty := .u8, cls := .cmd, owner := (.world 0), vals := [(1,
    2)] }
/-- `NTS_MK_STATE` (R341). -/
def ntsMkState : Entry :=
  { idx := 0x7810, sub := 0x3, stride := 0x1, count := 8, ty := .enum, cls := .ro }

/-- The entry list of chapter 13. -/
def chapterNtp : List Entry :=
  [ntpEnable, ntpUdpPort, ntpPorts, ntpAuthMode, ntpPollMin, ntpPollMax, ntpOotStratum, ntpSmearRefid,
    ntpRatePrefix4, ntpRatePrefix6, ntpRatePerS, ntpRateBurst, ntpKodEnable, ntpKodPoll, ntpKodInterval,
    ntsKeySource, ntsParentKey, ntsRotatePeriod, ntsKeep, ntsKeyId, ntsRotateIn, ntpRequests, ntpResponses,
    ntpNtsRequests, ntpNak, ntpKodSent, ntpRateDrop, ntpMalformed, ntpPlainRefused, ntpMinted, ntsMkKey, ntsMkId,
    ntsMkCtrl, ntsMkState]

/-- `TAP_DIGEST_KEY` (R357). -/
def tapDigestKey : Entry :=
  { idx := 0x8000, sub := 0x0, ty := .keyref, cls := .grd, owner := (.world 0), check := true }
/-- `TAP_DIGEST_RATE` (R357). -/
def tapDigestRate : Entry :=
  { idx := 0x8000, sub := 0x1, ty := .u32, cls := .ro, dflt := 384 }
/-- `TAP_DIGEST_FILL` (R357). -/
def tapDigestFill : Entry :=
  { idx := 0x8000, sub := 0x2, ty := .u16, cls := .ro }
/-- `TAP_KEY_FAIL` (R357). -/
def tapKeyFail : Entry :=
  { idx := 0x8000, sub := 0x3, ty := .u32, cls := .cor }
/-- `TAP_WORLD` (R358). -/
def tapWorld : Entry :=
  { idx := 0x8100, sub := 0x0, stride := 0x10, count := 16, ty := .u8, cls := .rw, dflt := 255, owner := (.world 0),
    check := true, vals := [(0, 14), (255, 255)] }
/-- `INLINE_PEER` (R358). -/
def inlinePeer : Entry :=
  { idx := 0x8100, sub := 0x1, stride := 0x10, count := 16, ty := .u8, cls := .rw, dflt := 255, owner := (.world 0),
    check := true, vals := [(0, 15), (255, 255)] }
/-- `INLINE_STATE` (R358). -/
def inlineState : Entry :=
  { idx := 0x8101, sub := 0x0, stride := 0x10, count := 16, ty := .enum, cls := .ro }
/-- `INLINE_LATENCY` (R358). -/
def inlineLatency : Entry :=
  { idx := 0x8101, sub := 0x1, stride := 0x10, count := 16, ty := .u32, cls := .ro }
/-- `TAP_SEQ_NEXT` (R358). -/
def tapSeqNext : Entry :=
  { idx := 0x8101, sub := 0x2, stride := 0x10, count := 16, ty := .u32, cls := .ro }
/-- `TAP_LOSS_PENDING` (R358). -/
def tapLossPending : Entry :=
  { idx := 0x8101, sub := 0x3, stride := 0x10, count := 16, ty := .u32, cls := .ro }
/-- `TAP_FRAMES` (R358). -/
def tapFrames : Entry :=
  { idx := 0x8102, sub := 0x0, stride := 0x10, count := 16, ty := .u64, cls := .cor }
/-- `TAP_LOST` (R358). -/
def tapLost : Entry :=
  { idx := 0x8102, sub := 0x1, stride := 0x10, count := 16, ty := .u32, cls := .cor }
/-- `TAP_NO_DIGEST` (R358). -/
def tapNoDigest : Entry :=
  { idx := 0x8102, sub := 0x2, stride := 0x10, count := 16, ty := .u32, cls := .cor }
/-- `TAP_FCS_BAD` (R358). -/
def tapFcsBad : Entry :=
  { idx := 0x8102, sub := 0x3, stride := 0x10, count := 16, ty := .u32, cls := .cor }
/-- `TAP_ABORTED` (R358). -/
def tapAborted : Entry :=
  { idx := 0x8102, sub := 0x4, stride := 0x10, count := 16, ty := .u32, cls := .cor }
/-- `TAP_INVALID` (R358). -/
def tapInvalid : Entry :=
  { idx := 0x8102, sub := 0x5, stride := 0x10, count := 16, ty := .u32, cls := .cor }
/-- `INLINE_SQUELCHES` (R358). -/
def inlineSquelches : Entry :=
  { idx := 0x8102, sub := 0x6, stride := 0x10, count := 16, ty := .u32, cls := .cor }

/-- The entry list of chapter 14. -/
def chapterTap : List Entry :=
  [tapDigestKey, tapDigestRate, tapDigestFill, tapKeyFail, tapWorld, inlinePeer, inlineState, inlineLatency,
    tapSeqNext, tapLossPending, tapFrames, tapLost, tapNoDigest, tapFcsBad, tapAborted, tapInvalid, inlineSquelches]

/-- `GNSS_STATE` (R383). -/
def gnssState : Entry :=
  { idx := 0x9000, sub := 0x0, ty := .enum, cls := .ro }
/-- `GNSS_POWER_STATE` (R383). -/
def gnssPowerState : Entry :=
  { idx := 0x9000, sub := 0x1, ty := .enum, cls := .ro }
/-- `GNSS_START_KIND` (R383). -/
def gnssStartKind : Entry :=
  { idx := 0x9000, sub := 0x2, ty := .enum, cls := .ro }
/-- `GNSS_OFFSET` (R383). -/
def gnssOffset : Entry :=
  { idx := 0x9000, sub := 0x3, ty := .i64, cls := .ro }
/-- `GNSS_BOUND` (R383). -/
def gnssBound : Entry :=
  { idx := 0x9000, sub := 0x4, ty := .bound32, cls := .ro, dflt := 0xFFFFFFFF }
/-- `GNSS_EPOCH_TIME` (R383). -/
def gnssEpochTime : Entry :=
  { idx := 0x9000, sub := 0x5, words := 2, ty := .time96, cls := .ro }
/-- `GNSS_SATS_USED` (R383). -/
def gnssSatsUsed : Entry :=
  { idx := 0x9000, sub := 0x7, ty := .u8, cls := .ro }
/-- `GNSS_SPOOF_FLAGS` (R383). -/
def gnssSpoofFlags : Entry :=
  { idx := 0x9000, sub := 0x8, ty := .u8, cls := .ro }
/-- `GNSS_JAM_L1` (R383). -/
def gnssJamL1 : Entry :=
  { idx := 0x9000, sub := 0x9, ty := .u16, cls := .ro }
/-- `GNSS_JAM_L5` (R383). -/
def gnssJamL5 : Entry :=
  { idx := 0x9000, sub := 0xA, ty := .u16, cls := .ro }
/-- `GNSS_ENABLE` (R383). -/
def gnssEnable : Entry :=
  { idx := 0x9001, sub := 0x0, ty := .bool, cls := .rw, dflt := 1, owner := (.world 0), check := true }
/-- `GNSS_EPOCH_RATE` (R383). -/
def gnssEpochRate : Entry :=
  { idx := 0x9001, sub := 0x1, ty := .u8, cls := .rw, dflt := 1, owner := (.world 0), check := true, vals := [(1,
    1), (2, 2), (4, 4), (5, 5), (10, 10), (20, 20), (25, 25), (50, 50), (100, 100)] }
/-- `GNSS_SYSTEMS` (R383). -/
def gnssSystems : Entry :=
  { idx := 0x9001, sub := 0x2, ty := .u8, cls := .rw, dflt := 15, owner := (.world 0), check := true, vals := [(0,
    15)] }
/-- `GNSS_UTC_SOURCE` (R383). -/
def gnssUtcSource : Entry :=
  { idx := 0x9001, sub := 0x3, ty := .enum, cls := .rw, owner := (.world 0), check := true, vals := [(0, 2)] }
/-- `GNSS_ELEV_MASK` (R383). -/
def gnssElevMask : Entry :=
  { idx := 0x9001, sub := 0x4, ty := .u8, cls := .rw, dflt := 10, owner := (.world 0), check := true, vals := [(0,
    45)] }
/-- `GNSS_CN0_MIN` (R383). -/
def gnssCn0Min : Entry :=
  { idx := 0x9001, sub := 0x5, ty := .u8, cls := .rw, dflt := 30, owner := (.world 0), check := true, vals := [(20,
    45)] }
/-- `GNSS_SMOOTH` (R383). -/
def gnssSmooth : Entry :=
  { idx := 0x9001, sub := 0x6, ty := .u16, cls := .rw, dflt := 100, owner := (.world 0), check := true, vals := [(1,
    600)] }
/-- `GNSS_SINGLE_BAND` (R383). -/
def gnssSingleBand : Entry :=
  { idx := 0x9001, sub := 0x7, ty := .bool, cls := .rw, dflt := 1, owner := (.world 0), check := true }
/-- `GNSS_BOUND_K` (R383). -/
def gnssBoundK : Entry :=
  { idx := 0x9001, sub := 0x8, ty := .u16, cls := .rw, dflt := 50, owner := (.world 0), check := true, vals := [(30,
    100)] }
/-- `GNSS_PFA` (R383). -/
def gnssPfa : Entry :=
  { idx := 0x9001, sub := 0x9, ty := .u8, cls := .rw, dflt := 6, owner := (.world 0), check := true, vals := [(3,
    9)] }
/-- `GNSS_EXCL_HOLD` (R383). -/
def gnssExclHold : Entry :=
  { idx := 0x9001, sub := 0xA, ty := .u32, cls := .rw, dflt := 600, owner := (.world 0), check := true, vals :=
    [(10, 86400)] }
/-- `GNSS_COAST_MAX` (R383). -/
def gnssCoastMax : Entry :=
  { idx := 0x9001, sub := 0xB, ty := .u16, cls := .rw, dflt := 1000, owner := (.world 0), check := true, vals :=
    [(100, 1000)] }
/-- `GNSS_UTC_UNC` (R383). -/
def gnssUtcUnc : Entry :=
  { idx := 0x9001, sub := 0xC, ty := .bound32, cls := .rw, dflt := 2000, owner := (.world 0), check := true, vals :=
    [(0, 1000000)] }
/-- `GNSS_POS_MODE` (R383). -/
def gnssPosMode : Entry :=
  { idx := 0x9002, sub := 0x0, ty := .enum, cls := .rw, dflt := 2, owner := (.world 0), check := true, vals := [(0,
    2)] }
/-- `GNSS_POS_X` (R383). -/
def gnssPosX : Entry :=
  { idx := 0x9002, sub := 0x1, arr := 3, ty := .i64, cls := .rw, owner := (.world 0), check := true }
/-- `GNSS_POS_UNC` (R383). -/
def gnssPosUnc : Entry :=
  { idx := 0x9002, sub := 0x4, ty := .u32, cls := .rw, dflt := 1000, owner := (.world 0), check := true, vals :=
    [(1, 100000)] }
/-- `GNSS_SURVEY_MIN` (R383). -/
def gnssSurveyMin : Entry :=
  { idx := 0x9002, sub := 0x5, ty := .u32, cls := .rw, dflt := 3600, owner := (.world 0), check := true, vals :=
    [(600, 604800)] }
/-- `GNSS_SURVEY_SIGMA` (R383). -/
def gnssSurveySigma : Entry :=
  { idx := 0x9002, sub := 0x6, ty := .u32, cls := .rw, dflt := 100, owner := (.world 0), check := true, vals :=
    [(10, 10000)] }
/-- `GNSS_SLEEP_ENABLE` (R383). -/
def gnssSleepEnable : Entry :=
  { idx := 0x9003, sub := 0x0, ty := .bool, cls := .rw, owner := (.world 0), check := true }
/-- `GNSS_WAKE_INTERVAL` (R383). -/
def gnssWakeInterval : Entry :=
  { idx := 0x9003, sub := 0x1, ty := .u32, cls := .rw, dflt := 3600, owner := (.world 0), check := true, vals :=
    [(60, 86400)] }
/-- `GNSS_WAKE_DWELL` (R383). -/
def gnssWakeDwell : Entry :=
  { idx := 0x9003, sub := 0x2, ty := .u32, cls := .rw, dflt := 120, owner := (.world 0), check := true, vals :=
    [(60, 3600)] }
/-- `GNSS_WAKE_CMD` (R383). -/
def gnssWakeCmd : Entry :=
  { idx := 0x9003, sub := 0x3, ty := .u8, cls := .cmd, owner := (.world 0), vals := [(1, 1)] }
/-- `GNSS_SLEEPS` (R383). -/
def gnssSleeps : Entry :=
  { idx := 0x9003, sub := 0x4, ty := .u32, cls := .cor }
/-- `GNSS_NOTCH_THRESH` (R383). -/
def gnssNotchThresh : Entry :=
  { idx := 0x9004, sub := 0x0, ty := .u8, cls := .rw, dflt := 15, owner := (.world 0), check := true, vals := [(6,
    40)] }
/-- `GNSS_NOTCH_WIDTH` (R383). -/
def gnssNotchWidth : Entry :=
  { idx := 0x9004, sub := 0x1, ty := .u32, cls := .rw, dflt := 50000, owner := (.world 0), check := true, vals :=
    [(5000, 500000)] }
/-- `GNSS_NOTCH_BIAS` (R383). -/
def gnssNotchBias : Entry :=
  { idx := 0x9004, sub := 0x2, ty := .bound32, cls := .rw, dflt := 500, owner := (.world 0), check := true, vals :=
    [(0, 100000)] }
/-- `GNSS_JAM_WARN` (R383). -/
def gnssJamWarn : Entry :=
  { idx := 0x9004, sub := 0x3, ty := .u16, cls := .rw, dflt := 60, owner := (.world 0), check := true, vals := [(10,
    400)] }
/-- `GNSS_JAM_ALARM` (R383). -/
def gnssJamAlarm : Entry :=
  { idx := 0x9004, sub := 0x4, ty := .u16, cls := .rw, dflt := 150, owner := (.world 0), check := true, vals :=
    [(10, 400)] }
/-- `GNSS_JAM_CAL` (R383). -/
def gnssJamCal : Entry :=
  { idx := 0x9004, sub := 0x5, ty := .u8, cls := .cmd, owner := (.world 0), vals := [(1, 1)] }
/-- `GNSS_SPF_CN0_SD` (R383). -/
def gnssSpfCn0Sd : Entry :=
  { idx := 0x9004, sub := 0x6, ty := .u16, cls := .rw, dflt := 100, owner := (.world 0), check := true, vals :=
    [(10, 500)] }
/-- `GNSS_SPF_CCD` (R383). -/
def gnssSpfCcd : Entry :=
  { idx := 0x9004, sub := 0x7, ty := .u32, cls := .rw, dflt := 50, owner := (.world 0), check := true, vals := [(5,
    5000)] }
/-- `GNSS_SPF_JUMP` (R383). -/
def gnssSpfJump : Entry :=
  { idx := 0x9004, sub := 0x8, ty := .bound32, cls := .rw, dflt := 20000, owner := (.world 0), check := true, vals
    := [(1000, 10000000)] }
/-- `GNSS_SPF_HOLD` (R383). -/
def gnssSpfHold : Entry :=
  { idx := 0x9004, sub := 0x9, ty := .u32, cls := .rw, dflt := 300, owner := (.world 0), check := true, vals :=
    [(10, 86400)] }
/-- `GNSS_CORR_STATE` (R383). -/
def gnssCorrState : Entry :=
  { idx := 0x9005, sub := 0x0, ty := .enum, cls := .ro }
/-- `GNSS_CORR_EPOCH` (R383). -/
def gnssCorrEpoch : Entry :=
  { idx := 0x9005, sub := 0x1, words := 2, ty := .time96, cls := .ro }
/-- `GNSS_CORR_SATS` (R383). -/
def gnssCorrSats : Entry :=
  { idx := 0x9005, sub := 0x3, ty := .u8, cls := .ro }
/-- `GNSS_CORR_IGNORED` (R383). -/
def gnssCorrIgnored : Entry :=
  { idx := 0x9005, sub := 0x4, ty := .u32, cls := .cor }
/-- `GNSS_STB_FAULTS` (R383). -/
def gnssStbFaults : Entry :=
  { idx := 0x9006, sub := 0x0, ty := .u32, cls := .cor }
/-- `GNSS_EXCLUSIONS` (R383). -/
def gnssExclusions : Entry :=
  { idx := 0x9006, sub := 0x1, ty := .u32, cls := .cor }
/-- `GNSS_NOTCH_OVERFLOW` (R383). -/
def gnssNotchOverflow : Entry :=
  { idx := 0x9006, sub := 0x2, ty := .u32, cls := .cor }
/-- `GNSS_SLIPS` (R383). -/
def gnssSlips : Entry :=
  { idx := 0x9006, sub := 0x3, ty := .u32, cls := .cor }
/-- `GNSS_RF_DELAY` (R384). -/
def gnssRfDelay : Entry :=
  { idx := 0x9010, sub := 0x0, stride := 0x1, count := 2, ty := .i32, cls := .rw, owner := (.world 0), check :=
    true, vals := [(-1000000, 1000000)] }
/-- `GNSS_IF` (R384). -/
def gnssIf : Entry :=
  { idx := 0x9010, sub := 0x1, stride := 0x1, count := 2, ty := .u32, cls := .rw, dflt := 20460000, owner := (.world
    0), check := true, vals := [(5000000, 35000000)] }
/-- `GNSS_INVERT` (R384). -/
def gnssInvert : Entry :=
  { idx := 0x9010, sub := 0x2, stride := 0x1, count := 2, ty := .bool, cls := .rw, owner := (.world 0), check :=
    true }
/-- `GNSS_EL_SPACING` (R384). -/
def gnssElSpacing : Entry :=
  { idx := 0x9010, sub := 0x3, stride := 0x1, count := 2, ty := .u16, cls := .rw, dflt := 100, owner := (.world 0),
    check := true, vals := [(50, 1000)] }
/-- `GNSS_VEL_SPACING` (R384). -/
def gnssVelSpacing : Entry :=
  { idx := 0x9010, sub := 0x4, stride := 0x1, count := 2, ty := .u16, cls := .rw, dflt := 1000, owner := (.world 0),
    check := true, vals := [(200, 2000)] }
/-- `GNSS_MP_TAP` (R384). -/
def gnssMpTap : Entry :=
  { idx := 0x9010, sub := 0x5, stride := 0x1, count := 2, ty := .u16, cls := .rw, dflt := 20, owner := (.world 0),
    check := true, vals := [(5, 100)] }
/-- `GNSS_MP_CORRECT` (R384). -/
def gnssMpCorrect : Entry :=
  { idx := 0x9010, sub := 0x6, stride := 0x1, count := 2, ty := .bool, cls := .rw, dflt := 1, owner := (.world 0),
    check := true }
/-- `GNSS_NOTCH_FREQ` (R384). -/
def gnssNotchFreq : Entry :=
  { idx := 0x9018, sub := 0x0, arr := 4, stride := 0x1, count := 2, ty := .i32, cls := .ro }
/-- `GNSS_NOTCH_ACTIVE` (R384). -/
def gnssNotchActive : Entry :=
  { idx := 0x9018, sub := 0x4, stride := 0x1, count := 2, ty := .u8, cls := .ro }
/-- `GNSS_SV_ID` (R384). -/
def gnssSvId : Entry :=
  { idx := 0x9100, sub := 0x0, stride := 0x1, count := 64, ty := .u16, cls := .ro, dflt := 65535 }
/-- `GNSS_SV_STATE` (R384). -/
def gnssSvState : Entry :=
  { idx := 0x9100, sub := 0x1, stride := 0x1, count := 64, ty := .enum, cls := .ro }
/-- `GNSS_SV_CN0` (R384). -/
def gnssSvCn0 : Entry :=
  { idx := 0x9100, sub := 0x2, stride := 0x1, count := 64, ty := .u16, cls := .ro }
/-- `GNSS_SV_ELEV` (R384). -/
def gnssSvElev : Entry :=
  { idx := 0x9100, sub := 0x3, stride := 0x1, count := 64, ty := .i32, cls := .ro }
/-- `GNSS_SV_AZIM` (R384). -/
def gnssSvAzim : Entry :=
  { idx := 0x9100, sub := 0x4, stride := 0x1, count := 64, ty := .u16, cls := .ro }
/-- `GNSS_SV_RESID` (R384). -/
def gnssSvResid : Entry :=
  { idx := 0x9100, sub := 0x5, stride := 0x1, count := 64, ty := .i32, cls := .ro }
/-- `GNSS_SV_FLAGS` (R384). -/
def gnssSvFlags : Entry :=
  { idx := 0x9100, sub := 0x6, stride := 0x1, count := 64, ty := .u16, cls := .ro }

/-- The entry list of chapter 15. -/
def chapterGnss : List Entry :=
  [gnssState, gnssPowerState, gnssStartKind, gnssOffset, gnssBound, gnssEpochTime, gnssSatsUsed, gnssSpoofFlags,
    gnssJamL1, gnssJamL5, gnssEnable, gnssEpochRate, gnssSystems, gnssUtcSource, gnssElevMask, gnssCn0Min,
    gnssSmooth, gnssSingleBand, gnssBoundK, gnssPfa, gnssExclHold, gnssCoastMax, gnssUtcUnc, gnssPosMode, gnssPosX,
    gnssPosUnc, gnssSurveyMin, gnssSurveySigma, gnssSleepEnable, gnssWakeInterval, gnssWakeDwell, gnssWakeCmd,
    gnssSleeps, gnssNotchThresh, gnssNotchWidth, gnssNotchBias, gnssJamWarn, gnssJamAlarm, gnssJamCal, gnssSpfCn0Sd]
    ++ [gnssSpfCcd, gnssSpfJump, gnssSpfHold, gnssCorrState, gnssCorrEpoch, gnssCorrSats, gnssCorrIgnored,
    gnssStbFaults, gnssExclusions, gnssNotchOverflow, gnssSlips, gnssRfDelay, gnssIf, gnssInvert, gnssElSpacing,
    gnssVelSpacing, gnssMpTap, gnssMpCorrect, gnssNotchFreq, gnssNotchActive, gnssSvId, gnssSvState, gnssSvCn0,
    gnssSvElev, gnssSvAzim, gnssSvResid, gnssSvFlags]

/-- `VAULT_STATE` (R410). -/
def vaultState : Entry :=
  { idx := 0xB000, sub := 0x0, ty := .enum, cls := .ro }
/-- `BOX_CERT_MODE` (R410). -/
def boxCertMode : Entry :=
  { idx := 0xB000, sub := 0x1, ty := .bool, cls := .ro }
/-- `BOX_CERT_BURN` (R410). -/
def boxCertBurn : Entry :=
  { idx := 0xB000, sub := 0x2, ty := .bool, cls := .grd, owner := (.world 0) }
/-- `ANCHOR_COUNTER` (R410). -/
def anchorCounter : Entry :=
  { idx := 0xB000, sub := 0x3, ty := .u16, cls := .ro }
/-- `ANCHOR_SEQ` (R410). -/
def anchorSeq : Entry :=
  { idx := 0xB000, sub := 0x4, ty := .u16, cls := .ro }
/-- `ANCHOR_COMMIT` (R410). -/
def anchorCommit : Entry :=
  { idx := 0xB000, sub := 0x5, ty := .u16, cls := .grd, owner := (.world 0) }
/-- `ANCHOR_COMMIT_STATE` (R410). -/
def anchorCommitState : Entry :=
  { idx := 0xB000, sub := 0x6, ty := .enum, cls := .ro }
/-- `ANCHOR_BOOT_RESULT` (R410). -/
def anchorBootResult : Entry :=
  { idx := 0xB000, sub := 0x7, ty := .enum, cls := .ro }
/-- `ANCHOR_KCV_FAIL` (R410). -/
def anchorKcvFail : Entry :=
  { idx := 0xB000, sub := 0x8, ty := .u32, cls := .cor }
/-- `VAULT_SLOT_QUIET` (R410). -/
def vaultSlotQuiet : Entry :=
  { idx := 0xB000, sub := 0x9, ty := .u32, cls := .rw, dflt := 1000, owner := (.world 0), check := true, vals :=
    [(0, 60000)] }
/-- `VAULT_QUIET_FORCE` (R410). -/
def vaultQuietForce : Entry :=
  { idx := 0xB000, sub := 0xA, ty := .u8, cls := .cmd, owner := (.world 0), vals := [(1, 1)] }
/-- `VAULT_LAST_REFUSAL` (R410). -/
def vaultLastRefusal : Entry :=
  { idx := 0xB000, sub := 0xB, ty := .u64, cls := .ro }
/-- `KEY_REVOKED_USES` (R410). -/
def keyRevokedUses : Entry :=
  { idx := 0xB000, sub := 0xC, ty := .u32, cls := .cor }
/-- `KEY_ABSENT_USES` (R410). -/
def keyAbsentUses : Entry :=
  { idx := 0xB000, sub := 0xD, ty := .u32, cls := .cor }
/-- `KEY_ENGINE_DENIED` (R410). -/
def keyEngineDenied : Entry :=
  { idx := 0xB000, sub := 0xE, ty := .u32, cls := .cor }
/-- `KEY_ATTR_DENIED` (R410). -/
def keyAttrDenied : Entry :=
  { idx := 0xB000, sub := 0xF, ty := .u32, cls := .cor }
/-- `CACHE_FILL` (R410). -/
def cacheFill : Entry :=
  { idx := 0xB000, sub := 0x10, ty := .u16, cls := .ro }
/-- `CACHE_MISSES` (R410). -/
def cacheMisses : Entry :=
  { idx := 0xB000, sub := 0x11, ty := .u32, cls := .cor }
/-- `CACHE_EVICTIONS` (R410). -/
def cacheEvictions : Entry :=
  { idx := 0xB000, sub := 0x12, ty := .u32, cls := .cor }
/-- `REMASK_PASSES` (R410). -/
def remaskPasses : Entry :=
  { idx := 0xB000, sub := 0x13, ty := .u64, cls := .ro }
/-- `DRBG_STATE` (R410). -/
def drbgState : Entry :=
  { idx := 0xB000, sub := 0x14, ty := .enum, cls := .ro }
/-- `ENTROPY_FAILS` (R410). -/
def entropyFails : Entry :=
  { idx := 0xB000, sub := 0x15, ty := .u32, cls := .cor }
/-- `SELFTEST_CMD` (R410). -/
def selftestCmd : Entry :=
  { idx := 0xB000, sub := 0x16, ty := .u8, cls := .cmd, owner := (.world 0), vals := [(1, 1)] }
/-- `SELFTEST_RESULT` (R410). -/
def selftestResult : Entry :=
  { idx := 0xB000, sub := 0x17, ty := .u32, cls := .ro }
/-- `LANE_STATE` (R410). -/
def laneState : Entry :=
  { idx := 0xB000, sub := 0x18, arr := 8, ty := .enum, cls := .ro, dflt := 1, dfltAt := [(5, 2), (6, 2), (7, 2)] }
/-- `ANCHOR_STATE` (R411). -/
def anchorState : Entry :=
  { idx := 0xB000, sub := 0x0, stride := 0x1, count := 15, first := 1, ty := .enum, cls := .ro }
/-- `ANCHOR_REF` (R411). -/
def anchorRef : Entry :=
  { idx := 0xB000, sub := 0x1, stride := 0x1, count := 15, first := 1, ty := .keyref, cls := .ro }
/-- `ANCHOR_ROLE` (R411). -/
def anchorRole : Entry :=
  { idx := 0xB000, sub := 0x2, stride := 0x1, count := 15, first := 1, ty := .enum, cls := .ro }
/-- `ANCHOR_TYPE` (R411). -/
def anchorType : Entry :=
  { idx := 0xB000, sub := 0x3, stride := 0x1, count := 15, first := 1, ty := .enum, cls := .ro }
/-- `ANCHOR_ENGINE_MASK` (R411). -/
def anchorEngineMask : Entry :=
  { idx := 0xB000, sub := 0x4, stride := 0x1, count := 15, first := 1, ty := .u16, cls := .ro }
/-- `ANCHOR_USAGE` (R411). -/
def anchorUsage : Entry :=
  { idx := 0xB000, sub := 0x5, stride := 0x1, count := 15, first := 1, ty := .u8, cls := .ro }
/-- `ANCHOR_WORLD_MASK` (R411). -/
def anchorWorldMask : Entry :=
  { idx := 0xB000, sub := 0x6, stride := 0x1, count := 15, first := 1, ty := .u16, cls := .ro }
/-- `ANCHOR_MASTER_MASK` (R411). -/
def anchorMasterMask : Entry :=
  { idx := 0xB000, sub := 0x7, stride := 0x1, count := 15, first := 1, ty := .u8, cls := .ro }
/-- `ANCHOR_LIFE_MASK` (R411). -/
def anchorLifeMask : Entry :=
  { idx := 0xB000, sub := 0x8, stride := 0x1, count := 15, first := 1, ty := .u8, cls := .ro }
/-- `ANCHOR_KCV` (R411). -/
def anchorKcv : Entry :=
  { idx := 0xB000, sub := 0x9, stride := 0x1, count := 15, first := 1, ty := .u32, cls := .ro }
/-- `ANCHOR_PUBKEY` (R411). -/
def anchorPubkey : Entry :=
  { idx := 0xB000, sub := 0xA, stride := 0x1, count := 15, first := 1, words := 32, ty := .octstr, cls := .ro }
/-- `SH_STATE` (R411). -/
def shState : Entry :=
  { idx := 0xB000, sub := 0x30, stride := 0x1, count := 15, first := 1, ty := .enum, cls := .ro }
/-- `SH_ROLE` (R411). -/
def shRole : Entry :=
  { idx := 0xB000, sub := 0x31, stride := 0x1, count := 15, first := 1, ty := .enum, cls := .rw, owner := (.world
    0), vals := [(0, 4)] }
/-- `SH_TYPE` (R411). -/
def shType : Entry :=
  { idx := 0xB000, sub := 0x32, stride := 0x1, count := 15, first := 1, ty := .enum, cls := .rw, owner := (.world
    0), vals := [(0, 8)] }
/-- `SH_ENGINE_MASK` (R411). -/
def shEngineMask : Entry :=
  { idx := 0xB000, sub := 0x33, stride := 0x1, count := 15, first := 1, ty := .u16, cls := .rw, dflt := 65535, owner
    := (.world 0) }
/-- `SH_USAGE` (R411). -/
def shUsage : Entry :=
  { idx := 0xB000, sub := 0x34, stride := 0x1, count := 15, first := 1, ty := .u8, cls := .rw, owner := (.world 0) }
/-- `SH_WORLD_MASK` (R411). -/
def shWorldMask : Entry :=
  { idx := 0xB000, sub := 0x35, stride := 0x1, count := 15, first := 1, ty := .u16, cls := .rw, dflt := 1, owner :=
    (.world 0) }
/-- `SH_MASTER_MASK` (R411). -/
def shMasterMask : Entry :=
  { idx := 0xB000, sub := 0x36, stride := 0x1, count := 15, first := 1, ty := .u8, cls := .rw, dflt := 64, owner :=
    (.world 0) }
/-- `SH_LIFE_MASK` (R411). -/
def shLifeMask : Entry :=
  { idx := 0xB000, sub := 0x37, stride := 0x1, count := 15, first := 1, ty := .u8, cls := .rw, dflt := 14, owner :=
    (.world 0) }
/-- `SH_KCV_EXPECT` (R411). -/
def shKcvExpect : Entry :=
  { idx := 0xB000, sub := 0x38, stride := 0x1, count := 15, first := 1, ty := .u32, cls := .rw, owner := (.world 0) }
/-- `SH_KCV` (R411). -/
def shKcv : Entry :=
  { idx := 0xB000, sub := 0x39, stride := 0x1, count := 15, first := 1, ty := .u32, cls := .ro }
/-- `SH_CTRL` (R411). -/
def shCtrl : Entry :=
  { idx := 0xB000, sub := 0x3A, stride := 0x1, count := 15, first := 1, ty := .u8, cls := .cmd, owner := (.world 0),
    vals := [(1, 4)] }
/-- `SH_MATERIAL` (R411). -/
def shMaterial : Entry :=
  { idx := 0xB000, sub := 0x3B, stride := 0x1, count := 15, first := 1, words := 32, ty := .octstr, cls := .wo,
    owner := (.world 0) }
/-- `SH_PUBKEY` (R411). -/
def shPubkey : Entry :=
  { idx := 0xB000, sub := 0x5B, stride := 0x1, count := 15, first := 1, words := 32, ty := .octstr, cls := .ro }
/-- `KEY_STATE` (R412). -/
def keyState : Entry :=
  { idx := 0xB000, sub := 0x0, stride := 0x1, count := 4080, first := 16, ty := .enum, cls := .ro }
/-- `KEY_REF` (R412). -/
def keyRef : Entry :=
  { idx := 0xB000, sub := 0x1, stride := 0x1, count := 4080, first := 16, ty := .keyref, cls := .ro }
/-- `KEY_CLASS` (R412). -/
def keyClass : Entry :=
  { idx := 0xB000, sub := 0x2, stride := 0x1, count := 4080, first := 16, ty := .enum, cls := .rw, owner := (.world
    0), check := true, vals := [(0, 2)] }
/-- `KEY_TYPE` (R412). -/
def keyType : Entry :=
  { idx := 0xB000, sub := 0x3, stride := 0x1, count := 4080, first := 16, ty := .enum, cls := .rw, owner := (.world
    0), check := true, vals := [(0, 8)] }
/-- `KEY_ENGINE_MASK` (R412). -/
def keyEngineMask : Entry :=
  { idx := 0xB000, sub := 0x4, stride := 0x1, count := 4080, first := 16, ty := .u16, cls := .rw, dflt := 65535,
    owner := (.world 0), check := true }
/-- `KEY_USAGE` (R412). -/
def keyUsage : Entry :=
  { idx := 0xB000, sub := 0x5, stride := 0x1, count := 4080, first := 16, ty := .u8, cls := .rw, owner := (.world
    0), check := true }
/-- `KEY_PARENT` (R412). -/
def keyParent : Entry :=
  { idx := 0xB000, sub := 0x6, stride := 0x1, count := 4080, first := 16, ty := .u16, cls := .rw, owner := (.world
    0), check := true, vals := [(0, 0), (16, 4095)] }
/-- `KEY_LABEL` (R412). -/
def keyLabel : Entry :=
  { idx := 0xB000, sub := 0x7, stride := 0x1, count := 4080, first := 16, words := 32, ty := .octstr, cls := .rw,
    owner := (.world 0), check := true, vals := [(1, 64)] }
/-- `KEY_MATERIAL` (R412). -/
def keyMaterial : Entry :=
  { idx := 0xB000, sub := 0x27, stride := 0x1, count := 4080, first := 16, words := 32, ty := .octstr, cls := .wo,
    owner := (.world 0) }
/-- `KEY_CTRL` (R412). -/
def keyCtrl : Entry :=
  { idx := 0xB000, sub := 0x47, stride := 0x1, count := 4080, first := 16, ty := .u32, cls := .cmd, owner := (.world
    0) }
/-- `KEY_KCV` (R412). -/
def keyKcv : Entry :=
  { idx := 0xB000, sub := 0x48, stride := 0x1, count := 4080, first := 16, ty := .u32, cls := .ro }
/-- `KEY_DEPTH` (R412). -/
def keyDepth : Entry :=
  { idx := 0xB000, sub := 0x49, stride := 0x1, count := 4080, first := 16, ty := .u8, cls := .ro }
/-- `KEY_PUBKEY` (R412). -/
def keyPubkey : Entry :=
  { idx := 0xB000, sub := 0x4A, stride := 0x1, count := 4080, first := 16, words := 32, ty := .octstr, cls := .ro }
/-- `KEY_USES` (R412). -/
def keyUses : Entry :=
  { idx := 0xB000, sub := 0x6A, stride := 0x1, count := 4080, first := 16, ty := .u64, cls := .cor }

/-- The entry list of chapter 16. -/
def chapterKeys : List Entry :=
  [vaultState, boxCertMode, boxCertBurn, anchorCounter, anchorSeq, anchorCommit, anchorCommitState,
    anchorBootResult, anchorKcvFail, vaultSlotQuiet, vaultQuietForce, vaultLastRefusal, keyRevokedUses,
    keyAbsentUses, keyEngineDenied, keyAttrDenied, cacheFill, cacheMisses, cacheEvictions, remaskPasses, drbgState,
    entropyFails, selftestCmd, selftestResult, laneState, anchorState, anchorRef, anchorRole, anchorType,
    anchorEngineMask, anchorUsage, anchorWorldMask, anchorMasterMask, anchorLifeMask, anchorKcv, anchorPubkey,
    shState, shRole, shType, shEngineMask] ++ [shUsage, shWorldMask, shMasterMask, shLifeMask, shKcvExpect, shKcv,
    shCtrl, shMaterial, shPubkey, keyState, keyRef, keyClass, keyType, keyEngineMask, keyUsage, keyParent, keyLabel,
    keyMaterial, keyCtrl, keyKcv, keyDepth, keyPubkey, keyUses]

/-- `HOLLY_SAFE` (R432). -/
def hollySafe : Entry :=
  { idx := 0xC000, sub := 0x0, ty := .bool, cls := .ro }
/-- `HOLLY_SAFE_SOURCE` (R432). -/
def hollySafeSource : Entry :=
  { idx := 0xC000, sub := 0x1, ty := .u16, cls := .ro, dflt := 65535 }
/-- `FAULTN_SEVERITY` (R432). -/
def faultnSeverity : Entry :=
  { idx := 0xC000, sub := 0x2, ty := .enum, cls := .rw, dflt := 2, owner := (.world 0), check := true, vals := [(1,
    3)] }
/-- `HOLLY_MERGE_WINDOW` (R432). -/
def hollyMergeWindow : Entry :=
  { idx := 0xC000, sub := 0x3, ty := .u16, cls := .rw, dflt := 10, owner := (.world 0), check := true, vals := [(0,
    1000)] }
/-- `HOLLY_RING_MIN` (R432). -/
def hollyRingMin : Entry :=
  { idx := 0xC000, sub := 0x4, ty := .enum, cls := .rw, dflt := 1, owner := (.world 0), check := true, vals := [(0,
    3)] }
/-- `FLT_CLEAR` (R432). -/
def fltClear : Entry :=
  { idx := 0xC000, sub := 0x5, ty := .handle, cls := .cmd, owner := (.world 0) }
/-- `MAINT_CTRL` (R432). -/
def maintCtrl : Entry :=
  { idx := 0xC000, sub := 0x6, ty := .u8, cls := .cmd, owner := (.world 0), vals := [(1, 2)] }
/-- `HOLLY_SEQ` (R432). -/
def hollySeq : Entry :=
  { idx := 0xC000, sub := 0x7, ty := .u32, cls := .ro }
/-- `HOLLY_DEGRADED` (R432). -/
def hollyDegraded : Entry :=
  { idx := 0xC000, sub := 0x8, ty := .bool, cls := .ro }
/-- `HOLLY_LOG_FULL` (R432). -/
def hollyLogFull : Entry :=
  { idx := 0xC000, sub := 0x9, ty := .u32, cls := .cor }
/-- `HOLLY_SELF_FAULT` (R432). -/
def hollySelfFault : Entry :=
  { idx := 0xC000, sub := 0xA, ty := .u8, cls := .ro }
/-- `HOLLY_EVENTS` (R432). -/
def hollyEvents : Entry :=
  { idx := 0xC001, sub := 0x0, arr := 4, ty := .u32, cls := .cor }
/-- `FLT_SEVERITY` (R433). -/
def fltSeverity : Entry :=
  { idx := 0xC200, sub := 0x0, stride := 0x1, count := 512, ty := .enum, cls := .rw, dfltAt := [(0, 3), (1, 3), (2,
    2), (3, 2), (4, 1), (5, 3), (10, 1), (11, 1), (12, 1), (13, 2), (14, 1), (15, 1), (17, 1), (18, 1), (57, 2),
    (58, 2), (59, 1), (60, 2), (64, 1), (65, 1), (121, 2), (122, 2), (123, 1), (124, 2), (128, 1), (129, 1), (185,
    2), (186, 2), (187, 1), (188, 2), (249, 2), (250, 2), (251, 1), (252, 2), (256, 1), (257, 1), (313, 2), (314,
    2), (315, 1), (316, 2), (320, 1), (321, 1), (323, 2), (324, 1), (325, 1), (377, 2), (378, 2), (379, 1), (380,
    2), (384, 3), (385, 2), (386, 2), (441, 2), (442, 2), (443, 1), (444, 2), (448, 3), (449, 1), (450, 1), (452,
    3), (505, 2), (506, 2), (507, 1), (508, 2)], owner := (.world 0), check := true, vals := [(0, 3)] }
/-- `FLT_N` (R433). -/
def fltN : Entry :=
  { idx := 0xC200, sub := 0x1, stride := 0x1, count := 512, ty := .u8, cls := .rw, dflt := 16, dfltAt := [(451, 4)],
    owner := (.world 0), check := true, vals := [(0, 255)] }
/-- `FLT_W` (R433). -/
def fltW : Entry :=
  { idx := 0xC200, sub := 0x2, stride := 0x1, count := 512, ty := .u32, cls := .rw, dflt := 60000, owner := (.world
    0), check := true, vals := [(1, 86400000)] }
/-- `FLT_WORLDS` (R433). -/
def fltWorlds : Entry :=
  { idx := 0xC200, sub := 0x3, stride := 0x1, count := 512, ty := .u16, cls := .rw, dflt := 3, owner := (.world 0),
    check := true }
/-- `FLT_AUTOCLEAR` (R433). -/
def fltAutoclear : Entry :=
  { idx := 0xC200, sub := 0x4, stride := 0x1, count := 512, ty := .bool, cls := .rw, owner := (.world 0), check :=
    true }
/-- `FLT_STATE` (R433). -/
def fltState : Entry :=
  { idx := 0xC200, sub := 0x8, stride := 0x1, count := 512, ty := .enum, cls := .ro }
/-- `FLT_COUNT` (R433). -/
def fltCount : Entry :=
  { idx := 0xC200, sub := 0x9, stride := 0x1, count := 512, ty := .u32, cls := .cor }
/-- `FLT_LAST_TIME` (R433). -/
def fltLastTime : Entry :=
  { idx := 0xC200, sub := 0xA, stride := 0x1, count := 512, words := 2, ty := .time96, cls := .ro }
/-- `FLT_REC_HANDLE` (R434). -/
def fltRecHandle : Entry :=
  { idx := 0xC400, sub := 0x0, stride := 0x1, count := 256, ty := .handle, cls := .ro }
/-- `FLT_REC_STATE` (R434). -/
def fltRecState : Entry :=
  { idx := 0xC400, sub := 0x1, stride := 0x1, count := 256, ty := .enum, cls := .ro }
/-- `FLT_REC_HEAD` (R434). -/
def fltRecHead : Entry :=
  { idx := 0xC400, sub := 0x2, stride := 0x1, count := 256, words := 5, ty := .octstr, cls := .ro }
/-- `FLT_REC_BITMAP` (R434). -/
def fltRecBitmap : Entry :=
  { idx := 0xC400, sub := 0x7, stride := 0x1, count := 256, words := 10, ty := .octstr, cls := .ro }
/-- `BIST_START` (R434). -/
def bistStart : Entry :=
  { idx := 0xE000, sub := 0x0, ty := .u32, cls := .grd, owner := (.world 0) }
/-- `BIST_STATE` (R434). -/
def bistState : Entry :=
  { idx := 0xE000, sub := 0x1, ty := .enum, cls := .ro }
/-- `BIST_ISLAND_ID` (R434). -/
def bistIslandId : Entry :=
  { idx := 0xE100, sub := 0x0, stride := 0x1, count := 256, ty := .u16, cls := .ro }
/-- `BIST_EXPECT_LOGIC_HI` (R434). -/
def bistExpectLogicHi : Entry :=
  { idx := 0xE100, sub := 0x1, stride := 0x1, count := 256, ty := .u64, cls := .ro }
/-- `BIST_EXPECT_LOGIC_LO` (R434). -/
def bistExpectLogicLo : Entry :=
  { idx := 0xE100, sub := 0x2, stride := 0x1, count := 256, ty := .u64, cls := .ro }
/-- `BIST_EXPECT_MEM_HI` (R434). -/
def bistExpectMemHi : Entry :=
  { idx := 0xE100, sub := 0x3, stride := 0x1, count := 256, ty := .u64, cls := .ro }
/-- `BIST_EXPECT_MEM_LO` (R434). -/
def bistExpectMemLo : Entry :=
  { idx := 0xE100, sub := 0x4, stride := 0x1, count := 256, ty := .u64, cls := .ro }
/-- `BIST_SIG_HI` (R434). -/
def bistSigHi : Entry :=
  { idx := 0xE100, sub := 0x5, stride := 0x1, count := 256, ty := .u64, cls := .ro }
/-- `BIST_SIG_LO` (R434). -/
def bistSigLo : Entry :=
  { idx := 0xE100, sub := 0x6, stride := 0x1, count := 256, ty := .u64, cls := .ro }
/-- `BIST_ISLAND_STATE` (R434). -/
def bistIslandState : Entry :=
  { idx := 0xE100, sub := 0x7, stride := 0x1, count := 256, ty := .enum, cls := .ro }

/-- The entry list of chapter 17. -/
def chapterHolly : List Entry :=
  [hollySafe, hollySafeSource, faultnSeverity, hollyMergeWindow, hollyRingMin, fltClear, maintCtrl, hollySeq,
    hollyDegraded, hollyLogFull, hollySelfFault, hollyEvents, fltSeverity, fltN, fltW, fltWorlds, fltAutoclear,
    fltState, fltCount, fltLastTime, fltRecHandle, fltRecState, fltRecHead, fltRecBitmap, bistStart, bistState,
    bistIslandId, bistExpectLogicHi, bistExpectLogicLo, bistExpectMemHi, bistExpectMemLo, bistSigHi, bistSigLo,
    bistIslandState]

/-- `PERF_GLOBAL` (R443). -/
def perfGlobal : Entry :=
  { idx := 0xD000, sub := 0x0, ty := .u8, cls := .cmd, owner := (.world 0), vals := [(1, 3)] }
/-- `PERF_RUNNING` (R443). -/
def perfRunning : Entry :=
  { idx := 0xD000, sub := 0x1, ty := .bool, cls := .ro }
/-- `PERF_SAMPLE_P` (R443). -/
def perfSampleP : Entry :=
  { idx := 0xD000, sub := 0x2, ty := .u32, cls := .rw, owner := (.world 0), vals := [(0, 0), (16, 16777216)] }
/-- `PERF_SAMPLE_CLASSES` (R443). -/
def perfSampleClasses : Entry :=
  { idx := 0xD000, sub := 0x3, ty := .u16, cls := .rw, dflt := 4095, owner := (.world 0) }
/-- `PERF_SAMPLE_FILL` (R443). -/
def perfSampleFill : Entry :=
  { idx := 0xD000, sub := 0x4, ty := .u16, cls := .ro }
/-- `PERF_SAMPLE_LOST` (R443). -/
def perfSampleLost : Entry :=
  { idx := 0xD000, sub := 0x5, ty := .u32, cls := .ro }
/-- `PERF_SAMPLE_CTRL` (R443). -/
def perfSampleCtrl : Entry :=
  { idx := 0xD000, sub := 0x6, ty := .u8, cls := .cmd, owner := (.world 0), vals := [(1, 1)] }
/-- `TD_TOTAL` (R443). -/
def tdTotal : Entry :=
  { idx := 0xD001, sub := 0x0, ty := .u64, cls := .ro }
/-- `TD_RETIRED` (R443). -/
def tdRetired : Entry :=
  { idx := 0xD001, sub := 0x1, ty := .u64, cls := .ro }
/-- `TD_WASTED` (R443). -/
def tdWasted : Entry :=
  { idx := 0xD001, sub := 0x2, ty := .u64, cls := .ro }
/-- `TD_FRONT` (R443). -/
def tdFront : Entry :=
  { idx := 0xD001, sub := 0x3, ty := .u64, cls := .ro }
/-- `TD_STALL_CRYPTO` (R443). -/
def tdStallCrypto : Entry :=
  { idx := 0xD001, sub := 0x4, ty := .u64, cls := .ro }
/-- `TD_STALL_STORE` (R443). -/
def tdStallStore : Entry :=
  { idx := 0xD001, sub := 0x5, ty := .u64, cls := .ro }
/-- `TD_STALL_EGRESS` (R443). -/
def tdStallEgress : Entry :=
  { idx := 0xD001, sub := 0x6, ty := .u64, cls := .ro }
/-- `TD_INFLIGHT` (R443). -/
def tdInflight : Entry :=
  { idx := 0xD001, sub := 0x7, ty := .u16, cls := .ro }
/-- `PERF_SAMPLE_SEL` (R443). -/
def perfSampleSel : Entry :=
  { idx := 0xD030, sub := 0x0, stride := 0xF, count := 2, ty := .u16, cls := .rw, owner := .perWorld }
/-- `PERF_SAMPLE_REC` (R443). -/
def perfSampleRec : Entry :=
  { idx := 0xD030, sub := 0x1, stride := 0xF, count := 2, words := 7, ty := .octstr, cls := .ro }
/-- `PERF_EVENT` (R443). -/
def perfEvent : Entry :=
  { idx := 0xD100, sub := 0x0, stride := 0x1, count := 128, ty := .u16, cls := .rw, owner := (.world 0) }
/-- `PERF_MODE` (R443). -/
def perfMode : Entry :=
  { idx := 0xD100, sub := 0x1, stride := 0x1, count := 128, ty := .enum, cls := .rw, owner := (.world 0), vals :=
    [(0, 2)] }
/-- `PERF_UNIT` (R443). -/
def perfUnit : Entry :=
  { idx := 0xD100, sub := 0x2, stride := 0x1, count := 128, ty := .u8, cls := .rw, dflt := 255, owner := (.world 0) }
/-- `PERF_THRESH` (R443). -/
def perfThresh : Entry :=
  { idx := 0xD100, sub := 0x3, stride := 0x1, count := 128, ty := .u32, cls := .rw, owner := (.world 0) }
/-- `PERF_COUNT` (R443). -/
def perfCount : Entry :=
  { idx := 0xD100, sub := 0x4, stride := 0x1, count := 128, ty := .u64, cls := .ro }
/-- `PERF_STATUS` (R443). -/
def perfStatus : Entry :=
  { idx := 0xD100, sub := 0x5, stride := 0x1, count := 128, ty := .u32, cls := .ro }
/-- `PERF_CTRL` (R443). -/
def perfCtrl : Entry :=
  { idx := 0xD100, sub := 0x6, stride := 0x1, count := 128, ty := .u8, cls := .cmd, owner := (.world 0), vals :=
    [(1, 1)] }

/-- The entry list of chapter 18. -/
def chapterPerf : List Entry :=
  [perfGlobal, perfRunning, perfSampleP, perfSampleClasses, perfSampleFill, perfSampleLost, perfSampleCtrl, tdTotal,
    tdRetired, tdWasted, tdFront, tdStallCrypto, tdStallStore, tdStallEgress, tdInflight, perfSampleSel,
    perfSampleRec, perfEvent, perfMode, perfUnit, perfThresh, perfCount, perfStatus, perfCtrl]

/-- `JTAG_IDCODE` (R467). -/
def jtagIdcode : Entry :=
  { idx := 0x4, sub := 0x0, ty := .u32, cls := .ro }
/-- `DIE_TEMP` (R467). -/
def dieTemp : Entry :=
  { idx := 0x300, sub := 0x0, ty := .i32, cls := .ro }
/-- `TEMP0_READING` (R467). -/
def temp0Reading : Entry :=
  { idx := 0x300, sub := 0x1, ty := .i32, cls := .ro, dflt := 0xFFFFFFFF80000000 }
/-- `TEMP1_READING` (R467). -/
def temp1Reading : Entry :=
  { idx := 0x300, sub := 0x2, ty := .i32, cls := .ro, dflt := 0xFFFFFFFF80000000 }
/-- `DIE_TEMP_MAX` (R467). -/
def dieTempMax : Entry :=
  { idx := 0x300, sub := 0x3, ty := .i32, cls := .cor }
/-- `TEMP_IDEALITY0` (R467). -/
def tempIdeality0 : Entry :=
  { idx := 0x300, sub := 0x4, ty := .u16, cls := .rw, dflt := 1008, owner := (.world 0), check := true, vals :=
    [(950, 1100)] }
/-- `TEMP_IDEALITY1` (R467). -/
def tempIdeality1 : Entry :=
  { idx := 0x300, sub := 0x5, ty := .u16, cls := .rw, dflt := 1008, owner := (.world 0), check := true, vals :=
    [(950, 1100)] }
/-- `CLKOUT_FORMAT` (R467). -/
def clkoutFormat : Entry :=
  { idx := 0x5400, sub := 0xA, stride := 0x10, count := 16, ty := .enum, cls := .rw, owner := (.world 0), check :=
    true, vals := [(0, 1)] }

/-- The entry list of chapter 19. -/
def chapterPins : List Entry :=
  [jtagIdcode, dieTemp, temp0Reading, temp1Reading, dieTempMax, tempIdeality0, tempIdeality1, clkoutFormat]

end Sys2Proof.Machine.E
end

