-- ==== Sys2Proof/Machine/Tab.lean ====
section
/-! DEFINITION. Sparse tables: a list of key and value pairs, keys strictly rising, no pair holding the default. -/

namespace Sys2Proof.Machine

/-- A sparse table by number. -/
abbrev Tab (α : Type) := List (Nat × α)

/-- The value at `k`, or `d` where nothing is listed. -/
def tabGet {α : Type} (d : α) (k : Nat) : Tab α → α
  | [] => d
  | (j, v) :: r => if j = k then v else tabGet d k r

/-- Every pair with key `k` taken out. -/
def tabErase {α : Type} (k : Nat) : Tab α → Tab α
  | [] => []
  | (j, v) :: r => if j = k then tabErase k r else (j, v) :: tabErase k r

/-- `k` listed with `v`, at its place in the rising order. -/
def tabInsert {α : Type} (k : Nat) (v : α) : Tab α → Tab α
  | [] => [(k, v)]
  | (j, u) :: r =>
    if k < j then (k, v) :: (j, u) :: r
    else if j = k then (k, v) :: r
    else (j, u) :: tabInsert k v r

/-- The table with `v` at `k`, in canonical form: at its place in the rising order, and not listed where `v` is the default. -/
def tabPut {α : Type} [DecidableEq α] (d : α) (k : Nat) (v : α) : Tab α → Tab α
  | [] => if v = d then [] else [(k, v)]
  | (j, u) :: r =>
    if j < k then (j, u) :: tabPut d k v r
    else if j = k then (if v = d then r else (k, v) :: r)
    else if v = d then (j, u) :: r else (k, v) :: (j, u) :: r

/-- Keys strictly rising from above `lo`. -/
def tabRising {α : Type} : Tab α → Bool
  | [] => true
  | (_, _) :: [] => true
  | (j, _) :: (k, v) :: r => decide (j < k) && tabRising ((k, v) :: r)

end Sys2Proof.Machine
end

