-- ==== Sys2Proof/Machine/State.lean ====
section
/-! DEFINITION. The state of the engine, as plain data, and the reasons a step can stop. -/

namespace Sys2Proof.Machine

/-- What the engine sends out at its boundary (log 7). -/
inductive Emit where
  /-- An answer to a dictionary access of a master: abort code and word (PCIe has no write answer: R40). -/
  | answer (m : Master) (code : Nat) (w : Word)
  /-- A DMA write of a function (R272 to R283). -/
  | dma (func addr : Nat) (bytes : List Byte)
  /-- An MSI-X message of a function. -/
  | msix (func vector : Nat)
  /-- An Irlin message to the peer of key binding `k`. -/
  | irlin (k : Nat) (via : Via) (bytes : List Byte)
  /-- A response of the SPI target. -/
  | spi (bytes : List Byte)
  /-- A frame handed to a port's transmitter, with its launch instant if it has one, the addresses of the lower layers the engine
  puts around it (log 41; none for a whole frame), and its bytes. -/
  | frame (port : Nat) (launch : Option T96) (dest : List Byte) (bytes : List Byte)
  /-- An edge placed at a PPSOUT ball: level, instant, bound. -/
  | pulse (out : Nat) (high : Bool) (at_ : T96) (bound : Bound)
  /-- A Time Lane frame period: the frame's bytes and the 32 blocks as sent, each a sync header and a scrambled payload (R239). -/
  | lane (l : Nat) (bytes : List Byte) (blocks : List (Nat × Nat))
  /-- A DMA read that a function makes of host memory (R73): address and length. -/
  | dmaRead (func addr len : Nat)
  /-- A CLKOUT edge report (R231): output, instant, bound. -/
  | clock (out : Nat) (at_ : T96) (bound : Bound)
  /-- A scheduled action reported missed to its unit with its handle (R15); `safe` is the safe-state cause (R261). -/
  | missed (unit handle : Nat) (safe : Bool)
  /-- A value received with a residue mismatch and delivered with the invalid mark (R30). -/
  | invalid (dom island : Nat)
  /-- Bytes written to the boot flash, at an address (R403). -/
  | flash (addr : Nat) (bytes : List Byte)
  /-- Bits shifted out of JTAG_TDO. -/
  | tdo (bits : List Bool)
deriving DecidableEq, Repr

/-- The inside of a fitted leaf and its island copy (R16 to R22): the pad in ps, t_fwd at start-up in fs, the 1,024-strobe
period of the latest re-measurement, the value latched at the latest edge, the copy less Privet in 2⁻⁵⁶ ns, the correction spread
over the 16 cycles from a tick in 2⁻⁵⁶ ns, the value in 2⁻⁵⁶ ns below which the copy does not read, the cycle measured at the latest
edge, misses in a row, good strobes in a row, whether the latest strobe's named value has been used, and one that came between
launch and edge, the tick of the latest order mark its path has delivered (R116), and the copy as it stood at the latest edge before
that edge's correction (R214). -/
structure Leaf where
  pad : Nat := 0
  fwd0 : Nat := 0
  remeasured : Nat := 0
  latched : T96 := 0
  dev : Int := 0
  spread : Int := 0
  spreadFrom : Nat := 0
  floor : Nat := 0
  cycle : Nat := 0
  misses : Nat := 0
  good : Nat := 0
  arrived : Bool := true
  early : Option (T96 × Byte) := none
  mark : Nat := 0
  before : Nat := 0
deriving DecidableEq, Repr

/-- A handshake channel (R12, R13): the request that waits for its acknowledge, with the tick it rose at and the item the sender
holds; whether the channel is declared stalled; the item the receiver captured last, whether its residue agreed, and the tick of that
acknowledge. -/
structure Channel4 where
  request : Option (Nat × HsItem) := none
  stalled : Bool := false
  received : Option (HsItem × Bool) := none
  acked : Option Nat := none
deriving DecidableEq, Repr

/-- Domains, islands and memory protection: the leaves; the named value of the latest strobe, Privet's value at that edge in 2⁻⁵⁶ ns,
the strobes so far and the tick of the latest; the handshake channels by 8·channel + domain; the write-backs that wait for a
free cycle (R27) and the words to scrub again (R29), by array and word; and the words each bank's patrol has read since reset
(R28); the next free word of the packet buffer (log 16). -/
structure Islands where
  leaves : Tab Leaf := []
  strobeValue : T96 := 0
  edgeTime : Nat := 0
  strobes : Nat := 0
  strobeAt : Option Nat := none
  channels : Tab Channel4 := []
  writeBack : List (Nat × Nat) := []
  rescrub : List (Nat × Nat) := []
  scrubbed : Tab Nat := []
  bufNext : Nat := 0
deriving DecidableEq, Repr

/-- The pending half of a PCIe guarded write (R41, R42). -/
structure Pair where
  world : Nat
  func : Nat
  index : Nat
  sub : Nat
  value : Word
  tick : Nat
deriving DecidableEq, Repr

/-- A commit in progress (R65): its reference, whether it locks, the Irlin session its reply goes to, whether stage 5
made it, and whether its deciding sweep has started. -/
structure Commit where
  ref : Nat
  lock : Bool
  reply : Option (Nat × Via × Nat) := none
  image : Bool := false
  sweeping : Bool := false
deriving DecidableEq, Repr

/-- A granted Irlin subscription (R61). -/
structure Subscription where
  key : Nat
  via : Via
  domains : Nat
  minSev : Nat
  expires : Nat
deriving DecidableEq, Repr

/-- The control island: master latches (R38), staged words (R39), the pending pair, write-once and lock state, commit,
sweep and edit window, the Irlin sequence windows and subscriptions. Latches and staged words are kept by master number
and by 256·index + subindex. -/
structure Control where
  latch : Tab (Nat × List Word) := []
  staged : List (Nat × Nat × Word) := []
  pair : Option Pair := none
  w1 : List Nat := []
  locked : Bool := false
  commit : Option Commit := none
  sweep : Option Nat := none
  editUntil : Option Nat := none
  matched : Bool := false
  seen : Tab Nat := []
  outSeq : Tab Nat := []
  subs : List Subscription := []
deriving DecidableEq, Repr

/-- The variants of the engine (R1, R4). -/
inductive Part where
  | pky9620 | pky9616 | pky9612
deriving DecidableEq, Repr
/-- The decimal part number (R4). -/
def Part.number : Part → Nat
  | .pky9620 => 0x2594 | .pky9616 => 0x2590 | .pky9612 => 0x258C

/-- Key material as it is held: two shares whose XOR is the key (R385, R406). -/
structure Shares where
  a : List Byte := []
  b : List Byte := []
deriving DecidableEq, Repr

/-- What the part holds without power (R4, R6, R72, R81, R88, R269, R403): fixed at manufacture or burnt since. -/
structure Otp where
  part : Part := .pky9620
  grade : Nat := 0
  mask : Nat := 0x3F
  lifecycle : Nat := 0
  halfBurnt : Option Nat := none
  rootWritten : Nat := 0
  rootMarked : Nat := 0
  root : Shares := {}
  bootOptions : Nat := 0
  bifur : Nat := 0
  certified : Bool := false
  anchorCounter : Nat := 0
  macBase : Nat := 0
  euiBase : Nat := 0
  leafAsym : Tab Int := []
  expectLogic : Tab Nat := []
  expectMem : Tab Nat := []
deriving DecidableEq, Repr

/-- Start-up: the image slots still to try with where each came from (1 A, 2 B, 3 host), the read by DMA that a host's image waits
for (function, address, length), the burn in progress with the
tick it may last to, whether stage 6 has completed or failed, the tick of the trim write that waits for a whole second, and what a
warm reset keeps in force of the fuses that take effect at power-on (R269, R409): the link arrangement, certified mode. -/
structure Boot where
  images : List (Nat × List Byte) := []
  dma : Option (Nat × Nat × Nat) := none
  burning : Option (Nat × Nat) := none
  stage6 : Bool := false
  calFailed : Bool := false
  trimAt : Option Nat := none
  kept : Option (Nat × Bool) := none
deriving DecidableEq, Repr

/-- The pins and the clock that reset and power decide (R69, R70, R425, R455). -/
structure Power where
  pwrgood : Bool := true
  resetN : Bool := true
  held : Bool := false
  oscin : Bool := true
  otpFail : Bool := false
deriving DecidableEq, Repr

/-- Privet (R89 to R119): its value in 2⁻⁵⁶ ns, the value one tick before (the value itself where a step has just been applied), the increment in force, the slew of the interval with its start tick and
the part of it absorbed, the remaining slew phase in 2⁻⁵⁶ ns, the changes that wait for a strobe edge with the tick
each reached the core (increments oldest first), the retard still to give up, its full offset
and the tick it started at, the staged NS, the permit's deadline, and the leap, smear and
blocked-slew marks (with the announcement that is ignored, and the leap last applied with its change of offset); the phase slews, steps and retards have given since reset in 2⁻⁵⁶ ns, and whether an initial time was
written. -/
structure Privet where
  time : Nat := 0
  prev : Nat := 0
  incr : Nat := 2 * 2 ^ 56
  slew : Int := 0
  slewFrom : Nat := 0
  slewDone : Int := 0
  remain : Int := 0
  pendSlew : List (Int × Nat) := []
  pendIncr : List (Nat × Nat) := []
  pendStep : Option (Int × Nat × Nat) := none
  retard : Nat := 0
  retarding : Bool := false
  retardFull : Nat := 0
  retardFrom : Nat := 0
  stagedNs : Option Nat := none
  permitUntil : Option Nat := none
  blocked : Bool := false
  leapMismatch : Option (Nat × Int) := none
  lastLeap : Option (Nat × Int) := none
  leapValidAt : Tab Nat := []
  smearUntil : Nat := 0
  smearLeap : Option (Nat × Nat × Int × Nat) := none
  smearDefer : Option (Nat × Nat) := none
  initAhead : Bool := false
  moved : Int := 0
  initWritten : Bool := false
deriving DecidableEq, Repr

/-- An armed schedule slot (R111 to R114): the instant it waits for, in 2⁻¹⁶ ns, whether its command has reached its
island, and whether a forward step has carried the island past it. -/
structure Sched where
  at_ : T96
  delivered : Bool := false
  stepped : Bool := false
deriving DecidableEq, Repr

/-- A release line (R130): E₀, B₀, the tick of its start or restart, T in ticks, the tick of the first start, and, once L
has reached the target, E as it was before that tick. -/
structure Release where
  e0 : Bound
  b0 : Bound
  t0 : Nat
  period : Nat
  first : Nat
  met : Option Bound := none
deriving DecidableEq, Repr

/-- The quantities frozen at a holdover entry (R126, R127): the tick t counts from, the time of that measurement (R328), B_entry, |y_entry| in 10⁻¹⁸, D in
10⁻²¹ /s, k × 10, the stability model's a and b in 10⁻¹⁸. -/
structure Hold where
  start : Nat
  at_ : T96
  entry : Bound
  y : Nat
  d : Nat
  k : Nat
  a : Nat
  b : Nat
deriving DecidableEq, Repr

/-- A disagreement record or a member of a MERGED one (R128): kind, slots a and b, value, start time, and the phase
difference at its opening in fs. -/
structure Dis where
  kind : Nat
  a : Nat
  b : Nat
  value : Bound
  start : T96
  phase0 : Int := 0
deriving DecidableEq, Repr

/-- An entry of the audit ledger with its chain value (R134). -/
structure LedgerEntry where
  seq : Nat
  kind : Nat
  term : Nat
  source : Nat
  time : T96
  old : Bound
  new : Bound
  detail : Nat
  chain : List Byte
deriving DecidableEq, Repr

/-- The attestation record in progress (R138, R139). -/
structure Attest where
  started : Bool := false
  start : T96 := 0
  maxCore : Bound := 0
  maxOut : Bound := 0
  maxAt : T96 := 0
  ootTicks : Nat := 0
  holdTicks : Nat := 0
  since : Nat := 0
  switches : Nat := 0
  flags : Nat := 0
  misses : Nat := 0
  faults : List Nat := [0, 0, 0, 0]
  firstSeq : Nat := 0
  nextSeq : Nat := 0
  prev : List Byte := []
  period : Nat := 3600
deriving DecidableEq, Repr

/-- A ledger entry that waits for the strobe edge at which its change takes effect (R123, R135): kind, term, source,
detail, the tick of the decision. -/
structure DueEntry where
  kind : Nat
  term : Nat
  source : Nat
  detail : Nat
  tick : Nat
deriving DecidableEq, Repr

/-- The bound unit, the audit ledger (newest entry first) and the attestation records (R120 to R142). -/
structure BoundUnit where
  e : Bound := 0xFFFFFFFF
  target : Bound := 0xFFFFFFFF
  release : Option Release := none
  hold : Option Hold := none
  coreHeld : Bool := false
  ootPend : Bool := false
  oot : Bool := false
  ootClear : Option Nat := none
  ootAt : Nat := 0
  pendSafe : Option (Nat × Nat × Bound) := none
  goodTerms : Bound := 0
  dis : List (Nat × Bool × List Dis) := []
  ledger : List LedgerEntry := []
  baseChain : List Byte := List.replicate 32 0#8
  written : Nat := 0
  attest : Attest := {}
  signing : List (Nat × List Byte) := []
  held : Option (List Bound × Option Hold) := none
  due : List DueEntry := []
  lastTerms : List Bound := []
deriving DecidableEq, Repr

/-- A measurement of a slot: the tick of its stamp, OSCIN's count there in fs, Privet's time there in fs, φ_ref − φ_Privet
in fs after `REF_DELAY`, whether it is valid (R148, R151), Privet's `moved` there, and the counts there of the reference itself and
of the ensemble time-scale in fs (R149). -/
structure Meas where
  tick : Nat
  osc : Nat
  priv : Nat
  phase : Int
  valid : Bool
  moved : Int
  ref : Int := 0
  ens : Int := 0
deriving DecidableEq, Repr

/-- A time-of-day line inside its layout (R160): SEQ, TAI, OFFSET, LEAP (0 N, 1 I, 2 D), LEAPTAI, Q, BOUND, FLAGS. -/
structure TodLine where
  seq : Nat
  tai : Nat
  offset : Int
  leap : Nat
  leapTai : Nat
  q : Nat
  bound : Bound
  flags : Nat
deriving DecidableEq, Repr

/-- The time-of-day side of a PPSIN slot (R161 to R163): the last kept line's SEQ and TAI, the edges since it, kept lines in
unbroken succession, edges passed without a line, whether the monitor is failing, lines with another OFFSET in a row, the
second the next edge is named, the edges stamped since the slot was enabled (ticks, newest first, two kept), lines that wait for the
edge they name, whether a line has been kept since the last edge, whether its BOUND exceeds `BREF_CONFIG`, and the bytes of a line
that has begun with their framing errors (R159). -/
structure Tod where
  line : Option (Nat × Nat) := none
  edgesSince : Nat := 0
  run : Nat := 0
  missed : Nat := 0
  failing : Bool := false
  offsetRun : Nat := 0
  named : Option Nat := none
  edges : List Nat := []
  wait : List (TodLine × Nat) := []
  kept : Bool := false
  tooWide : Bool := false
  begun : List (Byte × Bool) := []
deriving DecidableEq, Repr

/-- A reference slot beside its entries (R143 to R178): measurements newest first, the tick its windows start from, the
last arrival and the last good measurement with its time, the tick its monitors last broke and the tick it last became or came back
to QUALIFIED, the 10 s estimates by tick, newest first, in 10⁻¹⁸, the latest window estimates, the B_ref its source
gives, the slow-drift excursion in ps, epochs missed, the received quality, the extremes of the phase against the ensemble time-scale
that the auto-accept watch has seen in fs with the tick it started, and whether a cause of DEGRADING was there at the last
evaluation. -/
structure Slot where
  meas : List Meas := []
  since : Nat := 0
  arrival : Nat := 0
  lastGood : Nat := 0
  goodAt : T96 := 0
  passSince : Nat := 0
  qualSince : Nat := 0
  tens : List (Nat × Int) := []
  y1 : Option Int := none
  y10 : Option Int := none
  y100 : Option Int := none
  bref : Bound := 0xFFFFFFFF
  excursion : Nat := 0
  missed : Nat := 0
  level : Nat := 0
  lastInfo : Nat := 0
  tod : Tod := {}
  watch : Option (Int × Int) := none
  watchFrom : Nat := 0
  edges : Nat := 0
  drifting : Bool := false
deriving DecidableEq, Repr

/-- An equal-rank pair under watch (R169): the slots, evaluations in a row beyond and within tolerance, whether it
disagrees, and the slot that has lost the arbitration. -/
structure RankPair where
  a : Nat
  b : Nat
  beyond : Nat := 0
  within : Nat := 0
  opened : Bool := false
  loser : Option Nat := none
deriving DecidableEq, Repr

/-- Hornbeam (R143 to R178): the slots, a decided selection that waits for its strobe edge with the tick of the decision
and whether a step absorbs its phase, the decision that stood before the tick of the latest selection, and the equal-rank pairs. -/
structure Hornbeam where
  slots : Tab Slot := []
  pending : Option (Nat × Nat × Bool) := none
  base : Option (Nat × Option (Nat × Nat × Bool)) := none
  pairs : List RankPair := []
deriving DecidableEq, Repr

/-- An ensemble member beside its entries (R187 to R194): ticks its input monitors and its innovation test have passed
from, failures of the test in a row, the temperature at PROBATION in 0.01 °C, its aging bound in 10⁻²¹ /s, its learned
model's tick of the latest refit, whether it has once completed PROBATION, whether an input monitor fails now; the raw time of its
last stamped edge in fs with the tick; its estimated phase against the scale and its unwrapped phase against OSCIN in as (10⁻¹⁸ s),
the updates of its filter; the sums, by member, of what the members' phases have shown beyond their predictions since its innovation
last passed (R193), and its phases against the scale second by second, newest first (R188). -/
structure Member where
  inputSince : Nat := 0
  testSince : Nat := 0
  fails : Nat := 0
  temp0 : Int := 0
  d : Nat := 0
  refit : Nat := 0
  probated : Bool := false
  inputBad : Bool := false
  edge : Option (Int × Nat) := none
  x : Int := 0
  z : Int := 0
  count : Nat := 0
  apart : List Int := []
  history : List Int := []
deriving DecidableEq, Repr

/-- The holdover law (R195): f_steer in 10⁻¹⁸, d_steer in 10⁻²¹ /s, the tick t counts from, the entry temperature,
and the part of D that is not D_ens (R196). -/
structure HoldLaw where
  f : Int
  d : Int
  start : Nat
  temp : Int
  base : Nat := 0
deriving DecidableEq, Repr

/-- A value that integ took (R195, R197): the tick, integ in 10⁻¹⁸, the loop's type, the die temperature in 0.01 °C, and whether an
update or a preset gave it. -/
structure IntegRec where
  tick : Nat
  integ : Int
  type : Nat
  temp : Int
  update : Bool
deriving DecidableEq, Repr

/-- The loop as it stood before its latest update (R184): the tick of that update, the strobe edge its increment falls due at, v,
integ with its remainder, the tracking window, the integ records and the phase error. -/
structure LoopUndo where
  tick : Nat
  due : Nat
  v : Int
  integ : Int
  fine : Int
  xs : List Nat
  updates : Nat
  integs : List IntegRec
  err : Int
deriving DecidableEq, Repr

/-- Yew (R179 to R202): the steer v and integ, y_OSC and the held y_ref in 10⁻¹⁸, what integ has gathered below 10⁻¹⁸ in 10⁻³³;
d_steer; the tracking window's |x| in fs newest first and the updates since it was cleared; the values integ took, newest first; the
holdover law; the tick the update interval in progress began at; the tick of the latest preset, the loop before its latest update
(R184) and the time of that update (R328); members with the raw phase differences of their pairs in as by 8·i + j (R187), the tick of the latest ensemble update;
ambiguity and the tick all innovations have been within the limit from; whether the scale has started, its count less OSCIN's and its
offset from Privet in as with Privet's value there, at that update (R193); temperature readings with the tick of each; the loop's
temperature coefficient in 10⁻¹⁵ /K. -/
structure Yew where
  v : Int := 0
  integ : Int := 0
  fine : Int := 0
  yOsc : Int := 0
  yRefHeld : Int := 0
  dSteer : Int := 0
  xs : List Nat := []
  updates : Nat := 0
  integs : List IntegRec := []
  law : Option HoldLaw := none
  began : Nat := 0
  presetAt : Option Nat := none
  undo : Option LoopUndo := none
  lastUpdate : T96 := 0
  members : Tab Member := []
  pairRaw : Tab Int := []
  ensAt : Nat := 0
  ambiguous : Bool := false
  withinSince : Nat := 0
  scale : Bool := false
  scaleAs : Int := 0
  scaleOff : Int := 0
  scalePriv : Nat := 0
  tempTicks : Tab Nat := []
  tempFrozen : Tab Int := []
  loopTempco : Int := 0
deriving DecidableEq, Repr

/-- A stamped edge of a channel (R209): its bank, the raw stamp in fs modulo 2⁴⁸ ticks, the wrap count, the event's raw time before
`CH_DELAY`, FLAGS, whether the raw stamp is invalid, the TIME96 stamp with its bound, and the tick. -/
structure Edge where
  bank : Nat := 0
  raw : Int := 0
  wraps : Nat := 0
  event : Int := 0
  flags : Nat := 0
  rawBad : Bool := false
  stamp : T96 := 0
  bound : Bound := 0xFFFFFFFF
  tick : Nat := 0
deriving DecidableEq, Repr

/-- A channel beside its entries (R207 to R212): the last stamped edge, the place in the prescale, SEQ of STAMP and PERIOD,
dead-time misses since the last stamp, h of each converter in fs, the tick of each calibration, the tick of the last
edge of any kind, the edge count latched at the last millisecond, and the stamped edge that a period above 10 MHz is judged from: its
raw time, the stamped edges since, its strobe interval (R146). -/
structure Channel where
  last : Option Edge := none
  phase : Nat := 0
  seqStamp : Nat := 0
  seqPeriod : Nat := 0
  dead : Bool := false
  hA : Nat := 1000000
  hB : Nat := 1000000
  calA : Nat := 0
  calB : Nat := 0
  lastEdge : Nat := 0
  latched : Nat := 0
  span : Option (Int × Nat × Nat) := none
deriving DecidableEq, Repr

/-- A pair unit beside its entries (R213): start edges that wait with the best stop edge so far, the latest stop edges, SEQ,
and the count, sum, sum of squares, minimum and maximum of its results in fs. -/
structure PairUnit where
  waits : List (Edge × Option Edge) := []
  stops : List Edge := []
  seq : Nat := 0
  count : Nat := 0
  sum : Int := 0
  squares : Nat := 0
  low : Int := 0
  high : Int := 0
deriving DecidableEq, Repr

/-- A bank's coarse counter (R204 to R206): its value at a tick, wraps, and whether it has been loaded. -/
structure Bank where
  value : Nat := 0
  tick : Nat := 0
  wraps : Nat := 0
  loaded : Bool := false
deriving DecidableEq, Repr

/-- A raw result that waits for the strobe edge that checks its banks (R205, R215): kind, source, FLAGS, SEQ, TIME and BOUND, VALUE,
the bank and tick of each of its stamps, and the world it is exported to (15 for none). -/
structure TicResult where
  kind : Nat
  source : Nat
  flags : Nat
  seq : Nat
  time : T96
  bound : Bound
  value : Int
  stamps : List (Nat × Nat)
  world : Nat
  raw : Bool
deriving DecidableEq, Repr

/-- The interval counters (R203 to R219), with the strobe count at the load, the results of the strobe interval in progress, oldest
first, and the tick of the latest latch of the edge counts. -/
structure Counters where
  channels : Tab Channel := []
  pairs : Tab PairUnit := []
  banks : Tab Bank := []
  loadStrobe : Option Nat := none
  results : List TicResult := []
  latchAt : Option Nat := none
deriving DecidableEq, Repr

/-- An MDLL beside its entries (R220 to R226): the ratio in force (N, F) where one has been applied, the reference and its
frequency in force, good windows in a row, a new ratio that waits for its outputs to be on bypass, a stop that waits for
the same, whether the reference's monitors fail and the tick they have passed from; the instant in the island's copy that the DTC
counts from, in 2⁻⁵⁶ ns (moved with every step and retard), the reference cycles and the whole VCO periods the DTC has wrapped since
(R221, R224), and the delay code it holds. -/
structure Mdll where
  ratio : Option (Nat × Nat) := none
  ref : Nat := 0
  refHz : Nat := 10000000
  good : Nat := 0
  retune : Option (Nat × Nat) := none
  stopping : Bool := false
  refBad : Bool := false
  refOkSince : Nat := 0
  origin : Int := 0
  cycles : Nat := 0
  wraps : Int := 0
  dtc : Nat := 0
deriving DecidableEq, Repr

/-- A CLKOUT beside its entries (R227 to R232): whether its current clock is the MDLL's, the armed switch and its target, the
divisor, source and phase (ps) in force, whether it is driven low, the displacement of its edges from the grid in
2⁻⁵⁶ ns, and the bypass divider of the frequency it left for bypass during a change (R225, R227; 0 where there is none). -/
structure Clkout where
  onMdll : Bool := false
  armed : Option Bool := none
  div : Nat := 32
  src : Nat := 0
  phase : Nat := 0
  stopped : Bool := false
  shift : Int := 0
  former : Nat := 0
deriving DecidableEq, Repr

/-- A PPSOUT beside its entries (R233 to R237): whether the active level is driven, the instant in ps its pulse in progress
ends, the instant in ps before which the grid places no edge, follow-mode leading edges to come in ps, whether
squelch has stopped it, the tick of the source's last stamped edge, and whether the source is lost. -/
structure Pulse where
  active : Bool := false
  trail : Option Nat := none
  notBefore : Nat := 0
  follow : List Nat := []
  squelched : Bool := false
  source : Nat := 0
  lost : Bool := false
deriving DecidableEq, Repr

/-- A Time Lane beside its entries (R239 to R243): whether it realigns, the INVALID frames sent since, whether its clock
multiplier is unlocked, the displacement of its frame starts from the grid in 2⁻⁵⁶ ns, a step or retard start since its
last frame, and the 58 bits its scrambler holds (R239). -/
structure Lane where
  realigning : Bool := false
  sent : Nat := 0
  unlocked : Bool := false
  offset : Int := 0
  stepped : Bool := false
  scrambler : Nat := 0
deriving DecidableEq, Repr

/-- The Synthesis domain (R220 to R246), with the MDLLs that have left LOCKED in this tick and whose event is still to be raised. -/
structure Synthesis where
  unlocked : List Nat := []
  mdlls : Tab Mdll := []
  clkouts : Tab Clkout := []
  pulses : Tab Pulse := []
  lanes : Tab Lane := []
deriving DecidableEq, Repr

/-- Where a frame comes from, so that its issuer can rebuild it (R261): the unit (0 PTP, 1 NTP, 16 + world a TX ring), the
instance, the message kind, the client's handle or the upstream master, the sequence number, the peer and what else the message answers. -/
structure Origin where
  unit : Nat
  inst : Nat := 0
  kind : Nat := 0
  client : Option Nat := none
  seq : Nat := 0
  peer : List Byte := []
  req : List Byte := []
  stamp : T96 := 0
  bound : Bound := 0
  port : Nat := 0
deriving DecidableEq, Repr

/-- A code over a frame's bytes completed after the insertions (R258): its kind (1 HMAC ICV, 2 GMAC ICV, 3 AES-SIV), the key
material, where the bytes it covers begin, where it is written, the nonce or IV, and what AES-SIV seals. -/
structure Seal where
  kind : Nat
  key : List Byte
  start : Nat := 0
  at_ : Nat
  nonce : List Byte := []
  plain : List Byte := []
deriving DecidableEq, Repr

/-- A frame on its way to a port or held there (R256 to R264): its launch handle, bytes (log 41), the bytes of the lower layers
around them, insertions as (offset, format), the code, its priority, whether the port writes its checksums, the stamp handle
of a two-step frame, and whether it is to be rebuilt. -/
structure Outgoing where
  handle : Nat := 0
  origin : Origin
  bytes : List Byte := []
  carrier : Nat := 4
  ins : List (Nat × Nat) := []
  code : Option Seal := none
  priority : Nat := 0
  csum : Bool := false
  stamp : Option Nat := none
  stale : Bool := false
deriving DecidableEq, Repr

/-- A launch frame the port holds (R257 to R260): the frame as it was handed over, its bytes with insertions and code, L and
the end of the frame with its gap in 2⁻¹⁶ ns, and whether it has been rescheduled. -/
structure Launch where
  frame : Outgoing
  bytes : List Byte
  l : T96
  clear : T96
  again : Bool := false
deriving DecidableEq, Repr

/-- A stamp handle index (R263): its generation, state (0 free, 1 issued, 2 quiet) and the tick its quiet time ends. -/
structure Handle where
  gen : Nat := 0
  state : Nat := 0
  quiet : Nat := 0
deriving DecidableEq, Repr

/-- A received frame in the packet buffer with its ingress metadata (R84, R253, R279): its bytes, stamp, bound, flags, port, class,
priority, its first word of the buffer (log 16), and whether its octets count in the port's receive occupancy (R262). -/
structure RxFrame where
  bytes : List Byte
  stamp : T96
  bound : Bound
  flags : Nat
  port : Nat
  cls : Nat
  prio : Nat := 0
  at_ : Nat := 0
  held : Bool := false
deriving DecidableEq, Repr

/-- A port beside its entries (R247 to R268): frames on their way to launch, launches held in the order of L, frames to send
without launch, the stamp queue's entries with their consumer, the lost run's handles in issue order with their consumers, SEQ,
the handles by index, receive occupancy by priority, the tick a received pause ends by priority, the tick of the latest XOFF
by priority, the launch handles given, the tick calibration began, the world whose frame left last, and the received frames that
the engines have still to take, oldest first. -/
structure Port where
  arriving : List Outgoing := []
  held : List Launch := []
  sending : List Outgoing := []
  queue : List (Origin × List Byte) := []
  lost : List (Origin × Nat) := []
  seq : Nat := 0
  handles : Tab Handle := []
  occupancy : Tab Nat := []
  pausedUntil : Tab Nat := []
  xoffAt : Tab Nat := []
  nextHandle : Nat := 0
  calFrom : Nat := 0
  turn : Nat := 0
  inbox : List RxFrame := []
deriving DecidableEq, Repr

/-- A transmit frame whose descriptors have been read (R280): the count of its SOF slot, the USER word of each of its
descriptors, and its result (ERR, stamp handle) once it has been sent or refused. -/
structure TxEntry where
  start : Nat
  users : List Nat
  result : Option (Nat × Nat) := none
deriving DecidableEq, Repr

/-- The lost counter results of one kind and source (R216): the first and the last lost SEQ and the count. -/
structure TicLoss where
  kind : Nat
  source : Nat
  first : Nat
  last : Nat
  count : Nat
deriving DecidableEq, Repr

/-- What a ring holds beside its entries (R274 to R283): completions per slot, the base its generations start from, the tick
its quiet time ends, the lost entries not yet reported with the KIND of the first, the lost counter results by kind and source (R216),
the ticks of the unconsumed entries oldest first, whether the pending episode has been signalled, the frames waiting for
receive buffers, and the transmit frames not yet completed. -/
structure Ring where
  done : Tab Nat := []
  genBase : Nat := 0
  quietUntil : Nat := 0
  lost : Nat := 0
  lostKind : Nat := 0
  ticLost : List TicLoss := []
  ages : List Nat := []
  signalled : Bool := false
  waiting : List RxFrame := []
  sent : List TxEntry := []
deriving DecidableEq, Repr

/-- The host domain's transport: rings by 8·world + kind, the SPI target's event queue, Irlin replies and staged image
(R287, R288), and the commands in progress as (world, descriptor, generation base at its reading); and the steer table's former targets
and worlds by class with the tick of the change, for the frames of that tick (R84). -/
structure HostPath where
  steerWas : Tab (Nat × Nat × Nat) := []
  rings : Tab Ring := []
  spiEvents : List (List Byte) := []
  spiReplies : List (List Byte) := []
  spiImage : List (Nat × List Byte) := []
  cmd : List (Nat × DmaDesc × Nat) := []
deriving DecidableEq, Repr

/-- A grant of a client: log interval, expiry tick, and the tick of the grant (R301, R302). -/
structure Grant where
  log : Int
  expires : Nat
  given : Nat := 0
deriving DecidableEq, Repr

/-- A slot of the client store (R300, R304). -/
structure Client where
  used : Bool := false
  gen : Nat := 0
  quietUntil : Nat := 0
  inst : Nat := 0
  port : Nat := 0
  flags : Nat := 0
  addr : List Byte := []
  portId : List Byte := []
  vlan : Nat := 0
  announce : Option Grant := none
  sync : Option Grant := none
  delay : Option Grant := none
  pdelay : Option Grant := none
  spp : Nat := 0
  sa : Nat := 0
  announceSeq : Nat := 0
  syncSeq : Nat := 0
  renewals : Nat := 0
deriving DecidableEq, Repr

/-- An entry of the partner table with its last accepted report (R319, R321). -/
structure Partner where
  active : Bool := false
  gen : Nat := 0
  quietUntil : Nat := 0
  id : Nat := 0
  seq : Nat := 0
  last : Nat := 0
  interval : Nat := 0
  bound : Bound := 0
  via : Nat := 0
  report : List Byte := []
deriving DecidableEq, Repr

/-- An upstream request or Sync an instance still waits to match (R316): its epoch, sequenceId, expiry tick, the stamps
known so far in 2⁻¹⁶ ns, corrections, and the Bound TLV's bound; the port of a Pdelay request. `kind` 0 is a Sync pair, 1 a Delay
request, 2 a Pdelay request. -/
structure Exchange where
  kind : Nat
  epoch : Nat
  seq : Nat
  expires : Nat
  t1 : Option Int := none
  t2 : Option Int := none
  t3 : Option Int := none
  t4 : Option Int := none
  corr : Int := 0
  bound : Option Bound := none
  port : Nat := 0
deriving DecidableEq, Repr

/-- An Announce data set as received, with the tick of the latest one (R295, R313). -/
structure ParentSet where
  port : Nat
  portId : List Byte
  gmId : Nat
  priority1 : Nat
  priority2 : Nat
  cls : Nat
  accuracy : Nat
  variance : Nat
  steps : Nat
  timeSource : Nat
  flags : Nat
  last : Nat
deriving DecidableEq, Repr

/-- A PTP instance beside its entries: upstream parent, the Announces heard, the exchanges in flight and the completed ones
of the current second as (offset in fs, round trip in fs, Bound TLV), the mean link delays by port and the latest completed Sync pair's
t2 − t1 − c_s in 2⁻¹⁶ ns with its Bound TLV, the tick of the latest valid Sync, the last request and Sync sequenceIds, sequence
numbers by port and message type, the (port, handle, message kind, sequenceId) of the stamps awaited, the HOPS, SOURCE and ROOT_ID last received and
those in use, and whether the parent is lost. -/
structure PtpInst where
  parent : Option ParentSet := none
  heard : List ParentSet := []
  exchanges : List Exchange := []
  done : List (Int × Int × Option Bound) := []
  links : Tab Int := []
  lastOffset : Option (Int × Option Bound) := none
  lastSync : Nat := 0
  lastReq : Nat := 0
  lastSyncSeq : Option Nat := none
  seqs : Tab Nat := []
  awaiting : List (Nat × Nat × Nat × Nat) := []
  tlvSeen : Option (Nat × Nat × Nat) := none
  tlvBound : Option (Nat × Nat × Nat) := none
  lost : Bool := true
deriving DecidableEq, Repr

/-- The PTP engine (R291 to R325): clients, partners, instances, generations and quiet times of the security associations
with the receive windows per sender (association, clockIdentity, highest, bits of the 64 below it), and the service packets of
the current second. -/
structure Ptp where
  clients : Tab Client := []
  partners : Tab Partner := []
  insts : Tab PtpInst := []
  saGen : Tab Nat := []
  saQuiet : Tab Nat := []
  saWindow : List (Nat × Nat × Nat × Nat) := []
  svcSecond : Nat := 0
  svcCount : Nat := 0
  svcAuth : Nat := 0
deriving DecidableEq, Repr

/-- A rate bucket (R337): its tokens in 2 × 10⁻⁹ token, the tick they were counted at, and the tick of its latest RATE. -/
structure Bucket where
  level : Nat
  tick : Nat
  kod : Option Nat := none
deriving DecidableEq, Repr

/-- The NTP/NTS engine (R326 to R341): the key of the bucket hash, the buckets used since reset, and the states the provisioned master key slots had until
earlier instants, newest first (R334). -/
structure Ntp where
  hashKey : Nat := 0
  buckets : Tab Bucket := []
  past : List (T96 × List Nat) := []
deriving DecidableEq, Repr

/-- A capture record on its way to its ring (R349, R352): the world, port, TIME, BOUND, FLAGS, LENGTH, DIGEST and SEQ, and the
octets a digest is still to be computed over. -/
structure TapRec where
  world : Nat
  port : Nat
  time : T96
  bound : Bound
  flags : Nat
  length : Nat
  digest : List Byte := []
  seq : Nat
  msg : Option (List Byte) := none
deriving DecidableEq, Repr

/-- A pending loss of a port's records for a world's ring (R354): first and last lost SEQ and the count. -/
structure TapLoss where
  port : Nat
  world : Nat
  first : Nat
  last : Nat
  count : Nat
deriving DecidableEq, Repr

/-- Bramble (R342 to R358): records formed and not yet written, in the order they were formed; pending losses; and the ports
whose received stream is squelched. -/
structure Capture where
  records : List TapRec := []
  losses : List TapLoss := []
  squelched : List Nat := []
deriving DecidableEq, Repr

/-- A correction in force for a satellite (R378): IOD, clock in ps, radial, along-track and cross-track in 0.1 mm, code biases
in 10 ps, accuracy in ps, and the end of its validity. -/
structure Correction where
  iod : Nat
  clock : Int
  radial : Int
  along : Int
  cross : Int
  bias1 : Int
  bias2 : Int
  accuracy : Nat
  until' : T96
deriving DecidableEq, Repr

/-- A satellite slot beside its entries (R364 to R374): the satellite, channels back in acquisition by band, epochs smoothed,
the smoothed pseudorange, carrier combination and modelled delay of the last epoch in fs, whether it was dual-band then,
code minus carrier by T_e, newest first, whether it was used, the tick its exclusion ends, and the ticks its channels' multipath
fits run from. -/
structure Sat where
  sys : Nat
  prn : Nat
  lost1 : Bool := false
  lost2 : Bool := false
  n : Nat := 0
  smoothed : Int := 0
  carrier : Int := 0
  modelled : Int := 0
  dual : Bool := false
  cmc : List (T96 × Int) := []
  used : Bool := false
  exclUntil : Option Nat := none
  fit1 : Nat := 0
  fit2 : Nat := 0
deriving DecidableEq, Repr

/-- A notch (R369): its bin, and the tick since which the bin has stayed more than 3 dB below the threshold. -/
structure Notch where
  bin : Nat
  low : Option Nat := none
deriving DecidableEq, Repr

/-- A record of keep-alive memory (R380): 0 almanac, 1 ephemeris, 2 position, 3 jamming calibration, 4 last known time; the
satellite or band it is for; its bytes; and its CRC-32C. -/
structure Kept where
  kind : Nat
  key : Nat
  body : List Byte
  crc : Nat
deriving DecidableEq, Repr

/-- Juniper (R359 to R384): satellite slots; the tick of the first invalid sample of a band while it is invalid, and the tick valid samples last came back; the tick of the latest step, start or end of a retard; the epoch rate in force with a
change and the second it applies from; T_e of the last epoch; offsets by T_e with `moved` of Privet there, newest first; the clock of the
last solution, and B_sol of the last one that did not coast with its T_e; the indicators within their hold and the tick of the latest trip; a restart
of smoothing due at the next epoch; whether TIME_JUMP skips the next epoch; decoded messages in a row whose TAI − UTC differs, and the broadcast TAI − UTC; the start
of the survey; notches, bins above threshold with their spectra in a row, P and G by band; the alarm level reached; corrections by satellite; the pulse placed as (second, instant in
ps), the last second, the second whose solutions are invalid; sleep's start, the dwell's end, the tick of the latest wake condition, whether the last
cross-check passed; whether a fix has been had since the start; and keep-alive memory. -/
structure Gnss where
  sats : Tab (Option Sat) := []
  bad : Tab (Option Nat) := []
  back : Tab (Option Nat) := []
  broken : Option Nat := none
  rate : Nat := 1
  ratePend : Option (Nat × Nat) := none
  lastEpoch : Option T96 := none
  offsets : List (T96 × Int × Int) := []
  clock : Int := 0
  solid : Option (Bound × T96) := none
  spoof : Nat := 0
  trip : Option Nat := none
  restart : Bool := false
  fresh : Bool := true
  taiRun : Nat := 0
  taiUtc : Option Int := none
  surveyFrom : Option Nat := none
  notches : Tab (Option Notch) := []
  bins : Tab Nat := []
  power : Tab Int := []
  gain : Tab Int := []
  alarm : Bool := false
  corrections : List (Nat × Correction) := []
  pulse : Option (Nat × Int) := none
  pulseSec : Nat := 0
  badSecond : Option Nat := none
  sleepFrom : Nat := 0
  dwell : Option Nat := none
  wakeAt : Option Nat := none
  crossOk : Bool := true
  fixed : Bool := false
  keep : List Kept := []
deriving DecidableEq, Repr

/-- An entry of the derived cache (R396): the slot, the label of an unslotted child of it, the slot and generation of every
key of the chain, and the material. -/
structure Cached where
  slot : Nat
  label : Option (List Byte)
  chain : List (Nat × Nat)
  key : Shares
deriving DecidableEq, Repr

/-- A derivation in the private core (R396): what is derived, as the cache names it, and the chain when it started. -/
structure Derivation where
  slot : Nat
  label : Option (List Byte)
  chain : List (Nat × Nat)
deriving DecidableEq, Repr

/-- A use that waits for a derivation (R396): an NTS request, or a host's NTS_MINT with the world of its ring. -/
inductive KeyWait where
  | nts (x : NtpRx)
  | mint (w : Nat) (d : DmaDesc)
deriving DecidableEq, Repr

/-- An anchor of a journal record (R404). -/
structure Anchor where
  slot : Nat
  role : Nat
  type : Nat
  gen : Nat
  engine : Nat
  usage : Nat
  life : Nat
  worlds : Nat
  masters : Nat
  kcv : Nat
  key : List Byte
deriving DecidableEq, Repr

/-- An anchor commit in progress (R403): the record's number, the anchors it holds, and the tick its step began. -/
structure AnchorCommit where
  seq : Nat
  anchors : List Anchor
  since : Nat
deriving DecidableEq, Repr

/-- The vault (R385 to R412): material by slot number, anchors included; the quiet times of freed slots; the derived cache,
most recently used first; derivations running and the uses that wait for them; the kept records of DERIVED slots as
(generation, CRC); the shadows' material; the commit in progress; and requests served since the last reseed. -/
structure Vault where
  keys : Tab Shares := []
  quietUntil : Tab Nat := []
  cache : List Cached := []
  running : List Derivation := []
  waiting : List KeyWait := []
  kept : Tab (Nat × Nat) := []
  shadows : Tab Shares := []
  commit : Option AnchorCommit := none
  requests : Nat := 0
deriving DecidableEq, Repr

/-- A fault record (R418 to R420) with the SEQ it was last sent under. `state`: 1 HANDLING, 2 OPEN, 3 CLEARED, 4 a record of this tick at NOTE. -/
structure FaultRec where
  gen : Nat := 0
  state : Nat := 0
  source : Nat := 0
  sev : Nat := 0
  promoted : Bool := false
  merged : Nat := 0
  safe : Bool := false
  time : T96 := 0
  tick : Nat := 0
  detail : Nat := 0
  world : Nat := 0xFF
  sources : List Nat := []
  seq : Nat := 0
deriving DecidableEq, Repr

/-- Holly (R413 to R434): the log of 256 records, the ticks of each source's latest events newest first, the CONDITION
sources asserted, the severity an asserted source was raised to, the safe line with the tick it rose at, Holly's own failure, the test that runs
with its kind and islands, and the islands out of use. -/
structure Holly where
  log : Tab FaultRec := []
  hist : Tab (List Nat) := []
  asserted : List Nat := []
  safe : Bool := false
  safeSource : Nat := 0xFFFF
  safeAt : Nat := 0
  selfFault : Bool := false
  testing : List Nat := []
  testKind : Nat := 0
  failed : List Nat := []
  testFailed : Bool := false
deriving DecidableEq, Repr

/-- A sampled packet on its way through the service pipeline (R440): port, class, message kind, ingress stamp, and the tick it
was classified. -/
structure Sample where
  port : Nat
  cls : Nat
  msg : Nat
  stamp : T96
  tick : Nat
deriving DecidableEq, Repr

/-- The performance monitor beside its entries (R435 to R442): whether it runs, the command that waits for its strobe edge with
the tick of the write, the events of the strobe interval by 256·code + unit, the ticks above threshold by counter, the
candidates still to pass before the next sample, packets being followed, records, SEQ, the records latched by world, the tick
slots are counted from, and slots retired and wasted in the interval. -/
structure Perf where
  running : Bool := false
  pend : Option (Nat × Nat) := none
  events : Tab Nat := []
  ticks : Tab Nat := []
  skip : Nat := 0
  flight : List Sample := []
  samples : List (List Byte) := []
  seq : Nat := 0
  slotsFrom : Nat := 0
  retired : Nat := 0
  wasted : Nat := 0
deriving DecidableEq, Repr

/-- The JTAG port (R464): the instruction in force (0 BYPASS, 1 IDCODE, 2 SAMPLE/PRELOAD, 3 EXTEST), the boundary cells' update
stage, nearest TDO first, and whether the cells drive the pins. -/
structure Jtag where
  instruction : Nat := 1
  cells : List Bool := []
  driving : Bool := false
deriving DecidableEq, Repr

/-- The engine's state. `now` counts Privet ticks since reset release; `dict` holds the dictionary entries' words, as
`Ops.lean` keys them, each at its default where not listed (R32); `corTick` keeps, for the
clear-on-read shadows that have changed in this tick, the value at the tick's start and what the tick's events make of zero (R50); `draws` numbers the values drawn from the DRBG or left
open (log 8, log 9); `emits` lists what the engine has sent out, newest first (log 7); `pending` is the queue of
commands. -/
structure State where
  now : Nat := 0
  dict : Tab Word := []
  corTick : Tab (Nat × Nat) := []
  islands : Islands := {}
  control : Control := {}
  otp : Otp := {}
  boot : Boot := {}
  power : Power := {}
  privet : Privet := {}
  sched : Tab Sched := []
  bound : BoundUnit := {}
  hornbeam : Hornbeam := {}
  yew : Yew := {}
  counters : Counters := {}
  synth : Synthesis := {}
  ports : Tab Port := []
  host : HostPath := {}
  ptp : Ptp := {}
  ntp : Ntp := {}
  tap : Capture := {}
  gnss : Gnss := {}
  vault : Vault := {}
  holly : Holly := {}
  perf : Perf := {}
  jtag : Jtag := {}
  draws : Nat := 0
  emits : List Emit := []
  pending : List Instr := []
deriving DecidableEq, Repr

/-- Why the machine stops with a fault: for no reason at all. Every command of the spec leaves a next state, on every operand. -/
inductive Fault where
deriving DecidableEq, Repr

/-- Why a command has no meaning. -/
inductive Refusal where
  /-- A row of the opcode table with no meaning yet; safe: the model stops. -/
  | notModelled (mnemonic : String)
deriving DecidableEq, Repr

/-- The engine right after RESET_N has risen for the first time (R69): every entry at its default, Privet at zero, stage 1
begun, no command waiting. The part is a PKY9620-A with nothing burnt (log 4). -/
def State.reset : State := {}

end Sys2Proof.Machine
end

