-- ==== Sys2Proof/Machine/Ops.lean ====
section
/-! DEFINITION. The named operations over the dictionary, time, worlds and absence. -/

namespace Sys2Proof.Machine

/-- The place of an entry's word in the dictionary store: instance `i`, word `k`, and the world for a shadow of a
clear-on-read entry (R50). -/
def dictKey (e : Entry) (i k w : Nat) : Nat :=
  i / e.arr * 2 ^ 28 + e.idx * 4096 + (e.sub + i % e.arr * e.words + k) * 16 + w

/-- The default of word `k` of instance `i`. -/
def entryDefault (e : Entry) (i k : Nat) : Word := if k = 0 then BitVec.ofNat 64 (e.default i) else 0

/-- Word `k` of instance `i`, as world `w` has it where the entry is clear-on-read. -/
def State.wordAt (s : State) (e : Entry) (i k w : Nat) : Word :=
  tabGet (entryDefault e i k) (dictKey e i k w) s.dict
/-- Sets word `k` of instance `i`. -/
def State.setWordAt (s : State) (e : Entry) (i k w : Nat) (v : Word) : State :=
  { s with dict := tabPut (entryDefault e i k) (dictKey e i k w) v s.dict }

/-- The value of a one-word entry. -/
def State.word (s : State) (e : Entry) (i : Nat := 0) : Word := s.wordAt e i 0 0
/-- The value of a one-word entry as a number. -/
def State.n (s : State) (e : Entry) (i : Nat := 0) : Nat := (s.word e i).toNat
/-- The value of a one-word entry as a signed number. -/
def State.int (s : State) (e : Entry) (i : Nat := 0) : Int := (s.word e i).toInt
/-- A BOOL entry. -/
def State.flag (s : State) (e : Entry) (i : Nat := 0) : Bool := decide (s.n e i ≠ 0)
/-- Sets a one-word entry. -/
def State.set (s : State) (e : Entry) (i v : Nat) : State := s.setWordAt e i 0 0 (BitVec.ofNat 64 v)
/-- Sets a one-word signed entry. -/
def State.setInt (s : State) (e : Entry) (i : Nat) (v : Int) : State := s.setWordAt e i 0 0 (wordOfInt v)
/-- Sets a BOOL entry. -/
def State.setFlag (s : State) (e : Entry) (i : Nat) (v : Bool) : State := s.set e i (ofBool v)

/-- The bits of a type's layout (R33). -/
def tyBits : Ty → Nat
  | .bool => 1 | .u8 | .enum => 8 | .u16 => 16 | .u32 | .bound32 | .keyref | .handle => 32
  | .i32 => 31 | .u64 => 64 | .i64 => 63 | .time96 | .octstr => 64
/-- The all-ones value a clear-on-read counter saturates at (R50). -/
def tyMax (t : Ty) : Nat := 2 ^ tyBits t - 1

/-- World `w`'s shadow of a clear-on-read entry (R50). -/
def State.shadow (s : State) (e : Entry) (i w : Nat) : Nat := (s.wordAt e i 0 w).toNat
/-- One world's shadow passed through `f`: the shadow at the tick's start and what this tick's events make of zero are kept
beside it (R50). -/
def State.corOne (s : State) (e : Entry) (i : Nat) (f : Nat → Nat) (w : Nat) : State :=
  let k := dictKey e i 0 w
  let u := s.shadow e i w
  let (start, fresh) : Nat × Nat := (s.corTick.find? (fun p => p.1 == k)).elim (u, 0) (·.2)
  { s.setWordAt e i 0 w (BitVec.ofNat 64 (f u)) with corTick := tabInsert k (start, f fresh) s.corTick }
/-- Every world's shadow of a clear-on-read entry passed through `f` (R50). -/
def State.corMap (s : State) (e : Entry) (i : Nat) (f : Nat → Nat) : State :=
  (List.range 16).foldl (fun s w => s.corOne e i f w) s
/-- World `w` reads its shadow and clears it (R50): the value at the start of the tick; the tick's own events stay. -/
def State.corRead (s : State) (e : Entry) (i w : Nat) : Word × State :=
  let k := dictKey e i 0 w
  match s.corTick.find? (fun p => p.1 == k) with
  | some (_, start, fresh) =>
    (BitVec.ofNat 64 start,
      { s.setWordAt e i 0 w (BitVec.ofNat 64 fresh) with corTick := tabInsert k (0, fresh) s.corTick })
  | none => (s.wordAt e i 0 w, s.setWordAt e i 0 w 0)
/-- World `w`'s shadow as a read without clearing returns it (R50, R51). -/
def State.corPeek (s : State) (e : Entry) (i w : Nat) : Word :=
  match s.corTick.find? (fun p => p.1 == dictKey e i 0 w) with
  | some (_, start, _) => BitVec.ofNat 64 start
  | none => s.wordAt e i 0 w
/-- A clear-on-read counter counts `k` events, saturating (R50). -/
def State.bump (s : State) (e : Entry) (i : Nat := 0) (k : Nat := 1) : State :=
  s.corMap e i (fun v => min (v + k) (tyMax e.ty))
/-- A clear-on-read maximum takes in a value (R31). -/
def State.corMax (s : State) (e : Entry) (i v : Nat) : State := s.corMap e i (fun u => max u (min v (tyMax e.ty)))

/-- Seconds of a TIME96 (R89). -/
def secOf (t : T96) : Nat := t / (10 ^ 9 * 65536)
/-- Nanoseconds of a TIME96 (R89). -/
def nsOf (t : T96) : Nat := t / 65536 % 10 ^ 9
/-- Fraction of a TIME96 (R89). -/
def fracOf (t : T96) : Nat := t % 65536
/-- A TIME96 of whole seconds. -/
def ofSec (n : Nat) : T96 := n * (10 ^ 9 * 65536)
/-- A TIME96 of nanoseconds. -/
def ofNs (n : Nat) : T96 := n * 65536
/-- Word `s` of a TIME96 (R33). -/
def t96Lo (t : T96) : Word := BitVec.ofNat 64 (fracOf t * 2 ^ 32 + nsOf t)
/-- Word `s + 1` of a TIME96 (R33). -/
def t96Hi (t : T96) : Word := BitVec.ofNat 64 (secOf t % 2 ^ 48)
/-- The TIME96 two words hold (R33). -/
def t96OfWords (lo hi : Word) : T96 :=
  ofSec (hi.toNat % 2 ^ 48) + (lo.toNat % 2 ^ 32) * 65536 + bitsOf lo.toNat 47 32
/-- The 12 bytes of a TIME96, seconds first (R25). -/
def t96Bytes (t : T96) : List Byte := be 6 (secOf t) ++ be 4 (nsOf t) ++ be 2 (fracOf t)
/-- A TIME96 entry. -/
def State.t96 (s : State) (e : Entry) (i : Nat := 0) : T96 := t96OfWords (s.wordAt e i 0 0) (s.wordAt e i 1 0)
/-- Sets a TIME96 entry. -/
def State.setT96 (s : State) (e : Entry) (i : Nat) (t : T96) : State :=
  (s.setWordAt e i 0 0 (t96Lo t)).setWordAt e i 1 0 (t96Hi t)

/-- The words of an OCTSTR that holds `l` (R33): `n` words. -/
def octWords (n : Nat) (l : List Byte) : List Word :=
  BitVec.ofNat 64 (ofLe (BitVec.ofNat 8 l.length :: padTo 7 l)) ::
    (List.range (n - 1)).map (fun k => BitVec.ofNat 64 (ofLe (padTo 8 (l.drop (7 + 8 * k)))))
/-- The bytes an OCTSTR's words hold (R33). -/
def octBytes (ws : List Word) : List Byte :=
  match ws with
  | [] => []
  | w :: r => ((le 7 (w.toNat / 256)) ++ r.flatMap (fun x => le 8 x.toNat)).take (w.toNat % 256)
/-- The words of an entry's instance. -/
def State.words (s : State) (e : Entry) (i : Nat) : List Word := (List.range e.words).map (fun k => s.wordAt e i k 0)
/-- Sets all words of an entry's instance. -/
def State.setWords (s : State) (e : Entry) (i : Nat) (ws : List Word) : State :=
  (ws.zipIdx).foldl (fun s p => s.setWordAt e i p.2 0 p.1) s
/-- An OCTSTR entry's bytes. -/
def State.oct (s : State) (e : Entry) (i : Nat := 0) : List Byte := octBytes (s.words e i)
/-- Sets an OCTSTR entry. -/
def State.setOct (s : State) (e : Entry) (i : Nat) (l : List Byte) : State := s.setWords e i (octWords e.words l)

/-- Privet's TIME96: the internal value truncated to FRACTION (R90). -/
def State.tai (s : State) : T96 := s.privet.time / 2 ^ 40
/-- An event of the performance monitor, gathered while it runs (R437, R439): its code, the unit (0 where it has none), how
many. -/
def State.perfEvent (s : State) (code unit : Nat) (k : Nat := 1) : State :=
  if s.perf.running then
    let key := code * 256 + unit
    { s with perf := { s.perf with events := tabPut 0 key (tabGet 0 key s.perf.events + k) s.perf.events } }
  else s
/-- Something sent out; a DMA write counts its 64-byte units (R439). -/
def State.emit (s : State) (x : Emit) : State :=
  let s := match x with
    | .dma f _ b => s.perfEvent 0x702 (f / 2) (ceilDiv b.length 64)
    | _ => s
  { s with emits := x :: s.emits }
/-- The next value drawn from the DRBG (log 8), below `n`. -/
def State.drawn (s : State) (n : Nat) : Nat := Config.draw s.draws % n
/-- The next value the spec leaves open (log 9), below `n`. -/
def State.free (s : State) (n : Nat) : Nat := Config.freeValue s.draws % n
/-- A draw has been used. -/
def State.drew (s : State) : State := { s with draws := s.draws + 1 }

/-- Ticks of a duration in ns, µs, ms or s, rounded up to whole ticks (R115). -/
def ticksNs (n : Nat) : Nat := ceilDiv n 2
/-- Ticks of microseconds. -/
def ticksUs (n : Nat) : Nat := n * 500
/-- Ticks of milliseconds. -/
def ticksMs (n : Nat) : Nat := n * 500000
/-- Ticks of seconds. -/
def ticksS (n : Nat) : Nat := n * 500000000
/-- A difference of TIME96 values in ps, truncated toward zero. -/
def psOf (d : Int) : Int := Int.tdiv (d * 1000) 65536
/-- A TIME96 span in ps, rounded up (R121). -/
def psUp (d : Nat) : Nat := ceilDiv (d * 1000) 65536
/-- A phase in ps as units of 2⁻¹⁶ ns. -/
def unitsOfPs (d : Int) : Int := Int.tdiv (d * 65536) 1000

/-- The number of a master, for its latch and its staging (R38). -/
def masterNo : Master → Nat
  | .pcie f => f.val
  | .spit => 8
  | .seq => 9
  | .irlin k => 16 + k.val

/-- The world a master acts for; `none` when it is unbound (R54, R62). -/
def State.worldOf (s : State) : Master → Option Nat
  | .pcie f => let w := s.n E.bindPcie f.val; if w < 16 then some w else none
  | .spit => let w := s.n E.bindSpit; if w < 16 then some w else none
  | .irlin k => let w := s.n E.irlinWorld k.val; if w < 16 then some w else none
  | .seq => some 0

/-- World 15 may be reached (R55). -/
def State.reach15 (s : State) : Bool :=
  let l := s.n E.lifecycle
  decide (l ≤ 1 ∨ l = 4) || s.flag E.vendorAdmit

/-- A bit of the unit-present mask (R5), fixed at manufacture (R6). -/
def State.present (s : State) (b : Nat) : Bool := bitOf s.otp.mask b

/-- The sources of R414; all others are reserved (R413). -/
def isSource (src : Nat) : Bool :=
  (56 ≤ src % 64 && src % 64 ≤ 60) ||
  [0, 1, 2, 3, 4, 5, 8, 9, 10, 11, 12, 13, 14, 15, 16, 17, 18, 64, 65, 128, 129, 256, 257, 320, 321, 322, 323, 324, 325,
   384, 385, 386, 448, 449, 450, 451, 452, 453].contains src
/-- The index belongs to a unit the mask marks absent (R7, R472), the blocks of Juniper's fault sources among them (R413). -/
def State.absentIdx (s : State) (index : Nat) : Bool :=
  let r (lo hi : Nat) := decide (lo ≤ index ∧ index ≤ hi)
  (!s.present 0 && (r 0x9000 0x913F || r 0xA1C0 0xA1C7 || (r 0xC340 0xC37F && isSource (index - 0xC200)))) ||
  (!s.present 1 && r 0x8000 0x81FF) ||
  (!s.present 3 && (r 0x4130 0x414F || r 0xA170 0xA17F)) ||
  (!s.present 4 && r 0x5850 0x588F) ||
  (!s.present 5 && (r 0x6300 0x64FF || r 0x8180 0x81FF))

/-- The domain an index's unit lies in (R468), as islands are numbered (log 11). -/
def domainOfIdx (index : Nat) : Nat :=
  if index < 0x2000 then 7 else if index < 0x5000 then 0 else if index < 0x6000 then 2
  else if index < 0x6800 then 3 else if index < 0x7000 then 7 else if index < 0x8000 then 4
  else if index < 0x9000 then 3 else if index < 0xA000 then 5 else if index < 0xB000 then 1
  else if index < 0xC000 then 6 else 7

/-- The island an index's entries belong to (log 11); 0xFF as the local number where no single island holds them. -/
def islandOfIdx (index : Nat) : Nat :=
  if index < 0x2000 then 0x702
  else if index < 0x2800 then 0x000
  else if index < 0x3000 then 0x001
  else if 0x3000 ≤ index ∧ index < 0x3300 then 0x002
  else if 0x4000 ≤ index ∧ index < 0x4150 then 0x003
  else if 0x5100 ≤ index ∧ index < 0x5180 then 0x200 + (index - 0x5100) / 0x20
  else if 0x5600 ≤ index ∧ index < 0x5680 then 0x204 + (index - 0x5600) / 0x40
  else if 0x5810 ≤ index ∧ index < 0x5890 then 0x206 + (index - 0x5810) / 0x10
  else if 0x6100 ≤ index ∧ index < 0x6580 then 0x300 + (index - 0x6100) / 0x40
  else if 0x7000 ≤ index ∧ index < 0x7800 then 0x400
  else if 0x6800 ≤ index ∧ index < 0x7000 then 0x701
  else if 0x7800 ≤ index ∧ index < 0x7821 then 0x401
  else if 0xB000 ≤ index ∧ index < 0xC000 then 0x600
  else if 0xD000 ≤ index ∧ index < 0xE000 then 0x704
  else if 0xC000 ≤ index then 0x703
  else domainOfIdx index * 256 + 0xFF

/-- Writes to the index are held off by a test of its island, or of the whole domain where no single island holds it (R430). -/
def State.underTest (s : State) (index : Nat) : Bool := s.holly.testing.contains (islandOfIdx index)

/-- The code reported when several causes apply: 0x01, then 0x02, then the lowest (R63); 0 with none. -/
def resolve (codes : List Nat) : Nat :=
  if codes.contains 1 then 1 else if codes.contains 2 then 2
  else codes.foldl (fun a c => if c = 0 then a else if a = 0 then c else min a c) 0

/-- A guarded or lockable entry: check set, class RW or GRD (R47). -/
def lockable (e : Entry) : Bool := e.check && (e.cls == .rw || e.cls == .grd)

/-- World `w` may write instance `i` of the entry (R52, R137, R473, R478): world 1 its own `LEDGER_CURSOR` alone. -/
def State.mayWrite (s : State) (w : Nat) (e : Entry) (i : Nat) : Bool :=
  let own (o : Nat) := decide (w = o) || decide (w = 0 ∧ 2 ≤ o ∧ o ≤ 14)
  if e.idx = E.ledgerCursor.idx then decide (w = i) && [0, 1, 15].contains i && e == E.ledgerCursor
  else if w = 1 then false
  else match e.owner with
  | .world o => own o || (decide (w = 15) && decide (0xE000 ≤ e.idx))
  | .nobody => false
  | .schedOwner => own (s.n E.schedOwner i)
  | .perWorld =>
    if e.idx = 0x6A00 then own (i / 8)
    else if e.idx = 0xD030 then own (i * 15)
    else own i

/-- The value word lies in the type's layout and the stated range (R34). -/
def valueOk (e : Entry) (v : Word) : Bool :=
  let x : Int := if e.ty == .i32 || e.ty == .i64 then v.toInt else v.toNat
  let layout := match e.ty with
    | .i32 => decide (-2 ^ 31 ≤ v.toInt ∧ v.toInt < 2 ^ 31)
    | .i64 => true
    | .time96 => decide (v.toNat < 2 ^ 48)
    | .octstr => true
    | t => decide (v.toNat < 2 ^ tyBits t)
  layout && (e.vals.isEmpty || e.ty == .time96 || e.vals.any (fun r => decide (r.1 ≤ x ∧ x ≤ r.2)))

/-- The codes the values of a write give: 0x07 outside layout or range (R34), 0x08 for an OCTSTR too long (R33). -/
def valueCodes (e : Entry) (vs : List Word) : List Nat :=
  match e.ty with
  | .octstr => if (vs.headD 0).toNat % 256 ≤ min 255 (8 * e.words - 1) then [] else [8]
  | .time96 => if vs.all (valueOk e) && decide ((vs.headD 0).toNat % 2 ^ 32 < 10 ^ 9) then [] else [7]
  | _ => if vs.all (valueOk e) then [] else [7]

/-- The context of one write: who writes, for which world, which instance, and all words of the value. -/
structure Ctx where
  m : Master
  w : Nat
  i : Nat
  words : List Word
deriving DecidableEq, Repr

/-- The value word of a one-word write. -/
def Ctx.v (c : Ctx) : Nat := (c.words.headD 0).toNat
/-- The value word as a signed number. -/
def Ctx.int (c : Ctx) : Int := (c.words.headD 0).toInt

/-- An entry whose write does more than store: the codes it adds, and its effect. -/
structure Special where
  entry : Entry
  codes : Ctx → State → List Nat := fun _ _ => []
  apply : Ctx → State → State := fun c s => s.setWords entry c.i c.words
  /-- What a refusal with a code does beside R40, R42 and R48. -/
  refused : Nat → Ctx → State → State := fun _ _ s => s
  /-- World 15 may write it where it reaches it (R478). -/
  world15 : Bool := false

/-- A pending pair stands in the way of a guarded write (R42): of another world's over PCIe, of any by a single message. -/
def State.pairBlocks (s : State) (c : Ctx) : Bool :=
  match s.control.pair, c.m with
  | some p, .pcie _ => decide (p.world ≠ c.w)
  | some _, .seq => false
  | some _, _ => true
  | none, _ => false

/-- The codes a write to an entry meets before its value is looked at: absence, world, lifecycle, class, lock, commit, busy,
safe state, test, the zeroised vault, a pending pair (R7, R35, R42, R47, R53, R55, R65, R423, R430, R385). -/
def State.gateCodes (s : State) (sp : Special) (c : Ctx) : List Nat :=
  let e := sp.entry
  let index := (e.addr c.i 0).1
  (if s.absentIdx index then [2] else []) ++
  (if c.w = 15 ∧ ¬ s.reach15 then [9] else []) ++
  (if s.mayWrite c.w e c.i || (sp.world15 && decide (c.w = 15)) then [] else [3]) ++
  (if e.cls = .ro ∨ e.cls = .cor then [3] else []) ++
  (if e.cls = .w1 ∧ s.control.w1.contains (dictKey e c.i 0 0) then [5] else []) ++
  (if lockable e ∧ s.control.locked then [4] else []) ++
  (if e.check ∧ s.control.commit.isSome then [0xA] else []) ++
  (if e.cls = .cmd ∧ s.n e c.i = 1 then [0xA] else []) ++
  (if e.cls = .grd ∧ s.pairBlocks c then [0xA] else []) ++
  (if e.cls = .cmd ∧ s.holly.safe ∧ 0x5000 ≤ index ∧ index < 0x6000 then [0xB] else []) ++
  (if s.underTest index then [0xB] else []) ++
  (if s.n E.lifecycle = 4 ∧ 0xB000 ≤ index ∧ index < 0xC000 then [9] else [])
/-- The codes every write to an entry meets (R34, R63). -/
def State.writeCodes (s : State) (sp : Special) (c : Ctx) : List Nat :=
  let e := sp.entry
  s.gateCodes sp c ++ (if e.cls = .ro ∨ e.cls = .cor then [] else valueCodes e c.words) ++ sp.codes c s

end Sys2Proof.Machine
end

