-- ==== Sys2Proof/Machine/Copies.lean ====
section
/-! DEFINITION. The islands, the leaves of the strobe tree and their time copies (R10, R11, R16 to R24, R116). -/

namespace Sys2Proof.Machine

/-! ### Islands (R11, log 11) -/

/-- The islands of the engine, identifiers ascending (R11, log 11). -/
def allIslands : List Nat :=
  let run (base n : Nat) := (List.range n).map (base + ·)
  run 0x000 4 ++ run 0x100 4 ++ run 0x200 14 ++ run 0x300 18 ++ run 0x400 7 ++ run 0x500 3 ++ run 0x510 8 ++
    run 0x600 4 ++ run 0x610 8 ++ run 0x700 6
/-- An island is fitted (R5, R7). -/
def State.islandFitted (s : State) (i : Nat) : Bool :=
  if i / 256 = 5 then s.present 0
  else if 0x20A ≤ i ∧ i < 0x20E then s.present 4
  else if 0x308 ≤ i ∧ i < 0x310 then s.present 5
  else if 0x403 ≤ i ∧ i < 0x406 then s.present 2
  else true
/-- The island a leaf serves (log 11): bank, MDLL, pulse and Time Lane islands, ports, then the islands of the other domains that
form times. -/
def leafIslandOf (n : Nat) : Nat :=
  if n < 4 then 0x100 + n else if n < 8 then 0x200 + (n - 4) else if n < 10 then 0x204 + (n - 8)
  else if n < 18 then 0x206 + (n - 10) else if n < 34 then 0x300 + (n - 18) else if n < 36 then 0x310 + (n - 34)
  else if n < 39 then [0x400, 0x401, 0x501].getD (n - 36) 0
  else if n < 47 then 0x510 + (n - 39) else [0x701, 0x702, 0x703, 0x001, 0x002, 0x003].getD (n - 47) 0xFFFF
/-- The leaf that serves an island. -/
def leafFor (island : Nat) : Nat := ((List.range 64).find? (fun n => leafIslandOf n == island)).getD 63
/-- A fitted leaf (R20). -/
def State.leafFitted (s : State) (n : Nat) : Bool := leafIslandOf n != 0xFFFF && s.islandFitted (leafIslandOf n)
/-- A leaf that is fitted and calibrated (R20, R31): the strobe's edges reach it. -/
def State.leafOn (s : State) (n : Nat) : Bool := bitOf (s.n E.treeLeaves) n

/-! ### Leaves and their copies (R21 to R24) -/

/-- The inside of leaf `n`. -/
def State.leaf (s : State) (n : Nat) : Leaf := tabGet {} n s.islands.leaves
/-- Sets the inside of leaf `n`. -/
def State.setLeaf (s : State) (n : Nat) (x : Leaf) : State :=
  { s with islands := { s.islands with leaves := tabPut {} n x s.islands.leaves } }
/-- The part of leaf `n`'s correction that its cycles up to a tick have absorbed (R21): a sixteenth each. -/
def State.absorbedAt (s : State) (n tick : Nat) : Int :=
  let x := s.leaf n
  let rate := s.n E.copyRate n
  let cycles := if rate = 0 then 16 else min 16 ((tick - x.spreadFrom) * 2 ^ 57 / rate)
  Int.tdiv (x.spread * (cycles : Nat)) 16
/-- What leaf `n`'s cycles have absorbed up to now. -/
def State.absorbed (s : State) (n : Nat) : Int := s.absorbedAt n s.now
/-- Leaf `n`'s copy in 2⁻⁵⁶ ns (R21, R22): Privet's value with what the copy deviates by; it never decreases, and holds where a
reload has found it ahead. Before its first edge it deviates by nothing (log 13). -/
def State.copy56 (s : State) (n : Nat) : Nat :=
  max (s.leaf n).floor (((s.privet.time : Int) + (s.leaf n).dev + s.absorbed n).toNat)
/-- Leaf `n`'s copy one tick before. -/
def State.copyPrev56 (s : State) (n : Nat) : Nat :=
  max (s.leaf n).floor (((s.privet.prev : Int) + (s.leaf n).dev + s.absorbedAt n (s.now - 1)).toNat)
/-- An island's copy as a TIME96 (R22, R90); an island without a leaf has Privet's value. -/
def State.copy (s : State) (island : Nat) : T96 :=
  let n := leafFor island
  if leafIslandOf n = island then s.copy56 n / 2 ^ 40 else s.tai
/-- Leaf `n`'s copy one tick later. -/
def State.copyNext56 (s : State) (n next : Nat) : Nat :=
  max (s.leaf n).floor (((next : Int) + (s.leaf n).dev + s.absorbedAt n (s.now + 1)).toNat)
/-- An island's copy reaches `x` in this tick (R15). -/
def State.reaches (s : State) (island : Nat) (x : T96) : Bool :=
  let n := leafFor island
  let prev := (if leafIslandOf n = island then s.copyPrev56 n else s.privet.prev) / 2 ^ 40
  decide (prev < x ∧ x ≤ s.copy island)
/-- An island's copy has reached `x` before this tick. -/
def State.passed (s : State) (island : Nat) (x : T96) : Bool :=
  let n := leafFor island
  decide (x ≤ (if leafIslandOf n = island then s.copyPrev56 n else s.privet.prev) / 2 ^ 40)
/-- A stamp in an island's copy (R24), in 2⁻⁵⁶ ns: the copy at the tick, and what the vernier measures from there on, in fs, scaled
by the increment in force. -/
def State.stamp56 (s : State) (island fs : Nat) : Nat :=
  let n := leafFor island
  (if leafIslandOf n = island then s.copy56 n else s.privet.time) + fs * s.privet.incr / 2000000
/-- The same as a TIME96. -/
def State.stampAt (s : State) (island fs : Nat) : T96 := s.stamp56 island fs / 2 ^ 40
/-- An island's copy is UNSYNC (R22): every fitted leaf's is from reset on. -/
def State.unsync (s : State) (island : Nat) : Bool :=
  let n := leafFor island
  leafIslandOf n == island && s.leafFitted n && decide (s.n E.copyState n = 0)
/-- A leaf's copy becomes UNSYNC (R22). -/
def State.leafUnsync (s : State) (n : Nat) : State :=
  (s.set E.copyState n 0).setLeaf n { s.leaf n with good := 0 }
/-! ### Ticks of stamps (R115) -/

/-- The tick of a second that holds a stamp, with the ticks of the whole seconds before it (R115). -/
def tickIndex (x : T96) : Nat := secOf x * 500000000 + x % ofSec 1 / ofNs 2
/-- The arrival tick of a stamp, as `now` counts ticks (R115). -/
def State.stampTick (s : State) (x : T96) : Nat := s.now + tickIndex x - tickIndex s.tai

/-! ### Order marks (R116) -/

/-- The order marks of the leaves' paths allow a deadline to resolve (R116): each has passed it, or has stopped for `HS_TIMEOUT`. -/
def State.marksPast (s : State) (leaves : List Nat) (deadline : Nat) : Bool :=
  leaves.all (fun n => !s.leafOn n || decide (deadline < (s.leaf n).mark) || decide ((s.leaf n).mark + s.n E.hsTimeout < s.now))

/-- A deadline of an arrival that the paths of the islands can carry has passed and resolves (R115, R116). -/
def State.resolves (s : State) (islands : List Nat) (deadline : Nat) : Bool :=
  decide (deadline < s.now) &&
    s.marksPast ((islands.map leafFor).filter (fun n => islands.contains (leafIslandOf n))) deadline
/-- The bank of a channel (R203). -/
def bankOf (c : Nat) : Nat := if c < 4 then 0 else if c < 12 then 1 else if c < 16 then 2 else if c < 24 then 3 else 0
/-- The island of a port (log 11). -/
def portIsland (p : Nat) : Nat := 0x300 + p

end Sys2Proof.Machine
end

