-- ==== Sys2Proof/Machine/SafeOps.lean ====
section
/-! DEFINITION. The Synthesis units and ports as the safe line reaches them: the clock switches, pulses and lanes of R227 to
R245 and the held launches of R261. -/

namespace Sys2Proof.Machine

/-- MDLL `m` beside its entries. -/
def State.mdll (s : State) (m : Nat) : Mdll := tabGet {} m s.synth.mdlls
/-- Sets MDLL `m`. -/
def State.setMdll (s : State) (m : Nat) (x : Mdll) : State :=
  { s with synth := { s.synth with mdlls := tabPut {} m x s.synth.mdlls } }
/-- CLKOUT `k` beside its entries. -/
def State.clkout (s : State) (k : Nat) : Clkout := tabGet {} k s.synth.clkouts
/-- Sets CLKOUT `k`. -/
def State.setClkout (s : State) (k : Nat) (x : Clkout) : State :=
  { s with synth := { s.synth with clkouts := tabPut {} k x s.synth.clkouts } }
/-- PPSOUT `p` beside its entries. -/
def State.pulse (s : State) (p : Nat) : Pulse := tabGet {} p s.synth.pulses
/-- Sets PPSOUT `p`. -/
def State.setPulse (s : State) (p : Nat) (x : Pulse) : State :=
  { s with synth := { s.synth with pulses := tabPut {} p x s.synth.pulses } }
/-- Lane `l` beside its entries. -/
def State.lane (s : State) (l : Nat) : Lane := tabGet {} l s.synth.lanes
/-- Sets lane `l`. -/
def State.setLane (s : State) (l : Nat) (x : Lane) : State :=
  { s with synth := { s.synth with lanes := tabPut {} l x s.synth.lanes } }
/-- Port `p` beside its entries. -/
def State.port (s : State) (p : Nat) : Port := tabGet {} p s.ports
/-- Sets port `p`. -/
def State.setPort (s : State) (p : Nat) (x : Port) : State := { s with ports := tabPut {} p x s.ports }

/-- The reference frequency of a reference choice in Hz (R220). -/
def State.refFreq (s : State) (ref hz : Nat) : Nat := if ref = 0 then s.n E.ensNominal 0 else hz
/-- The ratio in force: the entries' defaults until one has been applied. -/
def State.ratio (s : State) (m : Nat) : Nat × Nat :=
  ((s.mdll m).ratio).getD (E.mdllMultN.default m, E.mdllMultF.default m)
/-- The VCO frequency of a ratio on a reference frequency, in 2⁻³² Hz (R220). -/
def vcoOf (hz n f : Nat) : Nat := hz * (n * 2 ^ 32 + f)
/-- The VCO frequency in force, in 2⁻³² Hz. -/
def State.vco (s : State) (m : Nat) : Nat :=
  vcoOf (s.refFreq (s.mdll m).ref (s.mdll m).refHz) (s.ratio m).1 (s.ratio m).2
/-- The VCO frequency that the ratio waiting to be applied gives, else the one in force. -/
def State.vcoNext (s : State) (m : Nat) : Nat :=
  match (s.mdll m).retune with
  | some (n, f) => vcoOf (s.refFreq (s.n E.mdllRef m) (s.n E.mdllRefHz m)) n f
  | none => s.vco m
/-- The bypass divider of R227 for an output at `num / (den · 2³²)` Hz. -/
def State.bypassDiv (s : State) (num den : Nat) : Nat :=
  2 * ceilDiv (s.n E.ensNominal 0 * den * 2 ^ 32) (2 * max 1 num)
/-- j of an output, for the lower of two frequencies during a change (R225, R227). -/
def State.bypassOf (s : State) (k : Nat) : Nat :=
  let x := s.clkout k
  max (max x.former (s.bypassDiv (s.vco x.src) x.div))
    (max (s.bypassDiv (s.vcoNext x.src) x.div) (s.bypassDiv (s.vco (s.n E.clkoutSrc k)) (s.n E.clkoutDiv k)))
/-- An output is on the grid: f_out × 8 s is an integer (R231). -/
def State.onGrid (s : State) (k : Nat) : Bool :=
  let x := s.clkout k
  decide (s.vco x.src * 8 % (x.div * 2 ^ 32) = 0)
/-- `CLKOUT_STATE` follows (R246): OFF, STOPPED, BYPASS, SWITCHING or MDLL. -/
def State.clkRefresh (s : State) (k : Nat) : State :=
  let x := s.clkout k
  let st := if ¬ s.flag E.clkoutEnable k then 0 else if x.stopped then 1 else if x.armed.isSome then 3
    else if x.onMdll then 4 else 2
  let s := s.set E.clkoutState k st
  let s := s.set E.clkoutBypassDiv k (s.bypassOf k)
  if st = 4 then s
  else (s.set E.clkoutEdgeBound k 0xFFFFFFFF).set E.clkoutStatus k (ofBool (s.onGrid k) * 2)
/-- A switch to bypass is armed (R228, R229): it overrides an armed return. -/
def State.toBypass (s : State) (k : Nat) : State :=
  let x := s.clkout k
  (s.setClkout k { x with armed := if x.onMdll then some false else none
                          former := if x.onMdll then s.bypassOf k else x.former }).clkRefresh k
/-- A divisor or a source has been written that is not in force yet (R230). -/
def State.clkWaits (s : State) (k : Nat) : Bool :=
  decide (s.n E.clkoutDiv k ≠ (s.clkout k).div ∨ s.n E.clkoutSrc k ≠ (s.clkout k).src)
/-- A return to the MDLL is asked for (R229): it cancels an armed switch to bypass that no change waits for; else the divider is
restarted on the grid and the return is armed (R226, R231). -/
def State.toMdll (s : State) (k : Nat) : State :=
  let x := s.clkout k
  let y : Clkout :=
    if x.onMdll then { x with armed := if s.clkWaits k then x.armed else none }
    else { x with armed := some true, shift := 0, phase := s.n E.clkoutPhase k }
  (s.setClkout k y).clkRefresh k
/-- The divisor and source written come into force once an output is on bypass (R230). -/
def State.clkTake (s : State) (k : Nat) : State :=
  (s.setClkout k { s.clkout k with div := s.n E.clkoutDiv k, src := s.n E.clkoutSrc k }).clkRefresh k
/-- An output leaves its MDLL at once: it is stopped or undriven (R245, R246), so what waited for bypass is applied. -/
def State.clkDrop (s : State) (k : Nat) : State :=
  (s.setClkout k { s.clkout k with onMdll := false, armed := none, former := 0 }).clkTake k
/-- The outputs that MDLL `m` feeds. -/
def State.fed (s : State) (m : Nat) : List Nat := (List.range 16).filter (fun k => decide ((s.clkout k).src = m))
/-- An output may be on its MDLL: enabled, the MDLL LOCKED with neither a new ratio nor a stop that waits (R225, R229), out of the
Quiet and the safe state. -/
def State.mayRun (s : State) (k : Nat) : Bool :=
  let m := (s.clkout k).src
  s.flag E.clkoutEnable k && decide (s.n E.mdllState m = 3 ∧ 8 ≤ s.n E.bootStage) && !s.holly.safe &&
    (s.mdll m).retune.isNone && !(s.mdll m).stopping
/-- Outputs are held low in the Quiet state with `QUIET_CLOCKS` = 0 (R77) and in the safe state with `SYN_SAFE_CLOCKS` = 0 (R245). -/
def State.clkStopped (s : State) : Bool :=
  decide (s.n E.bootStage < 8 ∧ s.n E.quietClocks = 0) || (s.holly.safe && decide (s.n E.synSafeClocks = 0))

/-! ### MDLL states (R220 to R225) -/

/-- The entry's VCO frequency follows the ratio in force, in mHz; 0 while the MDLL is off. -/
def State.vcoRefresh (s : State) (m : Nat) : State :=
  s.set E.mdllVcoFreq m (if s.n E.mdllState m = 0 then 0 else s.vco m * 1000 / 2 ^ 32)
/-- Every output an MDLL feeds is on its bypass clock. -/
def State.allBypass (s : State) (m : Nat) : Bool := (s.fed m).all (fun k => !(s.clkout k).onMdll)
/-- An MDLL enters ACQUIRING or REF_LOST: its DTC counts from this tick (R221); from LOCKED its outputs go to bypass and its event is
due (R223, R229, R414). -/
def State.mdllLeave (s : State) (m st : Nat) : State :=
  let was := s.n E.mdllState m
  let s := (s.set E.mdllState m st).setMdll m
    { s.mdll m with good := 0, origin := s.copy56 (leafFor (0x200 + m)), cycles := 0, wraps := 0 }
  let s := s.vcoRefresh m
  let s := (s.fed m).foldl State.toBypass s
  if was = 3 then { s with synth := { s.synth with unlocked := s.synth.unlocked ++ [m] } } else s
/-- ACQUIRING begins, or REF_LOST where the reference's monitors fail (R223). -/
def State.acquire (s : State) (m : Nat) : State := s.mdllLeave m (if (s.mdll m).refBad then 4 else 1)
/-- The reference written takes effect with a ratio or a start (log 30). -/
def State.takeReference (s : State) (m : Nat) : State :=
  let x := s.mdll m
  let ref := s.n E.mdllRef m
  s.setMdll m { x with ref := ref, refHz := s.n E.mdllRefHz m, refBad := x.refBad && decide (ref = x.ref ∧ ref ≠ 0) }
/-- What waits for every output of an MDLL to be on bypass: a stop, or the retuning to a new ratio (R223, R225, R229). -/
def State.mdllSettle (s : State) (m : Nat) : State :=
  let x := s.mdll m
  if ¬ s.allBypass m then s
  else if x.stopping then
    let s := (s.setMdll m { x with stopping := false, retune := none, ratio := some (x.retune.getD (s.ratio m)) }).set
      E.mdllState m 0
    (s.fed m).foldl State.toBypass (s.vcoRefresh m)
  else
    match x.retune with
    | some r =>
      let s := (s.takeReference m)
      let s := s.setMdll m { s.mdll m with retune := none, ratio := some r }
      if s.n E.mdllState m = 0 then (s.fed m).foldl State.clkRefresh s else s.acquire m
    | none => s
/-- Every MDLL's outputs may have come to bypass. -/
def State.mdllsSettle (s : State) : State := (List.range 4).foldl State.mdllSettle s
/-- A realignment of one output through bypass (R226, R232): the return is asked for once it is on bypass. -/
def State.clkRealign (s : State) (k : Nat) : State := s.toBypass k
/-- Every enabled lane restarts its block stream at the next grid instant (R243). -/
def State.laneRealign (s : State) (l : Nat) : State :=
  s.setLane l { s.lane l with realigning := true, sent := 0, offset := 0 }

/-- The first-lock step is still to come: no time has been established (R79, R80). -/
def State.firstPending (s : State) : Bool :=
  match s.privet.pendStep with | some (_, _, 0) => true | _ => false
/-- `PPS_STATE` follows the mode, the engine's state, squelch and a follow-mode source (R80, R133, R237, R244, R245). -/
def State.ppsRefresh (s : State) (p : Nat) : State :=
  let x := s.pulse p
  let mode := s.n E.ppsMode p
  s.set E.ppsState p
    (if mode = 0 then 0
     else if s.holly.safe then (if s.n E.synSafePulses = 0 then 0 else 1)
     else if s.n E.bootStage < 8 ∨ ¬ s.flag E.firstLock ∨ s.firstPending ∨ x.squelched then 0
     else if mode = 3 ∧ x.lost then 2 else 1)
/-- Every PPSOUT's state follows. -/
def State.ppsRefreshAll (s : State) : State := (List.range 8).foldl State.ppsRefresh s

/-- The pulse and clock balls in the safe state (R245): pulses in progress end, clocks stop or go to bypass. -/
def State.synthSafe (s : State) : State :=
  let s := (List.range 8).foldl (fun s p =>
    (s.setPulse p { s.pulse p with active := false, trail := none, follow := [] }).ppsRefresh p) s
  let s := (List.range 16).foldl (fun s k =>
    if s.n E.synSafeClocks = 0 then (s.setClkout k { s.clkout k with stopped := true }).clkDrop k
    else s.toBypass k) s
  s.mdllsSettle
/-- The outputs after the safe state (R245; R77 where the Quiet state lasts): clocks return through bypass and realign, lanes realign under R243, pulses
resume with their first edge (undriven until then when they were undriven in the safe state). -/
def State.synthReturn (s : State) : State :=
  let s := (List.range 8).foldl (fun s p =>
    s.setPulse p { s.pulse p with squelched := (s.pulse p).squelched || decide (s.n E.synSafePulses = 0) }) s
  let s := s.ppsRefreshAll
  let s := (List.range 16).foldl (fun s k =>
    let s := s.setClkout k { s.clkout k with stopped := s.clkStopped }
    if s.mayRun k then s.toMdll k else s.clkRefresh k) s
  (List.range 8).foldl (fun s l => if s.flag E.tlEnable l then s.laneRealign l else s) s

/-- `PORT_LAUNCH_FILL` and `PORT_QUEUE_FILL` follow (R268). -/
def State.portRefresh (s : State) (p : Nat) : State :=
  (s.set E.portLaunchFill p (s.port p).held.length).set E.portQueueFill p (s.port p).queue.length
/-- Held launches later than 1 µs after the detection leave the port as missed, and their issuers rebuild them (R261); a TX
ring's frame completes with SAFE when it would be handed over again. -/
def State.launchesSafe (s : State) : State :=
  (List.range 18).foldl (fun s p =>
    let x := s.port p
    let limit := s.copy (portIsland p) + ofNs 1000
    let gone := (x.held.filter (fun h => decide (limit < h.l))).map (·.frame)
    let again := gone.map (fun f => { f with stale := true })
    let s := gone.foldl (fun s f => s.emit (.missed f.origin.unit f.handle true)) s
    let late := x.arriving.map (fun f => { f with stale := true })
    let kept := x.held.filter (fun h => !decide (limit < h.l))
    (s.setPort p { x with
      held := kept, arriving := late ++ again
      sending := x.sending.map (fun f => { f with stale := decide (f.origin.unit = 0) }) }).portRefresh p) s

/-- The occupancy entry follows. -/
def State.occRefresh (s : State) (p : Nat) : State :=
  s.set E.portRxOccupancy p (((s.port p).occupancy.map (·.2)).foldl (· + ·) 0)
/-- Occupancy falls as frames leave the buffer. -/
def State.occSub (s : State) (p prio n : Nat) : State :=
  let x := s.port p
  (s.setPort p { x with occupancy := tabPut 0 prio (tabGet 0 prio x.occupancy - n) x.occupancy }).occRefresh p

end Sys2Proof.Machine
end

