-- ==== Sys2Proof/Machine/PerfOps.lean ====
section
/-! DEFINITION. What the performance monitor gathers while it runs: occupancy ticks, service packets, slots and samples
(R437 to R442). -/

namespace Sys2Proof.Machine

/-- A counter of the monitor runs. -/
def State.perfRuns (s : State) (c : Nat) : Bool := bitOf (s.n E.perfStatus c) 1
/-- The units an event code has: how many, and the least of them; `none` for an unlisted code (R439). -/
def perfUnits (code : Nat) : Option Nat :=
  match code with
  | 0x001 | 0x002 | 0x003 | 0x401 | 0x402 | 0x403 | 0x404 | 0x480 | 0x501 | 0x502 | 0x602 | 0x701 | 0x705 => some 0
  | 0x101 | 0x102 => some 26
  | 0x201 | 0x202 | 0x601 | 0x680 => some 8
  | 0x203 | 0x305 | 0x703 => some 16
  | 0x301 | 0x302 | 0x303 | 0x304 | 0x380 | 0x381 | 0x382 => some 18
  | 0x405 | 0x702 | 0x780 => some 4
  | 0x603 => some 2
  | _ => none
/-- An occupancy source (R436). -/
def perfOccupancy (code : Nat) : Bool := decide (0x80 ≤ code % 256)
/-- The occupancy of one unit now (R439). The pipeline's inner queues hold nothing: a packet is issued when its command is
performed (log 42). -/
def State.perfOcc (s : State) (code unit : Nat) : Nat :=
  match code with
  | 0x380 => s.n E.portRxOccupancy unit / 1024
  | 0x381 => s.n E.portQueueFill unit
  | 0x382 => s.n E.portLaunchFill unit
  | _ => 0
/-- The units a counter looks at. -/
def State.perfUnitsOf (s : State) (c : Nat) : List Nat :=
  let u := s.n E.perfUnit c
  if u = 0xFF then List.range (max 1 ((perfUnits (s.n E.perfEvent c)).getD 1)) else [u]
/-- `n` ticks pass with the occupancies as they stand (R436): each counter in THRESHOLD mode gathers them. -/
def State.perfPass (s : State) (n : Nat) : State :=
  if s.perf.running then
    (List.range 128).foldl (fun s c =>
      if s.perfRuns c ∧ s.n E.perfMode c = 2 ∧
          s.n E.perfThresh c < ((s.perfUnitsOf c).map (s.perfOcc (s.n E.perfEvent c))).foldl (· + ·) 0 then
        { s with perf := { s.perf with ticks := tabPut 0 c (tabGet 0 c s.perf.ticks + n) s.perf.ticks } }
      else s) s
  else s

/-- The lane's role under a trim profile (R392): 0 STOPPED, 1 SERVICE, 2 CAPTURE. -/
def laneRole (profile l : Nat) : Nat :=
  match profile with
  | 1 => if l < 7 then 1 else 2
  | 2 => if l < 3 then 1 else 2
  | 4 => if l < 3 then 1 else if l = 3 then 2 else 0
  | _ => if l < 5 then 1 else 2
/-- Service lanes that have failed their test. -/
def State.lanesLost (s : State) : Nat :=
  ((List.range 8).filter (fun l => laneRole (s.n E.trimActive) l = 1 && s.holly.failed.contains (0x610 + l))).length
/-- The trim profile's service capacities in packets per second (R322): authenticated, total; half of each on a PKY9612. The
table gives 7 Mpps for each lane, less 1, so a failed lane takes 7 (DEDUCED, log 60). -/
def State.capacity (s : State) : Nat × Nat :=
  let (a, t) : Nat × Nat := match s.n E.trimActive with
    | 1 => (48, 96) | 2 => (20, 96) | 4 => (20, 48) | _ => (34, 96)
  let a := a - 7 * s.lanesLost
  let d := if s.present 2 then 1 else 2
  (a * 10 ^ 6 / d, t * 10 ^ 6 / d)
/-- A service packet is counted in the current second (R322). -/
def State.svcPacket (s : State) (auth rx : Bool) : State :=
  let sec := secOf s.tai
  let p := if s.ptp.svcSecond = sec then s.ptp else { s.ptp with svcSecond := sec, svcCount := 0, svcAuth := 0 }
  let s := { s with ptp := { p with svcCount := p.svcCount + 1, svcAuth := p.svcAuth + ofBool auth } }
  let s := s.perfEvent (if rx then 0x401 else 0x402) 0
  if auth then s.perfEvent 0x403 0 else s
/-- One more service packet lies within capacity (R322). -/
def State.svcRoom (s : State) (auth : Bool) : Bool :=
  let (a, t) := s.capacity
  let same := decide (s.ptp.svcSecond = secOf s.tai)
  !same || (decide (s.ptp.svcCount < t) && (!auth || decide (s.ptp.svcAuth < a)))

/-- A received packet's issue slot has its outcome (R442). -/
def State.slotDone (s : State) (retired : Bool) : State :=
  if s.perf.running then
    if retired then { s with perf := { s.perf with retired := s.perf.retired + 1 } }
    else { s with perf := { s.perf with wasted := s.perf.wasted + 1 } }
  else s

/-- The message kind of a class for a sample (R440). -/
def sampleMsg (cls : Nat) : Nat :=
  match cls with | 0 | 2 => 0 | 1 | 4 => 1 | 3 => 2 | 5 => 3 | 11 => 5 | _ => 6
/-- A packet reaches classification: the P-th candidate of a sampled class is followed (R440). -/
def State.sampleCandidate (s : State) (port cls : Nat) (stamp : T96) : State :=
  let p := s.n E.perfSampleP
  if s.perf.running ∧ p ≠ 0 ∧ bitOf (s.n E.perfSampleClasses) cls then
    if s.perf.skip = 0 then
      { s with perf := { s.perf with
        skip := p - 1, flight := s.perf.flight ++ [⟨port, cls, sampleMsg cls, stamp, s.now⟩] } }
    else { s with perf := { s.perf with skip := s.perf.skip - 1 } }
  else s
/-- The 48 bytes of a sample (R440); the stage latencies reached are open values. -/
def State.sampleBytes (s : State) (x : Sample) (msg outcome client stage lane : Nat) (stop' : T96) : List Byte :=
  let lat (i : Nat) : Nat := if i ≤ stage then Config.freeValue (s.draws + i) % 65536 else 0
  be 4 s.perf.seq ++ be 1 x.port ++ be 1 x.cls ++ be 1 msg ++ be 1 outcome ++ be 4 client ++ t96Bytes x.stamp ++
    (List.range 7).flatMap (fun i => be 2 (lat i)) ++ be 2 0 ++ be 1 stage ++ be 1 lane ++ be 2 0 ++
    be 4 (min ((stop' - x.stamp) / 65536) 0xFFFFFFFF)
/-- A packet's fate is known: its slot is counted, and its sample, if it was followed, is recorded or lost (R440 to R442). -/
def State.packetEnd (s : State) (port : Nat) (stamp : T96) (outcome stage : Nat) (msg client : Option Nat) (lane : Nat)
    (stop' : T96) : State :=
  let s := s.slotDone (outcome == 0)
  match s.perf.flight.find? (fun x => x.port = port && x.stamp = stamp) with
  | none => s
  | some x =>
    let s := { s with perf := { s.perf with flight := s.perf.flight.erase x } }
    if s.perf.samples.length < 4096 then
      let b := s.sampleBytes x (msg.getD x.msg) outcome (client.getD 0xFFFFFFFF) stage lane stop'
      let s := { s with perf := { s.perf with samples := s.perf.samples ++ [b], seq := s.perf.seq + 1 }, draws := s.draws + 8 }
      s.set E.perfSampleFill 0 s.perf.samples.length
    else s.set E.perfSampleLost 0 (min (s.n E.perfSampleLost + 1) (2 ^ 32 - 1))

end Sys2Proof.Machine
end

