-- ==== Sys2Proof/Machine/KeyUse.lean ====
section
/-! DEFINITION. Key references, the use check, derivation and the derived cache (R387, R389 to R396, R406, R476). -/

namespace Sys2Proof.Machine

/-! ### Shares (R406) -/

/-- Two byte strings combined by XOR, the first one's tail kept. -/
def xorBytes : List Byte → List Byte → List Byte
  | a :: as, b :: bs => (a ^^^ b) :: xorBytes as bs
  | as, _ => as
/-- The key two shares hold. -/
def Shares.key (x : Shares) : List Byte := xorBytes x.a x.b
/-- Random bytes: the n-th draw (log 8). -/
def State.randomBytes (s : State) (n : Nat) : List Byte := be n (s.drawn (256 ^ n))
/-- A key split into shares under a mask. -/
def shareWith (key mask : List Byte) : Shares := ⟨xorBytes key mask, mask⟩
/-- A key split into shares under a drawn mask, and the state after the draw. -/
def State.share (s : State) (key : List Byte) : Shares × State := (shareWith key (s.randomBytes key.length), s.drew)
/-- Both shares refreshed with one value. -/
def Shares.remask (x : Shares) (v : List Byte) : Shares := ⟨xorBytes x.a v, xorBytes x.b v⟩

/-! ### Slots and references (R386, R387) -/

/-- The slot a key reference names. -/
def refSlot (ref : Nat) : Nat := ref / 2 ^ 20
/-- The generation field of a key reference. -/
def refGen (ref : Nat) : Nat := ref % 2 ^ 20
/-- The current reference of slot `k`; 0 for the root. -/
def State.slotRef (s : State) (k : Nat) : Nat :=
  if k = 0 then 0 else if k < 16 then s.n E.anchorRef k else s.n E.keyRef k
/-- The current generation of slot `k`. -/
def State.slotGen (s : State) (k : Nat) : Nat := refGen (s.slotRef k)
/-- The generation after `g` (R387). -/
def nextGen (g : Nat) : Nat := if 0xFFFFE ≤ g then 1 else g + 1
/-- A generation drawn from the DRBG (R387). -/
def State.drawnGen (s : State) : Nat := s.drawn 0xFFFFE + 1
/-- The class of a slot: 0 root, 1 anchor, 2 provisioned, 3 derived, 4 none (R386). -/
def State.slotClass (s : State) (k : Nat) : Nat :=
  if k = 0 then 0
  else if k < 16 then (if s.n E.anchorState k = 1 then 1 else 4)
  else if s.n E.keyState k = 0 then 4 else if s.n E.keyClass k = 1 then 2 else if s.n E.keyClass k = 2 then 3 else 4
/-- The type of a slot (R389); the root serves derivations. -/
def State.slotType (s : State) (k : Nat) : Nat :=
  if k = 0 then 3 else if k < 16 then s.n E.anchorType k else s.n E.keyType k
/-- The usage mask of a slot (R391). -/
def State.slotUsage (s : State) (k : Nat) : Nat :=
  if k = 0 then 4 else if k < 16 then s.n E.anchorUsage k else s.n E.keyUsage k
/-- The engine mask of a slot (R391). -/
def State.slotEngine (s : State) (k : Nat) : Nat :=
  if k = 0 then 0xFFFF else if k < 16 then s.n E.anchorEngineMask k else s.n E.keyEngineMask k
/-- The material an anchor or provisioned slot holds. -/
def State.slotKey (s : State) (k : Nat) : List Byte := (tabGet {} k s.vault.keys).key
/-- The parent of a derived slot. -/
def State.slotParent (s : State) (k : Nat) : Nat := s.n E.keyParent k
/-- The current reference a written reference stands for: a tracking one takes the slot's current generation (R387). -/
def State.resolveRef (s : State) (ref : Nat) : Nat :=
  if refGen ref = 0xFFFFF then s.slotRef (refSlot ref) else ref

/-! ### Chains and derivation (R394 to R396) -/

/-- A derived slot. -/
def State.derivedSlot (s : State) (k : Nat) : Bool := decide (s.slotClass k = 3)
/-- The slot and generation of every key from slot `k` up to the top of its tree. -/
def State.keyChain (s : State) : Nat → Nat → List (Nat × Nat)
  | 0, _ => []
  | fuel + 1, k => (k, s.slotGen k) :: (if s.derivedSlot k then s.keyChain fuel (s.slotParent k) else [])
/-- The chain of a slot: depth is at most 8 (R395). -/
def State.chainOf (s : State) (k : Nat) : List (Nat × Nat) := s.keyChain 10 k
/-- The depth of a slot (R395). -/
def State.depthOf (s : State) (k : Nat) : Nat := (s.chainOf k).length - 1
/-- The material at the top of every chain of slot `k` is there, and no link of it is revoked. -/
def State.derivable (s : State) : Nat → Nat → Bool
  | 0, _ => false
  | fuel + 1, k =>
    if k = 0 then s.n E.vaultState == 1
    else if k < 16 then s.n E.anchorState k == 1
    else if s.derivedSlot k then
      decide (s.n E.keyState k = 4) && !(s.oct E.keyLabel k).isEmpty && s.derivable fuel (s.slotParent k)
    else s.n E.keyState k == 3
/-- The child of a key (R394). -/
def kdf (parent : List Byte) (gen child : Nat) (label : List Byte) : List Byte :=
  let context := be 4 gen ++ be 2 child
  let k (i : Nat) := padTo 16 (cmac parent (be 4 i ++ label ++ be 1 0 ++ context ++ be 4 256))
  k 1 ++ k 2
/-- The material of slot `k`, derived from the top of its tree. -/
def State.deriveKey (s : State) : Nat → Nat → List Byte
  | 0, _ => []
  | fuel + 1, k =>
    if k = 0 then s.otp.root.key
    else if s.derivedSlot k then
      let p := s.slotParent k
      kdf (s.deriveKey fuel p) (s.slotGen p) k (s.oct E.keyLabel k)
    else s.slotKey k
/-- The material of slot `k`, or of its unslotted child under a label (R394). -/
def State.childKey (s : State) (k : Nat) : Option (List Byte) → List Byte
  | none => s.deriveKey 10 k
  | some l => kdf (s.deriveKey 10 k) (s.slotGen k) 0xFFFF l
/-- A private child of the root, for the journal (R404). -/
def State.rootChild (s : State) (label : List Byte) : List Byte := kdf s.otp.root.key 0 0xFFFF label
/-- The slots of 16 and above that have been declared, rising. -/
def State.declared (s : State) : List Nat :=
  s.dict.filterMap (fun p =>
    if p.1 % 2 ^ 28 = dictKey E.keyClass 0 0 0 ∧ p.2 ≠ 0 then some (p.1 / 2 ^ 28) else none)
/-- The descendants of slot `k`. -/
def State.descendants (s : State) (k : Nat) : List Nat :=
  s.declared.filter (fun j => j != k && s.derivedSlot j && (s.chainOf j).any (fun p => p.1 = k))

/-- The check value label of R390: the ASCII bytes `Nufoes KCV`. -/
def kcvLabel : List Byte := [0x4E, 0x75, 0x66, 0x6F, 0x65, 0x73, 0x20, 0x4B, 0x43, 0x56].map (BitVec.ofNat 8)
/-- The check value of a key (R390). -/
def kcvOf (type : Nat) (key : List Byte) : Nat :=
  beAt (match type with
    | 2 => hmac key kcvLabel
    | 4 | 6 => sha256 (kcvLabel ++ key)
    | 5 | 7 => sha256 (kcvLabel ++ ecdsaPublic key)
    | _ => cmac key kcvLabel) 0 4

/-- The cache's fill follows. -/
def State.cacheSet (s : State) (c : List Cached) : State :=
  ({ s with vault := { s.vault with cache := c } }).set E.cacheFill 0 c.length
/-- An entry enters the cache in front; the least recently used one leaves a full cache (R396). -/
def State.cachePut (s : State) (c : Cached) : State :=
  let l := c :: s.vault.cache
  if 1024 < l.length then (s.cacheSet (l.take 1024)).bump E.cacheEvictions else s.cacheSet l
/-- Every entry whose recorded chain holds an old generation is purged (R399). -/
def State.cachePurge (s : State) : State :=
  s.cacheSet (s.vault.cache.filter (fun c => c.chain.all (fun p => s.slotGen p.1 = p.2)))
/-- Looks for a derived key in the cache; a hit becomes the most recently used. -/
def State.cacheFind (s : State) (k : Nat) (label : Option (List Byte)) : Option (List Byte × State) :=
  let chain := s.chainOf k
  match s.vault.cache.find? (fun c => c.slot = k && c.label = label && c.chain = chain) with
  | some c => some (c.key.key, s.cacheSet (c :: s.vault.cache.erase c))
  | none => none

/-! ### The use check (R393, R476) -/

/-- One use of a key: the reference, the usage bit of the operation, the types and slot classes it takes, the anchor role it
needs (0 none), the invoking master's bit, the acting world, the kind of lane (0 none, 1 service, 2 capture), and whether it
runs on the SHA-256 core. -/
structure KeyUse where
  ref : Nat
  op : Nat
  types : List Nat
  classes : List Nat
  role : Nat := 0
  master : Nat := 6
  world : Nat := 0
  lane : Nat := 1
  sha : Bool := false
deriving DecidableEq, Repr

/-- Steps 2 and 5 of R393 from the slot's declared attributes: the class, and the type, usage and role. -/
def State.keyClassOk (s : State) (u : KeyUse) : Bool := u.classes.contains (s.slotClass (refSlot u.ref))
/-- Step 5 of R393. -/
def State.keyUsageOk (s : State) (u : KeyUse) : Bool :=
  let k := refSlot u.ref
  u.types.contains (s.slotType k) && bitOf (s.slotUsage k) u.op &&
    (u.role == 0 || decide (16 ≤ k) || decide (s.n E.anchorRole k = u.role))
/-- A lane that runs for the use, under an engine mask (R392). -/
def State.laneOk (s : State) (mask : Nat) (u : KeyUse) : Bool :=
  decide (u.lane = 0) || (List.range 8).any (fun l =>
    decide (s.n E.laneState l = u.lane) && bitOf mask (if u.sha then 8 + l else l))
/-- The lane an operation is dispatched to: the lowest allowed one, since no operation waits (R393, log 42). -/
def State.laneFor (s : State) (mask : Nat) (u : KeyUse) : Option Nat :=
  (List.range 8).find? (fun l => decide (u.lane ≠ 0 ∧ s.n E.laneState l = u.lane) && bitOf mask (if u.sha then 8 + l else l))
/-- The reason a use is refused for, in the order of R393; 0 when it is not. -/
def State.keyReason (s : State) (u : KeyUse) : Nat :=
  let k := refSlot u.ref
  if s.n E.vaultState ≠ 1 then 1
  else if u.ref = 0 ∨ ¬ s.keyClassOk u then 2
  else if (16 ≤ k ∧ s.n E.keyState k = 5) ∨ (refGen u.ref ≠ 0xFFFFF ∧ refGen u.ref ≠ s.slotGen k) then 3
  else if ¬ s.derivable 10 k then 4
  else if ¬ s.keyUsageOk u then 5
  else if k < 16 ∧ ¬ bitOf (s.n E.anchorWorldMask k) u.world then 6
  else if k < 16 ∧ ¬ bitOf (s.n E.anchorMasterMask k) u.master then 7
  else if k < 16 ∧ ¬ bitOf (s.n E.anchorLifeMask k) (s.n E.lifecycle) then 8
  else if ¬ s.laneOk (s.slotEngine k) u then 9
  else 0
/-- A refused use is counted and reported (R393, R410). -/
def State.keyRefused (s : State) (u : KeyUse) (reason : Nat) : State :=
  let s := s.set E.vaultLastRefusal 0 (refSlot u.ref * 2 ^ 32 + reason)
  match reason with
  | 3 => s.bump E.keyRevokedUses
  | 4 => s.bump E.keyAbsentUses
  | 9 => s.bump E.keyEngineDenied
  | _ => s.bump E.keyAttrDenied
/-- What a use gets: a refusal with its reason, a wait for a derivation, or the key. -/
inductive KeyGot where
  | refused (reason : Nat)
  | waits
  | key (material : List Byte)
deriving DecidableEq, Repr
/-- A use of a key, or of its unslotted child under a label (R393, R394, R396). -/
def State.useKey (s : State) (u : KeyUse) (label : Option (List Byte) := none) : KeyGot × State :=
  let k := refSlot u.ref
  let reason := s.keyReason u
  if reason ≠ 0 then (.refused reason, s.keyRefused u reason)
  else
    let count (s : State) :=
      let s := if 16 ≤ k ∧ label.isNone then s.bump E.keyUses k else s
      match s.laneFor (s.slotEngine k) u with | some l => s.perfEvent 0x601 l | none => s
    if s.derivedSlot k ∨ label.isSome then
      match s.cacheFind k label with
      | some (m, s) => (.key m, count s)
      | none =>
        let d : Derivation := ⟨k, label, s.chainOf k⟩
        let s := (s.bump E.cacheMisses).perfEvent 0x602 0
        (.waits, if s.vault.running.contains d then s
          else { s with vault := { s.vault with running := s.vault.running ++ [d] } })
    else (.key (s.slotKey k), count s)
/-- The codes a write of a key reference meets (R393, R476): class and usage, and for an anchor the acting world, where one is
tested. -/
def State.refCodes (s : State) (u : KeyUse) (world : Option Nat) : List Nat :=
  if u.ref = 0 then []
  else
    (if s.keyClassOk u && s.keyUsageOk u then [] else [7]) ++
    (match world with
     | some w => if refSlot u.ref < 16 ∧ ¬ bitOf (s.n E.anchorWorldMask (refSlot u.ref)) w then [3] else []
     | none => [])

/-- The bit of a master of the vault's master mask that an Irlin message comes by (R391, R476). -/
def State.viaMaster (s : State) : Via → Nat
  | .udp _ => 4
  | .ring w => s.n E.ringFunc (8 * w + 5) / 2
  | .spi => 5
/-- The use of key binding `k` for an Irlin MAC (R57, R476). -/
def State.irlinUse (s : State) (k : Nat) (via : Via) : KeyUse :=
  { ref := s.n E.irlinKey k, op := 1, types := [2], classes := [1], role := 1, master := s.viaMaster via,
    world := s.n E.irlinWorld k, sha := true }

end Sys2Proof.Machine
end

