-- ==== Sys2Proof/Machine/Report.lean ====
section
/-! DEFINITION. What units report through: engine-produced rings and the SPI event queue, Irlin messages, the audit
ledger, and Holly's handling of an event with the safe state. -/

namespace Sys2Proof.Machine

/-! ### Rings (R272 to R283) -/

/-- Ring `r` (8·world + kind) beside its entries. -/
def State.ring (s : State) (r : Nat) : Ring := tabGet {} r s.host.rings
/-- Sets ring `r`. -/
def State.setRing (s : State) (r : Nat) (x : Ring) : State :=
  { s with host := { s.host with rings := tabPut {} r x s.host.rings } }
/-- The ring is RUNNING. -/
def State.ringRuns (s : State) (r : Nat) : Bool := decide (s.n E.ringState r = 1)
/-- Entries of an engine-produced ring the host has not consumed (R274); none where its count has run ahead. -/
def State.ringFill (s : State) (r : Nat) : Nat :=
  let d := (s.n E.ringEngineIdx r + 2 ^ 32 - s.n E.ringDoorbell r) % 2 ^ 32
  if d < 2 ^ 31 then d else 0
/-- The ring is pending (R283): enough unconsumed entries, or the oldest older than `RING_IRQ_TIME`. -/
def State.ringPending (s : State) (r : Nat) : Bool :=
  let a := (s.ring r).ages
  decide (s.n E.ringIrqCount r ≤ a.length) ||
    (match a with
     | [] => false
     | o :: _ => decide (ticksUs (s.n E.ringIrqTime r) < s.now - o))
/-- Sends the MSI-X message of a pending episode once (R283). A pin's level follows `ringPending` itself. -/
def State.ringSignal (s : State) (r : Nat) : State :=
  let x := s.ring r
  if s.ringPending r then
    if x.signalled then s
    else
      let s := s.setRing r { x with signalled := true }
      let v := s.n E.ringIrqVec r
      if v < 32 then s.emit (.msix (s.n E.ringFunc r) v) else s
  else s
/-- The engine's count advanced by `k`, written back, with the interrupt it may raise (R274, R283). -/
def State.ringAdvance (s : State) (r k : Nat) : State :=
  let idx := (s.n E.ringEngineIdx r + k) % 2 ^ 32
  let s := (s.set E.ringEngineIdx r idx).perfEvent 0x703 (r / 8) k
  let x := s.ring r
  let s := s.setRing r { x with ages := x.ages ++ List.replicate k s.now }
  (s.emit (.dma (s.n E.ringFunc r) (s.n E.ringWbAddr r) (le 4 idx))).ringSignal r
/-- One 32-byte entry written to the next slot of an engine-produced ring. -/
def State.ringWrite (s : State) (r : Nat) (bytes : List Byte) : State :=
  let slot := s.n E.ringEngineIdx r % max 1 (s.n E.ringSize r)
  (s.emit (.dma (s.n E.ringFunc r) (s.n E.ringBase r + 32 * slot) bytes)).ringAdvance r 1
/-- An event LOSS record (R282). -/
def lossRecord (count firstKind : Nat) : List Byte :=
  be 1 0xF0 ++ zeros 3 ++ be 4 count ++ be 4 firstKind ++ zeros 20
/-- A counter-result LOSS record (R215, R216): the first and last lost SEQ and the count. -/
def counterLossRecord (x : TicLoss) : List Byte :=
  be 1 4 ++ be 1 x.source ++ zeros 6 ++ be 4 x.first ++ be 4 x.last ++ zeros 4 ++ be 4 0xFFFFFFFF ++ be 8 x.count
/-- A record is a counter result (R282). -/
def isTic (bytes : List Byte) : Bool := decide (1 ≤ beAt bytes 0 1 ∧ beAt bytes 0 1 ≤ 3)
/-- The losses of counter results with one more (R216): each kind and source has its own SEQ. -/
def ticLose (bytes : List Byte) : List TicLoss → List TicLoss
  | [] => [⟨beAt bytes 0 1, beAt bytes 1 1, beAt bytes 4 4, beAt bytes 4 4, 1⟩]
  | x :: rest =>
    if x.kind = beAt bytes 0 1 ∧ x.source = beAt bytes 1 1 then { x with last := beAt bytes 4 4, count := x.count + 1 } :: rest
    else x :: ticLose bytes rest
/-- A lost record joins the losses that wait for their LOSS record (R216, R281). -/
def Ring.lose (x : Ring) (bytes : List Byte) : Ring :=
  if isTic bytes then { x with ticLost := ticLose bytes x.ticLost }
  else { x with lost := x.lost + 1, lostKind := if x.lost = 0 then beAt bytes 0 1 else x.lostKind }
/-- The LOSS records that wait (R216, R281). -/
def Ring.losses (x : Ring) : List (List Byte) :=
  x.ticLost.map counterLossRecord ++ (if x.lost = 0 then [] else [lossRecord x.lost x.lostKind])
/-- The first `n` of them have been written. -/
def Ring.lossesDone (x : Ring) (n : Nat) : Ring :=
  { x with ticLost := x.ticLost.drop n, lost := if x.ticLost.length < n then 0 else x.lost }
/-- The LOSS records that wait take the free slots of a RUNNING ring (R216, R281). -/
def State.ringFlushLoss (s : State) (r : Nat) : State :=
  let x := s.ring r
  let n := if s.ringRuns r then min x.losses.length (s.n E.ringSize r - s.ringFill r) else 0
  if n = 0 then s else (x.losses.take n).foldl (fun s b => s.ringWrite r b) (s.setRing r (x.lossesDone n))
/-- A free slot in a RUNNING engine-produced ring. -/
def State.ringRoom (s : State) (r : Nat) : Bool := s.ringRuns r && decide (s.ringFill r < s.n E.ringSize r)
/-- An entry for an engine-produced ring: written, or lost and counted when the ring is full or halted (R281); a tap record's
loss is reported by its port (R354). A ring that is disabled or quiet takes nothing: a tap record is counted there too (R354), and a
counter result's SEQ recorded (R216). -/
def State.ringPut (s : State) (r : Nat) (bytes : List Byte) : State :=
  let s := s.ringFlushLoss r
  let st := s.n E.ringState r
  if s.ringRoom r then s.ringWrite r bytes
  else
    let s := if st = 1 ∨ st = 2 ∨ r % 8 = 4 then s.bump E.ringLost r else s
    if r % 8 ≠ 4 ∧ (st = 1 ∨ st = 2 ∨ isTic bytes) then s.setRing r ((s.ring r).lose bytes) else s
/-- An event record for a world's EVT ring; without a RUNNING one, the world of `BIND_SPIT` has the SPI queue of 256
(R288). -/
def State.event (s : State) (w : Nat) (bytes : List Byte) : State :=
  let r := 8 * w + 3
  if s.ringRuns r ∨ s.n E.bindSpit ≠ w then s.ringPut r bytes
  else if s.host.spiEvents.length < 256 then
    { s with host := { s.host with spiEvents := s.host.spiEvents ++ [bytes] } }
  else
    let s := s.bump E.ringLost r
    s.setRing r ((s.ring r).lose bytes)

/-! ### Irlin messages out (R58 to R61) -/

/-- The bytes of an Irlin message before its MAC (R58). -/
def irlinBytes (op flags key nonce seq tag status : Nat) (body : List Byte) : List Byte :=
  be 1 1 ++ be 1 op ++ be 2 flags ++ be 4 key ++ be 4 nonce ++ be 4 seq ++ be 2 tag ++ be 2 body.length ++
    be 4 status ++ body
/-- A reply or notification with the engine's own SEQ of the binding and its MAC (R58, R60); `none` when the key refuses the
use: a message is never sent without its MAC (R57, R393). -/
def State.irlinMessage (s : State) (k : Nat) (via : Via) (op flags tag status : Nat) (body : List Byte) :
    Option (List Byte) × State :=
  match s.useKey (s.irlinUse k via) with
  | (.key material, s) =>
    let seq := tabGet 1 k s.control.outSeq
    let b := irlinBytes op flags (s.resolveRef (s.n E.irlinKey k)) (s.n E.irlinNonce) seq tag status body
    (some (b ++ (hmac material b).take 16),
     { s with control := { s.control with outSeq := tabPut 1 k ((seq + 1) % 2 ^ 32) s.control.outSeq } })
  | (_, s) => (none, s)
/-- Sends an Irlin message out the way `via`; a reply over the SPI target is queued (R287). -/
def State.irlinSend (s : State) (k : Nat) (via : Via) (op flags tag status : Nat) (body : List Byte) : State :=
  match s.irlinMessage k via op flags tag status body with
  | (some b, s) =>
    match via with
    | .spi => { s with host := { s.host with spiReplies := s.host.spiReplies ++ [b] } }
    | v => s.emit (.irlin k v b)
  | (none, s) => s

/-! ### The audit ledger (R134 to R136) -/

/-- Bytes 0 to 31 of a ledger entry (R134). -/
def ledgerHead (x : LedgerEntry) : List Byte :=
  be 4 x.seq ++ be 1 x.kind ++ be 1 x.term ++ be 2 x.source ++ t96Bytes x.time ++ be 4 x.old ++ be 4 x.new ++
    be 4 x.detail
/-- The 64 bytes of a ledger entry (R134). -/
def ledgerBytes (x : LedgerEntry) : List Byte := ledgerHead x ++ padTo 32 x.chain
/-- The ledger's size in entries. -/
def ledgerSize : Nat := 16384
/-- A new ledger entry, chained to its predecessor; a full ledger overwrites the oldest (R134, R136). -/
def State.ledgerAdd (s : State) (kind term source : Nat) (old new : Bound) (detail : Nat) (time : T96) : State :=
  let b := s.bound
  let prev := match b.ledger with
    | [] => List.replicate 32 0#8
    | x :: _ => x.chain
  let x0 : LedgerEntry := ⟨b.written % 2 ^ 32, kind, term, source % 65536, time, old, new, detail % 2 ^ 32, []⟩
  let x := { x0 with chain := sha256 (prev ++ ledgerHead x0) }
  let excess := decide (ledgerSize ≤ b.ledger.length)
  let gone := (b.ledger.drop (ledgerSize - 1)).head?
  let base := match gone with | some g => g.chain | none => b.baseChain
  let wrapped := match gone with | some g => decide (b.attest.firstSeq ≤ g.seq) | none => false
  let at' := if wrapped then { b.attest with flags := setBit b.attest.flags 6 true } else b.attest
  let s := { s with bound := { b with
    ledger := x :: b.ledger.take (ledgerSize - 1), baseChain := base, written := b.written + 1, attest := at' } }
  let s := s.set E.ledgerHeadSeq 0 x.seq
  if excess then
    ((s.set E.ledgerOldestSeq 0 ((s.bound.ledger.getLastD x).seq)).setOct E.ledgerBaseChain 0 base).bump E.ledgerOverwritten
  else s
/-- A ledger entry of an event that does not itself change E (R135). -/
def State.ledgerNote (s : State) (kind source detail : Nat) : State :=
  s.ledgerAdd kind 0 source s.bound.e s.bound.e detail (s.copy 0x001)
/-- A signed amount as a saturating 32-bit field (R135). -/
def sat32 (x : Int) : Nat := (BitVec.ofInt 32 (max (-2 ^ 31) (min x (2 ^ 31 - 1)))).toNat

/-! ### Holly (R413 to R426) -/

/-- CONDITION sources by local number, and the listed ones (R414). -/
def isCondition (src : Nat) : Bool :=
  src % 64 = 58 || src % 64 = 60 || [3, 5, 12, 13, 18, 65, 129, 322, 323, 385, 386, 448, 452].contains src
/-- Sources whose severity cannot be changed (R414). -/
def isFixed (src : Nat) : Bool := [5, 448, 452].contains src
/-- The source's unit is absent (R7): Juniper's domain. -/
def State.sourceAbsent (s : State) (src : Nat) : Bool := decide (src / 64 = 5) && !s.present 0
/-- The severity a source's event carries before promotion (R415). -/
def State.sourceSeverity (s : State) (src : Nat) : Nat :=
  if src = 449 then s.n E.checkSeverity else if src = 448 then 3 else s.n E.fltSeverity src

/-- Fault record `l`. -/
def State.record (s : State) (l : Nat) : FaultRec := tabGet {} l s.holly.log
/-- Sets fault record `l`. -/
def State.setRecord (s : State) (l : Nat) (x : FaultRec) : State :=
  { s with holly := { s.holly with log := tabPut {} l x s.holly.log } }
/-- The handle of record `l` (R418). -/
def State.recordHandle (s : State) (l : Nat) : Nat := l * 2 ^ 24 + (s.record l).gen % 2 ^ 24
/-- The domains of the sources a record holds, bit by bit (R420). -/
def recordDomains (x : FaultRec) : Nat := maskOf (x.sources.map (· / 64))
/-- The 32 bytes of a record as it is sent (R420). -/
def recordBytes (x : FaultRec) (handle seq : Nat) (clear : Bool) : List Byte :=
  be 1 0x20 ++
  be 1 (x.sev + 4 * ofBool x.promoted + 8 * ofBool (decide (x.merged ≠ 0)) + 16 * ofBool x.safe + 32 * ofBool clear) ++
  be 2 x.source ++ be 4 handle ++ t96Bytes x.time ++ be 4 x.detail ++ be 2 x.merged ++ be 1 (recordDomains x) ++
  be 1 x.world ++ be 4 seq
/-- The 512-bit bitmap of a record, 64 bytes (R419, R434). -/
def recordBitmap (x : FaultRec) : List Byte :=
  (List.range 64).map (fun b => BitVec.ofNat 8 (maskOf ((x.sources.filter (fun p => p / 8 = b)).map (· % 8))))
/-- A record is sent to the EVT rings and the Irlin subscribers its severity and domains reach (R417, R420, R61). -/
def State.sendRecord (s : State) (l : Nat) (clear : Bool) : State :=
  let x := s.record l
  let seq := (s.n E.hollySeq + 1) % 2 ^ 32
  let s := (s.set E.hollySeq 0 seq).setRecord l { x with seq := seq }
  let b := recordBytes x (s.recordHandle l) seq clear
  let worlds := if 1 ≤ x.sev ∧ s.n E.hollyRingMin ≤ x.sev then bitsSet (s.n E.fltWorlds x.source) 16 else []
  let s := worlds.foldl (fun s w => s.event w b) s
  (s.control.subs.filter (fun u => decide (u.minSev ≤ x.sev ∧ s.now < u.expires) &&
      (x.sources.any (fun p => bitOf u.domains (p / 64))))).foldl
    (fun s u => s.irlinSend u.key u.via 6 2 0 0 b) s
/-- `HOLLY_DEGRADED` follows the uncleared SEVERE records (R417). -/
def State.degradeRefresh (s : State) : State :=
  s.setFlag E.hollyDegraded 0 (s.holly.log.any (fun p => decide (2 ≤ p.2.sev ∧ p.2.state ≠ 0 ∧ p.2.state ≠ 3)))

/-- The Quiet state has ended (R78). -/
def State.quietOver (s : State) : Bool := decide (8 ≤ s.n E.bootStage)
/-- `OUTPUT_STATE` follows the safe line, the Quiet state and first lock (R79, R422, R88). -/
def State.outputRefresh (s : State) : State :=
  s.set E.outputState 0 (if s.holly.safe then 3 else if !s.quietOver then 0 else if !s.flag E.firstLock then 1 else 2)

/-- Ticks spent out of tolerance and in holdover since the last account (R139). -/
def State.attestAccrue (s : State) : State :=
  let a := s.bound.attest
  let d := s.now - a.since
  { s with bound := { s.bound with attest := { a with
    ootTicks := a.ootTicks + (if s.bound.oot then d else 0)
    holdTicks := a.holdTicks + (if s.bound.hold.isSome then d else 0)
    since := s.now } } }

/-- What the safe line does in its own tick (R422, R125): the line, the first source, the held launches that lie later,
the bound unit's hold after a core residue mismatch, and the ledger entry due at the next strobe edge. -/
def State.enterSafe (s : State) (src sev : Nat) : State :=
  let core := decide (src ≤ 1)
  let s := if core then s.attestAccrue else s
  let u := s.bound
  let old := u.e
  let s := if core then { s with bound := { u with
      coreHeld := true, e := 0xFFFFFFFF, oot := u.oot || s.flag E.firstLock, ootClear := none,
      ootPend := !u.oot && s.flag E.firstLock, ootAt := if u.oot then u.ootAt else s.now } } else s
  if s.holly.safe then s
  else
    let at' := { s.bound.attest with flags := setBit s.bound.attest.flags 3 true }
    let s := { s with holly := { s.holly with safe := true, safeSource := src, safeAt := s.now },
                      bound := { s.bound with pendSafe := some (src, sev, old), attest := at' } }
    ((s.set E.hollySafe 0 1).set E.hollySafeSource 0 src).outputRefresh.synthSafe.launchesSafe

/-- The log entry a new record takes: an unused one, else the cleared one with the oldest TIME (R418). -/
def State.recordSlot (s : State) : Option Nat :=
  match (List.range 256).find? (fun l => decide ((s.record l).state = 0)) with
  | some l => some l
  | none =>
    (s.holly.log.filter (fun p => decide (p.2.state = 3))).foldl
      (fun a p => match a with
        | none => some p.1
        | some b => if p.2.time < (s.record b).time then some p.1 else some b) none
/-- The earliest record that is HANDLING, or that this tick has opened at NOTE (R419). -/
def State.handlingRecord (s : State) : Option Nat :=
  (s.holly.log.filter (fun p => decide (p.2.state = 1 ∨ p.2.state = 4))).foldl
    (fun a p => match a with
      | none => some p.1
      | some b => if p.2.tick < (s.record b).tick then some p.1 else some b) none
/-- The newest uncleared record (R418). -/
def State.newestRecord (s : State) : Option Nat :=
  (s.holly.log.filter (fun p => decide (p.2.state = 1 ∨ p.2.state = 2 ∨ p.2.state = 4))).foldl
    (fun a p => match a with
      | none => some p.1
      | some b => if (s.record b).tick ≤ p.2.tick then some p.1 else some b) none
/-- The island a source speaks for; none where its events come from several (R414, log 11). -/
def islandOfSource (src : Nat) : Option Nat :=
  if 56 ≤ src % 64 ∧ src % 64 ≤ 60 then none
  else match src with
    | 0 | 8 | 9 | 10 | 11 => some 0x000
    | 1 | 12 | 15 => some 0x001
    | 13 | 14 => some 0x002
    | 2 | 16 | 17 | 18 => some 0x003
    | 320 => some 0x502
    | 321 | 322 | 323 | 324 | 325 => some 0x501
    | 384 | 385 => some 0x600
    | 386 => some 0x603
    | 449 | 450 | 451 => some 0x702
    | 453 => some 0x701
    | 5 | 448 | 452 => some 0x703
    | _ => none
/-- The island that detects an event of a source, by its detail where several can (R414, R420, log 11). -/
def faultIsland (src detail : Nat) : Nat :=
  match islandOfSource src with
  | some i => i
  | none =>
    if 56 ≤ src % 64 ∧ src % 64 ≤ 60 then detail % 65536
    else match src with
      | 65 => 0x100 + bankOf detail
      | 128 => 0x200 + detail
      | _ => detail
/-- An event merged into record `l` (R419). -/
def State.mergeRecord (s : State) (l src sev : Nat) (promoted : Bool) : State :=
  let x := s.record l
  let y := { x with
    merged := min (x.merged + 1) 65535, sources := if x.sources.contains src then x.sources else x.sources ++ [src],
    sev := max x.sev sev, promoted := x.promoted || promoted, safe := x.safe || decide (sev = 3) }
  if x.state = 4 ∧ 1 ≤ y.sev then (s.setRecord l { y with state := 1 }).sendRecord l false
  else s.setRecord l y
/-- A new record in log entry `l` (R418, R419): sent at once, or at the end of the tick when it stays at NOTE. -/
def State.openRecord (s : State) (l src sev : Nat) (promoted : Bool) (detail world : Nat) : State :=
  let s := s.setRecord l {
    gen := (s.record l).gen + 1, state := if sev = 0 then 4 else 1, source := src, sev := sev,
    promoted := promoted, safe := decide (sev = 3), time := s.copy (faultIsland src detail), tick := s.now, detail := detail, world := world,
    sources := [src] }
  if sev = 0 then s else s.sendRecord l false

/-- A source is PROMOTED now (R416). -/
def State.promoted (s : State) (src : Nat) : Bool :=
  let n := s.n E.fltN src
  decide (n ≠ 0) && decide (n ≤ ((tabGet [] src s.holly.hist).filter
    (fun t => decide (s.now ≤ t + ticksMs (s.n E.fltW src)))).length)
/-- The source shows MASKED (R430): its island, or where several speak through it their whole domain, is under test. -/
def State.sourceMasked (s : State) (src : Nat) : Bool :=
  s.holly.testing.contains ((islandOfSource src).getD (src / 64 * 256 + 0xFF))
/-- `FLT_STATE` of a source (R433). -/
def State.sourceRefresh (s : State) (src : Nat) : State :=
  s.set E.fltState src
    (if s.sourceMasked src then 3 else if s.promoted src then 2 else if s.holly.asserted.contains src then 1 else 0)

/-- The source is masked for this event (R430): the island that detects it is under test. -/
def State.masked (s : State) (src detail : Nat) : Bool := s.holly.testing.contains (faultIsland src detail)
/-- One event of a fault source (R413 to R420): masked, absent, reserved and already asserted sources give none; the
event is graded, counted, recorded or merged, and a FATAL one enters the safe state in its tick. -/
def State.raiseOne (s : State) (src : Nat) (sev : Option Nat := none) (detail : Nat := 0) (world : Nat := 0xFF) : State :=
  if s.holly.selfFault ∨ ¬ isSource src ∨ s.sourceAbsent src ∨ s.masked src detail then s
  else if isCondition src ∧ s.holly.asserted.contains src then s
  else
    let own := max (s.sourceSeverity src) (sev.getD 0)
    let hist := ((s.now :: tabGet [] src s.holly.hist).take (max 1 (s.n E.fltN src)))
    let s := { s with holly := { s.holly with
      hist := tabPut [] src hist s.holly.hist,
      asserted := if isCondition src then s.holly.asserted ++ [src] else s.holly.asserted } }
    let prom := s.promoted src
    let g := if prom then max 2 own else own
    let s := (((s.bump E.fltCount src).bump E.hollyEvents g).setT96 E.fltLastTime src (s.copy (faultIsland src detail))).perfEvent 0x705 0
    let a := s.bound.attest
    let s := { s with bound := { s.bound with attest := { a with faults := a.faults.set g (a.faults.getD g 0 + 1) } } }
    let s := s.sourceRefresh src
    let s := match s.handlingRecord with
      | some l => s.mergeRecord l src g prom
      | none =>
        match s.recordSlot with
        | some l => s.openRecord l src g prom detail world
        | none =>
          match s.newestRecord with
          | some l => (s.mergeRecord l src g prom).bump E.hollyLogFull
          | none => s
    let s := s.degradeRefresh
    if g = 3 then s.enterSafe src g else s
/-- The event of every MDLL that has left LOCKED (R223, R414). -/
def State.lockEvents (s : State) : State :=
  s.synth.unlocked.foldl (fun s m => s.raiseOne 128 none m) { s with synth := { s.synth with unlocked := [] } }
/-- An out-of-tolerance entry counts, raises its event and has its ledger entry (R132, R135). -/
def State.ootEnter (s : State) (detail tick : Nat) : State :=
  let entry : DueEntry := ⟨10, 0, 0xFFFF, detail, tick⟩
  let s := { s with bound := { s.bound with ootPend := false, due := s.bound.due ++ [entry] } }
  (s.bump E.ootCount).raiseOne 12
/-- A fault source reports an event; a core residue mismatch puts the engine out of tolerance in its tick (R132). -/
def State.raise (s : State) (src : Nat) (sev : Option Nat := none) (detail : Nat := 0) (world : Nat := 0xFF) : State :=
  let s := (s.raiseOne src sev detail world).lockEvents
  if s.bound.ootPend then s.ootEnter 0xFFFFFFFF s.now else s

/-- Records this tick has left at NOTE are cleared and sent once with CLEAR at the end of the tick (R417, R419). -/
def State.endTick (s : State) : State :=
  (s.holly.log.filter (fun p => decide (p.2.state = 4))).foldl
    (fun s p => (s.setRecord p.1 { s.record p.1 with state := 3 }).sendRecord p.1 true) s

/-- Moves every QUALIFIED or DEGRADING slot to QUALIFYING, its qualification time to run anew (R164, R424). -/
def State.requalifyAll (s : State) : State :=
  (List.range 32).foldl (fun s n =>
    if s.n E.refState n = 3 ∨ s.n E.refState n = 4 then
      let x : Slot := tabGet {} n s.hornbeam.slots
      let s := { s with hornbeam := { s.hornbeam with slots := tabPut {} n { x with passSince := s.now } s.hornbeam.slots } }
      s.set E.refState n 2
    else s) s
/-- The conditions of the safe state (R423, R425, R426). -/
def State.safeHolds (s : State) : Bool :=
  s.holly.selfFault || [5, 448, 452].any (fun p => s.holly.asserted.contains p) ||
  s.holly.log.any (fun p => p.2.safe && decide (p.2.state ≠ 0 ∧ p.2.state ≠ 3))
/-- The safe state ends when its conditions cease (R424, R125): the ledger entry, E, and the return of the outputs;
`core` when a record of source 0 or 1 has been cleared. -/
def State.leaveSafe (s : State) (core : Bool) : State :=
  if s.holly.safe ∧ ¬ s.safeHolds then
    let old := s.bound.e
    let s := { s with holly := { s.holly with safe := false } }
    let s := if s.bound.coreHeld then s
             else { s with bound := { s.bound with e := 0xFFFFFFFE, release := none, target := 0xFFFFFFFE } }
    let s := if s.bound.coreHeld then s else s.set E.boundCore 0 0xFFFFFFFE
    let s := (s.set E.hollySafe 0 0).outputRefresh
    let s := s.ledgerAdd 17 0 s.holly.safeSource old s.bound.e 0 (s.copy 0x001)
    let s := s.synthReturn
    if core then s.requalifyAll else s
  else s
/-- Record `l` cleared with every merged source (R421), and the safe state left when nothing else holds it. -/
def State.clearRecord (s : State) (l : Nat) : State :=
  let x := s.record l
  let s := (s.setRecord l { x with state := 3 }).sendRecord l true
  (s.degradeRefresh).leaveSafe (x.sources.contains 0 || x.sources.contains 1)
/-- A record may clear itself (R421): `FLT_AUTOCLEAR` on every source it holds, below FATAL, no condition asserted. -/
def State.autoClears (s : State) (l : Nat) : Bool :=
  let x := s.record l
  decide (x.state = 1 ∨ x.state = 2) && decide (x.sev = 1 ∨ x.sev = 2) &&
    x.sources.all (fun p => s.flag E.fltAutoclear p && !s.holly.asserted.contains p)
/-- A CONDITION source's condition ends (R414, R421). -/
def State.deassert (s : State) (src : Nat) : State :=
  if s.holly.asserted.contains src then
    let s := { s with holly := { s.holly with asserted := s.holly.asserted.filter (· ≠ src) } }
    let s := s.sourceRefresh src
    let s := (s.holly.log.filter (fun p => p.2.sources.contains src && p.2.sources.any isCondition &&
        decide (p.2.state = 2))).foldl (fun s p => if s.autoClears p.1 then s.clearRecord p.1 else s) s
    s.leaveSafe false
  else s

/-- FAULT_N is driven low (R428, R455). -/
def State.faultLow (s : State) : Bool :=
  s.holly.safe || s.holly.selfFault || s.power.held || s.power.otpFail || decide (s.n E.bootStage = 1) ||
  s.holly.log.any (fun p => decide (s.n E.faultnSeverity ≤ p.2.sev ∧ p.2.state ≠ 0 ∧ p.2.state ≠ 3))

end Sys2Proof.Machine
end

