-- ==== Sys2Proof/Machine/Clock.lean ====
section
/-! DEFINITION. The running of Privet from tick to tick, the tick a command happens at, and the one write every master's
transport ends in. -/

namespace Sys2Proof.Machine

/-- The part of the interval's slew absorbed `j` ticks after its strobe edge (R96): evenly over 512 ticks. -/
def slewAfter (slew : Int) (j : Nat) : Int := Int.tdiv (slew * (min j 512 : Nat)) 512

/-- Privet after `n` more ticks (R91, R96, R100): the increment each tick, the interval's slew evenly, and half the
increment while a retard gives up its offset. -/
def privetAfter (p : Privet) (now n : Nat) : Privet :=
  let gave := min p.retard (n * (p.incr - p.incr / 2))
  let done := if p.retarding then p.slewDone else slewAfter p.slew (now + n - p.slewFrom)
  { p with
    time := ((p.time + n * p.incr : Nat) - (gave : Int) + (done - p.slewDone)).toNat
    retard := p.retard - gave
    remain := p.remain - (done - p.slewDone)
    slewDone := done,
    moved := p.moved + (done - p.slewDone) - gave }
/-- The same, with the value of the tick before it. -/
def privetRun (p : Privet) (now n : Nat) : Privet :=
  { privetAfter p now n with prev := (privetAfter p now (n - 1)).time }

/-- Privet runs on to tick `t`; the records of the tick it leaves end with that tick (R419). Without OSCIN it stands still
(R425). -/
def State.runTo (s : State) (t : Nat) : State :=
  if s.now < t ∧ s.power.oscin then
    let s := s.endTick.perfPass (t - s.now)
    { s with privet := privetRun s.privet s.now (t - s.now), now := t, corTick := [] }
  else s

/-- A command at tick `t`: Privet runs on to `t`, then `f`. An engine held in reset does nothing (R70). -/
def timed (t : Nat) (s : State) (f : State → State) : Host.Outcome State Fault Refusal :=
  .next (if s.power.held then s else f (s.runTo t))

/-- The tick is the one in which Privet reaches a whole multiple of `unit` (in 2⁻⁵⁶ ns), running there and not carried past it by a
step (R477). -/
def State.atWhole (s : State) (unit : Nat) : Bool := decide (s.privet.prev / unit < s.privet.time / unit)
/-- A second in 2⁻⁵⁶ ns. -/
def secondUnit : Nat := 10 ^ 9 * 2 ^ 56
/-- The tick holds a whole second of Privet time. -/
def State.atSecond (s : State) : Bool := s.atWhole secondUnit
/-- The tick holds a whole millisecond of Privet time. -/
def State.atMilli (s : State) : Bool := s.atWhole (secondUnit / 1000)

/-- A refused access is recorded for its world (R40, R42, R48): `REFUSED`, `LAST_ABORT`, and the guard-mismatch and
violation counters with their Holly events. -/
def State.refusal (s : State) (w code index sub : Nat) (lockHit : Bool) : State :=
  let s := (s.bump E.refused w).set E.lastAbort w (index * 65536 + sub * 256 + code)
  if code = 6 then (s.bump E.guardMismatch w).raise 450 none (index * 256 + sub) w
  else if code = 5 ∨ (code = 4 ∧ lockHit) then (s.bump E.violations w).raise 451 none (index * 256 + sub) w
  else s

/-- The effect of an accepted write (R35, R39, R46): a W1 entry is marked written, a command starts and is DONE unless its
effect leaves it BUSY or FAILED. -/
def State.accept (s : State) (sp : Special) (c : Ctx) : State :=
  let e := sp.entry
  let s := if e.cls = .w1 then { s with control := { s.control with w1 := dictKey e c.i 0 0 :: s.control.w1 } } else s
  let s := if e.cls = .cmd then s.set e c.i 2 else s
  sp.apply c s

/-- The pending pair is discarded with 0x06 (R42). -/
def State.pairDiscard (s : State) : State :=
  match s.control.pair with
  | some p => ({ s with control := { s.control with pair := none } }).refusal p.world 6 p.index p.sub false
  | none => s
/-- The deadline tick of a pending pair has passed (R41, R42). -/
def State.pairLate (s : State) : Bool :=
  match s.control.pair with | some p => decide (p.tick + 500 < s.now) | none => false
/-- What the arrival of a guarded write does to a pending pair (R42): a late one is discarded, and one of the same world over
PCIe. -/
def State.pairMeets (s : State) (m : Master) (w : Nat) : State :=
  let s := if s.pairLate then s.pairDiscard else s
  match s.control.pair, m with
  | some p, .pcie _ => if p.world = w then s.pairDiscard else s
  | _, _ => s

/-- A write of all words of instance `i` by a master, with the codes its transport adds: the code of R63 and the state after.
An unbound function's write is dropped and counted (R54). -/
def State.write (s : State) (sp : Special) (m : Master) (i : Nat) (words : List Word) (extra : List Nat := []) :
    Nat × State :=
  let s := s.perfEvent 0x701 0
  match s.worldOf m with
  | none => (3, match m with | .pcie _ => s.bump E.unboundAccess | _ => s)
  | some w =>
    let s := if sp.entry.cls = .grd then s.pairMeets m w else s
    let c : Ctx := ⟨m, w, i, words⟩
    let code := resolve (s.writeCodes sp c ++ extra)
    if code = 0 then (0, s.accept sp c)
    else
      let a := sp.entry.addr i 0
      (code, sp.refused code c (s.refusal w code a.1 a.2 (lockable sp.entry && s.control.locked)))

/-- The command row of an entry of its own: a completed write of it at tick `t`. -/
def writeRow (sp : Special) (t : Nat) (m : Master) (i : Nat) (words : List Word) (s : State) :
    Host.Outcome State Fault Refusal :=
  timed t s (fun s => (s.write sp m i words).2)

/-- A plain entry as a write target. -/
def plain (e : Entry) : Special := { entry := e }

/-- An idle tick (log 2). -/
def State.tick (s : State) : State := if s.power.held then s else s.runTo (s.now + 1)

end Sys2Proof.Machine
end

