-- ==== Sys2Proof/Machine/Schedule.lean ====
section
/-! DEFINITION. Operations over the schedule slots that several families share (R111 to R114). -/

namespace Sys2Proof.Machine

/-- The kind of a slot's action (R119). -/
def State.schedKind (s : State) (i : Nat) : Nat := bitsOf (s.n E.schedAction i) 7 0
/-- The target of a slot's action (R119). -/
def State.schedTarget (s : State) (i : Nat) : Nat := bitsOf (s.n E.schedAction i) 15 8
/-- The island that performs a slot's action (R111, log 11): the ring engine, the PPSOUT's pulse island, the port of a tap mark. -/
def State.schedIsland (s : State) (i : Nat) : Nat :=
  match s.schedKind i with
  | 2 | 3 | 4 => 0x204 + s.schedTarget i / 4
  | 5 => 0x300 + s.schedTarget i
  | _ => 0x701
/-- An armed slot. -/
def State.armed (s : State) (i : Nat) : Option Sched := (s.sched.find? (fun p => p.1 == i)).map (·.2)
/-- Sets or removes the armed part of a slot. -/
def State.setArmed (s : State) (i : Nat) (x : Option Sched) : State :=
  { s with sched := match x with | some y => tabInsert i y s.sched | none => tabErase i s.sched }
/-- A SCHEDULE (0x10) or SCHED_MISSED (0x11) record (R282). -/
def schedRecord (kind flags handle : Nat) (time : T96) (bound : Bound) : List Byte :=
  be 1 kind ++ be 1 flags ++ be 2 0 ++ be 4 handle ++ t96Bytes time ++ be 4 bound ++ zeros 8
/-- After an instance: a one-shot ends in state `st`, a periodic slot waits for its next instance (R111, R113). -/
def State.schedNext (s : State) (i : Nat) (x : Sched) (st : Nat) : State :=
  let p := s.n E.schedPeriod i
  if p = 0 then (s.setArmed i none).set E.schedState i st
  else s.setArmed i (some { at_ := x.at_ + ofNs p })
/-- An instance is missed (R113): counted for a periodic slot; a one-shot becomes MISSED with a record to its owner. -/
def State.schedMiss (s : State) (i : Nat) (x : Sched) : State :=
  let s := if 2 ≤ s.schedKind i ∧ s.schedKind i ≤ 4 then s.bump E.ppsMissed (s.schedTarget i) else s
  if s.n E.schedPeriod i = 0 then
    (s.schedNext i x 3).event (s.n E.schedOwner i)
      (schedRecord 0x11 0 (s.n E.schedHandle i) x.at_ 0xFFFFFFFF)
  else (s.bump E.schedMissed i).schedNext i x 3
/-- Its island performs a slot's instance, with the record of a kind-1 action or of a performed PPSOUT action (R282). -/
def State.schedPerform (s : State) (i : Nat) (x : Sched) (bound : Bound) : State :=
  (s.schedNext i x 2).event (s.n E.schedOwner i)
    (schedRecord 0x10 (ofBool x.stepped) (s.n E.schedHandle i) (if x.stepped then s.copy (s.schedIsland i) else x.at_) bound)
/-- The slot's instance is due at its island in this tick (R15, R114): its command has been delivered and the island's copy reaches
the time, or a forward step has carried it past. -/
def State.schedDue (s : State) (i kind : Nat) : Option Sched :=
  match s.armed i with
  | some x =>
    if s.schedKind i = kind ∧ x.delivered ∧ (x.stepped ∨ s.reaches (s.schedIsland i) x.at_) then some x else none
  | none => none
/-- The slot's instance has gone by without its island performing it: it is reported as missed, never performed late (R15). -/
def State.schedLate (s : State) (i kind : Nat) : Option Sched :=
  match s.armed i with
  | some x => if s.schedKind i = kind ∧ x.delivered ∧ ¬ x.stepped ∧ s.passed (s.schedIsland i) x.at_ then some x else none
  | none => none
/-- An action's command at its island (R15, R111): performed by `act` when it is due, missed when it has gone by. -/
def State.schedAct (s : State) (i kind : Nat) (act : Sched → State → State) : State :=
  match s.schedDue i kind with
  | some x => act x s
  | none =>
    match s.schedLate i kind with
    | some x => s.schedMiss i x
    | none => s

end Sys2Proof.Machine
end

