-- ==== Sys2Proof/Machine/Clients.lean ====
section
/-! DEFINITION. The client store's shared operations (R300 to R303): release, eviction, planned load. -/

namespace Sys2Proof.Machine

/-- Client slot `i`. -/
def State.client (s : State) (i : Nat) : Client := tabGet {} i s.ptp.clients
/-- Sets client slot `i`: an access to its bank (R439, log 12). -/
def State.setClient (s : State) (i : Nat) (x : Client) : State :=
  ({ s with ptp := { s.ptp with clients := tabPut {} i x s.ptp.clients } }).perfEvent 0x405 (i / 262144)
/-- The handle of a client slot: 20-bit index | 12-bit generation (R300). -/
def clientHandle (i : Nat) (x : Client) : Nat := i * 2 ^ 12 + x.gen % 2 ^ 12
/-- The unit of planned loads: what one message per second counts. -/
def planUnit : Nat := 2 ^ 127
/-- The rate of a log interval in `planUnit`. -/
def rateOf (log : Int) : Nat := 2 ^ (127 - log).toNat
/-- A client's planned load (R303). -/
def clientLoad (twoStep : Bool) (x : Client) : Nat :=
  (match x.announce with | some g => rateOf g.log | none => 0) +
  (match x.sync with | some g => rateOf g.log * (if twoStep then 2 else 1) | none => 0) +
  (match x.delay with | some g => rateOf g.log * 2 | none => 0) +
  (match x.pdelay with | some g => rateOf g.log * 2 | none => 0)
/-- The planned load of all clients, and of those that authenticate, in `planUnit` (R303). -/
def State.planned (s : State) (auth : Bool) : Nat :=
  ((s.ptp.clients.filter (fun p => p.2.used && (!auth || bitOf p.2.flags 3))).map
    (fun p => clientLoad (s.flag E.ptpTwoStep p.2.inst) p.2)).foldl (· + ·) 0
/-- The counts and loads the entries report follow the store (R303, R323, R324). -/
def State.clientRefresh (s : State) : State :=
  let used := s.ptp.clients.filter (·.2.used)
  let s := ((s.set E.ptpClientCount 0 used.length).set E.ptpPlanLoad 0 (ceilDiv (s.planned false) planUnit)).set
    E.ptpPlanAuth 0 (ceilDiv (s.planned true) planUnit)
  (List.range 16).foldl (fun s i => s.set E.ptpClients i (used.filter (·.2.inst = i)).length) s
/-- A slot is released: its grants end and its index is quiet for `PTP_CLIENT_QUIET` (R300). -/
def State.releaseClient (s : State) (i : Nat) : State :=
  let x := s.client i
  (s.setClient i { gen := x.gen, quietUntil := s.now + ticksMs (s.n E.ptpClientQuiet) }).clientRefresh
/-- A slot is invalidated, with its generation advanced (R30, R87, R431). -/
def State.invalidateClient (s : State) (i : Nat) : State :=
  let x := s.client i
  (s.setClient i { gen := x.gen + 1, quietUntil := x.quietUntil }).clientRefresh
/-- The client slots of a trim profile, limited to what is fitted (R86, R1). -/
def State.clientLimit (s : State) : Nat :=
  let by' := match s.n E.trimActive with | 1 => 1048576 | 2 => 262144 | 4 => 262144 | _ => 524288
  if s.present 2 then by' else min by' 262144

end Sys2Proof.Machine
end

