-- ==== Sys2Proof/Machine/Domains.lean ====
section
/-! DEFINITION. Handshakes, named values, the strobe tree's upkeep and memory protection (R10 to R31). The epoch strobe itself is
in `Strobe.lean`. -/

namespace Sys2Proof.Machine

/-! ### Handshakes (R12 to R15) -/

/-- A handshake channel, by its number in the receiving domain. -/
def State.channel4 (s : State) (chan dom : Nat) : Channel4 := tabGet {} (8 * chan + dom) s.islands.channels
/-- Sets a handshake channel. -/
def State.setChannel4 (s : State) (chan dom : Nat) (x : Channel4) : State :=
  { s with islands := { s.islands with channels := tabPut {} (8 * chan + dom) x s.islands.channels } }
/-- A channel of the domain is stalled (R414). -/
def State.domainStalled (s : State) (dom : Nat) : Bool := s.islands.channels.any (fun p => p.1 % 8 == dom && p.2.stalled)
/-- The frames that a port hands on with a spoilt stamp or bound lose their validity (R24, R30): the invalid mark and the unbounded
bound. -/
def Port.spoil (x : Port) (hit : RxFrame → Bool) : Port :=
  { x with inbox := x.inbox.map (fun f => if hit f then { f with flags := setBit f.flags 0 true, bound := 0xFFFFFFFF } else f) }
/-- A residue mismatch at a consumer in a domain (R30): counted and raised; what carries the value is delivered with the invalid
mark. -/
def State.residueRx (s : State) (dom island : Nat) (hit : RxFrame → Bool) : State :=
  let s := { s with ports := s.ports.map (fun (p : Nat × Port) => (p.1, p.2.spoil hit)) }
  ((s.bump E.resErr).raise (64 * dom + 59) none island).emit (.invalid dom island)

/-- The receiver captures the item the sender holds and acknowledges (R12): the request and its stall end, unchanged data and
whether its residue agrees remain. -/
def State.acknowledge (s : State) (chan dom : Nat) (item : HsItem) (ok : Bool) : State :=
  let x := s.channel4 chan dom
  let s := s.setChannel4 chan dom { request := none, stalled := false, received := some (item, ok), acked := some s.now }
  if x.stalled ∧ ¬ s.domainStalled dom then s.deassert (64 * dom + 58) else s
/-- What a transfer delivers (R12): the item of a request that waits, else the one offered. -/
def State.delivered (s : State) (chan dom : Nat) (item : HsItem) : HsItem :=
  match (s.channel4 chan dom).request with | some (_, x) => x | none => item
/-- The residue of an item agrees with its value (R25). -/
def itemOk : HsItem → Bool
  | .time v res => residueOk (t96Bytes v) res
  | .bound v res => residueOk (be 4 v) res
  | _ => true
/-- A scheduled action's command reaches its island (R15, R113): missed when the island's copy has passed T − 64 ns. -/
def State.schedReach (s : State) (i : Nat) : State :=
  match s.armed i with
  | none => s
  | some x =>
    if x.at_ < s.copy (s.schedIsland i) + ofNs 64 then s.schedMiss i x else s.setArmed i (some { x with delivered := true })

/-- HANDSHAKE_TRANSFER (R12, R14, R15, R25, R30): the item arrives unchanged. -/
def execHandshakeTransfer (t : Nat) (h : Handshake) (s : State) : Host.Outcome State Fault Refusal :=
  timed t s fun s =>
    let item := s.delivered h.chan h.dom h.item
    let s := s.acknowledge h.chan h.dom item (itemOk item)
    match item with
    | .time v _ => if itemOk item then s else s.residueRx h.dom h.island (fun f => f.stamp == v)
    | .bound v _ => if itemOk item then s else s.residueRx h.dom h.island (fun f => f.bound == v)
    | .sched i => s.schedReach i
    | .data _ => s

/-- The stall of a request that rose at tick `rose` and is not acknowledged by the deadline tick (R13, R115). -/
def State.stall (s : State) (chan dom island rose : Nat) (item : HsItem) : State :=
  let x := s.channel4 chan dom
  let (rose, item) : Nat × HsItem := x.request.getD (rose, item)
  if rose + s.n E.hsTimeout < s.now ∧ ¬ x.stalled ∧ (x.acked.all (fun a => decide (a < rose))) then
    (s.setChannel4 chan dom { x with request := some (rose, item), stalled := true }).raise (64 * dom + 58) none island
  else s
/-- HS_STALL (R13): the source asserts; the sender goes on holding the data. -/
def execHsStall (t chan : Nat) (dom : Fin 8) (island : Nat) (request : Nat × HsItem) (s : State) :
    Host.Outcome State Fault Refusal :=
  timed t s fun s => s.stall chan dom island request.1 request.2

/-! ### Named values (R17, R21, R22) -/

/-- 2⁻⁵⁶ ns as fs, truncated toward zero (log 14). -/
def fsOf56 (x : Int) : Int := Int.tdiv (x * 10 ^ 6) (2 ^ 56)
/-- A number as an I32 entry holds it (log 15). -/
def satI32 (x : Int) : Int := max (-2 ^ 31) (min x (2 ^ 31 - 1))
/-- The rate ratio after a measured cycle (R21): a sixteenth of the difference, truncated; the first measured cycle whole (log 14). -/
def rateStep (rate cycle : Nat) : Nat := if rate = 0 then cycle else ((rate : Int) + Int.tdiv ((cycle : Int) - rate) 16).toNat
/-- A usable named value at a leaf (R21, R22): e, the rate ratio with gain 1/16, the spread correction or the reload, and
the copy state. A reload moves the copy forward by e, or holds it until the named timeline reaches it. -/
def State.nameLeaf (s : State) (n : Nat) (value : T96) : State :=
  let x := s.leaf n
  let e : Int := ((value : Int) - x.latched) * 2 ^ 40
  let fs := fsOf56 e
  let copy := s.copy56 n
  let dev := x.dev + s.absorbed n
  let s := ((s.setInt E.copyErrLast n (satI32 fs)).corMax E.copyErrMax n fs.natAbs).set E.copyRate n
    (rateStep (s.n E.copyRate n) x.cycle)
  if s.n E.copyReloadLimit * 1000 < fs.natAbs then
    (s.set E.copyState n 0).setLeaf n
      { x with arrived := true, misses := 0, good := 0, dev := dev + e, spread := 0, spreadFrom := s.now, floor := copy }
  else
    let good := if fs.natAbs ≤ 20000 then x.good + 1 else 0
    let st := s.n E.copyState n
    (s.set E.copyState n (if st = 0 ∧ good < 2 then 0 else 1)).setLeaf n
      { x with arrived := true, misses := 0, good := good, dev := dev, spread := e, spreadFrom := s.now, floor := copy }
/-- A named value with its residue at a leaf (R17, R30): one with a residue mismatch is discarded and its strobe counts as
missed; only the value that Privet sent with the strobe is used. -/
def State.nameArrives (s : State) (n : Nat) (value : T96) (res : Byte) : State :=
  if ¬ residueOk (t96Bytes value) res then (s.bump E.resErr).raise 4 none (leafIslandOf n)
  else if value = s.islands.strobeValue then s.nameLeaf n value
  else s
/-- NAMED_VALUE_ARRIVAL (R17, R21, R22, R30). Between launch and edge the value waits for the edge. -/
def execNamedValueArrival (t : Nat) (leaf : Fin 64) (value : T96) (res : Byte) (s : State) :
    Host.Outcome State Fault Refusal :=
  timed t s fun s =>
    if ¬ s.leafOn leaf then s
    else if s.now % 512 < 16 ∧ value ≠ s.islands.strobeValue then
      s.setLeaf leaf { s.leaf leaf with early := some (value, res) }
    else if (s.leaf leaf).arrived then s
    else s.nameArrives leaf value res

/-- COPY_MISS_LIMIT_REACHED (R22). -/
def execCopyMissLimitReached (t : Nat) (leaf : Fin 64) (s : State) : Host.Outcome State Fault Refusal :=
  timed t s fun s =>
    if s.leafOn leaf ∧ s.n E.copyMissLimit ≤ (s.leaf leaf).misses then s.leafUnsync leaf else s

/-! ### The tree (R16, R18, R19) -/

/-- t_fwd of a leaf in fs from its mean round trip (R18). -/
def State.leafForward (s : State) (n roundTripFs : Nat) : Int :=
  (roundTripFs / 2 : Nat) - tabGet 0 n s.otp.leafAsym
/-- D_tree in fs (R16). -/
def treeDelayFs : Nat := 32000000
/-- The pad that t_fwd asks for, in the nearest 1 ps step (R16, R18). -/
def padFor (fwd : Int) : Int := roundDiv ((treeDelayFs : Int) - fwd) 1000
/-- t_fwd lies inside the pad range (R18). -/
def padInRange (fwd : Int) : Bool := decide (28000000 ≤ fwd ∧ fwd ≤ 32000000)
/-- `LEAF_FWD_DELAY` as a U32 (R31). -/
def fwdWord (fwd : Int) : Nat := min fwd.toNat (2 ^ 32 - 1)
/-- TREE_REMEASURE (R19): once in 1,024 strobes; the pad moves by at most 1 ps toward D_tree − t_fwd; a drift beyond the limit
asserts the tree source and the leaf's copy becomes UNSYNC. -/
def execTreeRemeasure (t : Nat) (leaf : Fin 64) (roundTripFs : Nat) (s : State) :
    Host.Outcome State Fault Refusal :=
  timed t s fun s =>
    let period := s.islands.strobes / 1024
    if s.leafOn leaf ∧ (s.leaf leaf).remeasured < period then
      let fwd := s.leafForward leaf roundTripFs
      let x := s.leaf leaf
      let move := max (-1) (min 1 (padFor fwd - x.pad))
      let s := (s.set E.leafFwdDelay leaf (fwdWord fwd)).setLeaf leaf { x with pad := (x.pad + move).toNat, remeasured := period }
      if s.n E.treeDriftLimit * 1000 < (fwd - x.fwd0).natAbs then
        (s.leafUnsync leaf).raise 3 none (leafIslandOf leaf)
      else s
    else s

/-! ### Memory protection (R27 to R30) -/

/-- ECC_WRITEBACK (R27, R29): the corrected word is written, unless a functional write takes the cycle: then the word is to
be scrubbed again. Arrays 0 to 3 are the client store's banks, 4 the packet buffer, 5 the vault's memory, 6 navigation memory, 7 the
FIFOs. -/
def execEccWriteback (t : Nat) (array : Fin 8) (word : Nat) (functional : Bool) (s : State) :
    Host.Outcome State Fault Refusal :=
  timed t s fun s =>
    let p := (array.val, word)
    if s.islands.writeBack.contains p then
      { s with islands := { s.islands with
        writeBack := s.islands.writeBack.filter (· ≠ p)
        rescrub := if functional ∧ array.val < 5 then p :: s.islands.rescrub else s.islands.rescrub } }
    else s

/-- Words of a bank of the client store and of the packet buffer (R28): 16 MiB of 8 bytes. -/
def bankWords : Nat := 2 ^ 21
/-- The ticks of a patrol pass (R28): 8 s. -/
def passTicks : Nat := 4 * 10 ^ 9
/-- The tick at which a bank's `k`-th scrub read since reset falls due: `bankWords` a pass, evenly (R28). -/
def scrubDue (k : Nat) : Nat := ceilDiv (k * passTicks) bankWords
/-- The word the scrubber reads next: one to read again, else the next of the pass (R28, R29). -/
def State.scrubWord (s : State) (bank : Nat) : Nat :=
  match s.islands.rescrub.find? (fun p => p.1 == bank) with
  | some p => p.2
  | none => tabGet 0 bank s.islands.scrubbed % bankWords
/-- The bank is fitted. -/
def State.bankFitted (s : State) (bank : Nat) : Bool := bank == 4 || s.islandFitted (0x402 + bank)
/-- A scrub read of the bank is due and has been for `wait` ticks; one to read again always is (R28, R29). -/
def State.scrubReady (s : State) (bank wait : Nat) : Bool :=
  s.bankFitted bank && (s.islands.rescrub.any (fun p => p.1 == bank) ||
    decide (scrubDue (tabGet 0 bank s.islands.scrubbed) + wait ≤ s.now))
/-- A frame lies over a word of the packet buffer. -/
def RxFrame.over (f : RxFrame) (word : Nat) : Bool := decide (f.at_ ≤ word ∧ word < f.at_ + ceilDiv f.bytes.length 8)
/-- Frames of the packet buffer are dropped: from the engines' queues of the ports and from the frames that wait for a ring. -/
def State.framesDrop (s : State) (hit : RxFrame → Bool) : State :=
  let gone := s.ports.flatMap (fun p => p.2.inbox.filter hit) ++ s.host.rings.flatMap (fun p => p.2.waiting.filter hit)
  let ports : Tab Port := s.ports.map fun p => (p.1, { p.2 with inbox := p.2.inbox.filter (fun f => !hit f) })
  let rings : Tab Ring := s.host.rings.map fun p => (p.1, { p.2 with waiting := p.2.waiting.filter (fun f => !hit f) })
  let s := { s with ports := ports, host := { s.host with rings := rings } }
  (gone.filter (·.held)).foldl (fun s f => s.occSub f.port f.prio f.bytes.length) s
/-- The patrol scrubber reads a word (R27 to R30): banks 0 to 3 are the client store, 4 the packet buffer; a client slot is
8 words of its bank (log 12). -/
def State.scrub (s : State) (bank : Nat) (ecc : Ecc) : State :=
  let word := s.scrubWord bank
  let again := s.islands.rescrub.any (fun p => p.1 == bank)
  let s := { s with islands := { s.islands with
    scrubbed := if again then s.islands.scrubbed else tabPut 0 bank (tabGet 0 bank s.islands.scrubbed + 1) s.islands.scrubbed
    rescrub := s.islands.rescrub.filter (· ≠ (bank, word)) } }
  let island := if bank < 4 then 0x402 + bank else 0x406
  match ecc with
  | .clean => s
  | .single =>
    let s := (s.bump E.eccCorr).raise (64 * 4 + 56) none island
    { s with islands := { s.islands with writeBack := (bank, word) :: s.islands.writeBack } }
  | .double =>
    let s := s.bump E.eccUncorr
    if bank < 4 then (s.invalidateClient (bank * 262144 + word / 8)).raise 256 none island
    else (s.framesDrop (·.over word)).raise 257 none island
/-- SCRUB_READ (R28): a read that is due, in an idle cycle of the bank; a read of another word is not the one that is due. -/
def execScrubRead (t : Nat) (bank : Fin 5) (word : Nat) (ecc : Ecc) (s : State) : Host.Outcome State Fault Refusal :=
  timed t s fun s => if s.scrubReady bank 0 ∧ word = s.scrubWord bank then s.scrub bank ecc else s
/-- SCRUB_FORCED (R28): the bank has had no idle cycle for 1 µs while the read was due, so the scrubber takes a cycle; the read is
the same. -/
def execScrubForced (t : Nat) (bank : Fin 5) (word : Nat) (ecc : Ecc) (s : State) : Host.Outcome State Fault Refusal :=
  timed t s fun s => if s.scrubReady bank 500 ∧ word = s.scrubWord bank then s.scrub bank ecc else s

end Sys2Proof.Machine
end

