-- ==== Sys2Proof/Machine/BoundOps.lean ====
section
/-! DEFINITION. The bound unit's operations: terms, holdover growth, release, disagreement records, what outputs emit
(R120 to R133). -/

namespace Sys2Proof.Machine

/-- Outputs carry an unbounded bound (R125): before first lock, in the safe state, after a core residue mismatch. -/
def State.unbounded (s : State) : Bool := !s.flag E.firstLock || s.holly.safe || s.bound.coreHeld
/-- The bound of a value an output emits, with its addition (R124, R125). -/
def State.emitted (s : State) (add : Nat) : Bound := if s.unbounded then 0xFFFFFFFF else boundAdd s.bound.e add
/-- An output has attached a bound: MAX_OUT of the attestation record (R139). -/
def State.noteOut (s : State) (b : Bound) : State :=
  let a := s.bound.attest
  { s with bound := { s.bound with attest := { a with maxOut := max a.maxOut b } } }

/-- The stamp mode in force at a port: 0 FINE, 1 BULK (R252, R86). -/
def State.stampMode (s : State) (p : Nat) : Nat :=
  if 16 ≤ p then 0
  else match s.n E.portStampMode p with
    | 2 =>
      let trim := s.n E.trimActive
      if s.n E.portRole p = 0 then (if trim = 4 then 1 else 0)
      else (if trim = 1 ∨ trim = 4 then 1 else 0)
    | m => m
/-- The addition of a port's stamps in ps (R124). -/
def State.portAdd (s : State) (p : Nat) : Nat := if s.stampMode p = 1 then 800 else 100
/-- A_max: the largest addition among the enabled outputs (R132). -/
def State.aMax (s : State) : Nat :=
  let ports := (List.range 18).map (fun p => if s.n E.portMode p = 0 then 0 else s.portAdd p)
  let lanes := if (List.range 8).any (fun l => s.flag E.tlEnable l) then 30 else 0
  let pps := if (List.range 8).any (fun p => decide (s.n E.ppsMode p = 1 ∨ s.n E.ppsMode p = 2)) then 25 else 0
  let clk := if (List.range 16).any (fun k => s.flag E.clkoutEnable k) then 25 else 0
  let chs := if (List.range 8).any (fun c => s.flag E.chEnable (16 + c)) then 30 else 0
  (lanes :: pps :: clk :: chs :: ports).foldl max 0

/-- `⌈√v⌉`. -/
def ceilSqrt (v : Nat) : Nat := let r := isqrt v; if r * r = v then r else r + 1
/-- k·σ(t)·t in ps, rounded up, for t in ticks (R126): k × 10, a and b in 10⁻¹⁸. -/
def sigmaTerm (k a b t : Nat) : Nat :=
  ceilSqrt (ceilDiv (k * k * (a * a * t * (2 * 10 ^ 9) + 4 * b * b * t * t)) (10 ^ 32))
/-- B_hold(t) for t in ticks (R126), each term rounded up to a picosecond (R121). -/
def holdGrowth (h : Hold) (t : Nat) : Bound :=
  boundAdd h.entry (boundOf (ceilDiv (h.y * t * 2) (10 ^ 15) + ceilDiv (h.d * t * t * 2) (10 ^ 27) +
    sigmaTerm h.k h.a h.b t))
/-- The slot whose frequency Privet follows in FREQ_LOCKED (R127). -/
def State.freqSlot (s : State) : Option Nat :=
  let n := s.n E.hbSelected
  if n < 32 ∧ s.n E.refType n = 3 then some n else none
/-- B_hold at a tick under a law, with the substitutions of R127 while a frequency-only slot is selected. -/
def State.holdUnder (s : State) (h : Hold) (tick : Nat) : Bound :=
  let h := match s.freqSlot with
    | some n => { h with y := s.n E.bfreqConfig n * 1000, d := 0 }
    | none => h
  holdGrowth h (tick - h.start)
/-- B_hold at a tick (R126). -/
def State.holdAt (s : State) (tick : Nat) : Bound :=
  match s.bound.hold with
  | none => 0
  | some h => s.holdUnder h tick

/-- The value of a disagreement record: the sum of its members (R128). -/
def disValue (ms : List Dis) : Bound := ms.foldl (fun a m => boundAdd a m.value) 0
/-- B_dis (R128). -/
def State.disSum (s : State) : Bound := s.bound.dis.foldl (fun a r => boundAdd a (disValue r.2.2)) 0
/-- The phase a running retard has still to give up, in ps rounded up (R122). -/
def State.retardPs (s : State) : Nat := psUp (ceilDiv s.privet.retard (2 ^ 40))
/-- The remaining slew phase with the requests that wait for a strobe edge, in 2⁻⁵⁶ ns (R95). -/
def State.slewAll (s : State) : Int := s.privet.remain + (s.privet.pendSlew.map (fun p => p.1 * 2 ^ 40)).foldl (· + ·) 0
/-- The remaining slew phase as the bound unit knows it (R122, R123): requests of less than 16 ticks ago wait for the next strobe
edge; in ps rounded up. -/
def State.slewPs (s : State) : Nat :=
  let ripe := s.privet.pendSlew.filter (fun p => decide (p.2 + 16 ≤ s.now))
  psUp (ceilDiv (s.privet.remain + (ripe.map (fun p => p.1 * 2 ^ 40)).foldl (· + ·) 0).natAbs (2 ^ 40))

/-- The selected slot's B_ref and B_meas, the tracking allowance, the slot's B_asym, and B_dis: the terms that change by an
event. -/
def State.parts (s : State) : List Bound :=
  let n := s.n E.hbSelected
  if n < 32 then [s.n E.brefLive n, s.n E.bmeasLive n, s.n E.yewTrackAllow, s.n E.basym n, s.disSum]
  else [0xFFFFFFFF, 0, 0, 0, s.disSum]
/-- A term is about to change: less than 16 ticks before a strobe edge the change waits for the edge after (R123), so the
parts and the holdover as they stand are held for the next one. -/
def State.termTouch (s : State) : State :=
  if 0 < s.now % 512 ∧ s.now % 512 ≤ 16 ∧ s.islands.strobeAt ≠ some s.now ∧ s.bound.held.isNone then
    { s with bound := { s.bound with held := some (s.parts, s.bound.hold) } }
  else s
/-- A ledger entry due at the strobe edge its change takes effect at. -/
def State.ledgerDue (s : State) (kind term source detail : Nat) : State :=
  { s with bound := { s.bound with due := s.bound.due ++ [⟨kind, term, source, detail, s.now⟩] } }

/-- The terms B_ref, B_meas, B_loop, B_hold, B_asym, B_dis for the strobe interval that ends at tick `upto` (R122, R123). -/
def State.boundTerms (s : State) (upto : Nat) : List Bound :=
  let (p, hold) := s.bound.held.getD (s.parts, s.bound.hold)
  match hold with
  | some h => [0, 0, if h.start < s.privet.retardFrom then boundOf s.retardPs else 0, s.holdUnder h upto, 0, p.getD 4 0]
  | none =>
    [p.getD 0 0, p.getD 1 0,
     if s.n E.hbSelected < 32 then boundAdd (p.getD 2 0) (boundOf (s.slewPs + s.retardPs)) else 0,
     0, p.getD 3 0, p.getD 4 0]
/-- B_core (R122). -/
def State.boundTarget (s : State) (upto : Nat) : Bound :=
  if s.flag E.firstLock then (s.boundTerms upto).foldl boundAdd 0 else 0xFFFFFFFF

/-- The release line at a tick (R130), rounded up. -/
def releaseLine (r : Release) (tick : Nat) : Nat :=
  if r.period ≤ tick - r.t0 then r.b0 else r.e0 - (r.e0 - r.b0) * (tick - r.t0) / r.period
/-- E of R130 as one evaluation leaves it: the emitted core bound and the release in force, from the previous E, the
previous target, the release in force, the new target, the tick, and `RELEASE_PERIOD` in ticks. A release whose line has
met the target stays until RELEASE_END. -/
def releaseStep (e prev : Bound) (r : Option Release) (target : Bound) (now period : Nat) :
    Bound × Option Release :=
  let fresh : Release := ⟨min e 0xFFFFFFFE, target, now, period, now, none⟩
  if target = 0xFFFFFFFF then (target, none)
  else
    match r with
    | none => if e < 0xFFFFFFFF ∧ e ≤ target then (target, none) else (fresh.e0, some fresh)
    | some r =>
      let line := releaseLine r now
      if r.met.isSome then (if e ≤ target then (target, some r) else (e, some fresh))
      else if e ≤ target ∧ prev < target then (target, none)
      else if line ≤ target then (target, some { r with met := some e })
      else if target < prev then (line, some { r with e0 := line, b0 := target, t0 := now, period := period })
      else (line, some r)

/-- Opens a disagreement record or joins the MERGED one (R128). -/
def State.openDis (s : State) (m : Dis) : State :=
  let used := s.bound.dis.map (·.1)
  let dis := match (List.range 8).find? (fun d => !used.contains d) with
    | some d => s.bound.dis ++ [(d, false, [m])]
    | none => s.bound.dis.map (fun r => if r.1 = 7 then (7, true, r.2.2 ++ [m]) else r)
  { s.termTouch with bound := { s.termTouch.bound with dis := dis } }
/-- Closes every member of a kind about slots `a` and `b`; a record closes with its last member (R128). -/
def State.closeDis (s : State) (kind a b : Nat) : State :=
  let kept := s.bound.dis.map fun r => (r.1, r.2.1, r.2.2.filter fun m => !(m.kind == kind && m.a == a && m.b == b))
  { s.termTouch with bound := { s.termTouch.bound with dis := kept.filter fun r => !r.2.2.isEmpty } }
/-- Sets the value of the members of a kind about slots `a` and `b` (R128). -/
def State.valueDis (s : State) (kind a b : Nat) (f : Dis → Bound) : State :=
  let dis := s.bound.dis.map fun r =>
    (r.1, r.2.1, r.2.2.map fun m => if m.kind = kind ∧ m.a = a ∧ m.b = b then { m with value := f m } else m)
  { s.termTouch with bound := { s.termTouch.bound with dis := dis } }
/-- The members of every open record. -/
def State.disMembers (s : State) : List Dis := s.bound.dis.flatMap (·.2.2)
/-- Slot `n` has an open conflict record (R173). -/
def State.inConflict (s : State) (n : Nat) : Bool := s.disMembers.any (fun m => m.kind == 2 && m.a == n)
/-- The disagreement entries follow the records (R142). -/
def State.disRefresh (s : State) : State :=
  (List.range 8).foldl (fun s d =>
    match s.bound.dis.find? (fun r => r.1 == d) with
    | some (_, merged, ms) =>
      let m := ms.headD ⟨0, 0, 0, 0, 0, 0⟩
      ((((s.set E.disKind d (if merged then 3 else m.kind)).set E.disSlots d
        (if merged then 0xFFFF else m.a * 256 + m.b)).set E.disValue d (disValue ms)).setT96 E.disStart d m.start).set
          E.disMembers d ms.length
    | none =>
      ((((s.set E.disKind d 0).set E.disSlots d 0xFFFF).set E.disValue d 0).setT96 E.disStart d 0).set
        E.disMembers d 0) s

/-- The out-of-tolerance condition (R132), never before first lock: E and A_max against the limit; always while E is held after
a core residue mismatch. -/
def State.ootHolds (s : State) : Bool :=
  s.flag E.firstLock && (s.bound.coreHeld || decide (s.n E.boundServiceLimit < boundAdd s.bound.e s.aMax))

/-- Freezes a holdover entry (R123, R126, R196, R200): t counts from `start`, at which time `at'` was. -/
def State.enterHold (s : State) (start : Nat) (at' : T96) (entry : Bound) (y d a b : Nat) : State :=
  let h : Hold := ⟨start, at', entry, y, d, s.n E.holdK, a, b⟩
  let s := s.attestAccrue
  let s := { s with bound := { s.bound with hold := some h } }
  (s.set E.holdYEntry 0 (ceilDiv y 1000)).set E.holdBEntry 0 entry
/-- A change of k or of the model during holdover is used at the next strobe only when it raises B_hold; D is never lowered (R126). -/
def State.raiseHold (s : State) (k d a b : Nat) : State :=
  match s.bound.hold with
  | none => s
  | some h =>
    let s := s.termTouch
    let aged := { h with d := max h.d d }
    let h' := { aged with k := k, a := a, b := b }
    let kept := if s.holdUnder h s.now < s.holdUnder h' s.now then h' else aged
    { s with bound := { s.bound with hold := some kept } }

/-- `BOUND_STATUS` (R141). -/
def State.boundStatus (s : State) : Nat :=
  ofBool (!s.flag E.firstLock) + 2 * ofBool s.bound.hold.isSome + 4 * ofBool s.freqSlot.isSome +
  8 * ofBool s.bound.release.isSome + 16 * ofBool (s.disMembers.any (·.kind == 2)) +
  32 * ofBool (s.disMembers.any (·.kind == 1)) + 64 * ofBool s.bound.oot + 128 * ofBool s.holly.safe

end Sys2Proof.Machine
end

