-- ==== Sys2Proof/Machine/YewOps.lean ====
section
/-! DEFINITION. Yew's operations: loop gains, the straight-line fit, the steer and the increment it sends, the tracking
allowance, the ensemble's model, holdover entry and presets (R179 to R200). -/

namespace Sys2Proof.Machine

/-- π in units of 10⁻³⁵. -/
def pi35 : Nat := 314159265358979323846264338327950288
/-- ω_n of R182 in units of 10⁻³⁰ /s, from the bandwidth in µHz and ζ × 1,000. -/
def omega30 (bw damp : Nat) : Nat :=
  let a := 2 * damp * damp + 10 ^ 6
  let den2 := a * 10 ^ 24 + isqrt ((a * a + 10 ^ 12) * 10 ^ 48)
  2 * pi35 * bw * 10 ^ 30 / (10 ^ 11 * isqrt (den2 * 10 ^ 30))
/-- K_p in 10⁻¹² /s, rounded to nearest (R182). -/
def gainP (bw damp : Nat) : Nat := (2 * (2 * damp * omega30 bw damp * 10 ^ 12) / 10 ^ 33 + 1) / 2
/-- K_i in 10⁻¹⁵ /s², rounded to nearest (R182). -/
def gainI (bw damp : Nat) : Nat := let w := omega30 bw damp; (w * w * 2 / 10 ^ 45 + 1) / 2

/-- The sums of a least-squares line through points (x, y). -/
structure Sums where
  n : Int := 0
  x : Int := 0
  y : Int := 0
  xx : Int := 0
  xy : Int := 0
  yy : Int := 0
deriving DecidableEq, Repr

/-- The sums of a list of points. -/
def sumsOf (l : List (Int × Int)) : Sums :=
  l.foldl (fun s p => ⟨s.n + 1, s.x + p.1, s.y + p.2, s.xx + p.1 * p.1, s.xy + p.1 * p.2, s.yy + p.2 * p.2⟩) {}
/-- n·Σx² − (Σx)². -/
def Sums.den (s : Sums) : Int := s.n * s.xx - s.x * s.x
/-- The slope's numerator over `den`. -/
def Sums.num (s : Sums) : Int := s.n * s.xy - s.x * s.y
/-- The fitted value at x = 0, over `n * den`. -/
def Sums.zero (s : Sums) : Int := s.y * s.den - s.num * s.x
/-- The residual sum of squares, over `n * den`. -/
def Sums.sse (s : Sums) : Int := (s.n * s.yy - s.y * s.y) * s.den - s.num * s.num

/-- y_ref of R180 in 10⁻¹⁸. -/
def State.yRef (s : State) : Int :=
  if s.flag E.ensStanding then 0
  else
    let n := s.n E.hbSelected
    match (tabGet ({} : Slot) n s.hornbeam.slots).y10 with
    | some y => if n < 32 then y else s.yew.yRefHeld
    | none => s.yew.yRefHeld
/-- w: Privet's frequency against true time, in 10⁻¹⁸ (R180). -/
def State.trueFreq (s : State) : Int := s.yew.v - s.yRef
/-- The increment 2 ns × (1 + u) in 2⁻⁵⁶ ns, u in 10⁻¹⁸ (R180). -/
def incrOf (u : Int) : Nat := (2 ^ 57 + Int.fdiv (2 ^ 57 * u) (10 ^ 18)).toNat
/-- The reported frequencies u, v and w follow Yew (R180, R202). -/
def State.yewReport (s : State) : State :=
  ((s.setInt E.yewFreq 0 (s.yew.v - s.yew.yOsc)).setInt E.yewSteer 0 s.yew.v).setInt E.yewTrueFreq 0 s.trueFreq
/-- Yew's increment goes to Privet, to take effect at a strobe edge (R94, R180); in MANUAL mode nothing reaches Privet
(R92). -/
def State.sendIncr (s : State) : State :=
  let s := s.yewReport
  if s.n E.privetMode = 1 then s
  else { s with privet := { s.privet with pendIncr := s.privet.pendIncr ++ [(incrOf (s.yew.v - s.yew.yOsc), s.now)] } }
/-- Adds a slew request of `p` in 2⁻¹⁶ ns to what waits for a strobe edge (R95). -/
def State.requestSlew (s : State) (p : Int) : State :=
  { s with privet := { s.privet with pendSlew := s.privet.pendSlew ++ [(p, s.now)] } }
/-- Adds a slew request that was decided with a change at this strobe edge: B_loop has it at once (R123), Privet from the next edge. -/
def State.requestSlewEdge (s : State) (p : Int) : State :=
  { s with privet := { s.privet with pendSlew := s.privet.pendSlew ++ [(p, s.now - 16)] } }
/-- The slew phase remaining with the requests that wait, in 2⁻¹⁶ ns (R95). -/
def State.slewTotal (s : State) : Int := Int.tdiv s.slewAll (2 ^ 40)
/-- 500 ms in 2⁻¹⁶ ns (R95). -/
def slewMax : Nat := 500000000 * 65536

/-- The temperature a member's source reads, in 0.01 °C (R194). -/
def State.temperature (s : State) (src : Nat) : Int :=
  match src with | 0 => s.int E.dieTemp | 1 => s.int E.temp0Reading | 2 => s.int E.temp1Reading | _ => 0
/-- The reading of a temperature source is usable: inside −55 °C to 150 °C and not older than 10 s (R194). -/
def State.tempFresh (s : State) (src : Nat) : Bool :=
  decide (-5500 ≤ s.temperature src ∧ s.temperature src ≤ 15000) &&
    decide (src < 3 ∧ s.now ≤ tabGet 0 src s.yew.tempTicks + ticksS 10)
/-- The temperature compensation works with: the reading, or the last usable one. -/
def State.tempUsed (s : State) (src : Nat) : Int :=
  if s.tempFresh src then s.temperature src else tabGet 0 src s.yew.tempFrozen

/-- The tracking allowance A in ps (R185). -/
def State.trackAllow (s : State) : Nat :=
  if s.yew.updates < 16 then s.n E.yewTrackInit
  else ceilDiv ((s.yew.xs.take (s.n E.yewTrackWindow)).foldl max 0) 1000 + s.n E.yewTrackMargin
/-- `YEW_TRACK_ALLOW` follows the window. -/
def State.trackRefresh (s : State) : State := s.termTouch.set E.yewTrackAllow 0 s.trackAllow
/-- The tracking window is cleared (R185). -/
def State.trackClear (s : State) : State := ({ s with yew := { s.yew with xs := [], updates := 0 } }).trackRefresh

/-- The aging bound of a class in 10⁻²¹ /s (R189). -/
def classD (c : Nat) : Nat := match c with | 0 => 1200000 | 1 => 1200 | 2 => 0 | 3 => 12 | _ => 12000000
/-- a_i of a class in 10⁻¹⁸ (R189). -/
def classA (c : Nat) : Nat :=
  match c with | 0 => 10000000 | 1 => 5000000 | 2 => 8000000 | 3 => 100000 | _ => 100000000
/-- b_i of a class in 10⁻¹⁸ (R189). -/
def classB (c : Nat) : Nat := match c with | 0 => 1000000 | 1 => 30000 | 2 => 10000 | 3 => 5000 | _ => 10000000
/-- Member `m`. -/
def State.member (s : State) (m : Nat) : Member := tabGet {} m s.yew.members
/-- Sets member `m`. -/
def State.setMember (s : State) (m : Nat) (x : Member) : State :=
  { s with yew := { s.yew with members := tabPut {} m x s.yew.members } }
/-- D_i of a member in 10⁻²¹ /s: its class's until it has completed PROBATION (R188). -/
def State.memberD (s : State) (m : Nat) : Nat :=
  if (s.member m).probated then (s.member m).d else classD (s.n E.ensClass m)
/-- The ensemble's a, b in 10⁻¹⁸ and D in 10⁻²¹ /s (R193); OSCIN's alone without good standing (R196). -/
def State.ensembleModel (s : State) : Nat × Nat × Nat :=
  if s.flag E.ensStanding then
    let sq (f : Nat → Nat) := isqrt (((List.range 5).map (fun m =>
      (s.n E.ensWeight m * f m) * (s.n E.ensWeight m * f m))).foldl (· + ·) 0) / 10 ^ 6
    (sq (fun m => s.n E.ensSigmaA m), sq (fun m => s.n E.ensSigmaB m),
      ((List.range 5).map (fun m => s.n E.ensWeight m * s.memberD m)).foldl (· + ·) 0 / 10 ^ 6)
  else (s.n E.ensSigmaA 0, s.n E.ensSigmaB 0, s.memberD 0)

/-- The temperature term of a member's predicted frequency in 10⁻¹⁸ (R194). -/
def State.tempTerm (s : State) (m : Nat) : Int :=
  let src := s.n E.ensTempSrc m
  if src = 3 then 0 else s.int E.ensTempco m * 10 * (s.tempUsed src - (s.member m).temp0)
/-- OSCIN's estimated frequency against the ensemble time-scale with its temperature term, in 10⁻¹⁸ (R180). -/
def State.oscFreq (s : State) : Int := s.int E.ensFreq 0 + s.tempTerm 0
/-- How far the ensemble time-scale runs in `ticks` of OSCIN, less OSCIN's own count, in as: at the last estimated frequency (R193). -/
def State.scaleDrift (s : State) (ticks : Int) : Int := roundDiv (-s.oscFreq * ticks) (5 * 10 ^ 8)
/-- The ensemble time-scale's count now, in fs, where OSCIN's is `osc` (R193). -/
def State.ensFs (s : State) (osc : Int) : Int :=
  osc + Int.tdiv (s.yew.scaleAs + s.scaleDrift ((s.now : Int) - s.yew.ensAt)) 1000
/-- The time-scale less Privet now, in fs (R193). -/
def State.scaleOffset (s : State) : Int :=
  let ticks : Int := (s.now : Int) - s.yew.ensAt
  if s.yew.scale then
    Int.tdiv (s.yew.scaleOff + s.scaleDrift ticks) 1000 + ticks * 2000000 -
      Int.tdiv (((s.privet.time : Int) - s.yew.scalePriv) * 10 ^ 6) (2 ^ 56)
  else 0

/-- integ has taken a value (R195, R197), by an update or a preset; twice the averaging time is kept. -/
def State.integNote (s : State) (type : Nat) (update : Bool) : State :=
  let kept := s.yew.integs.filter (fun p => decide (s.now ≤ p.tick + 2 * ticksS (s.n E.yewHoldAvg)))
  { s with yew := { s.yew with integs := ⟨s.now, s.yew.integ, type, s.tempUsed 0, update⟩ :: kept } }
/-- A loop update that falls due at this strobe edge is discarded (R184): the loop is as it was before it. -/
def State.loopDiscard (s : State) : State :=
  match s.yew.undo with
  | some u =>
    if u.due = s.now then
      let s := { s with yew := { s.yew with
        v := u.v, integ := u.integ, fine := u.fine, xs := u.xs, updates := u.updates, integs := u.integs, undo := none } }
      let s := { s with privet := { s.privet with pendIncr := s.privet.pendIncr.filter (fun p => p.2 != u.tick) } }
      ((s.setInt E.yewPhaseErr 0 u.err).trackRefresh).yewReport
    else s
  | none => s

/-- The fit of R195 over integ in the `YEW_HOLD_AVG` seconds that end at tick `good`, over the FREQ loop's integ alone where `freq`
(R197): f_steer, s_f in 10⁻¹⁸, d_steer, s_d in 10⁻²¹ /s; with fewer than three updates, the integ in force and no slope, and `none`
for s_f. -/
def State.holdFit (s : State) (good : Nat) (freq : Bool) : Int × Option Nat × Int × Nat :=
  let pts := s.yew.integs.filter (fun p =>
    p.update && decide (p.tick ≤ good ∧ good < p.tick + ticksS (s.n E.yewHoldAvg) + 1) && (!freq || p.type == 3))
  if pts.length < 3 then
    (match s.yew.integs.find? (fun p => decide (p.tick ≤ good)) with | some p => p.integ | none => s.yew.integ, none, 0, 0)
  else
    let z := sumsOf (pts.map (fun p => ((p.tick : Int) - good, p.integ)))
    let nd := z.n * z.den
    let scale : Int := 5 * 10 ^ 11
    (Int.fdiv z.zero nd, some (isqrt (Int.fdiv (z.sse * z.xx) (nd * (z.n - 2) * z.den)).toNat),
      Int.fdiv (z.num * scale) z.den,
      isqrt (Int.fdiv (z.sse * scale * scale) (z.den * (z.n - 2) * z.den)).toNat)

/-- Holdover entry in Yew and in the bound unit (R123, R126, R195, R196, R200): the fit over the window that ends at the last
good measurement of slot `n`, the law, and the frozen quantities. B_entry is the locked terms in force then. -/
def State.holdEnter (s : State) (n good : Nat) : State :=
  let (f, sf, d, sd) := s.holdFit good (s.n E.refType n == 3)
  let k := s.n E.holdK
  let (a, b, dEns) := s.ensembleModel
  let y := match sf with | some x => ceilDiv (k * x) 10 | none => s.n E.refFreqLim10 n * 1000
  let ff := s.flag E.yewDriftFf
  let dAll := ceilDiv (k * sd) 10 + dEns + (if ff then 0 else d.natAbs)
  let law : HoldLaw := ⟨f, if ff then d else 0, good, s.tempUsed 0, ceilDiv (k * sd) 10 + (if ff then 0 else d.natAbs)⟩
  let s := { s with yew := { s.yew with law := some law, dSteer := d } }
  let s := ((s.setInt E.yewHoldFreq 0 f).setInt E.yewHoldDrift 0 d).set E.yewHoldD 0 dAll
  let s := (s.set E.yewSigmaA 0 a).set E.yewSigmaB 0 b
  s.enterHold good (tabGet ({} : Slot) n s.hornbeam.slots).goodAt s.bound.goodTerms y dAll a b

/-- The loop takes up slot `n` (R184, R186): the type's constants, integ preset to the slot's 10 s estimate, else its 1 s estimate,
else the v in force; an update due at the same edge is discarded. -/
def State.presetInteg (s : State) (n : Nat) : State :=
  let x := tabGet ({} : Slot) n s.hornbeam.slots
  let s := s.loopDiscard
  let i := match x.y10 with | some y => y | none => match x.y1 with | some y => y | none => s.yew.v
  let s := { s with yew := { s.yew with integ := i, fine := 0, presetAt := some s.now } }
  (s.set E.yewLoopType 0 (s.n E.refType n)).integNote (s.n E.refType n) false
/-- v takes the value of integ and goes to Privet (R186). -/
def State.steerInteg (s : State) : State := ({ s with yew := { s.yew with v := s.yew.integ } }).sendIncr
/-- The preset of R186. -/
def State.preset (s : State) (n : Nat) : State := (s.presetInteg n).steerInteg

/-- `YEW_STATE` as mode, first lock and selection call for (R179). -/
def State.yewStateOf (s : State) : Nat :=
  if s.n E.privetMode = 1 then 4
  else if !s.flag E.firstLock then 0
  else
    let n := s.n E.hbSelected
    if 32 ≤ n then 3 else if s.n E.refType n = 3 then 2 else 1
/-- `YEW_STATE` and `YEW_LOOP_TYPE` follow. -/
def State.yewRefresh (s : State) : State :=
  let n := s.n E.hbSelected
  (s.set E.yewState 0 s.yewStateOf).set E.yewLoopType 0 (if n < 32 then s.n E.refType n else 0xFF)

end Sys2Proof.Machine
end

