-- ==== Sys2Proof/Machine/HornbeamOps.lean ====
section
/-! DEFINITION. Hornbeam's operations: slots, causes, quality, measurements, windows, transitions, selection, conflicts and
arbitration, and what a selection change does at its strobe edge (R143 to R178). -/

namespace Sys2Proof.Machine

/-- Slot `n` beside its entries. -/
def State.slot (s : State) (n : Nat) : Slot := tabGet {} n s.hornbeam.slots
/-- Sets slot `n`. -/
def State.setSlot (s : State) (n : Nat) (x : Slot) : State :=
  { s with hornbeam := { s.hornbeam with slots := tabPut {} n x s.hornbeam.slots } }
/-- The kind of the source a slot binds (R143). -/
def State.refKind (s : State) (n : Nat) : Nat := bitsOf (s.n E.refSource n) 15 8
/-- The number of the source a slot binds (R143). -/
def State.refNo (s : State) (n : Nat) : Nat := bitsOf (s.n E.refSource n) 7 0
/-- The enabled slot that binds a source (R143). -/
def State.slotOf (s : State) (kind no : Nat) : Option Nat :=
  (List.range 32).find? (fun n => decide (s.n E.refSource n = kind * 256 + no ∧ s.n E.refEnable n ≠ 0))
/-- A time-capable slot (R143). -/
def State.timeCapable (s : State) (n : Nat) : Bool :=
  let k := s.refKind n
  decide (1 ≤ k ∧ k ≤ 3 ∨ (k = 4 ∧ s.n E.refType n = 2))
/-- A PPSIN slot with a time-of-day line. -/
def State.todOn (s : State) (n : Nat) : Bool := decide (s.refKind n = 3) && s.flag E.todEnable n
/-- A slot of type PPS that takes its whole seconds from Privet (R145). -/
def State.phaseOnly (s : State) (n : Nat) : Bool :=
  decide (s.refKind n = 3 ∧ ¬ s.todOn n ∨ (s.refKind n = 4 ∧ s.n E.refType n = 2))
/-- A bit of `REF_CAUSE` (R178). -/
def State.cause (s : State) (n b : Nat) : Bool := bitOf (s.n E.refCause n) b
/-- Sets a bit of `REF_CAUSE`. -/
def State.setCause (s : State) (n b : Nat) (x : Bool) : State := s.set E.refCause n (setBit (s.n E.refCause n) b x)
/-- A monitor other than DRIFT fails (R164, R178). -/
def State.monitorsFail (s : State) (n : Nat) : Bool := [1, 2, 3, 4, 5, 6, 8, 9, 10].any (s.cause n)
/-- A monitor fails, DRIFT among them (R147, R164). -/
def State.anyFail (s : State) (n : Nat) : Bool := s.monitorsFail n || s.cause n 7
/-- QUALIFIED. -/
def State.qualified (s : State) (n : Nat) : Bool := decide (s.n E.refState n = 3)
/-- QUALIFIED or DEGRADING. -/
def State.usable (s : State) (n : Nat) : Bool := decide (s.n E.refState n = 3 ∨ s.n E.refState n = 4)
/-- Privet is in holdover and its exit is tested (R131, R173); not in MANUAL mode, where the selection moves nothing. -/
def State.inHold (s : State) : Bool := s.flag E.firstLock && s.bound.hold.isSome && decide (s.n E.privetMode ≠ 1)
/-- Privet is locked to a time reference, as R151 tests it. -/
def State.phaseTested (s : State) : Bool := s.flag E.firstLock && (s.bound.hold.isNone || decide (s.n E.privetMode = 1))

/-- Privet's time in fs. -/
def State.privFs (s : State) : Nat := s.privet.time * 10 ^ 6 / 2 ^ 56
/-- A phase in 2⁻⁵⁶ ns as fs. -/
def fsOf (d : Int) : Int := Int.tdiv (d * 10 ^ 6) (2 ^ 56)
/-- A phase in fs as 2⁻¹⁶ ns. -/
def unitsOfFs (d : Int) : Int := Int.tdiv (d * 65536) (10 ^ 6)
/-- A phase in fs as ps, rounded up in size. -/
def psOfFs (d : Int) : Nat := ceilDiv d.natAbs 1000
/-- φ_ref − φ_Privet of a slot now, in fs: the latest valid measurement less what slews, steps and retards have since given
Privet; a slot in phase only names the nearest second (R145, R167). -/
def State.phaseNow (s : State) (n : Nat) : Int :=
  match (s.slot n).meas.find? (·.valid) with
  | none => 0
  | some m =>
    let p := m.phase - fsOf (s.privet.moved - m.moved)
    if s.phaseOnly n then (p + 5 * 10 ^ 14) % 10 ^ 15 - 5 * 10 ^ 14 else p

/-- A slot has a valid measurement, so that its phase can be told (log 122). -/
def State.measured (s : State) (n : Nat) : Bool := (s.slot n).meas.any (·.valid)
/-- The parent of the PTP instance a slot binds. -/
def State.slotMaster (s : State) (n : Nat) : Option ParentSet := (tabGet ({} : PtpInst) (s.refNo n) s.ptp.insts).parent
/-- `BREF_LIVE` and `BMEAS_LIVE` of a slot follow its source and settings (R122, R171). -/
def State.termsRefresh (s : State) (n : Nat) : State :=
  let s := s.termTouch
  let k := s.refKind n
  let b := if k = 1 ∨ k = 2 then (s.slot n).bref else if k = 3 ∨ k = 4 then s.n E.brefConfig n else 0xFFFFFFFF
  let port := match s.slotMaster n with | some p => p.port | none => 0
  let m := match k with
    | 1 => 20 + s.n E.bmeasCal n
    | 2 => 2 * s.portAdd port + s.n E.bmeasCal n
    | 3 => 28 + s.n E.bmeasCal n
    | 4 => 28 + s.n E.bmeasCal n
    | _ => 0
  (s.set E.brefLive n (boundAdd b (s.slot n).excursion)).set E.bmeasLive n m

/-- The level of an Announce (R155). -/
def announceLevel (a : ParentSet) : Nat :=
  let l := match a.cls with
    | 6 => if 0x17 ≤ a.accuracy ∧ a.accuracy ≤ 0x20 then 7 else 6
    | 7 => 5
    | 135 | 140 | 150 | 160 => 4
    | 52 | 58 | 165 | 187 | 193 => 1
    | _ => 0
  if ¬ bitOf a.flags 3 then 0 else if ¬ bitOf a.flags 4 then min l 1 else l
/-- A source carries no quality (R158). -/
def State.noQuality (s : State) (n : Nat) : Bool :=
  let k := s.refKind n
  decide ((k = 4 ∧ s.n E.refEsmcPort n = 0xFF) ∨ (k = 3 ∧ ¬ s.todOn n) ∨ k = 5)
/-- `REF_QL` and QL_DNU follow the received or the configured level (R146, R158). -/
def State.qlRefresh (s : State) (n : Nat) : State :=
  let l := if s.n E.refQlSource n = 1 ∨ s.noQuality n then s.n E.refQlConfig n else (s.slot n).level
  (s.set E.refQl n l).setCause n 9 (decide (l = 0))

/-! ### Measurements and monitors -/

/-- The least power of two that brings a frequency to 10 MHz or less, from `p` up (R210). -/
def prescaleFrom (hz p : Nat) : Nat → Nat
  | 0 => p
  | fuel + 1 => if hz ≤ 10000000 * p then p else prescaleFrom hz (2 * p) fuel
/-- The period of a slot's stamped edges in fs, as a fraction, where its measurements name no time of their own (R145): those of a
frequency or of a PPS without a line. -/
def State.refPeriod (s : State) (n : Nat) : Nat × Nat :=
  if s.refKind n = 4 then (prescaleFrom (s.n E.refNominal n) 1 8 * 10 ^ 15, max 1 (s.n E.refNominal n))
  else if s.phaseOnly n then (10 ^ 15, 1)
  else (1, 1)
/-- The reference's own count at a measurement, in the periods of `refPeriod` (R149): from Privet's time and the phase where it names a
time, so that no step of Privet is in it; else the periods since the measurement before, by OSCIN. -/
def State.refCount (s : State) (n osc priv : Nat) (phase : Int) : Int :=
  let (num, den) := s.refPeriod n
  if num = 1 then (priv : Int) + phase
  else match (s.slot n).meas.head? with
    | some m => m.ref + roundDiv (((osc : Int) - m.osc) * den) num
    | none => 0
/-- The phase of a measurement against the ensemble time-scale, in fs, to within a constant of the slot (R175). -/
def State.scalePhase (s : State) (n : Nat) (m : Meas) : Int :=
  let (num, den) := s.refPeriod n
  Int.fdiv (m.ref * num) den - m.ens
/-- The auto-accept watch (R175): the extremes of the phase against the ensemble time-scale while a conflict is open. -/
def State.watchStep (s : State) (n : Nat) (q : Int) : State :=
  if s.inConflict n then
    let x := s.slot n
    let (lo, hi) := x.watch.getD (q, q)
    s.setSlot n { x with watch := some (min lo q, max hi q) }
  else s
/-- A measurement of slot `n` stamped at `tick`, at `osc` fs of OSCIN and `priv` fs of Privet, `phase` in fs before `REF_DELAY`
(R148, R151): the PHASE monitor, the last good measurement with the terms in force then, and the auto-accept watch. -/
def State.slotMeasure (s : State) (n tick osc priv : Nat) (phase : Int) (valid : Bool) : State :=
  let p := phase - s.int E.refDelay n * 1000
  let x := s.slot n
  let m : Meas := ⟨tick, osc, priv, p, valid, s.privet.moved, s.refCount n osc priv p, s.ensFs osc⟩
  let s := s.setSlot n { x with meas := m :: x.meas }
  if ¬ valid then s
  else
    let s := (s.setInt E.refPhase n (Int.tdiv p 1000)).termsRefresh n
    let limit := boundAdd (boundAdd (s.n E.brefLive n) (s.n E.bmeasLive n)) s.bound.e
    let s := if s.timeCapable n then
        s.setCause n 8 (s.phaseTested && decide (limit < 0xFFFFFFFE ∧ limit < psOfFs p))
      else s
    let s := s.watchStep n (s.scalePhase n m)
    if s.anyFail n then s
    else
      let s := s.setSlot n { s.slot n with lastGood := tick, goodAt := s.tai }
      if s.n E.hbSelected = n ∧ s.bound.hold.isNone then
        let loop := boundAdd (s.n E.yewTrackAllow) (boundOf (s.slewPs + s.retardPs))
        let good := boundAdd (boundAdd (s.n E.brefLive n) (s.n E.bmeasLive n)) (boundAdd loop (s.n E.basym n))
        { s with bound := { s.bound with goodTerms := good } }
      else s

/-- The frequency of a slot against OSCIN, or against the ensemble in good standing, over the window of `w` seconds that
ends now, in 10⁻¹⁸, rounded to the nearest count (R149, R150); `none` when it counts as not filled. -/
def State.windowFreq (s : State) (n w : Nat) : Option Int :=
  let x := s.slot n
  let ms := x.meas.filter (fun m => m.valid && decide (x.since ≤ m.tick ∧ s.now ≤ m.tick + ticksS w))
  match ms.head?, ms.getLast? with
  | some b, some a =>
    let dt : Int := (b.osc : Int) - a.osc
    let e : Int := if s.flag E.ensStanding then b.ens - a.ens else dt
    let (num, den) := s.refPeriod n
    if dt ≤ 0 ∨ e ≤ 0 ∨ dt < w * 5 * 10 ^ 14 ∨ s.now < x.since + ticksS w then none
    else some (roundDiv (((b.ref - a.ref) * num - e * den) * 10 ^ 18) (e * den))
  | _, _ => none

/-- The drift fit of a slot (R150): least squares over the 10 s estimates of the window, by tick from now; `none` before one
full window has been gathered. -/
def State.driftFit (s : State) (n : Nat) : Option Sums :=
  let x := s.slot n
  let w := ticksS (s.n E.refDriftWindow n)
  let pts := x.tens.filter (fun p => decide (s.now ≤ p.1 + w))
  if x.since + w ≤ s.now ∧ 2 ≤ pts.length then
    some (sumsOf (pts.map (fun p => ((p.1 : Int) - s.now, p.2))))
  else none
/-- The crossing time of a fit at a limit in 10⁻¹⁸, as a fraction of a second (R150); `none` when there is no crossing. -/
def crossing (z : Sums) (limit : Int) : Option (Nat × Nat) :=
  let nd := z.n * z.den
  if nd ≤ 0 then none
  else if limit * nd ≤ z.zero.natAbs then some (0, 1)
  else if 0 < z.num then some ((limit * nd - z.zero).toNat, (z.n * z.num).toNat * (5 * 10 ^ 8))
  else if z.num < 0 then some ((limit * nd + z.zero).toNat, (z.n * -z.num).toNat * (5 * 10 ^ 8))
  else none
/-- X of R150 in ps, rounded up: the predicted excursion over `h` seconds. -/
def excursionPs (z : Sums) (h : Nat) : Nat :=
  let nd := z.n * z.den
  ceilDiv (2 * z.zero * h + z.n * z.num * (5 * 10 ^ 8) * h * h).natAbs (2 * nd.natAbs * 10 ^ 6)

/-- The drift's slope and the crossing it predicts (the PREDICT cause, 7), from the window's fit. -/
def State.driftStep (s : State) (n : Nat) (standing : Bool) (fit : Option Sums) : State :=
  match fit with
  | none => (s.set E.refPredictCross n 0xFFFFFFFF).setCause n 7 false
  | some z =>
    let s := s.setInt E.refDriftSlope n (roundDiv (z.num * (5 * 10 ^ 8)) (max 1 z.den))
    match crossing z ((s.n E.refFreqLim100 n * 1000 : Nat) : Int) with
    | none => (s.set E.refPredictCross n 0xFFFFFFFF).setCause n 7 false
    | some (p, q) =>
      (s.set E.refPredictCross n (min (ceilDiv p q) 0xFFFFFFFE)).setCause n 7
        (standing && decide (p ≤ s.n E.refDriftHorizon n * q))
/-- The whole-second monitors of a slot (R146, R149, R150): the windows, the drift fit, their causes and entries. -/
def State.slotSecond (s : State) (n : Nat) : State :=
  if s.n E.refEnable n = 0 ∨ s.refKind n = 5 ∨ s.refKind n = 0 then s
  else
    let y1 := s.windowFreq n 1
    let y10 := s.windowFreq n 10
    let y100 := s.windowFreq n 100
    let x := s.slot n
    let w := ticksS (s.n E.refDriftWindow n)
    let tens := (match y10 with | some y => [(s.now, y)] | none => []) ++ x.tens
    let keepTens := tens.filter (fun p => decide (s.now ≤ p.1 + w))
    let keepMeas := x.meas.filter (fun m => decide (s.now ≤ m.tick + ticksS 100))
    let s := s.setSlot n { x with y1 := y1, y10 := y10, y100 := y100, tens := keepTens, meas := keepMeas }
    let standing := s.flag E.ensStanding
    let excess (y : Option Int) (lim : Nat) : Bool := match y with | some v => decide (lim * 1000 < v.natAbs) | none => false
    let s := s.setCause n 4 (excess y1 (s.n E.refFreqLim1 n))
    let s := if standing then s.setCause n 5 (excess y10 (s.n E.refFreqLim10 n)) else s
    let s := s.setCause n 6 (if standing then excess y100 (s.n E.refFreqLim100 n) else false)
    let s := if standing then s else s.setCause n 5 false
    let s := match y100 with | some y => s.setInt E.refFreqOffset n (roundDiv y 1000) | none => s
    let fit := s.driftFit n
    let s := s.setCause n 0 (y1.isNone || y10.isNone || y100.isNone || fit.isNone)
    s.driftStep n standing fit

/-! ### Transitions (R164) -/

/-- A slot enters FAILED, counted unless it was there (R177). -/
def State.slotFail (s : State) (n : Nat) : State :=
  let s := if s.n E.refState n = 5 then s else (s.set E.refState n 5).bump E.refFails n
  let s := (s.set E.refQualElapsed n 0).setSlot n { s.slot n with excursion := 0, drifting := false }
  s.termsRefresh n
/-- A slot starts QUALIFYING: the timer starts from zero; its windows have filled since it left DISABLED or FAILED (R149). -/
def State.slotQualify (s : State) (n : Nat) : State :=
  let since := if s.n E.refState n = 5 then s.now else (s.slot n).since
  (s.set E.refState n 2).setSlot n { s.slot n with passSince := s.now, since := since, drifting := false }
/-- The transitions of one slot on the monitors as they stand. A DEGRADING slot's timer starts when its cause is gone. -/
def State.slotStep (s : State) (n : Nat) : State :=
  let bad := s.monitorsFail n
  let drift := s.cause n 7 || s.cause n 11
  let x := s.slot n
  match s.n E.refState n with
  | 2 => if s.anyFail n then s.slotFail n else s
  | 3 =>
    if bad then s.slotFail n
    else if drift then (s.set E.refState n 4).setSlot n { x with drifting := true }
    else s
  | 4 =>
    if bad then s.slotFail n
    else if drift then s.setSlot n { x with drifting := true }
    else if x.drifting then s.setSlot n { x with drifting := false, passSince := s.now }
    else s
  | 5 => if s.anyFail n ∨ s.cause n 12 then s else s.slotQualify n
  | _ => s

/-! ### Conflicts and disagreement (R128, R169 to R175) -/

/-- `HB_CONFLICT_SLOTS` and the CONFLICT causes follow the records; B_dis's entries with them. -/
def State.conflictRefresh (s : State) : State :=
  let open' := (List.range 32).filter s.inConflict
  let s := s.set E.hbConflictSlots 0 (maskOf open')
  ((List.range 32).foldl (fun s n => s.setCause n 13 (open'.contains n)) s).disRefresh
/-- C of a slot: |φ_ref − φ_Privet| + B_ref (R128). -/
def State.conflictValue (s : State) (n : Nat) : Bound := boundAdd (boundOf (psOfFs (s.phaseNow n))) (s.n E.brefLive n)
/-- A bound conflict is declared for a slot (R173). -/
def State.openConflict (s : State) (n : Nat) : State :=
  let c := s.conflictValue n
  let s := (s.openDis ⟨2, n, 0xFF, c, s.tai, 0⟩).setSlot n { s.slot n with watch := none, watchFrom := s.now }
  let d := s.bound.attest
  let s := { s with bound := { s.bound with attest := { d with flags := setBit d.flags 2 true } } }
  ((s.conflictRefresh).ledgerDue 6 6 n c).raise 13 none n
/-- A slot's conflict record closes with its ledger detail (R174, R175). -/
def State.closeConflict (s : State) (n detail : Nat) : State :=
  let s := s.closeDis 2 n 0xFF
  let s := (s.setSlot n { s.slot n with watch := none }).conflictRefresh
  let s := s.ledgerDue 7 6 n detail
  if s.n E.hbConflictSlots = 0 then s.deassert 13 else s
/-- The pair's record closes (R128, R170): its ledger entry; the slot that had lost it is free of ARBITRATION unless it has lost another
open pair, and returns under R164. -/
def State.closePair (s : State) (p : RankPair) : State :=
  let v := (s.disMembers.find? (fun m => m.kind == 1 && m.a == p.a && m.b == p.b)).map (·.value)
  let s := (s.closeDis 1 p.a p.b).disRefresh
  let s := s.ledgerDue 9 6 (p.a * 256 + p.b) (v.getD 0)
  let pairs := s.hornbeam.pairs.map (fun q => if q.a = p.a ∧ q.b = p.b then { q with opened := false, beyond := 0, within := 0, loser := none } else q)
  let s := { s with hornbeam := { s.hornbeam with pairs := pairs } }
  match p.loser with
  | some n => if pairs.any (fun q => q.opened && q.loser == some n) then s else (s.setCause n 11 false).slotStep n
  | none => s
/-- Pairs whose slots have left QUALIFIED and DEGRADING close (R128). -/
def State.pairsSettle (s : State) : State :=
  (s.hornbeam.pairs.filter (fun p => p.opened && !(s.usable p.a && s.usable p.b))).foldl (fun s p => s.closePair p) s

/-! ### Transitions and selection (R164 to R168) -/

/-- Every slot's transitions of a tick, then the pairs that close with them (R152). -/
def State.transitions (s : State) : State := ((List.range 32).foldl State.slotStep s).pairsSettle
/-- The states of all slots. -/
def State.slotStates (s : State) : List Nat := (List.range 32).map (fun n => s.n E.refState n)

/-- The selection decided last, though its strobe edge may be still to come. -/
def State.decided (s : State) : Nat :=
  match s.hornbeam.pending with | some (n, _, _) => n | none => s.n E.hbSelected
/-- A slot of an open pair that no referee has decided, and not the selected one: selection keeps that or takes neither (R169). -/
def State.undecidedPair (s : State) (n : Nat) : Bool :=
  decide (s.decided ≠ n) && s.hornbeam.pairs.any (fun p => p.opened && (p.a == n || p.b == n) && p.loser.isNone)
/-- A slot that may be selected (R165), whatever the others are. -/
def State.eligible (s : State) (n : Nat) : Bool :=
  s.usable n && decide (s.refKind n ≠ 5 ∧ s.refKind n ≠ 0) && !s.inConflict n && !s.undecidedPair n
/-- A slot that DRIFT has made DEGRADING (R171). -/
def State.driftDegrading (s : State) (n : Nat) : Bool := decide (s.n E.refState n = 4) && s.cause n 7
/-- The candidates (R165); one that DRIFT has made DEGRADING gives way to any that it has not (R171). -/
def State.candidates (s : State) : List Nat :=
  let time := (List.range 32).any (fun n => s.usable n && s.timeCapable n)
  let all := (List.range 32).filter (fun n => s.eligible n && (s.timeCapable n || !time))
  let steady := all.filter (fun n => !s.driftDegrading n)
  if steady.isEmpty then all else steady
/-- The order of R165, as numbers compared one after the other; the first difference decides, the lower first. -/
def State.rank (s : State) (n : Nat) : List Nat :=
  [ofBool (!s.timeCapable n), ofBool (!s.qualified n), 7 - s.n E.refQl n, s.n E.refPriority n, s.t96 E.refQualifiedAt n, n]
/-- Lexicographic order of ranks. -/
def rankLt : List Nat → List Nat → Bool
  | a :: as, b :: bs => decide (a < b) || (decide (a = b) && rankLt as bs)
  | _, _ => false
/-- The best of some slots. -/
def State.bestOf (s : State) (l : List Nat) : Option Nat :=
  l.foldl (fun a n => match a with | none => some n | some m => if rankLt (s.rank n) (s.rank m) then some n else some m) none
/-- A slot has stayed QUALIFIED for `HB_WTR` (R166). -/
def State.restored (s : State) (n : Nat) : Bool :=
  s.qualified n && decide ((s.slot n).qualSince + ticksS (s.n E.hbWtr) ≤ s.now)
/-- The slot selection wants, of the candidates given, when `cur` is selected (R165, R166); `now'` when a write names the
preferred slot. -/
def State.wanted (s : State) (cands : List Nat) (cur : Nat) (now' : Bool) : Option Nat :=
  let pref := s.n E.hbPreferred
  let prefOk := decide (pref < 32) && s.eligible pref && s.qualified pref &&
    (s.timeCapable pref || !(List.range 32).any (fun n => s.qualified n && s.timeCapable n))
  if s.qualified cur && (cands.contains cur || (prefOk && decide (pref = cur))) then
    if prefOk ∧ (pref = cur ∨ now' ∨ s.restored pref) then some pref
    else if s.flag E.hbRevertive then
      match s.bestOf (cands.filter (fun n => s.restored n && rankLt (s.rank n) (s.rank cur))) with
      | some n => some n
      | none => some cur
    else some cur
  else if prefOk then some pref
  else s.bestOf cands
/-- A slot agrees with Privet in holdover (R131). -/
def State.agrees (s : State) (n : Nat) : Bool :=
  let l := boundAdd (s.holdAt s.now) (s.n E.brefLive n)
  decide (0xFFFFFFFE ≤ l ∨ psOfFs (s.phaseNow n) ≤ l)
/-- E after the hold of R125 ends: 0xFFFF_FFFE in that tick, to be released. -/
def State.coreRelease (s : State) : State :=
  if s.bound.coreHeld then
    let s := { s with bound := { s.bound with
      coreHeld := false, e := 0xFFFFFFFE, release := none, target := 0xFFFFFFFE } }
    s.set E.boundCore 0 0xFFFFFFFE
  else s
/-- A decision that later selections of the same tick start from (R152). -/
def State.decide' (s : State) (pending : Option (Nat × Nat × Bool)) : State :=
  { s with hornbeam := { s.hornbeam with pending := pending, base := some (s.now, pending) } }
/-- The decision as it stood before this tick's selections, so that what changes in one tick is weighed together (R152). -/
def State.tickBase (s : State) : State :=
  match s.hornbeam.base with
  | some (t, p) => if t = s.now then { s with hornbeam := { s.hornbeam with pending := p } } else s.decide' s.hornbeam.pending
  | none => s.decide' s.hornbeam.pending
/-- One selection (R165 to R168, R173): a slot that returns in holdover is tested before it is selected; one that fails opens
its conflict and the rest are weighed again. -/
def State.selectWith (s : State) (now' : Bool) : Nat → State
  | 0 => s
  | fuel + 1 =>
    let cur := s.decided
    let want := (s.wanted s.candidates cur now').getD 0xFF
    if want = cur ∨ (want < 32 ∧ s.inHold ∧ s.timeCapable want ∧ ¬ s.measured want) then s
    else if want < 32 ∧ s.inHold ∧ s.timeCapable want ∧ ¬ s.agrees want then
      (s.openConflict want).selectWith now' fuel
    else
      let s := if want < 32 ∧ s.inHold ∧ s.timeCapable want then s.coreRelease else s
      if want = s.n E.hbSelected then { s with hornbeam := { s.hornbeam with pending := none } }
      else { s with hornbeam := { s.hornbeam with pending := some (want, s.now, false) } }
/-- Selection over all slots. -/
def State.select (s : State) (now' : Bool := false) : State := s.tickBase.selectWith now' 33
/-- The work of a tick after the monitors (R152): transitions, and selection when a state has changed or `force` says that a
quality has. -/
def State.settle (s : State) (force : Bool := false) : State :=
  let s' := s.transitions
  if force || decide (s'.slotStates ≠ s.slotStates) then s'.select else s'
/-- A received quality for a slot (R154 to R162): its raw form and level; selection runs when it changes the level. -/
def State.quality (s : State) (n raw level : Nat) : State :=
  let old := s.n E.refQl n
  let s := ((s.set E.refQlRx n raw).setSlot n { s.slot n with level := level }).qlRefresh n
  s.settle (decide (s.n E.refQl n ≠ old))

/-! ### A selection change at its strobe edge (R131, R167, R168, R186, R195 to R197) -/

/-- |φ_ref − φ_Privet| would take the slew remainder above 500 ms (R167). -/
def State.slewTooBig (s : State) (n : Nat) : Bool :=
  decide (slewMax < (s.slewTotal + unitsOfFs (s.phaseNow n)).natAbs)
/-- `HB_SELECTED` changes. -/
def State.setSelected (s : State) (n : Nat) : State :=
  let s := (s.set E.hbSelected 0 n).bump E.hbSwitches
  { s with bound := { s.bound with held := none } }
/-- No candidate remains (R168): holdover, or no time before first lock. `t` counts from the last good measurement; a lost
frequency slot leaves t and B_entry as the last time reference fixed them (R197). -/
def State.loseSelection (s : State) : State :=
  let old := s.n E.hbSelected
  let good := (s.slot old).lastGood
  let s := (s.setSelected 0xFF)
  if ¬ s.flag E.firstLock then s.yewRefresh
  else
    let s := match s.bound.hold with
      | none => s.holdEnter old good
      | some h =>
        if s.n E.privetMode = 1 ∨ s.n E.refType old ≠ 3 then s
        else
          let s' := s.holdEnter old good
          let s' := match s'.bound.hold with
            | some g => { s' with bound := { s'.bound with
                hold := some { g with start := h.start, at_ := h.at_, entry := h.entry, y := max (s.n E.bfreqConfig old * 1000) g.y } } }
            | none => s'
          (s'.set E.holdYEntry 0 (max (s.n E.bfreqConfig old) (s'.n E.holdYEntry))).set E.holdBEntry 0 h.entry
    let a := s.bound.attest
    let s := { s with bound := { s.bound with attest := { a with flags := setBit a.flags 1 true } } }
    (s.ledgerDue 2 0 old ((s.now - good) / 500000)).yewRefresh
/-- Slot `n` takes over (R167): a holdover exit, a switch, or the first selection. `step` when a step absorbs the phase. -/
def State.takeSlot (s : State) (n : Nat) (step : Bool) : State :=
  let old := s.n E.hbSelected
  let phase := s.phaseNow n
  if s.timeCapable n ∧ ¬ step ∧ s.flag E.firstLock ∧ s.slewTooBig n then
    ((s.setCause n 8 true).slotFail n).settle true
  else
    let good := (s.slot old).lastGood
    let held := s.bound.hold.isSome
    let s := s.setSelected n
    if ¬ s.flag E.firstLock then ((s.presetInteg n).ledgerDue 1 0 n old).yewRefresh
    else
      let a := s.bound.attest
      let s := { s with bound := { s.bound with attest := { a with switches := min 255 (a.switches + 1) } } }
      if s.n E.privetMode = 1 then ((s.preset n).ledgerDue 1 0 n old).yewRefresh
      else if held ∧ s.timeCapable n then
        let s := { s with bound := { s.bound with hold := none }, yew := { s.yew with law := none } }
        let s := ((s.trackClear).preset n).ledgerDue 3 0 n (min (psOfFs phase) 0xFFFFFFFF)
        (if step then s else s.requestSlewEdge (unitsOfFs phase)).yewRefresh
      else if s.timeCapable n then
        let s := (s.preset n).ledgerDue 1 0 n old
        (if step then s else s.requestSlewEdge (unitsOfFs phase)).yewRefresh
      else
        let s := if held then s else s.holdEnter old good
        ((s.preset n).ledgerDue 1 0 n old).yewRefresh
/-- The decided selection takes effect at a strobe edge at least 16 ticks later (R167). -/
def State.selectionEdge (s : State) : State :=
  match s.hornbeam.pending with
  | some (n, at', step) =>
    if at' + 16 ≤ s.now then
      let s := s.decide' none
      if n < 32 then s.takeSlot n step else s.loseSelection
    else s
  | none => s

end Sys2Proof.Machine
end

