-- ==== Sys2Proof/Machine/Utc.lean ====
section
/-! DEFINITION. UTC, the leap table, smearing and step requests (R98 to R109). -/

namespace Sys2Proof.Machine

/-! ### Steps (R98 to R102) -/

/-- The codes a step request meets (R99, R100). -/
def State.stepCodes (s : State) (off : Int) : List Nat :=
  (if s.privet.pendStep.isSome ∨ s.privet.retarding then [0xA] else []) ++
  (if s.flag E.firstLock ∧ ¬ s.flag E.privetStepPermit then [4] else []) ++
  (if off < 0 ∧ ofNs (s.n E.privetRetardMax * 10 ^ 6) < off.natAbs then [7] else [])
/-- An accepted step waits for its strobe edge; the permit is cleared in the tick (R98, R99). Requester 0 is first lock,
1 the Operator (R135). -/
def State.acceptStep (s : State) (off : Int) (requester : Nat) : State :=
  let p := s.privet
  let permit := s.flag E.firstLock
  let s := { s with privet := { p with
    pendStep := some (off, s.now, requester), permitUntil := if permit then none else p.permitUntil } }
  if permit then s.set E.privetStepPermit 0 0 else s
/-- A step refused for want of a permit is counted and raises its event (R99). -/
def State.stepRefused (s : State) (code : Nat) : State :=
  if code = 4 then (s.bump E.privetStepRefused).raise 8 else s

/-! ### The leap table (R105 to R108) -/

/-- The valid entries of the leap table: number, t_L, offset. -/
def State.leaps (s : State) : List (Nat × Nat × Int) :=
  ((List.range 64).filter (fun j => decide (s.n E.leapTai j ≠ 0))).map (fun j => (j, s.n E.leapTai j, s.int E.leapOffset j))
/-- The latest of the leaps. -/
def lastLeapOf (l : List (Nat × Nat × Int)) : Option (Nat × Nat × Int) :=
  l.foldl (fun a p => match a with
    | none => some p
    | some b => if b.2.1 < p.2.1 then some p else some b) none
/-- The TAI − UTC offset that applies at an instant (R105, R108): that of the latest entry whose time it has reached; before the leap
last applied, the offset of then; else the one in force. -/
def State.offsetAt (s : State) (t : T96) : Int :=
  match lastLeapOf (s.leaps.filter (fun p => decide (ofSec p.2.1 ≤ t))) with
  | some p => p.2.2
  | none =>
    match s.privet.lastLeap with
    | some (tL, d) => if t < ofSec tL then s.int E.privetTaiUtc - d else s.int E.privetTaiUtc
    | none => s.int E.privetTaiUtc
/-- The TAI − UTC offset in force. -/
def State.taiUtc (s : State) : Int := s.offsetAt s.tai
/-- The offset in force just before a TAI second, entry `j` left aside. -/
def State.offsetBefore (s : State) (j tL : Nat) : Int :=
  match lastLeapOf (s.leaps.filter (fun p => decide (p.1 ≠ j ∧ p.2.1 < tL))) with
  | some p => p.2.2
  | none => s.taiUtc
/-- The checks of R106 on a non-zero `LEAP_TAI` of entry `j`. -/
def State.leapOk (s : State) (j tL : Nat) (off : Int) : Bool :=
  decide (secOf s.tai < tL) && decide (((tL : Int) - off) % 86400 = 0) &&
  decide ((off - s.offsetBefore j tL).natAbs = 1) &&
  s.leaps.all (fun p => decide (p.1 = j ∨ 86401 < ((p.2.1 : Int) - tL).natAbs))
/-- The next valid entry whose time an instant has not reached. -/
def State.leapAfter (s : State) (t : T96) : Option (Nat × Nat × Int) :=
  (s.leaps.filter (fun p => decide (t < ofSec p.2.1))).foldl (fun a p => match a with
    | none => some p
    | some b => if p.2.1 < b.2.1 then some p else some b) none
/-- The next valid entry due. -/
def State.nextLeap (s : State) : Option (Nat × Nat × Int) := s.leapAfter s.tai
/-- The leap state of R108 at an instant. -/
def State.leapStateAt (s : State) (t : T96) : Nat :=
  match s.leapAfter t with
  | none => 0
  | some (_, tL, off) =>
    let now := secOf t
    if now + s.n E.privetLeapNotice < tL then 0
    else if s.offsetAt t < off then (if tL - 1 ≤ now then 3 else 1)
    else 2
/-- `PRIVET_LEAP_STATE` of R108 now. -/
def State.leapState (s : State) : Nat := s.leapStateAt s.tai
/-- `PRIVET_LEAP_STATE` follows. -/
def State.leapRefresh (s : State) : State := s.set E.privetLeapState 0 s.leapState
/-- An entry becomes valid, from the operator (0) or a reference (1). -/
def State.leapSet (s : State) (j tL : Nat) (off : Int) (origin : Nat) : State :=
  let s := ((s.set E.leapTai j tL).setInt E.leapOffset j off).set E.leapOrigin j origin
  ({ s with privet := { s.privet with leapValidAt := tabPut 0 j s.tai s.privet.leapValidAt } }).leapRefresh
/-- An entry is emptied. -/
def State.leapFree (s : State) (j : Nat) : State :=
  let s := (s.set E.leapTai j 0).set E.leapOrigin j 0
  ({ s with privet := { s.privet with leapValidAt := tabErase j s.privet.leapValidAt } }).leapRefresh
/-- An announcement whose entry fails a check of R106: the mismatch event, once while that announcement persists (R107). -/
def State.leapIgnored (s : State) (tL : Nat) (off : Int) : State :=
  if s.privet.leapMismatch = some (tL, off) then s
  else ({ s with privet := { s.privet with leapMismatch := some (tL, off) } }).raise 11
/-- The entries a reference wrote that are not yet due and name another leap are deleted (R107). -/
def State.leapReplace (s : State) (tL : Nat) (off : Int) : State :=
  (s.leaps.filter (fun p => decide (s.n E.leapOrigin p.1 = 1 ∧ secOf s.tai < p.2.1 ∧ (p.2.1 ≠ tL ∨ p.2.2 ≠ off)))).foldl
    (fun s p => s.leapFree p.1) s
/-- The selected reference announces a leap second (R107): what it announced before is withdrawn by that. -/
def State.leapAnnounced (s : State) (tL : Nat) (off : Int) : State :=
  if s.n E.privetLeapSource ≠ 0 then s
  else
    let s := s.leapReplace tL off
    if s.leaps.any (fun p => decide (p.2.1 = tL ∧ p.2.2 = off)) then s
    else
      match (List.range 64).find? (fun j => decide (s.n E.leapTai j = 0)) with
      | some j =>
        if s.leapOk j tL off then ({ s with privet := { s.privet with leapMismatch := none } }).leapSet j tL off 1
        else s.leapIgnored tL off
      | none => s.leapIgnored tL off
/-- The selected reference withdraws announcements: its entries that are not yet due are deleted (R107). -/
def State.leapWithdrawn (s : State) (which : Nat → Bool) : State :=
  if s.n E.privetLeapSource ≠ 0 then s
  else
    let s := { s with privet := { s.privet with
      leapMismatch := s.privet.leapMismatch.filter (fun p => !which p.1) } }
    (s.leaps.filter (fun p => which p.2.1 && decide (s.n E.leapOrigin p.1 = 1 ∧ secOf s.tai < p.2.1))).foldl
      (fun s p => s.leapFree p.1) s

/-! ### Smear (R109) -/

/-- The smear settings in force: enable and window; a change inside a smear waits for its end. -/
def State.smearSettings (s : State) : Nat × Nat :=
  match s.privet.smearDefer with
  | some p => p
  | none => (s.n E.privetSmearEnable, s.n E.privetSmearWindow)
/-- The smear of the leap just past, else of the next one due: t_L, t_s and Δ. -/
def State.smear (s : State) : Option (Nat × T96 × Int) :=
  match s.privet.smearLeap with
  | some (tL, tS, d, _) => some (tL, tS, d)
  | none =>
    match s.nextLeap with
    | some (j, tL, off) =>
      let w := s.smearSettings.2
      some (tL, max (ofSec tL - ofSec w / 2) (tabGet 0 j s.privet.leapValidAt), off - s.taiUtc)
    | none => none
/-- t_e of a smear. -/
def State.smearEnd (s : State) (tL : Nat) : T96 := ofSec tL + ofSec s.smearSettings.2 / 2
/-- f of R109 lies between 0 and 1. -/
def State.smearing (s : State) : Bool :=
  match s.smear with
  | some (tL, tS, _) => decide (tS < s.tai ∧ s.tai < s.smearEnd tL)
  | none => false
/-- Δ · f of R109 at a TAI instant, in 2⁻¹⁶ ns, truncated. -/
def State.smearShift (s : State) (t : T96) : Int :=
  match s.smear with
  | some (tL, tS, d) =>
    let e := s.smearEnd tL
    if t ≤ tS then 0
    else if e ≤ t then d * ofSec 1
    else d * ((ofSec 1 * (t - tS) / (e - tS) : Nat) : Int)
  | none => 0
/-- UTC, in 2⁻¹⁶ ns, of a TAI instant with the offset before any smeared leap (R109). -/
def State.smeared (s : State) (t : T96) : T96 :=
  let old : Int := match s.smear with | some (tL, _, _) => s.offsetAt (ofSec tL - 1) | none => s.offsetAt t
  ((t : Int) - old * ofSec 1 - s.smearShift t).toNat

end Sys2Proof.Machine
end

