-- ==== Sys2Proof/Machine/Privet.lean ====
section
/-! DEFINITION. Privet's commands: mode, increment, slew, steps, leap seconds and the schedule slots (R89 to R119). -/

namespace Sys2Proof.Machine

/-- The fractional frequency of the increment in force, in 10⁻¹⁸ (R91). -/
def State.incrFreq (s : State) : Int := Int.fdiv (((s.privet.incr : Int) - 2 ^ 57) * 10 ^ 18) (2 ^ 57)

/-- MANUAL mode is entered (R92, R126, R200): frozen as at a holdover entry; a holdover in force continues. -/
def State.enterManual (s : State) : State :=
  let n := s.n E.hbSelected
  let s := s.termTouch.set E.privetMode 0 1
  let s := if s.flag E.firstLock ∧ s.bound.hold.isNone ∧ n < 32 then s.holdEnter n (s.slot n).lastGood else s
  (s.ledgerDue 13 0 0xFFFF 0).yewRefresh
/-- The preset of R200 is f_steer of the holdover that goes on: v starts from it now, with the drift and the k·s_d of the law in force. -/
def State.manualLaw (s : State) (f : Int) : State :=
  let (d, base) : Int × Nat := match s.yew.law with | some l => (l.d, l.base) | none => (0, 0)
  ({ s with yew := { s.yew with law := some ⟨f, d, s.now, s.tempUsed 0, base⟩ } }).setInt E.yewHoldFreq 0 f
/-- The latest valid offset of a slot in fs (R200). -/
def State.latestOffset (s : State) (n : Nat) : Int := match (s.slot n).meas.find? (·.valid) with | some m => m.phase | none => 0
/-- A verified exit of the holdover that MANUAL mode has kept (R131, R200): the slew remainder becomes the latest valid offset. -/
def State.manualExit (s : State) (n : Nat) : State :=
  let p := s.latestOffset n
  let s := s.coreRelease.attestAccrue
  let s := { s with bound := { s.bound with hold := none }, yew := { s.yew with law := none } }
  ((s.requestSlew (unitsOfFs p - s.slewTotal)).ledgerDue 3 0 n (min (psOfFs p) 0xFFFFFFFF)).yewRefresh
/-- MANUAL mode is left (R131, R185, R200): integ is preset to the increment in force, the tracking window cleared, and the holdover ends
where the selected slot passes the test of R131. -/
def State.leaveManual (s : State) : State :=
  let n := s.n E.hbSelected
  let f := s.incrFreq + s.yew.yOsc
  let s := (s.termTouch.set E.privetMode 0 0).ledgerDue 14 0 0xFFFF 0
  let s := (({ s with yew := { s.yew with integ := f, v := f, fine := 0 } }).yewReport).trackClear
  let s := if n < 32 then s.integNote (s.n E.refType n) false else s
  if ¬ s.flag E.firstLock then s.yewRefresh
  else if 32 ≤ n then (s.manualLaw f).yewRefresh
  else if ¬ s.timeCapable n then s.yewRefresh
  else if s.measured n ∧ s.agrees n then s.manualExit n
  else ((s.manualLaw f).openConflict n).select.yewRefresh
/-- `PRIVET_MODE` (R92). -/
def spPrivetMode : Special where
  entry := E.privetMode
  apply c s := if c.v = s.n E.privetMode then s else if c.v = 1 then s.enterManual else s.leaveManual
/-- PRIVET_MODE. -/
def execPrivetMode (t : Nat) (m : Master) (v : Word) (s : State) : Host.Outcome State Fault Refusal :=
  writeRow spPrivetMode t m 0 [v] s

/-- `PRIVET_INCR_NS` (R92, R93): staged. -/
def spIncrNs : Special where
  entry := E.privetIncrNs
  codes _ s := if s.n E.privetMode = 1 then [] else [4]
  apply c s := { s with privet := { s.privet with stagedNs := some c.v } }
/-- The increment a FRAC write applies (R93). -/
def State.incrWith (s : State) (frac : Nat) : Nat :=
  (match s.privet.stagedNs with | some n => n | none => s.privet.incr / 2 ^ 56) * 2 ^ 56 + frac
/-- An increment within 1.0E-4 of 2 ns (R93). -/
def incrOk (x : Nat) : Bool := decide (19998 * 2 ^ 56 ≤ x * 10 ^ 4 ∧ x * 10 ^ 4 ≤ 20002 * 2 ^ 56)
/-- `PRIVET_INCR_FRAC` (R92 to R94): applies the increment at a strobe edge. -/
def spIncrFrac : Special where
  entry := E.privetIncrFrac
  codes c s := (if s.n E.privetMode = 1 then [] else [4]) ++
    (if c.v < 2 ^ 56 ∧ incrOk (s.incrWith c.v) then [] else [7])
  apply c s := { s with privet := { s.privet with pendIncr := s.privet.pendIncr ++ [(s.incrWith c.v, s.now)], stagedNs := none } }
/-- PRIVET_INCR_NS. -/
def execPrivetIncrNs (t : Nat) (m : Master) (v : Word) (s : State) : Host.Outcome State Fault Refusal :=
  writeRow spIncrNs t m 0 [v] s
/-- PRIVET_INCR_FRAC. -/
def execPrivetIncrFrac (t : Nat) (m : Master) (v : Word) (s : State) : Host.Outcome State Fault Refusal :=
  writeRow spIncrFrac t m 0 [v] s

/-- `PRIVET_SLEW_CMD` (R92, R95). -/
def spSlewCmd : Special where
  entry := E.privetSlewCmd
  codes c s := (if s.n E.privetMode = 1 then [] else [4]) ++
    (if slewMax < (s.slewTotal + c.int).natAbs then [7] else [])
  apply c s := s.requestSlew c.int
/-- PRIVET_SLEW_CMD. -/
def execPrivetSlewCmd (t : Nat) (m : Master) (v : Word) (s : State) : Host.Outcome State Fault Refusal :=
  writeRow spSlewCmd t m 0 [v] s

/-- `PRIVET_STEP_CMD` (R98 to R100). -/
def spStepCmd : Special where
  entry := E.privetStepCmd
  codes c s := s.stepCodes c.int
  apply c s := s.acceptStep c.int 1
  refused code _ s := s.stepRefused code
/-- PRIVET_STEP_CMD. -/
def execPrivetStepCmd (t : Nat) (m : Master) (v : Word) (s : State) : Host.Outcome State Fault Refusal :=
  writeRow spStepCmd t m 0 [v] s

/-- `PRIVET_STEP_PERMIT` (R99). -/
def spStepPermit : Special where
  entry := E.privetStepPermit
  apply c s :=
    let until' := if c.v = 1 then some (s.now + ticksS (s.n E.privetPermitTimeout)) else none
    ({ s with privet := { s.privet with permitUntil := until' } }).set E.privetStepPermit 0 c.v
/-- PRIVET_STEP_PERMIT. -/
def execPrivetStepPermit (t : Nat) (m : Master) (v : Word) (s : State) : Host.Outcome State Fault Refusal :=
  writeRow spStepPermit t m 0 [v] s
/-- PERMIT_TIMEOUT (R99): an unused permit is cleared. -/
def execPermitTimeout (t : Nat) (s : State) : Host.Outcome State Fault Refusal :=
  timed t s fun s =>
    match s.privet.permitUntil with
    | some d =>
      if d ≤ s.now then ({ s with privet := { s.privet with permitUntil := none } }).set E.privetStepPermit 0 0 else s
    | none => s

/-- `PRIVET_INIT_TIME` (R102): a step without a permit before first lock, formed at the tick of the write. -/
def spInitTime : Special where
  entry := E.privetInitTime
  codes c s :=
    let v := t96OfWords (c.words.getD 0 0) (c.words.getD 1 0)
    (if s.flag E.firstLock then [4] else []) ++ (if v < s.tai then [7] else []) ++
    (if s.privet.pendStep.isSome ∨ s.privet.retarding then [0xA] else [])
  apply c s :=
    let v := t96OfWords (c.words.getD 0 0) (c.words.getD 1 0)
    let s := (s.setWords E.privetInitTime 0 c.words).acceptStep ((v : Int) - s.tai) 1
    { s with privet := { s.privet with initWritten := true } }
/-- PRIVET_INIT_TIME. -/
def execPrivetInitTime (t : Nat) (m : Master) (lo hi : Word) (s : State) : Host.Outcome State Fault Refusal :=
  writeRow spInitTime t m 0 [lo, hi] s

/-- `PRIVET_TAI_UTC` (R105): before first lock only. -/
def spTaiUtc : Special where
  entry := E.privetTaiUtc
  codes _ s := if s.flag E.firstLock then [4] else []
  apply c s := (s.setInt E.privetTaiUtc 0 c.int).leapRefresh
/-- `PRIVET_LEAP_NOTICE` (R108). -/
def spLeapNotice : Special where
  entry := E.privetLeapNotice
  apply c s := (s.set E.privetLeapNotice 0 c.v).leapRefresh
/-- `LEAP_TAI` (R106). -/
def spLeapTai : Special where
  entry := E.leapTai
  codes c s := if c.v = 0 ∨ s.leapOk c.i c.v (s.int E.leapOffset c.i) then [] else [7]
  apply c s := if c.v = 0 then s.leapFree c.i else s.leapSet c.i c.v (s.int E.leapOffset c.i) 0
/-- `LEAP_OFFSET` (R106): refused while its entry is valid. -/
def spLeapOffset : Special where
  entry := E.leapOffset
  codes c s := if s.n E.leapTai c.i = 0 then [] else [7]
/-- LEAP_TAI. -/
def execLeapTai (t : Nat) (m : Master) (j : Fin 64) (v : Word) (s : State) : Host.Outcome State Fault Refusal :=
  writeRow spLeapTai t m j [v] s
/-- LEAP_ANNOUNCE (R107). -/
def execLeapAnnounce (t tL : Nat) (offset : Int) (s : State) : Host.Outcome State Fault Refusal :=
  timed t s fun s => s.leapAnnounced tL offset
/-- LEAP_WITHDRAW (R107). -/
def execLeapWithdraw (t tL : Nat) (s : State) : Host.Outcome State Fault Refusal :=
  timed t s fun s => s.leapWithdrawn (fun x => x == tL)
/-- LEAP_STATE_CHANGE (R108). -/
def execLeapStateChange (t : Nat) (s : State) : Host.Outcome State Fault Refusal :=
  timed t s State.leapRefresh
/-- LEAP_DUE (R105, R109): the offset changes at the tick the entry's time is reached, the entry is freed, and its smear goes
on. -/
def execLeapDue (t : Nat) (j : Fin 64) (s : State) : Host.Outcome State Fault Refusal :=
  timed t s fun s =>
    let tL := s.n E.leapTai j
    if tL ≠ 0 ∧ tL ≤ secOf s.tai ∧ s.leaps.all (fun p => decide (tL ≤ p.2.1)) then
      let off := s.int E.leapOffset j
      let old := s.int E.privetTaiUtc
      let w := s.smearSettings.2
      let tS := max (ofSec tL - ofSec w / 2) (tabGet 0 j s.privet.leapValidAt)
      let s := { s with privet := { s.privet with smearLeap := some (tL, tS, off - old, w), lastLeap := some (tL, off - old) } }
      (s.setInt E.privetTaiUtc 0 off).leapFree j
    else s

/-- A smear setting: a change while f lies between 0 and 1 waits for t_e (R109). -/
def State.smearChange (s : State) : State :=
  if s.smearing ∧ s.privet.smearDefer.isNone then
    { s with privet := { s.privet with smearDefer := some s.smearSettings } }
  else s
/-- `PRIVET_SMEAR_ENABLE` (R109). -/
def spSmearEnable : Special where
  entry := E.privetSmearEnable
  apply c s := (s.smearChange).set E.privetSmearEnable 0 c.v
/-- `PRIVET_SMEAR_WINDOW` (R109). -/
def spSmearWindow : Special where
  entry := E.privetSmearWindow
  apply c s := (s.smearChange).set E.privetSmearWindow 0 c.v
/-- SMEAR_WINDOW_END (R109): t_e is reached. -/
def execSmearWindowEnd (t : Nat) (s : State) : Host.Outcome State Fault Refusal :=
  timed t s fun s =>
    match s.smear with
    | some (tL, _, _) =>
      if s.smearEnd tL ≤ s.tai then { s with privet := { s.privet with smearLeap := none, smearDefer := none } } else s
    | none => { s with privet := { s.privet with smearDefer := none } }

/-- `SCHED_ARM` (R111, R112, R423): 1 arms, 2 disarms. -/
def spSchedArm : Special where
  entry := E.schedArm
  codes c s :=
    let kind := s.schedKind c.i
    let target := s.schedTarget c.i
    let pps := decide (2 ≤ kind ∧ kind ≤ 4)
    (if c.v = 1 ∨ c.v = 2 then [] else [7]) ++
    (if c.v = 1 then
      (if (s.armed c.i).isSome then [0xA] else []) ++
      (if 5 < kind ∨ (pps ∧ (8 ≤ target ∨ s.n E.ppsMode target ≠ 2)) ∨ (kind = 5 ∧ 16 ≤ target) ∨
          2 ^ 16 ≤ s.n E.schedAction c.i then [7] else []) ++
      (if pps ∧ s.holly.safe then [0xB] else []) ++
      (if kind = 5 ∧ 8 ≤ target ∧ target < 16 ∧ ¬ s.present 5 then [2] else [])
    else [])
  apply c s :=
    if c.v = 1 then
      let h := s.n E.schedHandle c.i
      let s := s.set E.schedHandle c.i (c.i * 2 ^ 24 + (h + 1) % 2 ^ 24)
      (s.set E.schedState c.i 1).setArmed c.i (some { at_ := s.t96 E.schedTime c.i })
    else (s.set E.schedState c.i 0).setArmed c.i none
/-- SCHED_ARM (R112). -/
def execSchedArm (t : Nat) (m : Master) (slot : Fin 256) (s : State) : Host.Outcome State Fault Refusal :=
  writeRow spSchedArm t m slot [1] s
/-- SCHED_DISARM (R112). -/
def execSchedDisarm (t : Nat) (m : Master) (slot : Fin 256) (s : State) : Host.Outcome State Fault Refusal :=
  writeRow spSchedArm t m slot [2] s
/-- SCHED_EVENT (R111, R282): the host ring engine performs a kind 1 action. -/
def execSchedEvent (t : Nat) (slot : Fin 256) (s : State) : Host.Outcome State Fault Refusal :=
  timed t s fun s => s.schedAct slot 1 (fun x s => (s.schedPerform slot x (s.emitted 0)).noteOut (s.emitted 0))

/-- The special entries of this chapter. -/
def privetSpecials : List Special :=
  [spPrivetMode, spIncrNs, spIncrFrac, spSlewCmd, spStepCmd, spStepPermit, spInitTime, spTaiUtc, spLeapNotice, spLeapTai,
   spLeapOffset, spSmearEnable, spSmearWindow, spSchedArm]

end Sys2Proof.Machine
end

