-- ==== Sys2Proof/Machine/Bound.lean ====
section
/-! DEFINITION. The bound unit's settings and events (R120 to R142). The strobe's evaluation is in `Strobe.lean`, the ledger's
readers in `Access.lean`, attestation in `Attest.lean`. -/

namespace Sys2Proof.Machine

/-- `BREF_CONFIG` (R122, R123). -/
def spBrefConfig : Special where
  entry := E.brefConfig
  apply c s := ((s.termTouch).set E.brefConfig c.i c.v).termsRefresh c.i
/-- `BMEAS_CAL` (R122, R123). -/
def spBmeasCal : Special where
  entry := E.bmeasCal
  apply c s := ((s.termTouch).set E.bmeasCal c.i c.v).termsRefresh c.i
/-- `BASYM` (R122, R123). -/
def spBasym : Special where
  entry := E.basym
  apply c s := (s.termTouch).set E.basym c.i c.v
/-- `HOLD_K` (R126): in holdover used at once only when it raises B_hold. -/
def spHoldK : Special where
  entry := E.holdK
  apply c s :=
    let s := s.set E.holdK 0 c.v
    match s.bound.hold with
    | some h => s.raiseHold c.v h.d h.a h.b
    | none => s
/-- `BOUND_SERVICE_LIMIT` (R132, R135): applied at the next strobe, with its ledger entry. -/
def spServiceLimit : Special where
  entry := E.boundServiceLimit
  apply c s :=
    if c.v = s.n E.boundServiceLimit then s
    else (s.set E.boundServiceLimit 0 c.v).ledgerDue 18 0 0xFFFF c.v

/-- RELEASE_END (R130, R135): the release line has met the target. -/
def execReleaseEnd (t : Nat) (s : State) : Host.Outcome State Fault Refusal :=
  timed t s fun s =>
    match s.bound.release with
    | some r =>
      match r.met with
      | some old =>
        ({ s with bound := { s.bound with release := none } }).ledgerAdd 4 0 0xFFFF old s.bound.e ((s.now - r.first) / 500000) (s.copy 0x001)
      | none => s
    | none => s
/-- OOT_EXIT (R132): the condition has not held for `OOT_CLEAR_HOLD` without a break. -/
def execOotExit (t : Nat) (s : State) : Host.Outcome State Fault Refusal :=
  timed t s fun s =>
    match s.bound.ootClear with
    | some c =>
      if s.bound.oot ∧ c + ticksS (s.n E.ootClearHold) ≤ s.now then
        let from' := s.bound.ootAt
        let s := s.attestAccrue
        let s := { s with bound := { s.bound with oot := false, ootClear := none } }
        (s.ledgerNote 11 0xFFFF ((s.now - from') / 500000000)).deassert 12
      else s
    | none => s

/-- The special entries of this chapter that act here. -/
def boundSpecials : List Special := [spBrefConfig, spBmeasCal, spBasym, spHoldK, spServiceLimit]

end Sys2Proof.Machine
end

