-- ==== Sys2Proof/Machine/Hornbeam.lean ====
section
/-! DEFINITION. Hornbeam's commands: configuration, monitors, time-of-day lines, ESMC, qualification, selection and conflicts
(R143 to R178). -/

namespace Sys2Proof.Machine

/-! ### Configuration (R143, R144, R149, R154, R158) -/

/-- The numbers and types a source kind allows (R143). -/
def sourceNumbers (k : Nat) : Nat := match k with | 2 => 16 | 3 => 4 | 4 => 8 | _ => 1
/-- The types a source kind allows (R143). -/
def sourceTypes (k : Nat) : List Nat := match k with | 1 => [0] | 2 => [1] | 3 => [2] | 4 => [2, 3] | 5 => [3] | _ => [0, 1, 2, 3]
/-- `REF_SOURCE` (R144, R295). -/
def spRefSource : Special where
  entry := E.refSource
  codes c s :=
    let k := bitsOf c.v 15 8
    let no := bitsOf c.v 7 0
    (if s.n E.refEnable c.i ≠ 0 then [0xA] else []) ++
    (if 5 < k ∨ (k = 0 ∧ no ≠ 0) ∨ sourceNumbers k ≤ no then [7] else []) ++
    (if k ≠ 0 ∧ (List.range 32).any (fun n => decide (n ≠ c.i ∧ s.n E.refSource n = c.v)) then [7] else []) ++
    (if k = 2 ∧ s.n E.ptpPortsUpstream no = 0 then [7] else []) ++
    (if k = 1 ∧ ¬ s.present 0 then [2] else [])
  apply c s := (s.set E.refSource c.i c.v).termsRefresh c.i
/-- The default limits of a type in 10⁻¹⁵ (R149). -/
def typeLimits (t : Nat) : Nat × Nat × Nat :=
  match t with
  | 1 => (1000000000, 100000000, 1000000)
  | 3 => (1000000, 100000, 10000)
  | _ => (10000000, 1000000, 100000)
/-- `REF_TYPE` (R144, R149). -/
def spRefType : Special where
  entry := E.refType
  codes c s := if (sourceTypes (s.refKind c.i)).contains c.v then [] else [7]
  apply c s :=
    let l := typeLimits c.v
    let s := (s.set E.refType c.i c.v).set E.refFreqLim1 c.i l.1
    ((s.set E.refFreqLim10 c.i l.2.1).set E.refFreqLim100 c.i l.2.2).termsRefresh c.i
/-- REF_TYPE. -/
def execRefType (t : Nat) (m : Master) (n : Fin 32) (v : Word) (s : State) : Host.Outcome State Fault Refusal :=
  writeRow spRefType t m n [v] s
/-- A slot starts afresh on leaving DISABLED (R149, R164); what a PTP instance knows of its parent is there at once (R147, R155). -/
def State.slotFresh (s : State) (n : Nat) : State :=
  let x : Slot := { since := s.now, arrival := s.now, passSince := s.now, lastInfo := s.now, watch := (s.slot n).watch,
                    watchFrom := (s.slot n).watchFrom
                    level := if s.refKind n = 2 then ((s.slotMaster n).map announceLevel).getD 0 else 0 }
  let lost := decide (s.refKind n = 2) && (tabGet ({} : PtpInst) (s.refNo n) s.ptp.insts).lost
  let s := (s.setSlot n x).set E.refCause n (ofBool (s.inConflict n) * 2 ^ 13 + 2 * ofBool lost)
  ((s.set E.refPredictCross n 0xFFFFFFFF).set E.refQualElapsed n 0).qlRefresh n
/-- `REF_ENABLE` (R144, R164, R174). -/
def spRefEnable : Special where
  entry := E.refEnable
  codes c s :=
    (if s.refKind c.i = 5 ∧ c.v = 2 then [7] else []) ++ (if s.refKind c.i = 1 ∧ ¬ s.present 0 then [2] else [])
  apply c s :=
    let n := c.i
    let old := s.n E.refState n
    let s := (s.set E.refEnable n c.v).setCause n 12 false
    let s := if old = 0 ∧ c.v ≠ 0 then s.slotFresh n else s
    let s := match c.v with
      | 0 => (s.set E.refState n 0).slotFresh n
      | 1 => s.set E.refState n 1
      | _ => if old ≤ 1 then s.slotQualify n else s
    (s.termsRefresh n).settle (decide (s.n E.refState n ≠ old))
/-- REF_ENABLE. -/
def execRefEnable (t : Nat) (m : Master) (n : Fin 32) (v : Word) (s : State) : Host.Outcome State Fault Refusal :=
  writeRow spRefEnable t m n [v] s
/-- A quality setting is a change of quality (R146, R158). -/
def State.requality (s : State) (n : Nat) : State :=
  if s.n E.refEnable n = 0 then s
  else
    let old := s.n E.refQl n
    let s := s.qlRefresh n
    s.settle (decide (s.n E.refQl n ≠ old))
/-- `REF_QL_SOURCE` (R158). -/
def spRefQlSource : Special where
  entry := E.refQlSource
  apply c s := (s.set E.refQlSource c.i c.v).requality c.i
/-- `REF_QL_CONFIG` (R158). -/
def spRefQlConfig : Special where
  entry := E.refQlConfig
  apply c s := (s.set E.refQlConfig c.i c.v).requality c.i
/-- `REF_ESMC_PORT` (R154): a fitted port in a mode of 10GBASE-R or faster. -/
def spRefEsmcPort : Special where
  entry := E.refEsmcPort
  codes c s :=
    (if 8 ≤ c.v ∧ c.v < 16 ∧ ¬ s.present 5 then [2] else []) ++
    (if c.v < 16 ∧ s.n E.portMode c.v = 0 then [7] else [])
  apply c s := (s.set E.refEsmcPort c.i c.v).requality c.i
/-- `TOD_ENABLE` (R177): PPSIN slots only. The line starts afresh with a change; the edges of its PPSIN stay (R161). -/
def spTodEnable : Special where
  entry := E.todEnable
  codes c s := if s.refKind c.i ≠ 3 then [7] else []
  apply c s :=
    if c.v = s.n E.todEnable c.i then s
    else
      let x := s.slot c.i
      let s := ((s.set E.todEnable c.i c.v).setSlot c.i { x with tod := { edges := x.tod.edges }, level := 0 }).setCause c.i 10 false
      s.requality c.i

/-- `HB_PREFERRED` (R165, R166): selection runs on each write, at once for a QUALIFIED slot. -/
def spHbPreferred : Special where
  entry := E.hbPreferred
  apply c s :=
    let s := (s.set E.hbPreferred 0 c.v).select true
    s.decide' s.hornbeam.pending
/-- HB_PREFERRED. -/
def execHbPreferred (t : Nat) (m : Master) (v : Word) (s : State) : Host.Outcome State Fault Refusal :=
  writeRow spHbPreferred t m 0 [v] s

/-! ### Monitors -/

/-- The interval-counter channel of a PPSIN or REFIN (R203). -/
def State.refChannel (s : State) (n : Nat) : Nat := if s.refKind n = 3 then s.refNo n else 4 + s.refNo n
/-- The activity deadline of a PPSIN or REFIN, in ticks after the last edge (R147). -/
def State.activityTicks (s : State) (n : Nat) : Nat :=
  max 1024 (if s.refKind n = 3 then ticksS 2 else ceilDiv (2 * ticksS 1) (max 1 (s.n E.refNominal n)))
/-- The activity monitor's condition of loss (R147). -/
def State.silent (s : State) (n : Nat) : Bool :=
  let x := s.slot n
  match s.refKind n with
  | 1 => decide (2 ≤ x.missed)
  | 2 => (tabGet ({} : PtpInst) (s.refNo n) s.ptp.insts).lost
  | 3 | 4 => s.resolves [0x100 + bankOf (s.refChannel n)] (x.arrival + s.activityTicks n)
  | _ => false
/-- The ACTIVITY monitor fails (R147, R168, R172). -/
def State.activityLost (s : State) (n : Nat) : State :=
  if s.n E.refEnable n ≠ 0 ∧ s.silent n then (s.setCause n 1 true).settle else s
/-- ACTIVITY_TIMEOUT. -/
def execActivityTimeout (t : Nat) (n : Fin 32) (s : State) : Host.Outcome State Fault Refusal :=
  timed t s fun s => s.activityLost n
/-- An edge count in 1 ms departs from nominal by more than a limit in 0.01 % (R146); where the nominal count is no whole number, the
whole numbers beside it do not. -/
def rateOff (nominal glitch count : Nat) : Bool :=
  decide (nominal * glitch < (if count * 1000 < nominal then nominal - count * 1000 else count * 1000 - nominal) * 10000) &&
    decide (count ≠ nominal / 1000 ∧ count ≠ ceilDiv nominal 1000)

/-- An equal-rank pair opens (R169): the event, the record and the referee's verdict. -/
def State.openPair (s : State) (a b : Nat) : State :=
  let s := (s.bump E.hbAmbiguous).raise 14 none (a * 256 + b)
  let s := (s.openDis ⟨1, a, b, 0, s.tai, s.phaseNow a - s.phaseNow b⟩).disRefresh
  let s := s.ledgerDue 8 6 (a * 256 + b) 0
  let y (n : Nat) : Int := (s.slot n).y100.getD 0
  let ref : Option Int := if s.flag E.ensStanding then some 0
    else (s.bestOf ((List.range 32).filter (fun n => s.qualified n && (s.slot n).y100.isSome &&
      decide (n ≠ a ∧ n ≠ b ∧ s.refKind n ≠ 5)))).map y
  let loser : Option Nat := ref.map (fun (r : Int) => if (y b - r).natAbs < (y a - r).natAbs then a else b)
  let pairs := s.hornbeam.pairs.map (fun q =>
    if q.a = a ∧ q.b = b then { q with opened := true, beyond := 0, within := 0, loser := loser } else q)
  let s := { s with hornbeam := { s.hornbeam with pairs := pairs } }
  match loser with
  | none => s
  | some n => (s.setCause n 11 true).slotStep n
/-- The watched pair of two slots. -/
def State.rankPair (s : State) (a b : Nat) : RankPair :=
  (s.hornbeam.pairs.find? (fun p => p.a == a && p.b == b)).getD { a := a, b := b }
/-- One evaluation of a pair (R169, R170). -/
def State.pairSecond (s : State) (a b : Nat) : State :=
  let p := s.rankPair a b
  let both := s.qualified a && s.qualified b && decide (s.n E.refQl a = s.n E.refQl b ∧ s.n E.refPriority a = s.n E.refPriority b)
  match (s.slot a).y100, (s.slot b).y100 with
  | some ya, some yb =>
    let lim := max (s.n E.refFreqLim100 a) (s.n E.refFreqLim100 b) * 1000
    let beyond := decide (lim < (ya - yb).natAbs)
    let count := s.n E.hbDisagreeCount
    let rest := s.hornbeam.pairs.filter (fun q => !(q.a == a && q.b == b))
    let keep (q : RankPair) : State := { s with hornbeam := { s.hornbeam with pairs := rest ++ [q] } }
    if p.opened then
      let q := { p with within := if beyond then 0 else p.within + 1 }
      if count ≤ q.within then (keep q).closePair q else keep q
    else if both then
      let q := { p with beyond := if beyond then p.beyond + 1 else 0 }
      if count ≤ q.beyond then (keep q).openPair a b else keep q
    else { s with hornbeam := { s.hornbeam with pairs := rest } }
  | _, _ => s
/-- The pairs to look at: equal-rank QUALIFIED ones and those that are open, in ascending order (R170). -/
def State.pairsToWatch (s : State) : List (Nat × Nat) :=
  let u := (List.range 32).filter (fun n => s.usable n && decide (s.refKind n ≠ 5))
  (u.flatMap (fun a => (u.filter (fun b => decide (a < b))).map (fun b => (a, b))))
/-- The values of open records follow their phases (R128). -/
def State.disSecond (s : State) : State :=
  let s := s.disMembers.foldl (fun s m =>
    if m.kind = 2 then
      (match (s.slot m.a).meas.head? with
       | some x => if x.valid ∧ s.now ≤ x.tick + ticksS 1 then s.valueDis 2 m.a m.b (fun _ => s.conflictValue m.a) else s
       | none => s)
    else
      let d := s.phaseNow m.a - s.phaseNow m.b
      s.valueDis 1 m.a m.b (fun y => boundOf (psOfFs (d - y.phase0)))) s
  s.disRefresh
/-- The slow-drift excursion of a slot (R171): on the selected slot, DEGRADING by DRIFT with no other candidate. -/
def State.driftSecond (s : State) (n : Nat) : State :=
  let x := s.slot n
  let alone := decide (s.n E.hbSelected = n) && s.driftDegrading n &&
    s.candidates.all (fun m => decide (m = n) || s.driftDegrading m)
  let e := if alone then (match s.driftFit n with | some z => excursionPs z (s.n E.refDriftHorizon n) | none => 0)
           else if s.n E.refState n = 4 then x.excursion else 0
  if e = x.excursion then s else (s.setSlot n { x with excursion := e }).termsRefresh n
/-- The seconds a slot has spent in the current qualification. -/
def State.elapsedSecond (s : State) (n : Nat) : State :=
  s.set E.refQualElapsed n (if s.n E.refState n = 2 then (s.now - (s.slot n).passSince) / 500000000 else 0)
/-- HORNBEAM_SECOND (R146, R149, R150, R152, R165, R169 to R171): monitors, transitions, arbitration, selection. -/
def execHornbeamSecond (t : Nat) (s : State) : Host.Outcome State Fault Refusal :=
  timed t s fun s =>
    if s.atSecond then
      let s := (List.range 32).foldl State.slotSecond s
      let s := s.transitions
      let s := s.pairsToWatch.foldl (fun s p => s.pairSecond p.1 p.2) s
      let s := s.disSecond
      let s := s.select
      let s := (List.range 32).foldl State.driftSecond s
      (List.range 32).foldl State.elapsedSecond s
    else s

/-! ### Qualification, wait to restore, conflicts -/

/-- A PPS slot without a line waits for first lock or an initial time (R145). -/
def State.phaseAllowed (s : State) (n : Nat) : Bool := !s.phaseOnly n || s.flag E.firstLock || s.privet.initWritten
/-- A slot has become QUALIFIED in this tick: the auto-accept watch starts again (R175). -/
def State.qualifiedNow (s : State) (n : Nat) : State :=
  s.setSlot n { s.slot n with qualSince := s.now, watch := none, watchFrom := s.now }
/-- QUAL_TIME_EXPIRY (R164): QUALIFYING to QUALIFIED, or DEGRADING back to QUALIFIED, after `HB_QUAL_TIME` without a break. -/
def execQualTimeExpiry (t : Nat) (n : Fin 32) (s : State) : Host.Outcome State Fault Refusal :=
  timed t s fun s =>
    let x := s.slot n
    if x.passSince + ticksS (s.n E.hbQualTime) ≤ s.now then
      if s.n E.refState n = 2 ∧ ¬ s.anyFail n ∧ s.phaseAllowed n then
        let s := (s.set E.refState n 3).setT96 E.refQualifiedAt n s.tai
        ((s.set E.refQualElapsed n 0).qualifiedNow n).settle true
      else if s.n E.refState n = 4 ∧ ¬ x.drifting ∧ ¬ s.cause n 7 ∧ ¬ s.cause n 11 then
        let s := (s.set E.refState n 3).setSlot n { x with excursion := 0 }
        ((s.qualifiedNow n).termsRefresh n).settle true
      else s
    else s
/-- WTR_EXPIRY (R166): selection runs with the slot that has stayed QUALIFIED for `HB_WTR`. -/
def execWtrExpiry (t : Nat) (s : State) : Host.Outcome State Fault Refusal :=
  timed t s fun s => s.select

/-- `HB_CONFLICT_CMD` (R174). -/
def spConflictCmd : Special where
  entry := E.hbConflictCmd
  codes c s :=
    let n := bitsOf c.v 15 8
    let d := bitsOf c.v 7 0
    if 32 ≤ n ∨ ¬ s.inConflict n ∨ d = 0 ∨ 3 < d then [7]
    else match d with
      | 1 => if ¬ s.qualified n ∨ s.slewTooBig n then [7] else []
      | 2 => s.stepCodes (unitsOfFs (s.phaseNow n)) ++ (if s.qualified n then [] else [7])
      | _ => []
  apply c s :=
    let n := bitsOf c.v 15 8
    match bitsOf c.v 7 0 with
    | 1 =>
      ((s.coreRelease).closeConflict n 1).decide' (some (n, s.now, false))
    | 2 =>
      (((s.acceptStep (unitsOfFs (s.phaseNow n)) 1).coreRelease).closeConflict n 2).decide' (some (n, s.now, true))
    | _ =>
      let s := (s.setCause n 12 true).slotFail n
      (s.closeConflict n 3).settle true
  refused code c s := if bitsOf c.v 7 0 = 2 then s.stepRefused code else s
/-- CONFLICT_ACCEPT_SLEW. -/
def execConflictAcceptSlew (t : Nat) (m : Master) (n : Fin 32) (s : State) : Host.Outcome State Fault Refusal :=
  writeRow spConflictCmd t m 0 [BitVec.ofNat 64 (n.val * 256 + 1)] s
/-- CONFLICT_ACCEPT_STEP. -/
def execConflictAcceptStep (t : Nat) (m : Master) (n : Fin 32) (s : State) : Host.Outcome State Fault Refusal :=
  writeRow spConflictCmd t m 0 [BitVec.ofNat 64 (n.val * 256 + 2)] s
/-- CONFLICT_REJECT. -/
def execConflictReject (t : Nat) (m : Master) (n : Fin 32) (s : State) : Host.Outcome State Fault Refusal :=
  writeRow spConflictCmd t m 0 [BitVec.ofNat 64 (n.val * 256 + 3)] s
/-- AUTO_ACCEPT (R175). -/
def execAutoAccept (t : Nat) (n : Fin 32) (s : State) : Host.Outcome State Fault Refusal :=
  timed t s fun s =>
    let x := s.slot n
    let time := ticksS (60 * s.n E.hbAutoAccept)
    let still : Bool := match x.watch with
      | some (lo, hi) => decide (hi - lo ≤ 2000 * (s.n E.brefLive n : Int))
      | none => false
    if s.n E.hbAutoAccept ≠ 0 ∧ s.inHold ∧ s.inConflict n ∧ s.qualified n ∧ max x.watchFrom x.qualSince + time ≤ s.now ∧
        still ∧ ¬ s.slewTooBig n then
      ((s.coreRelease).closeConflict n 4).decide' (some (n.val, s.now, false))
    else s

/-! ### ESMC (R154) -/

/-- The level of an SSM code and enhanced SSM code (R154). -/
def esmcLevel (ssm : Nat) (essm : Option Nat) : Nat :=
  let plain := essm.isNone || essm == some 0xFF
  match ssm with
  | 2 => if essm = some 0x21 then 7 else if essm = some 0x20 then 6 else if essm = some 0x23 ∨ plain then 5 else 0
  | 4 => if plain then 3 else 0
  | 8 => if plain then 2 else 0
  | 0xB => if essm = some 0x22 ∨ plain then 1 else 0
  | _ => 0
/-- ESMC_PDU: the slots whose `REF_ESMC_PORT` names the port take the quality; information PDUs keep it alive. -/
def execEsmcPdu (t port : Nat) (event : Bool) (ssm : Nat) (essm : Option Nat) (s : State) :
    Host.Outcome State Fault Refusal :=
  timed t s fun s =>
    ((List.range 32).filter (fun n => decide (s.n E.refEnable n ≠ 0 ∧ s.refKind n = 4 ∧ s.n E.refEsmcPort n = port ∧
        port < 16))).foldl
      (fun s n =>
        let s := if event then s else s.setSlot n { s.slot n with lastInfo := s.now }
        s.quality n (essm.getD 0xFF % 256 * 256 + ssm % 256) (esmcLevel ssm essm)) s
/-- No information PDU for 5 s (R154). -/
def State.esmcLost (s : State) (n : Nat) : State :=
  if s.n E.refEnable n ≠ 0 ∧ s.refKind n = 4 ∧ s.n E.refEsmcPort n ≠ 0xFF ∧
      s.resolves [portIsland (s.n E.refEsmcPort n)] ((s.slot n).lastInfo + ticksS 5) then
    s.quality n (s.n E.refQlRx n) 0
  else s
/-- ESMC_TIMEOUT. -/
def execEsmcTimeout (t : Nat) (n : Fin 32) (s : State) : Host.Outcome State Fault Refusal :=
  timed t s fun s => s.esmcLost n

/-! ### The time-of-day line (R159 to R163) -/

/-- A decimal digit's value. -/
def digit (b : Byte) : Option Nat := if 0x30 ≤ b.toNat ∧ b.toNat ≤ 0x39 then some (b.toNat - 0x30) else none
/-- An upper-case hexadecimal digit's value. -/
def hexDigit (b : Byte) : Option Nat :=
  if 0x30 ≤ b.toNat ∧ b.toNat ≤ 0x39 then some (b.toNat - 0x30)
  else if 0x41 ≤ b.toNat ∧ b.toNat ≤ 0x46 then some (b.toNat - 0x37) else none
/-- The number digits spell in a base. -/
def digits (base : Nat) (f : Byte → Option Nat) (l : List Byte) : Option Nat :=
  l.foldl (fun a b => match a, f b with | some x, some d => some (x * base + d) | _, _ => none) (some 0)
/-- A field of the line. -/
def fieldOf (l : List Byte) (off n : Nat) : List Byte := (l.drop off).take n
/-- ASCII codes as bytes. -/
def ascii (l : List Nat) : List Byte := l.map (BitVec.ofNat 8)
/-- A line inside its layout with its CRC (R160, R162); `none` when it is to be discarded. -/
def parseTod (l : List Byte) : Option TodLine :=
  let comma := [7, 11, 27, 32, 34, 50, 52, 63].all (fun o => fieldOf l o 1 == ascii [0x2C])
  let frame := decide (l.length = 73) && fieldOf l 0 5 == ascii [0x24, 0x50, 0x4B, 0x59, 0x54] &&
    fieldOf l 5 2 == ascii [0x2C, 0x31] && comma && fieldOf l 66 1 == ascii [0x2A] && fieldOf l 71 2 == ascii [0x0D, 0x0A]
  let sign : Option Int := if fieldOf l 28 1 = ascii [0x2B] then some 1 else if fieldOf l 28 1 = ascii [0x2D] then some (-1) else none
  let leap : Option Nat := if fieldOf l 33 1 = ascii [0x4E] then some 0 else if fieldOf l 33 1 = ascii [0x49] then some 1
    else if fieldOf l 33 1 = ascii [0x44] then some 2 else none
  let bound : Option Nat := if fieldOf l 53 10 = List.replicate 10 0x55#8 then some 0xFFFFFFFF
    else (digits 10 digit (fieldOf l 53 10)).map boundOf
  match digits 10 digit (fieldOf l 8 3), digits 10 digit (fieldOf l 12 15), sign, digits 10 digit (fieldOf l 29 3), leap,
    digits 10 digit (fieldOf l 35 15), digits 10 digit (fieldOf l 51 1), bound, digits 16 hexDigit (fieldOf l 64 2),
    digits 16 hexDigit (fieldOf l 67 4) with
  | some seq, some tai, some sg, some off, some lp, some lt, some q, some b, some fl, some crc =>
    if frame ∧ q ≤ 7 ∧ fl < 16 ∧ (lp ≠ 0 ∨ lt = 0) ∧ crc16 0x1021 0xFFFF (fieldOf l 1 65) = crc then
      some ⟨seq, tai, sg * off, lp, lt, q, b, fl⟩
    else none
  | _, _, _, _, _, _, _, _, _, _ => none
/-- The level of a line's Q and FLAGS (R162). -/
def todLevel (x : TodLine) : Nat :=
  if ¬ bitOf x.flags 0 then 0
  else
    let l := if bitOf x.flags 1 then min x.q 4 else x.q
    if bitOf x.flags 3 then l else min l 1
/-- The TOD cause follows the succession and the BOUND check (R162, R163). -/
def State.todRefresh (s : State) (n : Nat) : State :=
  let d := (s.slot n).tod
  s.setCause n 10 (d.failing || d.tooWide)
/-- A discarded line is counted (R162). -/
def State.todError (s : State) (n : Nat) : State := s.bump E.todErrors n
/-- A kept line (R162, R163): the succession, the quality, the leap indication of the selected slot. -/
def State.todKeep (s : State) (n : Nat) (x : TodLine) : State :=
  let d := (s.slot n).tod
  let first := d.line.isNone
  let good : Bool := match d.line with
    | some (q, tai) => decide (x.seq = (q + 1) % 1000 ∧ x.tai = tai + d.edgesSince)
    | none => true
  let run := if good ∧ (first ∨ d.edgesSince = 1) then d.run + 1 else 1
  let failing := if good then d.failing && decide (run < 2) else true
  let leads := decide (s.n E.hbSelected = n ∧ s.n E.privetLeapSource = 0)
  let offRun := if leads ∧ x.offset ≠ s.taiUtc then d.offsetRun + 1 else 0
  let d := { d with
    line := some (x.seq, x.tai), edgesSince := 0, run := run, failing := failing, missed := 0, kept := true,
    named := some x.tai, offsetRun := offRun, tooWide := decide (s.n E.brefConfig n < x.bound) }
  let s := ((s.setSlot n { s.slot n with tod := d }).todRefresh n)
  let s := if leads then
      let s := if x.leap = 0 then s.leapWithdrawn (fun _ => true)
        else s.leapAnnounced x.leapTai (x.offset + (if x.leap = 1 then 1 else -1))
      if offRun = 3 then s.raise 11 else s
    else s
  let old := s.n E.refQl n
  let s := ((s.set E.refQlRx n x.q).setSlot n { s.slot n with level := todLevel x }).qlRefresh n
  s.settle (decide (s.n E.refQl n ≠ old))
/-- An edge of a PPSIN (R161, R163): it is recorded; with a line, the waiting lines are judged against their window, and the edge
counted. -/
def State.todEdge (s : State) (n : Nat) : State :=
  let x := s.slot n
  if ¬ s.todOn n then s.setSlot n { x with tod := { x.tod with edges := (s.now :: x.tod.edges).take 2 } }
  else
    let wait := x.tod.wait
    let named := x.tod.named.map (· + 1)
    let s := s.setSlot n { x with tod := { x.tod with wait := [], named := named } }
    let s := wait.foldl (fun s p => if p.2 + ticksMs 10 ≤ s.now then s.todKeep n p.1 else s.todError n) s
    let d := (s.slot n).tod
    let counts := s.n E.todNames n = 0 || !d.edges.isEmpty
    s.setSlot n { s.slot n with tod := { d with
      edgesSince := d.edgesSince + 1, missed := if d.kept ∨ ¬ counts then 0 else d.missed + 1, kept := false,
      edges := (s.now :: d.edges).take 2 } }
/-- A line has ended at this tick (R161, R162). -/
def State.todLine (s : State) (n : Nat) (l : List (Byte × Bool)) : State :=
  match (if l.any (·.2) then none else parseTod (l.map (·.1))) with
  | none => s.todError n
  | some x =>
    let d := (s.slot n).tod
    if s.n E.todNames n = 0 then
      match d.edges with
      | e :: _ =>
        if e + ticksMs 10 ≤ s.now then s.setSlot n { s.slot n with tod := { d with wait := d.wait ++ [(x, s.now)] } }
        else s.todError n
      | [] => s.setSlot n { s.slot n with tod := { d with wait := d.wait ++ [(x, s.now)] } }
    else
      match d.edges with
      | e :: _ => if e + ticksMs 10 ≤ s.now ∧ s.now ≤ e + ticksMs 900 then s.todKeep n x else s.todError n
      | [] => s.todError n
/-- A byte of TODIN (R159): `$` begins a line where none has begun, all else there is ignored; LF or the 73rd byte ends it. -/
def State.todByte (s : State) (n : Nat) (b : Byte × Bool) : State :=
  let x := s.slot n
  if x.tod.begun.isEmpty ∧ (b.2 ∨ b.1 ≠ 0x24) then s
  else
    let l := x.tod.begun ++ [b]
    if b.1 = 0x0A ∨ 73 ≤ l.length then (s.setSlot n { x with tod := { x.tod with begun := [] } }).todLine n l
    else s.setSlot n { x with tod := { x.tod with begun := l } }
/-- The bytes as todByte takes them: each with whether its stop bit was sampled low, which `low` lists by place. -/
def todReceived (bytes : List Byte) (low : List Nat) : List (Byte × Bool) :=
  bytes.zipIdx.map (fun b => (b.1, low.contains b.2))
/-- TOD_LINE (R159 to R162): bytes TODIN has received up to this tick, and the places of those whose stop bit was sampled low. -/
def execTodLine (t : Nat) (p : Fin 4) (bytes : List Byte) (low : List Nat) (s : State) :
    Host.Outcome State Fault Refusal :=
  timed t s fun s =>
    match s.slotOf 3 p with
    | none => s
    | some n => if s.todOn n then (todReceived bytes low).foldl (fun s b => s.todByte n b) s else s
/-- TOD_MISS (R163): `TOD_MISS_LIMIT` consecutive edges have passed without a kept line. -/
def execTodMiss (t : Nat) (p : Fin 4) (s : State) : Host.Outcome State Fault Refusal :=
  timed t s fun s =>
    match s.slotOf 3 p with
    | none => s
    | some n =>
      let d := (s.slot n).tod
      if s.todOn n ∧ s.n E.todMissLimit n ≤ d.missed then
        (((s.setSlot n { s.slot n with tod := { d with failing := true, run := 0 } }).todRefresh n)).settle
      else s

/-- The special entries of this chapter. -/
def hornbeamSpecials : List Special :=
  [spRefSource, spRefType, spRefEnable, spRefQlSource, spRefQlConfig, spRefEsmcPort, spTodEnable, spHbPreferred,
   spConflictCmd]

end Sys2Proof.Machine
end

