-- ==== Sys2Proof/Machine/Ensemble.lean ====
section
/-! DEFINITION. The oscillator ensemble: phase differences, the members' filter, the outlier test, weights and standing, the
time-scale (R187 to R194). -/

namespace Sys2Proof.Machine

/-! ### Weights, standing, member states (R190, R192, R193) -/

/-- The last usable temperature readings are kept (R194). -/
def State.tempKeep (s : State) : State :=
  (List.range 3).foldl (fun s src => if s.tempFresh src then
      { s with yew := { s.yew with tempFrozen := tabPut 0 src (s.temperature src) s.yew.tempFrozen } } else s) s

/-- The weights of R193 in 10⁻⁶ from the raw weights, capped at `cap` (÷ 1,000): capped members hold the cap and the rest share
what remains in proportion, until none exceeds it. -/
def capWeights (raw : List (Nat × Nat)) (cap : Nat) (capped : List Nat) : Nat → List (Nat × Nat)
  | 0 => raw.map (fun p => (p.1, 0))
  | fuel + 1 =>
    let free := raw.filter (fun p => !capped.contains p.1)
    let total := (free.map (·.2)).foldl (· + ·) 0
    let left := 10 ^ 6 - capped.length * cap * 1000
    let w (p : Nat × Nat) : Nat :=
      if capped.contains p.1 then cap * 1000 else if total = 0 then 0 else (2 * p.2 * left + total) / (2 * total)
    let heavy := (free.filter (fun p => decide (cap * 1000 < w p))).map (·.1)
    if heavy.isEmpty then raw.map (fun p => (p.1, w p)) else capWeights raw cap (capped ++ heavy) fuel
/-- The members' weights (R193). -/
def State.weigh (s : State) : State :=
  let act := (List.range 5).filter (fun m => decide (s.n E.ensState m = 3 ∧ s.n E.ensWeightMode m = 0))
  let raw := act.map (fun m =>
    let a := s.n E.ensSigmaA m
    let b := s.n E.ensSigmaB m
    (m, 10 ^ 60 / max 1 (a * a + b * b * s.n E.ensWeightTau)))
  let cap := s.n E.ensWeightMax
  let ws := if act.length * cap < 1000 then capWeights raw 1000 [] 6 else capWeights raw cap [] 6
  (List.range 5).foldl (fun s m => s.set E.ensWeight m ((ws.lookup m).getD 0)) s
/-- Good standing (R192). -/
def State.standingNow (s : State) : Bool :=
  let act := (List.range 5).filter (fun m => decide (s.n E.ensState m = 3))
  decide (s.n E.ensMinMembers ≤ act.length) && act.any (fun m => decide (s.n E.ensWeightMode m = 0)) && !s.yew.ambiguous
/-- Frequencies held against one scale taken to the other by `d` in 10⁻¹⁸ (R180), so that Privet's increment does not move. -/
def Yew.rescale (y : Yew) (d : Int) : Yew :=
  { y with v := y.v + d, integ := y.integ + d, integs := y.integs.map (fun p => { p with integ := p.integ + d }),
           law := y.law.map (fun l => { l with f := l.f + d }) }
/-- A slot's estimates taken to the other scale (R149, R180). -/
def Slot.rescale (x : Slot) (d : Int) : Slot :=
  { x with y1 := x.y1.map (· + d), y10 := x.y10.map (· + d), y100 := x.y100.map (· + d), tens := x.tens.map (fun p => (p.1, p.2 + d)) }
/-- y_OSC becomes `y` (R180) and every frequency held against the scale follows, so that Privet's increment does not move. -/
def State.rebase (s : State) (y : Int) : State :=
  let d := y - s.yew.yOsc
  let slots : Tab Slot := s.hornbeam.slots.map fun p => (p.1, p.2.rescale d)
  { s with yew := { (s.yew.rescale d) with yOsc := y }, hornbeam := { s.hornbeam with slots := slots } }
/-- Weights, standing and the model follow the members' states (R192, R193); the loop's frequencies follow a change of standing
(R180); in holdover a changed model enters B_hold when it raises it (R126, R196). -/
def State.ensembleRefresh (s : State) : State :=
  let was := s.flag E.ensStanding
  let s := s.weigh
  let st := s.standingNow
  let s := s.setFlag E.ensStanding 0 st
  let s := if was = st then s else s.rebase (if st then s.oscFreq else 0)
  match s.bound.hold, s.yew.law with
  | some h, some l =>
    let (a, b, dEns) := s.ensembleModel
    if a = h.a ∧ b = h.b ∧ l.base + dEns ≤ h.d then s
    else
      let old := s.holdAt s.now
      let d := max h.d (l.base + dEns)
      let s := ((s.set E.yewSigmaA 0 a).set E.yewSigmaB 0 b).set E.yewHoldD 0 d
      let s := s.raiseHold h.k d a b
      let new := s.holdAt s.now
      if old + s.n E.ledgerStepMin < new then s.ledgerDue 5 4 0xFFFF (sat32 ((new : Int) - old)) else s
  | _, _ => s
/-- A member's state. -/
def State.setMemberState (s : State) (m st cause : Nat) : State := (s.set E.ensState m st).set E.ensCause m cause
/-- A member enters FAILED (R187, R190). -/
def State.memberFail (s : State) (m cause : Nat) : State :=
  let st := s.n E.ensState m
  if 1 ≤ st ∧ st ≤ 4 then (s.setMemberState m 5 cause).setMember m { s.member m with inputSince := s.now } else s
/-- An input monitor of a member fails (R190). -/
def State.memberInputBad (s : State) (m : Nat) : State :=
  let s := s.setMember m { s.member m with inputBad := true }
  (s.memberFail m 2).ensembleRefresh
/-- A member's input monitors pass again. -/
def State.memberInputGood (s : State) (m : Nat) : State :=
  let x := s.member m
  if x.inputBad then s.setMember m { x with inputBad := false, inputSince := s.now } else s
/-- A member enters PROBATION (R190, R194). -/
def State.memberProbation (s : State) (m : Nat) : State :=
  (s.setMemberState m 2 0).setMember m
    { s.member m with testSince := s.now, fails := 0, temp0 := s.tempUsed (s.n E.ensTempSrc m) }
/-- The timed transitions of a member (R190). -/
def State.memberTimed (s : State) (m : Nat) : State :=
  let x := s.member m
  match s.n E.ensState m with
  | 1 => if ¬ x.inputBad ∧ x.inputSince + ticksS (s.n E.ensWarmup m) ≤ s.now then s.memberProbation m else s
  | 2 =>
    if x.testSince + ticksS (s.n E.ensProbation m) ≤ s.now then
      (s.setMemberState m 3 0).setMember m
        { x with probated := true, d := if x.probated then x.d else classD (s.n E.ensClass m), refit := s.now }
    else s
  | 4 => if x.testSince + ticksS 600 ≤ s.now then s.memberProbation m else s
  | 5 =>
    if ¬ x.inputBad ∧ x.inputSince + ticksS 10 ≤ s.now then
      (s.setMemberState m 1 0).setMember m { x with inputSince := s.now }
    else s
  | _ => s

/-! ### Phase differences (R187) -/

/-- The members that are measured: in WARMUP, PROBATION, ACTIVE or EXCLUDED. -/
def State.ensLive (s : State) : List Nat := (List.range 5).filter (fun m => decide (1 ≤ s.n E.ensState m ∧ s.n E.ensState m ≤ 4))
/-- The pairs of a second (R187): OSCIN against every live ATOM member, then each of those against the next one. -/
def State.ensPairs (s : State) : List (Nat × Nat) :=
  let atoms := s.ensLive.filter (· ≠ 0)
  atoms.map (fun m => (0, m)) ++ atoms.zip (atoms.drop 1)
/-- A member's nominal period in as. -/
def State.ensPeriod (s : State) (m : Nat) : Nat := 10 ^ 18 / max 1 (s.n E.ensNominal m)
/-- The raw time of a member's edge nearest the whole second: the last one stamped since the update before (log 54). -/
def State.ensEdge (s : State) (m : Nat) : Option Int :=
  match (s.member m).edge with
  | some (e, tick) => if s.yew.ensAt < tick then some e else none
  | none => none
/-- What a pair shows in a second: nothing, a first difference, a change of the unwrapped difference, or one that cannot be
unwrapped. -/
inductive PairObs where
  | unseen
  | first
  | change (c : Int)
  | slipped
deriving DecidableEq, Repr
/-- The raw difference of a pair in as: how far `j` is ahead of `i`. -/
def State.pairDiff (s : State) (i j : Nat) : Option Int :=
  match s.ensEdge i, s.ensEdge j with
  | some a, some b => some ((a - b) * 1000)
  | _, _ => none
/-- A pair unwrapped against the previous second (R187), modulo the shorter period; more than a quarter of it cannot be. -/
def State.pairObs (s : State) (i j : Nat) : PairObs :=
  match s.pairDiff i j, s.yew.pairRaw.find? (fun p => p.1 == 8 * i + j) with
  | some raw, some (_, was) =>
    let period : Int := min (s.ensPeriod i) (s.ensPeriod j)
    let c := Int.emod (raw - was + period / 2) period - period / 2
    if period < 4 * c.natAbs then .slipped else .change c
  | some _, none => .first
  | none, _ => .unseen
/-- The raw differences of this second, for the next one. -/
def State.pairsKept (s : State) : Tab Int :=
  s.ensPairs.foldl (fun t p => match s.pairDiff p.1 p.2 with | some d => tabInsert (8 * p.1 + p.2) d t | none => t) []
/-- How far each measured member has moved ahead of OSCIN since the last update, in as: from its pair with OSCIN, else over a
neighbour (R187). OSCIN itself is measured when a pair with it is. -/
def State.ensMoves (s : State) : List (Nat × Int) :=
  let moves := s.ensPairs.foldl (fun l p =>
    match s.pairObs p.1 p.2, (if p.1 = 0 then some 0 else l.lookup p.1) with
    | .change c, some d => if (l.lookup p.2).isSome then l else l ++ [(p.2, d + c)]
    | _, _ => l) ([] : List (Nat × Int))
  if s.ensPairs.any (fun p => p.1 == 0 && (match s.pairObs 0 p.2 with | .change _ => true | _ => false)) then (0, 0) :: moves else moves
/-- A pair that cannot be unwrapped (R187): the member whose monitors fail goes to FAILED, or both where neither's do. -/
def State.pairsFail (s : State) : State :=
  (s.ensPairs.filter (fun p => s.pairObs p.1 p.2 == .slipped)).foldl (fun s p =>
    let bad := [p.1, p.2].filter (fun m => (s.member m).inputBad)
    (if bad.isEmpty then [p.1, p.2] else bad).foldl (fun s m => s.memberFail m 3) s) s

/-! ### The filter and the outlier test (R188, R191, R194) -/

/-- How far a member's phase is predicted to move against the scale in `ticks`, in as (R188, R194). -/
def State.ensPredict (s : State) (m ticks : Nat) : Int :=
  roundDiv ((s.int E.ensFreq m + s.tempTerm m) * ticks) (5 * 10 ^ 8) + roundDiv (s.int E.ensAging m * ticks * ticks) (5 * 10 ^ 20)
/-- The weighted mean of some members' values; unweighted where none has a weight. -/
def State.ensMean (s : State) (l : List (Nat × Int)) : Int :=
  let w (m : Nat) : Int := s.n E.ensWeight m
  let total := (l.map (fun p => w p.1)).foldl (· + ·) 0
  if l.isEmpty then 0
  else if total = 0 then roundDiv ((l.map (·.2)).foldl (· + ·) 0) l.length
  else roundDiv ((l.map (fun p => w p.1 * p.2)).foldl (· + ·) 0) total
/-- How far the scale moves against OSCIN in a second (R193): by the weighted mean of what the measured members have moved beyond their
predictions while the ensemble is in good standing, at its last frequency else. -/
def State.scaleMove (s : State) (c : List (Nat × Int)) (ticks : Nat) : Int :=
  let weighted := c.filter (fun p => decide (s.n E.ensWeight p.1 ≠ 0))
  if s.flag E.ensStanding ∧ ¬ weighted.isEmpty then s.ensMean weighted else s.scaleDrift ticks
/-- How far each measured member stands from its prediction against the scale as it was, when it has moved by `c` beyond it. -/
def State.departures (s : State) (c : List (Nat × Int)) : List (Nat × Int) :=
  c.map (fun p => (p.1, (s.member p.1).z - s.yew.scaleAs - (s.member p.1).x + p.2))
/-- Members' departures against a reference that has itself moved by `d`: the innovations (R191). -/
def lessMove (l : List (Nat × Int)) (d : Int) : List (Nat × Int) := l.map (fun p => (p.1, p.2 - d))
/-- |ν_i| ÷ √S_i × 100 (R191, R202). -/
def State.normalised (s : State) (m : Nat) (nu : Int) : Nat :=
  nu.natAbs * 100 / max 1 (Config.innovDeviation (s.n E.ensSigmaA m) (s.n E.ensSigmaB m) (s.member m).count)
/-- A normalised innovation beyond `ENS_OUTLIER_K` ÷ 10. -/
def State.beyond (s : State) (innov : Nat) : Bool := decide (s.n E.ensOutlierK * 10 < innov)
/-- The members whose removal alone brings every other innovation within the limit (R191): the others' departures against their own
mean. -/
def State.resolvers (s : State) (l : List (Nat × Int)) : List Nat :=
  (l.map (·.1)).filter (fun m =>
    let others := l.filter (fun p => p.1 != m)
    (lessMove others (s.ensMean others)).all (fun p => !s.beyond (s.normalised p.1 p.2)))
/-- A gain of a member's filter applied to its innovation, in 10⁻⁹ (R188, log 52). -/
def State.gained (s : State) (k m : Nat) (nu : Int) : Int :=
  roundDiv (Config.kalmanGain k (s.n E.ensSigmaA m) (s.n E.ensSigmaB m) (s.member m).count * nu) (10 ^ 9)
/-- A member's filter in a second (R188, R194): phase, frequency and aging predicted over `ticks`, and corrected where it is measured;
the temperature coefficient learned while its sensor is usable. -/
def State.filterStep (s : State) (m ticks : Nat) (nu : Option Int) : State :=
  let x := s.member m
  let predicted := x.x + s.ensPredict m ticks
  let freq := s.int E.ensFreq m + roundDiv (s.int E.ensAging m * ticks) (5 * 10 ^ 11)
  match nu with
  | none => (s.setInt E.ensFreq m (satI64 freq)).setMember m { x with x := predicted }
  | some nu =>
    let phase := predicted + s.gained 0 m nu
    let aging := s.int E.ensAging m + s.gained 2 m nu * 1000
    let src := s.n E.ensTempSrc m
    let learn := s.flag E.ensTempcoLearn m && s.tempFresh src
    let coeff := if learn then s.int E.ensTempco m + s.gained 3 m (nu * (s.tempUsed src - x.temp0)) else s.int E.ensTempco m
    let s' := (s.setInt E.ensFreq m (satI64 (freq + s.gained 1 m nu))).setInt E.ensAging m (satI64 aging)
    (s'.setInt E.ensTempco m (satI64 coeff)).setMember m { x with x := phase, count := x.count + 1 }
/-- One member's test in a second (R191): the failures in a row, and what the members have shown since it last passed. -/
def State.memberTest (s : State) (c : List (Nat × Int)) (m innov : Nat) : State :=
  let x := s.member m
  let bad := s.beyond innov
  let fails := if bad then x.fails + 1 else 0
  let sum := (List.range 5).map (fun j => x.apart.getD j 0 + (c.lookup j).getD 0)
  (s.set E.ensInnov m (min innov (2 ^ 31 - 1))).setMember m { x with
    fails := fails, testSince := if s.n E.ensOutlierCount ≤ fails then s.now else x.testSince, apart := if bad then sum else [] }
/-- The slew that takes an excluded member's departure out of Privet (R193): the scale recomputed without it since it last passed, less
the scale followed, in as; `was` is the state with the weights that were followed. -/
def State.exclusionSlew (s was : State) (m : Nat) : Int :=
  let sums := (List.range 5).zip ((s.member m).apart)
  let weighted (t : State) := sums.filter (fun p => decide (t.n E.ensWeight p.1 ≠ 0))
  s.ensMean (weighted s) - was.ensMean (weighted was)
/-- A slew that Yew asks of Privet outside a switch; none in MANUAL mode or beyond the limit of R95. -/
def State.slewAsked (s : State) (p : Int) : State :=
  if p = 0 ∨ s.n E.privetMode = 1 ∨ slewMax < (s.slewTotal + p).natAbs then s else s.requestSlew p
/-- A member is excluded (R191, R193): counted, dated, raised; the scale is recomputed and the correcting slew requested. -/
def State.excludeMember (s : State) (m : Nat) : State :=
  let was := s
  let s := ((s.setMemberState m 4 1).bump E.ensExclusions).setT96 E.ensExcludedAt m s.tai
  let s := (s.setMember m { s.member m with testSince := s.now }).raise 17 none m
  let d := s.weigh.exclusionSlew was m
  let s := { s with yew := { s.yew with scaleAs := s.yew.scaleAs + d, scaleOff := s.yew.scaleOff + d } }
  s.slewAsked (unitsOfFs (Int.tdiv d 1000))
/-- The ambiguity of R191 opens. -/
def State.openAmbiguity (s : State) (members : List Nat) : State :=
  if s.yew.ambiguous then s
  else
    let s := members.foldl (fun s m => s.set E.ensCause m 4) s
    ({ s with yew := { s.yew with ambiguous := true, withinSince := s.now } }).raise 18 none (maskOf members)
/-- The outlier test of a second (R191), on the innovations `nu` of members that have moved by `c` beyond prediction; of several that
resolve it the one with the largest innovation is excluded (log 55). -/
def State.outliers (s : State) (c nu : List (Nat × Int)) : State :=
  let innov (p : Nat × Int) := s.normalised p.1 p.2
  let resolvers := s.resolvers nu
  let s := if nu.any (fun p => s.beyond (innov p)) then { s with yew := { s.yew with withinSince := s.now } } else s
  let s := nu.foldl (fun s p => s.memberTest c p.1 (innov p)) s
  let failing := (nu.map (·.1)).filter (fun m => decide (s.n E.ensOutlierCount ≤ (s.member m).fails))
  if failing.isEmpty then s
  else if 3 ≤ nu.length then
    match (nu.filter (fun p => resolvers.contains p.1)).foldl (fun (a : Option (Nat × Nat)) p =>
        match a with
        | some (m, v) => if v < innov p then some (p.1, innov p) else some (m, v)
        | none => some (p.1, innov p)) none with
    | some (m, _) => if s.n E.ensState m = 3 then s.excludeMember m else s
    | none => s.openAmbiguity failing
  else if nu.length = 2 then s.openAmbiguity (nu.map (·.1))
  else s

/-! ### The time-scale (R180, R193, R194) -/

/-- The scale's count moves by `d` against OSCIN's over `ticks` (R193). -/
def State.scaleStep (s : State) (d : Int) (ticks : Nat) : State :=
  let priv := Int.tdiv (((s.privet.time : Int) - s.yew.scalePriv) * 10 ^ 9) (2 ^ 56)
  { s with yew := { s.yew with
    scaleAs := s.yew.scaleAs + d
    scaleOff := if s.yew.scale then s.yew.scaleOff + d + (ticks : Int) * 2 * 10 ^ 9 - priv else 0
    scalePriv := s.privet.time } }
/-- A live member that is not measured is taken to be where it is predicted, so that its next first difference continues from there. -/
def State.ensHold (s : State) (measured : List Nat) : State :=
  (s.ensLive.filter (fun m => !measured.contains m)).foldl (fun s m =>
    s.setMember m { s.member m with z := s.yew.scaleAs + (s.member m).x }) s
/-- Each live member's phase against the scale is recorded for the Allan deviation (R188): 30,000 s of it (log 53). -/
def State.ensHistory (s : State) : State :=
  s.ensLive.foldl (fun s m =>
    let x := s.member m
    s.setMember m { x with history := (x.z - s.yew.scaleAs) :: x.history.take 29999 }) s
/-- The regression of integ on the die temperature (R194), over the updates of `YEW_HOLD_AVG` seconds (log 56), in 10⁻¹⁵ /K. -/
def State.tempcoLearn (s : State) : State :=
  if s.flag E.ensStanding ∧ s.n E.yewState = 1 ∧ s.tempFresh 0 then
    let pts := s.yew.integs.filter (fun p => p.update && decide (s.now ≤ p.tick + ticksS (s.n E.yewHoldAvg)))
    let z := sumsOf (pts.map (fun p => (p.temp, p.integ)))
    if 0 < z.den then { s with yew := { s.yew with loopTempco := roundDiv z.num (10 * z.den) } } else s
  else s
/-- v in HOLDOVER and in NO_TIME (R179, R195). -/
def State.steerSecond (s : State) : State :=
  match s.n E.yewState with
  | 0 => { s with yew := { s.yew with v := 0 } }
  | 3 =>
    match s.yew.law with
    | some l =>
      let d := roundDiv (l.d * ((s.now : Int) - l.start)) (5 * 10 ^ 11)
      let c := s.yew.loopTempco * 10 * (s.tempUsed 0 - l.temp)
      { s with yew := { s.yew with v := l.f + d + c } }
    | none => s
  | _ => s
/-- The pairs' phases of a second, `ticks` after the one before, in the members, the filter and the time-scale (R187, R188, R191, R193). -/
def State.ensembleMeasure (s : State) (ticks : Nat) : State :=
  let moves := s.ensMoves
  let kept := s.pairsKept
  let s := s.pairsFail
  let moves := moves.filter (fun p => s.ensLive.contains p.1)
  let c := moves.map (fun p => (p.1, p.2 - s.ensPredict p.1 ticks))
  let d := s.scaleMove c ticks
  let nu := lessMove (s.departures c) d
  let s := s.outliers c nu
  let s := s.ensLive.foldl (fun s m => s.filterStep m ticks (nu.lookup m)) s
  let s := moves.foldl (fun s p => s.setMember p.1 { s.member p.1 with z := (s.member p.1).z + p.2 }) s
  let s := s.scaleStep d ticks
  let s := (s.ensHold (moves.map (·.1))).ensHistory
  { s with yew := { s.yew with pairRaw := kept, ensAt := s.now } }
/-- The ensemble time-scale begins where standing is first reached (R193). -/
def State.scaleBegin (s : State) : State :=
  if s.flag E.ensStanding ∧ ¬ s.yew.scale then
    { s with yew := { s.yew with scale := true, scaleOff := 0, scalePriv := s.privet.time } } else s
/-- y_OSC and the scale's offset as they are reported and steered by (R180, R193). -/
def State.scaleReport (s : State) : State :=
  let s := s.setInt E.ensScaleOffset 0 (satI64 (Int.tdiv s.yew.scaleOff 1000))
  { s with yew := { s.yew with yOsc := if s.flag E.ensStanding then s.oscFreq else 0 } }
/-- One second of the ensemble (R187 to R194): differences, the outlier test, the filter, the members' transitions, the scale, y_OSC
and what is sent to Privet. -/
def State.ensembleSecond (s : State) : State :=
  let s := if s.n E.ensState 0 = 0 then s.setMemberState 0 1 0 else s
  let s := s.tempKeep.ensembleMeasure (s.now - s.yew.ensAt)
  let s := ((List.range 5).foldl State.memberTimed s).ensembleRefresh
  s.scaleBegin.scaleReport.tempcoLearn.steerSecond

/-! ### The learned model (R188) -/

/-- The Allan variance of phases in as, one a second and newest first, at `m` seconds, in 10⁻³⁶; 0 where they do not reach. -/
def allanVariance (h : List Int) (m : Nat) : Nat :=
  let d := (h.zip ((h.drop m).zip (h.drop (2 * m)))).map (fun p => p.1 - 2 * p.2.1 + p.2.2)
  ((d.map (fun x => x.natAbs * x.natAbs)).foldl (· + ·) 0) / max 1 (2 * m * m * d.length)
/-- The Allan variances of a member at the averaging times of R188. -/
def State.allan (s : State) (m : Nat) : List Nat := [1, 10, 100, 1000, 10000].map (allanVariance (s.member m).history)

end Sys2Proof.Machine
end

