-- ==== Sys2Proof/Machine/Yew.lean ====
section
/-! DEFINITION. Yew's commands: the loop update, the ensemble update with its member transitions, the model refit and the
settings (R179 to R202). -/

namespace Sys2Proof.Machine

/-! ### The loop (R181 to R185) -/

/-- The range of a type's bandwidth in µHz (R181). -/
def bandwidthOk (k v : Nat) : Bool :=
  match k with
  | 0 => decide (100 ≤ v ∧ v ≤ 10000)
  | 1 => decide (500 ≤ v ∧ v ≤ 50000)
  | 2 => decide (1000 ≤ v ∧ v ≤ 100000)
  | _ => decide (100000 ≤ v ∧ v ≤ 10000000)
/-- The derived gains follow the settings (R182). -/
def State.gains (s : State) (k : Nat) : State :=
  (s.set E.loopKp k (gainP (s.n E.loopBw k) (s.n E.loopDamp k))).set E.loopKi k (gainI (s.n E.loopBw k) (s.n E.loopDamp k))
/-- `LOOP_BW` (R181, R182). -/
def spLoopBw : Special where
  entry := E.loopBw
  codes c _ := if bandwidthOk c.i c.v then [] else [7]
  apply c s := (s.set E.loopBw c.i c.v).gains c.i
/-- `LOOP_DAMP` (R182). -/
def spLoopDamp : Special where
  entry := E.loopDamp
  apply c s := (s.set E.loopDamp c.i c.v).gains c.i
/-- LOOP_BW. -/
def execLoopBw (t : Nat) (m : Master) (k : Fin 4) (v : Word) (s : State) : Host.Outcome State Fault Refusal :=
  writeRow spLoopBw t m k [v] s
/-- LOOP_DAMP. -/
def execLoopDamp (t : Nat) (m : Master) (k : Fin 4) (v : Word) (s : State) : Host.Outcome State Fault Refusal :=
  writeRow spLoopDamp t m k [v] s

/-- `YEW_TRACK_WINDOW` (R185). -/
def spYewTrackWindow : Special where
  entry := E.yewTrackWindow
  apply c s := (s.set E.yewTrackWindow 0 c.v).trackRefresh
/-- `YEW_TRACK_MARGIN` (R185). -/
def spYewTrackMargin : Special where
  entry := E.yewTrackMargin
  apply c s := (s.set E.yewTrackMargin 0 c.v).trackRefresh
/-- `YEW_TRACK_INIT` (R185). -/
def spYewTrackInit : Special where
  entry := E.yewTrackInit
  apply c s := (s.set E.yewTrackInit 0 c.v).trackRefresh

/-- The valid offsets of slot `n`, in fs, whose stamps were formed in the update interval that has just ended (R183); none once
its failure is known (R184). An offset stamped before a step names a Privet time that is gone (log 121). -/
def State.intervalOffsets (s : State) (n : Nat) : List Int :=
  if s.n E.refState n = 5 then []
  else
    let from' := max s.yew.began (s.gnss.broken.getD 0)
    ((s.slot n).meas.filter (fun m => m.valid && decide (from' ≤ m.tick ∧ m.tick < s.now))).map (·.phase)
/-- A residue mismatch in Yew discards the update (R30, R183). -/
def State.yewResidue (s : State) : State := (s.bump E.resErr).raise 2 none 0x003
/-- What an update of the loop computes (R183): x in fs, v and integ with its remainder, and whether v was held at the tolerance. -/
structure LoopResult where
  x : Int
  v : Int
  integ : Int
  fine : Int
  clamp : Bool
deriving DecidableEq, Repr
/-- The update of R183 over an interval of `ms` milliseconds, from the mean of the valid offsets `l`. -/
def State.loopResult (s : State) (l : List Int) (k ms : Nat) : LoopResult :=
  let x := Int.tdiv (l.foldl (· + ·) 0) l.length - Int.tdiv (s.slewAll * 10 ^ 6) (2 ^ 56)
  let ff := if s.flag E.yewDriftFf then s.yew.dSteer else 0
  let gain := s.n E.loopKi k * x * ms + ff * ms * 10 ^ 9 + s.yew.fine
  let i := s.yew.integ + Int.fdiv gain (10 ^ 15)
  let v := i + roundDiv (s.n E.loopKp k * x) (10 ^ 9)
  let tol : Int := s.n E.privetOutTol * 10 ^ 6
  let y := s.yRef
  if tol < ((v - y).natAbs : Int) then ⟨x, if y < v then y + tol else y - tol, s.yew.integ, s.yew.fine, true⟩
  else ⟨x, v, i, Int.fmod gain (10 ^ 15), false⟩
/-- The strobe edge an increment sent now takes effect at (R94). -/
def State.nextDue (s : State) : Nat := s.now + (512 - s.now % 512) % 512 + 16
/-- The loop as it stands, kept while its update may still be discarded (R184). -/
def State.loopKept (s : State) : LoopUndo :=
  ⟨s.now, s.nextDue, s.yew.v, s.yew.integ, s.yew.fine, s.yew.xs, s.yew.updates, s.yew.integs, s.int E.yewPhaseErr⟩
/-- An update takes effect (R183, R185): 1,024 of its |x| are kept, the longest window. -/
def State.loopTake (s : State) (k : Nat) (r : LoopResult) : State :=
  let undo := s.loopKept
  let xs := (r.x.natAbs :: s.yew.xs).take 1024
  let s := { s.termTouch with yew := { s.yew with
    v := r.v, integ := r.integ, fine := r.fine, xs := xs, updates := s.yew.updates + 1, lastUpdate := s.tai, undo := some undo } }
  let s := ((s.integNote k true).setInt E.yewPhaseErr 0 r.x).trackRefresh
  let s := if r.clamp then (s.bump E.yewClamps).raise 16 else s
  s.sendIncr
/-- One update of the selected slot's loop (R183): nothing without a valid measurement, nor at the tick of a preset (R184); the residue
that the new integ carries is checked (R26, R30). -/
def State.loopStep (s : State) (n ms res : Nat) : State :=
  let l := s.intervalOffsets n
  if l.isEmpty ∨ s.yew.presetAt = some s.now then s
  else
    let r := s.loopResult l (s.n E.refType n) ms
    if residue (be 8 (wordOfInt r.integ).toNat) = res then s.loopTake (s.n E.refType n) r else s.yewResidue
/-- The selected slot's 10 s estimate against OSCIN is held for a time without a slot (R180). -/
def State.yRefHold (s : State) (n : Nat) : State :=
  match (s.slot n).y10 with
  | some y => { s with yew := { s.yew with yRefHeld := y - s.yew.yOsc } }
  | none => s
/-- LOOP_UPDATE (R183, R184): at each whole second for the time types, at each whole millisecond for FREQ; the next interval
begins. -/
def execLoopUpdate (t res : Nat) (s : State) : Host.Outcome State Fault Refusal :=
  timed t s fun s =>
    let n := s.n E.hbSelected
    let freq := decide (n < 32 ∧ s.n E.refType n = 3)
    if (if freq then s.atMilli else s.atSecond) then
      let s := if n < 32 then s.yRefHold n else s
      let s := if n < 32 ∧ s.flag E.firstLock then (s.perfEvent 3 0).loopStep n (if freq then 1 else 1000) res else s
      { s with yew := { s.yew with began := s.now } }
    else s

/-! ### Members (R187 to R194) -/

/-- A member starts in WARMUP with its class's model (R188 to R190). -/
def State.memberStart (s : State) (m : Nat) : State :=
  let s := (s.set E.ensSigmaA m (classA (s.n E.ensClass m))).set E.ensSigmaB m (classB (s.n E.ensClass m))
  (s.setMemberState m 1 0).setMember m { inputSince := s.now, edge := (s.member m).edge, inputBad := (s.member m).inputBad }
/-- `ENS_ENABLE` (R190). -/
def spEnsEnable : Special where
  entry := E.ensEnable
  codes c _ := if c.i = 0 ∧ c.v = 0 then [7] else []
  apply c s :=
    let s := s.set E.ensEnable c.i c.v
    let s := if c.v = 0 then s.setMemberState c.i 0 0 else if s.n E.ensState c.i = 0 then s.memberStart c.i else s
    s.ensembleRefresh
/-- ENS_ENABLE. -/
def execEnsEnable (t : Nat) (m : Master) (i : Fin 5) (v : Word) (s : State) : Host.Outcome State Fault Refusal :=
  writeRow spEnsEnable t m i [v] s
/-- `ENS_CLASS` (R188, R189): the class's model holds until the member has completed PROBATION. -/
def spEnsClass : Special where
  entry := E.ensClass
  apply c s :=
    let s := s.set E.ensClass c.i c.v
    if (s.member c.i).probated then s
    else ((s.set E.ensSigmaA c.i (classA c.v)).set E.ensSigmaB c.i (classB c.v)).ensembleRefresh
/-- `ENS_NOMINAL` (R202): member 0's is fixed. -/
def spEnsNominal : Special where
  entry := E.ensNominal
  codes c _ := if c.i = 0 then [3] else []
/-- `ENS_WEIGHT_MODE` (R192, R193). -/
def spEnsWeightMode : Special where
  entry := E.ensWeightMode
  apply c s := (s.set E.ensWeightMode c.i c.v).ensembleRefresh
/-- `ENS_MIN_MEMBERS` (R192). -/
def spEnsMinMembers : Special where
  entry := E.ensMinMembers
  apply c s := (s.set E.ensMinMembers 0 c.v).ensembleRefresh
/-- `ENS_WEIGHT_MAX` (R193). -/
def spEnsWeightMax : Special where
  entry := E.ensWeightMax
  apply c s := (s.set E.ensWeightMax 0 c.v).ensembleRefresh
/-- `ENS_WEIGHT_TAU` (R193). -/
def spEnsWeightTau : Special where
  entry := E.ensWeightTau
  apply c s := (s.set E.ensWeightTau 0 c.v).ensembleRefresh

/-- ENSEMBLE_UPDATE (R184, R187 to R196): at each whole second, before the loop update. The residue y_OSC carries is checked (R26): a
mismatch discards the update (R30). -/
def execEnsembleUpdate (t res : Nat) (s : State) : Host.Outcome State Fault Refusal :=
  timed t s fun s =>
    if ¬ s.atSecond then s
    else
      let s' := s.ensembleSecond
      if residue (be 8 (wordOfInt s'.yew.yOsc).toNat) = res then s'.sendIncr else s.yewResidue
/-- MODEL_REFIT (R188): every 3,600 s, a member that has completed PROBATION takes a model from its Allan deviation against the
ensemble. -/
def execModelRefit (t : Nat) (m : Fin 5) (a b d : Nat) (s : State) : Host.Outcome State Fault Refusal :=
  timed t s fun s =>
    let x := s.member m
    if x.probated ∧ x.refit + ticksS 3600 ≤ s.now ∧ Config.allanFit (s.allan m) = (a, b, d) then
      let s := s.setMember m { x with d := d, refit := s.now }
      ((s.set E.ensSigmaA m a).set E.ensSigmaB m b).ensembleRefresh
    else s
/-- AMBIGUITY_CLOSE (R192): every measured innovation has stayed within the limit for 600 s. -/
def execAmbiguityClose (t : Nat) (s : State) : Host.Outcome State Fault Refusal :=
  timed t s fun s =>
    if s.yew.ambiguous ∧ s.yew.withinSince + ticksS 600 ≤ s.now then
      let s := { s with yew := { s.yew with ambiguous := false } }
      let s := (List.range 5).foldl (fun s m => if s.n E.ensCause m = 4 then s.set E.ensCause m 0 else s) s
      (s.deassert 18).ensembleRefresh
    else s

/-- The special entries of this chapter. -/
def yewSpecials : List Special :=
  [spLoopBw, spLoopDamp, spYewTrackWindow, spYewTrackMargin, spYewTrackInit, spEnsEnable, spEnsClass, spEnsNominal, spEnsWeightMode, spEnsMinMembers, spEnsWeightMax,
   spEnsWeightTau]

end Sys2Proof.Machine
end

