-- ==== Sys2Proof/Machine/Synthesis.lean ====
section
/-! DEFINITION. MDLLs, the bypass multiplexer, CLKOUT, PPSOUT and the Time Lanes (R220 to R246). -/

namespace Sys2Proof.Machine

/-! ### Counter channels as their consumers see them (R203, R210) -/

/-- The nominal frequency of a channel in Hz (R210): `REF_NOMINAL` of the slot that binds the REFIN, else of the MDLL it feeds,
`ENS_NOMINAL` of the member; 1 Hz for PPSIN and the GNSS pulse, 1 kHz for OSCIN; 0 where none is stated. -/
def State.chNominal (s : State) (c : Nat) : Nat :=
  if c < 4 then 1
  else if c < 12 then
    match (List.range 32).find? (fun n => decide (s.n E.refSource n = 4 * 256 + (c - 4))) with
    | some n => s.n E.refNominal n
    | none =>
      match (List.range 4).find? (fun m => decide ((s.mdll m).ref = c - 3)) with
      | some m => (s.mdll m).refHz
      | none => E.refNominal.dflt
  else if c < 16 then s.n E.ensNominal (c - 11)
  else if c < 24 then 0
  else if c = 24 then 1 else 1000
/-- P of a channel (R210). -/
def State.prescale (s : State) (c : Nat) : Nat := if 4 ≤ c ∧ c < 16 then prescaleFrom (s.chNominal c) 1 8 else 1
/-- The nominal period of a channel's stamped edges in fs. -/
def State.chPeriodFs (s : State) (c : Nat) : Nat := s.prescale c * 10 ^ 15 / max 1 (s.chNominal c)

/-! ### MDLLs (R220 to R226) -/

/-- `MDLL_ENABLE` (R223, R225). -/
def spMdllEnable : Special where
  entry := E.mdllEnable
  codes c s := if c.v = 0 ∧ s.n E.tlMdll = c.i then [0xA] else []
  apply c s :=
    let m := c.i
    let s := s.set E.mdllEnable m c.v
    let x := s.mdll m
    if c.v = 0 then
      if s.n E.mdllState m = 0 then s
      else ((((s.fed m).foldl State.toBypass (s.setMdll m { x with stopping := true }))).mdllSettle m).lockEvents
    else if s.n E.mdllState m = 0 then (s.takeReference m).acquire m
    else if x.stopping then ((s.setMdll m { x with stopping := false }).acquire m).lockEvents
    else s
/-- MDLL_ENABLE. -/
def execMdllEnable (t : Nat) (m : Master) (i : Fin 4) (v : Word) (s : State) : Host.Outcome State Fault Refusal :=
  writeRow spMdllEnable t m i [v] s
/-- `MDLL_MULT_N` (R220): staged until the next F. -/
def spMdllMultN : Special where
  entry := E.mdllMultN
/-- MDLL_MULT_N. -/
def execMdllMultN (t : Nat) (m : Master) (i : Fin 4) (v : Word) (s : State) : Host.Outcome State Fault Refusal :=
  writeRow spMdllMultN t m i [v] s
/-- 1 MHz in 2⁻³² Hz. -/
def mhz32 : Nat := 10 ^ 6 * 2 ^ 32
/-- `MDLL_MULT_F` (R220, R225): applies the ratio. -/
def spMdllMultF : Special where
  entry := E.mdllMultF
  codes c s :=
    let f := vcoOf (s.refFreq (s.n E.mdllRef c.i) (s.n E.mdllRefHz c.i)) (s.n E.mdllMultN c.i) c.v
    (if 3200 * mhz32 ≤ f ∧ f ≤ 6400 * mhz32 then [] else [7]) ++ (if s.n E.tlMdll = c.i then [0xA] else [])
  apply c s :=
    let m := c.i
    let s := s.set E.mdllMultF m c.v
    let s := s.setMdll m { s.mdll m with retune := some (s.n E.mdllMultN m, c.v) }
    (((s.fed m).foldl State.toBypass s).mdllSettle m).lockEvents
/-- MDLL_MULT_F. -/
def execMdllMultF (t : Nat) (m : Master) (i : Fin 4) (v : Word) (s : State) : Host.Outcome State Fault Refusal :=
  writeRow spMdllMultF t m i [v] s
/-- The expected count of a window (R224). -/
def State.expectCount (s : State) (m : Nat) (wraps : Int) : Int :=
  let r := s.ratio m
  roundDiv ((r.1 * 2 ^ 32 + r.2 : Nat) : Int) (2 ^ 16) + wraps
/-- A span in 2⁻⁵⁶ ns as whole periods of a VCO at 2⁻³² Hz, rounded up. -/
def vcoPeriods (vco : Nat) (x : Int) : Int := -Int.fdiv (-x * vco) (10 ^ 9 * 2 ^ 88)
/-- The copy's instant that the DTC counts from, as a retard in progress has displaced it (R221). -/
def State.dtcOrigin (s : State) (m : Nat) : Int :=
  (s.mdll m).origin - (if s.privet.retarding then (s.privet.retardFull - s.privet.retard : Nat) else 0 : Nat)
/-- How late a reference edge at an instant of the island's copy is against its place at Privet's rate (R221), after `cycles`. -/
def State.dtcLate (s : State) (m cycles at_ : Nat) : Int :=
  let x := s.mdll m
  (at_ : Int) - s.dtcOrigin m - (cycles * (10 ^ 9 * 2 ^ 56) / max 1 (s.refFreq x.ref x.refHz) : Nat)
/-- The DTC at the edge that ends a window (R221, R224): the edge is delayed, in steps of 0.5 ps, into the next VCO cycle; the whole
VCO periods it has been moved by are kept. -/
def State.dtcWindow (s : State) (m lead edge : Nat) : Mdll :=
  let x := s.mdll m
  let origin := x.origin + (if x.cycles = 0 then lead * s.privet.incr / 2000000 else 0 : Nat)
  let s := s.setMdll m { x with origin := origin }
  let late := s.dtcLate m (x.cycles + 65536) (s.stamp56 (0x200 + m) edge)
  let wraps := vcoPeriods (s.vco m) late
  let delay := Int.tdiv (wraps * (10 ^ 9 * 2 ^ 88)) (max 1 (s.vco m) : Nat) - late
  { x with origin := origin, cycles := x.cycles + 65536, wraps := wraps, dtc := (delay * 2000 / 2 ^ 56).toNat }
/-- MDLL_WINDOW (R224, R229): a window of 2¹⁶ reference cycles ends with an edge `edge` fs after the tick; the first window since the
VCO was started begins `lead` fs after that start. Lock on the third window in a row within ±1, loss of lock outside ±4. -/
def execMdllWindow (t : Nat) (i : Fin 4) (count : Nat) (w : WindowObs) (s : State) : Host.Outcome State Fault Refusal :=
  timed t s fun s =>
    let m := i.val
    let st := s.n E.mdllState m
    if st = 0 ∨ st = 4 then s
    else
      let was := (s.mdll m).wraps
      let x := s.dtcWindow m w.lead w.edge
      let err := (count : Int) - s.expectCount m (x.wraps - was)
      let s := s.setInt E.mdllCountErr m (max (-2 ^ 31) (min err (2 ^ 31 - 1)))
      let good := if err.natAbs ≤ 1 then x.good + 1 else 0
      let s := s.setMdll m { x with good := good }
      if st = 1 then
        if 3 ≤ good ∧ x.retune.isNone ∧ ¬ x.stopping then s.set E.mdllState m 2 else s
      else if 4 < err.natAbs then ((s.bump E.mdllLockLosses m).acquire m).lockEvents
      else s
/-- The lanes realign together when their MDLL has come back (R243). -/
def State.lanesRealign (s : State) : State :=
  (List.range 8).foldl (fun s l => if s.flag E.tlEnable l then s.laneRealign l else s) s
/-- MDLL_ALIGNED (R226, R223): the MDLL is LOCKED and its outputs may return. -/
def execMdllAligned (t : Nat) (i : Fin 4) (phaseErr : Int) (s : State) : Host.Outcome State Fault Refusal :=
  timed t s fun s =>
    let m := i.val
    if s.n E.mdllState m = 2 then
      let s := (s.set E.mdllState m 3).setInt E.mdllPhaseErr m (max (-2 ^ 31) (min phaseErr (2 ^ 31 - 1)))
      let s := (s.fed m).foldl (fun s k => if s.mayRun k then s.toMdll k else s) s
      if s.n E.tlMdll = m then s.lanesRealign else s
    else s
/-- MDLL_RETURN_HOLD (R223): the reference has passed its monitors for the hold without a break. -/
def execMdllReturnHold (t : Nat) (i : Fin 4) (s : State) : Host.Outcome State Fault Refusal :=
  timed t s fun s =>
    let m := i.val
    let x := s.mdll m
    if s.n E.mdllState m = 4 ∧ ¬ x.refBad ∧ x.refOkSince + ticksMs (s.n E.mdllReturnHold m) ≤ s.now then s.acquire m else s
/-- A reference monitor of an MDLL fails (R223, R224). -/
def State.mdllRefFail (s : State) (m : Nat) : State :=
  let s := s.setMdll m { s.mdll m with refBad := true, refOkSince := s.now }
  let st := s.n E.mdllState m
  if st = 0 ∨ st = 4 then s else (s.mdllLeave m 4).lockEvents
/-- A reference monitor of an MDLL passes. -/
def State.mdllRefPass (s : State) (m : Nat) : State :=
  let x := s.mdll m
  if x.refBad then s.setMdll m { x with refBad := false, refOkSince := s.now } else s
/-- The MDLLs whose reference is a counter channel (R220, R224). -/
def State.mdllsOn (s : State) (c : Nat) : List Nat :=
  (List.range 4).filter (fun m => decide (4 ≤ c ∧ c < 12 ∧ (s.mdll m).ref = c - 3))

/-! ### CLKOUT (R227 to R232) -/

/-- A change of divisor or source passes through bypass (R225, R230). -/
def State.clkChange (s : State) (k : Nat) : State :=
  if (s.clkout k).onMdll then s.toBypass k
  else
    let s := (s.setClkout k { s.clkout k with armed := none }).clkTake k
    if s.mayRun k then s.toMdll k else s
/-- `CLKOUT_DIV` (R230). -/
def spClkoutDiv : Special where
  entry := E.clkoutDiv
  codes c s :=
    let v := s.vcoNext (s.n E.clkoutSrc c.i)
    if c.v * 1000 * 2 ^ 32 ≤ v ∧ v ≤ c.v * 800 * mhz32 then [] else [7]
  apply c s := (s.set E.clkoutDiv c.i c.v).clkChange c.i
/-- CLKOUT_DIV. -/
def execClkoutDiv (t : Nat) (m : Master) (k : Fin 16) (v : Word) (s : State) : Host.Outcome State Fault Refusal :=
  writeRow spClkoutDiv t m k [v] s
/-- `CLKOUT_SRC` (R230). -/
def spClkoutSrc : Special where
  entry := E.clkoutSrc
  apply c s := (s.set E.clkoutSrc c.i c.v).clkChange c.i
/-- P_out of an output as a fraction in units of 2⁻⁵⁶ ns. -/
def State.clkPeriod (s : State) (k : Nat) : Nat × Nat :=
  let x := s.clkout k
  (x.div * 2 ^ 32 * (10 ^ 9 * 2 ^ 56), max 1 (s.vco x.src))
/-- `CLKOUT_PHASE` (R231, R246): 0 to P_out − 1, in force from the next restart. -/
def spClkoutPhase : Special where
  entry := E.clkoutPhase
  codes c s :=
    if c.v * s.vco (s.n E.clkoutSrc c.i) < s.n E.clkoutDiv c.i * 2 ^ 32 * 10 ^ 12 then [] else [7]
/-- `CLKOUT_ENABLE` (R246, R223): an undriven output has left its MDLL. -/
def spClkoutEnable : Special where
  entry := E.clkoutEnable
  apply c s :=
    let k := c.i
    let s := s.set E.clkoutEnable k c.v
    if c.v = 0 then ((s.clkDrop k).mdllsSettle).lockEvents
    else if (s.clkout k).onMdll then s
    else
      let s := (s.setClkout k { s.clkout k with armed := none, stopped := s.clkStopped }).clkTake k
      if s.mayRun k then s.toMdll k else s
/-- `QUIET_CLOCKS` (R77): acts on the outputs while the Quiet state lasts. -/
def spQuietClocks : Special where
  entry := E.quietClocks
  apply c s :=
    let s := s.set E.quietClocks 0 c.v
    if s.n E.bootStage < 8 then
      (List.range 16).foldl (fun s k => (s.setClkout k { s.clkout k with stopped := s.clkStopped }).clkRefresh k) s
    else s
/-- The Quiet state has ended: clocks run as their lock state allows (R79). -/
def State.clkQuietEnd (s : State) : State :=
  (List.range 16).foldl (fun s k =>
    let s := (s.setClkout k { s.clkout k with stopped := s.clkStopped }).clkRefresh k
    if s.mayRun k then s.toMdll k else s) s
/-- BYPASS_SWITCH (R227 to R229): the armed switch is made; on bypass what waited for it is applied. -/
def execBypassSwitch (t : Nat) (k : Fin 16) (s : State) : Host.Outcome State Fault Refusal :=
  timed t s fun s =>
    let x := s.clkout k
    let s := if x.armed.isSome then s.perfEvent 0x203 k else s
    match x.armed with
    | none => s
    | some true =>
      let s := s.setClkout k { x with onMdll := true, armed := none, former := 0 }
      let s := (s.bump E.synBypassSwitches).clkRefresh k
      s.set E.clkoutStatus k (ofBool (s.onGrid k) * (2 + ofBool (decide (x.shift = 0))))
    | some false =>
      let s := s.setClkout k { x with onMdll := false, armed := none }
      let s := (((s.bump E.synBypassSwitches).clkTake k).mdllSettle x.src).lockEvents
      if s.mayRun k then s.toMdll k else s
/-- The phase of an output on the grid: `CLKOUT_PHASE` at the nearest half VCO period, in 2⁻⁵⁶ ns (R231). -/
def State.clkPhase (s : State) (k : Nat) : Nat :=
  let x := s.clkout k
  let v := max 1 (s.vco x.src)
  let n := (4 * x.phase * v / (2 ^ 32 * 10 ^ 12) + 1) / 2
  n * 2 ^ 32 * (10 ^ 9 * 2 ^ 56) / (2 * v)
/-- The first rising edge at or after an instant of an output on the grid, with its displacement (R231, R232), in 2⁻¹⁶ ns. -/
def State.clkEdge (s : State) (k : Nat) (second : Nat) : T96 :=
  let (num, den) := s.clkPeriod k
  let from' := ((s.clkPhase k : Int) + (s.clkout k).shift) * den
  let want : Int := (second * 2 ^ 40 : Nat) * den
  let n := -Int.fdiv (from' - want) num
  (Int.fdiv (from' + n * num) (den * 2 ^ 40)).toNat
/-- CLKOUT_EDGE_REPORT (R231, R124, R125): at a whole second, the first edge at or after it, computed where the output is on the grid
and as the island's copy has it, `edge` fs after the tick, where it is not; unbounded while that copy is UNSYNC. -/
def execClkoutEdgeReport (t : Nat) (k : Fin 16) (edge : Nat) (s : State) : Host.Outcome State Fault Refusal :=
  timed t s fun s =>
    if s.atSecond ∧ s.n E.clkoutState k = 4 then
      let island := 0x200 + (s.clkout k).src
      let at' := if s.onGrid k then s.clkEdge k (s.tai / ofSec 1 * ofSec 1) else s.stampAt island edge
      let b := if s.unsync island then 0xFFFFFFFF else s.emitted 25
      let s := (s.setT96 E.clkoutEdgeTime k at').set E.clkoutEdgeBound k b
      (s.noteOut b).emit (.clock k at' b)
    else s
/-- Every output on the grid goes through bypass and restarts; one whose return is armed restarts at once (R232). -/
def State.clksRealign (s : State) : State :=
  (List.range 16).foldl (fun s k =>
    if ¬ s.onGrid k then s
    else if (s.clkout k).onMdll then s.clkRealign k
    else if (s.clkout k).armed = some true then s.toMdll k else s) s
/-- `SYN_REALIGN` (R232): every grid output and the lane group. -/
def spSynRealign : Special where
  entry := E.synRealign
  codes c _ := if c.v = 1 then [] else [7]
  apply _ s := s.clksRealign.lanesRealign
/-- SYN_REALIGN. -/
def execSynRealign (t : Nat) (m : Master) (s : State) : Host.Outcome State Fault Refusal :=
  writeRow spSynRealign t m 0 [1] s
/-- A step, or a completed retard, by `d` in 2⁻⁵⁶ ns as the clocks and lanes take it (R232, R241): displaced edges, ALIGNED 0, and
the realignment where it is called for. -/
def State.synthStep (s : State) (d : Int) (firstLock : Bool) : State :=
  let s := (List.range 16).foldl (fun s k =>
    let x := s.clkout k
    if x.onMdll then
      let s := s.setClkout k { x with shift := x.shift + d }
      s.set E.clkoutStatus k (ofBool (s.onGrid k) * 2)
    else if x.armed = some true then s.setClkout k { x with shift := x.shift + d }
    else s) s
  let s := (List.range 4).foldl (fun s m => s.setMdll m { s.mdll m with origin := (s.mdll m).origin + d }) s
  let s := (List.range 8).foldl (fun s l => s.setLane l { s.lane l with offset := (s.lane l).offset + d }) s
  if firstLock ∨ s.flag E.synRealignOnStep then s.clksRealign.lanesRealign else s
/-- A step or a retard start marks the next frame of every lane (R240). -/
def State.lanesStepped (s : State) : State :=
  (List.range 8).foldl (fun s l => if s.flag E.tlEnable l then s.setLane l { s.lane l with stepped := true } else s) s

/-! ### PPSOUT (R233 to R237) -/

/-- An instant in 2⁻¹⁶ ns as picoseconds, rounded to nearest, halves up (R236). -/
def psNearest (x : T96) : Nat := (2 * x * 1000 + 65536) / (2 * 65536)
/-- Picoseconds as 2⁻¹⁶ ns, truncated. -/
def t96OfPs (p : Nat) : T96 := p * 65536 / 1000
/-- Privet's instant now in whole ps. -/
def State.nowPs (s : State) : Nat := s.privet.time * 1000 / 2 ^ 56
/-- The pulse island that places an output's edges (log 11). -/
def pulseIsland (p : Nat) : Nat := 0x204 + p / 4
/-- The copy an output's edges are placed from, now, in 2⁻⁵⁶ ns (R233). -/
def State.ppsCopy (s : State) (p : Nat) : Nat := s.copy56 (leafFor (pulseIsland p))
/-- An instant in ps falls in the tick that begins now, in the copy of the output's island (R233). -/
def State.inTick (s : State) (p x : Nat) : Bool :=
  decide (s.ppsCopy p * 1000 ≤ x * 2 ^ 56 ∧
    x * 2 ^ 56 < s.copyNext56 (leafFor (pulseIsland p)) (privetRun s.privet s.now 1).time * 1000)
/-- The bound of an edge placed by the island (R236, R237). -/
def State.ppsBound (s : State) (p : Nat) : Bound :=
  if s.unsync (pulseIsland p) ∨ s.n E.ppsMode p = 3 then 0xFFFFFFFF else s.emitted 25
/-- The fault source of the pulse islands follows their copies (R236, R414). -/
def State.pulseFault (s : State) : State :=
  let out (i : Nat) := s.unsync (0x204 + i) && (List.range 4).any (fun p => decide (s.n E.ppsState (4 * i + p) ≠ 0))
  if out 0 ∨ out 1 then s.raise 129 none (if out 0 then 0x204 else 0x205) else s.deassert 129
/-- An edge is placed at the ball (R233, R236): the active level or the inactive one. -/
def State.ppsPlace (s : State) (p at_ : Nat) (active : Bool) : State :=
  let b := s.ppsBound p
  let s := (s.setT96 E.ppsLastEdge p (t96OfPs at_)).set E.ppsLastBound p b
  let s := (s.setPulse p { s.pulse p with active := active }).perfEvent 0x201 p
  let high := if s.n E.ppsPolarity p = 0 then active else !active
  (if s.n E.ppsMode p = 3 then s else s.noteOut b).emit (.pulse p high (t96OfPs at_) b)
/-- Out of tolerance with squelch on (R133). -/
def State.ppsSquelch (s : State) : Bool := s.bound.oot && s.flag E.pulseSquelch
/-- A leading edge with its width (R233): placed where the output drives; squelch stops it, and lets it resume. -/
def State.ppsLead (s : State) (p at_ width : Nat) : State :=
  if at_ < (s.pulse p).notBefore then s else
  let s := (s.setPulse p { s.pulse p with squelched := s.ppsSquelch }).ppsRefresh p
  if s.n E.ppsState p = 0 ∨ s.holly.safe then s
  else
    let s := s.ppsPlace p at_ true
    s.setPulse p { s.pulse p with trail := some (at_ + width) }
/-- The programmed leading edge that falls in this tick (R233, R234). -/
def State.ppsGrid (s : State) (p : Nat) : Option Nat :=
  let per := max 1 (s.n E.ppsPeriod p)
  let off := s.int E.ppsOffset p
  let k := Int.fdiv ((s.ppsCopy p * 1000 / 2 ^ 56 : Nat) + per - off : Int) per
  [k - 1, k, k + 1].map (fun j => (j * per + off).toNat) |>.find? (fun x => s.inTick p x && decide ((s.pulse p).notBefore ≤ x))
/-- PPS_EDGE (R233 to R237, R133, R244): the trailing edge of the pulse in progress, then the leading edge that falls in this
tick, programmed or in follow mode. -/
def execPpsEdge (t : Nat) (p : Fin 8) (s : State) : Host.Outcome State Fault Refusal :=
  timed t s fun s =>
    let s := match (s.pulse p).trail with
      | some x => if s.inTick p x then
          let s := s.setPulse p { s.pulse p with trail := none }
          if s.n E.ppsState p = 0 ∨ s.holly.safe then s else s.ppsPlace p x false
        else s
      | none => s
    let s := match s.n E.ppsMode p with
      | 1 =>
        match s.ppsGrid p with
        | some x => s.ppsLead p x (s.n E.ppsWidth p)
        | none => s
      | 3 =>
        match (s.pulse p).follow.find? (s.inTick p) with
        | some x =>
          let width := min (s.n E.ppsWidth p) (s.chPeriodFs (s.n E.ppsFollowCh p) / 1000 - 4000)
          (s.setPulse p { s.pulse p with follow := (s.pulse p).follow.filter (fun y => decide (x < y)) }).ppsLead p x width
        | none => s
      | _ => s
    s.pulseFault
/-- `PPS_MODE` (R233): a new mode starts with no pulse in progress, undriven until its first edge (log 123). -/
def spPpsMode : Special where
  entry := E.ppsMode
  apply c s :=
    let p := c.i
    let s := (s.set E.ppsMode p c.v).setPulse p
      { (s.pulse p) with active := false, trail := none, notBefore := max (s.pulse p).notBefore s.nowPs, follow := [],
                         squelched := true, lost := false, source := s.now }
    (s.ppsRefresh p).pulseFault
/-- A change of the grid starts with the first new edge 8 ns after the pulse in progress or the write (R234). -/
def State.ppsChanged (s : State) (p : Nat) : State :=
  let x := s.pulse p
  if s.n E.ppsMode p = 1 then
    s.setPulse p { x with notBefore := max x.notBefore (x.trail.getD s.nowPs + 8000) }
  else s
/-- `PPS_PERIOD` (R233, R234). -/
def spPpsPeriod : Special where
  entry := E.ppsPeriod
  codes c s := if c.v < s.n E.ppsWidth c.i + 4000 then [7] else []
  apply c s := (s.set E.ppsPeriod c.i c.v).ppsChanged c.i
/-- `PPS_OFFSET` (R234). -/
def spPpsOffset : Special where
  entry := E.ppsOffset
  apply c s := (s.setInt E.ppsOffset c.i c.int).ppsChanged c.i
/-- `PPS_WIDTH` (R233, R234). -/
def spPpsWidth : Special where
  entry := E.ppsWidth
  codes c s := if s.n E.ppsPeriod c.i < c.v + 4000 then [7] else []
  apply c s := (s.set E.ppsWidth c.i c.v).ppsChanged c.i
/-- `PPS_FOLLOW_CH` (R237). -/
def spPpsFollow : Special where
  entry := E.ppsFollowCh
  apply c s := (s.set E.ppsFollowCh c.i c.v).setPulse c.i { s.pulse c.i with follow := [], lost := false, source := s.now }
/-- `SYN_SAFE_PULSES` (R245). -/
def spSafePulses : Special where
  entry := E.synSafePulses
  apply c s := (s.set E.synSafePulses 0 c.v).ppsRefreshAll
/-- A forward step by `d` in ps from the instant `from'` (R235): skipped programmed edges are counted, follow-mode edges inside it
are not placed, and a pulse in progress completes its width. -/
def State.pulsesStep (s : State) (from' d : Nat) : State :=
  (List.range 8).foldl (fun s p =>
    let x := s.pulse p
    let x := { x with trail := x.trail.map (· + d), follow := x.follow.filter (fun y => decide (from' + d ≤ y)) }
    let s := s.setPulse p x
    if s.n E.ppsMode p = 1 ∧ s.n E.ppsState p = 1 then
      let per : Int := max 1 (s.n E.ppsPeriod p)
      let off := s.int E.ppsOffset p
      let edges (y : Int) := Int.fdiv (y - 1 - off) per
      s.bump E.ppsSkipped p (edges ((from' + d : Nat) : Int) - edges from').toNat
    else s) s
/-- A schedule slot's action on its output in scheduled mode (R80, R111, R114, R236): the instant it happens at. -/
def State.ppsSched (s : State) (slot kind : Nat) (act : State → Nat → Nat → State) : State :=
  s.schedAct slot kind fun x s =>
    let p := s.schedTarget slot
    let at' := psNearest (if x.stepped then s.copy (pulseIsland p) else x.at_)
    let b := s.ppsBound p
    let on := decide (s.n E.ppsMode p = 2 ∧ (s.pulse p).notBefore ≤ at')
    let s := if on then (s.setPulse p { s.pulse p with squelched := s.ppsSquelch }).ppsRefresh p else s
    let s := if on ∧ s.n E.ppsState p ≠ 0 ∧ ¬ s.holly.safe then act s p at' else s
    (s.schedPerform slot x b).pulseFault
/-- PPSOUT_SET (R111): drives the output high. -/
def execPpsoutSet (t : Nat) (slot : Fin 256) (s : State) : Host.Outcome State Fault Refusal :=
  timed t s fun s => s.ppsSched slot 2 (fun s p x => s.ppsPlace p x (decide (s.n E.ppsPolarity p = 0)))
/-- PPSOUT_CLEAR (R111): drives the output low. -/
def execPpsoutClear (t : Nat) (slot : Fin 256) (s : State) : Host.Outcome State Fault Refusal :=
  timed t s fun s => s.ppsSched slot 3 (fun s p x => s.ppsPlace p x (decide (s.n E.ppsPolarity p ≠ 0)))
/-- PPSOUT_PULSE (R111): one pulse of `PPS_WIDTH`. -/
def execPpsoutPulse (t : Nat) (slot : Fin 256) (s : State) : Host.Outcome State Fault Refusal :=
  timed t s fun s => s.ppsSched slot 4 (fun s p x => s.ppsLead p x (s.n E.ppsWidth p))
/-- A stamped edge of a followed channel with its period in ps (R237): the leading edge at least 2 µs after the stamp. -/
def State.ppsFollowEdge (s : State) (p : Nat) (stamp : T96) (period : Nat) : State :=
  let base : Int := (psNearest stamp : Int) + s.int E.ppsOffset p
  let per : Int := max 1 period
  let n := max 0 (-Int.fdiv (s.int E.ppsOffset p - 2000000) per)
  let x := s.pulse p
  (s.setPulse p { x with follow := x.follow ++ [(base + n * per).toNat], source := s.now, lost := false }).ppsRefresh p
/-- The source of a follow-mode output has stopped (R237). -/
def State.ppsSourceLost (s : State) (p : Nat) : State :=
  (s.setPulse p { s.pulse p with follow := [], lost := true }).ppsRefresh p

/-! ### Time Lanes (R238 to R243) -/

/-- 5,156.25 MHz in 2⁻³² Hz (R238). -/
def laneVco : Nat := 515625 * 10 ^ 4 * 2 ^ 32
/-- `TL_MDLL` (R238). -/
def spTlMdll : Special where
  entry := E.tlMdll
  codes c s := if s.vcoNext c.v = laneVco then [] else [7]
  apply c s :=
    let s := s.set E.tlMdll 0 c.v
    if s.n E.mdllState c.v = 3 then s.lanesRealign else s
/-- The reason a lane's frame is invalid; 0 when it is valid (R242). -/
def State.laneReason (s : State) (l : Nat) : Nat :=
  if s.n E.bootStage < 8 then 1 else if s.holly.safe then 2 else if s.unsync (0x206 + l) then 3
  else if (s.lane l).realigning then 4 else if (s.lane l).unlocked then 5
  else if s.n E.mdllState (s.n E.tlMdll) ≠ 3 then 6 else 0
/-- `TL_STATE` and `TL_REASON` follow (R246). -/
def State.laneRefresh (s : State) (l : Nat) : State :=
  let r := s.laneReason l
  if s.flag E.tlEnable l then
    (s.set E.tlState l (if r = 0 then 2 else if r = 4 then 1 else 3)).set E.tlReason l r
  else (s.set E.tlState l 0).set E.tlReason l 0
/-- `TL_ENABLE` (R238). -/
def spTlEnable : Special where
  entry := E.tlEnable
  apply c s :=
    let s := s.set E.tlEnable c.i c.v
    (if c.v = 0 then s.setLane c.i { scrambler := (s.lane c.i).scrambler } else s).laneRefresh c.i
/-- The instant a lane's frame that starts in this tick names (R241): on the grid of 204.8 ns, displaced as the lane is. -/
def State.laneInstant (s : State) (l : Nat) : T96 :=
  let p5 : Nat := 1024 * 2 ^ 56
  let t5 : Nat := 5 * (s.copyNext56 (10 + l) (privetRun s.privet s.now 1).time - 1)
  let o5 := (Int.emod (5 * (s.lane l).offset) p5).toNat
  if t5 < o5 then 0 else (o5 + (t5 - o5) / p5 * p5) / (5 * 2 ^ 40)
/-- The 25 bytes of a lane's frame (R240, R242). -/
def State.laneFrame (s : State) (l : Nat) : List Byte :=
  let r := s.laneReason l
  let x := s.lane l
  let status := ofBool (decide (r = 0)) + 2 * ofBool (decide (x.offset = 0)) + 4 * ofBool (!s.flag E.firstLock) +
    8 * ofBool s.bound.hold.isSome + 16 * ofBool s.bound.oot + 32 * ofBool x.stepped + 64 * ofBool s.privet.retarding +
    128 * ofBool s.freqSlot.isSome
  let named := if r = 0 then t96Bytes (s.laneInstant l) ++ be 4 (s.emitted 30) else zeros 12 ++ be 4 0xFFFFFFFF
  let body := be 1 0x54 ++ be 1 (0x10 + l) ++ be 2 (s.n E.tlGroupSeq) ++ named ++ be 1 status ++
    be 1 (r * 16 + s.leapState) ++ be 1 ((s.taiUtc % 256).toNat)
  body ++ be 2 (crc16 0x1021 0xFFFF body)
/-- Bytes as a block's payload: lowest byte first, each least significant bit first (R239); bit 0 is sent first. -/
def payloadOf : List Byte → Nat
  | [] => 0
  | b :: r => b.toNat + 256 * payloadOf r
/-- The 32 blocks of a frame period before scrambling: sync header and payload (R239). -/
def laneBlocks (b : List Byte) : List (Nat × Nat) :=
  [(2, payloadOf (0x78#8 :: b.take 7)), (1, payloadOf ((b.drop 7).take 8)), (1, payloadOf ((b.drop 15).take 8)),
   (2, payloadOf (0xAA#8 :: (b.drop 23).take 2))] ++ List.replicate 28 (2, 0x1E)
/-- The self-synchronising scrambler 1 + x³⁹ + x⁵⁸ over `n` bits of a payload (R239): what is sent, and the 58 bits it holds after,
the latest lowest. -/
def scramble : Nat → Nat → Nat → Nat × Nat
  | 0, _, s => (0, s)
  | n + 1, x, s =>
    let o := (x % 2 + s / 2 ^ 38 + s / 2 ^ 57) % 2
    let r := scramble n (x / 2) ((2 * s + o) % 2 ^ 58)
    (o + 2 * r.1, r.2)
/-- Blocks as they are sent: only payloads are scrambled. -/
def scrambled : List (Nat × Nat) → Nat → List (Nat × Nat) × Nat
  | [], s => ([], s)
  | (h, x) :: l, s =>
    let p := scramble 64 x s
    let r := scrambled l p.2
    ((h, p.1) :: r.1, r.2)
/-- One lane sends its frame. -/
def State.laneSend (s : State) (l : Nat) : State :=
  if ¬ s.flag E.tlEnable l then s
  else
    let s := s.laneRefresh l
    let r := s.laneReason l
    let b := s.laneFrame l
    let x := s.lane l
    let (blocks, scr) := scrambled (laneBlocks b) x.scrambler
    let s := s.setLane l
      { x with stepped := false, sent := if x.realigning then x.sent + 1 else x.sent, scrambler := scr }
    let s := if r = 0 then s.noteOut (s.emitted 30) else s.bump E.tlInvalidFrames l
    (s.perfEvent 0x202 l).emit (.lane l b blocks)
/-- TL_FRAME (R239 to R242): every enabled lane sends its frame with the group SEQ. -/
def execTlFrame (t : Nat) (s : State) : Host.Outcome State Fault Refusal :=
  timed t s fun s => (List.range 8).foldl State.laneSend (s.set E.tlGroupSeq 0 ((s.n E.tlGroupSeq + 1) % 65536))
/-- TL_UNDERRUN (R243): counted, and the lane realigns alone. -/
def execTlUnderrun (t : Nat) (l : Fin 8) (s : State) : Host.Outcome State Fault Refusal :=
  timed t s fun s => if s.flag E.tlEnable l then ((s.bump E.tlUnderruns l).laneRealign l).laneRefresh l else s
/-- TL_CLOCK_LOSS (R243). -/
def execTlClockLoss (t : Nat) (l : Fin 8) (s : State) : Host.Outcome State Fault Refusal :=
  timed t s fun s =>
    if s.flag E.tlEnable l then
      ((s.bump E.tlClockLosses l).setLane l { s.lane l with unlocked := true, realigning := false }).laneRefresh l
    else s
/-- TL_CLOCK_RETURN (R243): the lane restarts its block stream at the next grid instant. -/
def execTlClockReturn (t : Nat) (l : Fin 8) (s : State) : Host.Outcome State Fault Refusal :=
  timed t s fun s =>
    if (s.lane l).unlocked then ((s.setLane l { s.lane l with unlocked := false }).laneRealign l).laneRefresh l else s
/-- TL_REALIGN_END (R243): 64 INVALID frames have been sent. -/
def execTlRealignEnd (t : Nat) (l : Fin 8) (s : State) : Host.Outcome State Fault Refusal :=
  timed t s fun s =>
    if (s.lane l).realigning ∧ 64 ≤ (s.lane l).sent then
      (s.setLane l { s.lane l with realigning := false }).laneRefresh l
    else s

/-- The special entries of this chapter, with `QUIET_CLOCKS`. -/
def synthSpecials : List Special :=
  [spMdllEnable, spMdllMultN, spMdllMultF, spClkoutDiv, spClkoutSrc, spClkoutPhase, spClkoutEnable, spQuietClocks,
   spSynRealign, spPpsMode, spPpsPeriod, spPpsOffset, spPpsWidth, spPpsFollow, spSafePulses, spTlMdll, spTlEnable]

end Sys2Proof.Machine
end

