-- ==== Sys2Proof/Machine/Counters.lean ====
section
/-! DEFINITION. The vernier interval counters: banks, conversions, stamps, periods, pairs, monitors and consumers (R203 to
R219). -/

namespace Sys2Proof.Machine

/-- Channel `c` beside its entries. -/
def State.chan (s : State) (c : Nat) : Channel := tabGet {} c s.counters.channels
/-- Sets channel `c`. -/
def State.setChan (s : State) (c : Nat) (x : Channel) : State :=
  { s with counters := { s.counters with channels := tabPut {} c x s.counters.channels } }
/-- Pair unit `u` beside its entries. -/
def State.pairUnit (s : State) (u : Nat) : PairUnit := tabGet {} u s.counters.pairs
/-- Sets pair unit `u`. -/
def State.setPairUnit (s : State) (u : Nat) (x : PairUnit) : State :=
  { s with counters := { s.counters with pairs := tabPut {} u x s.counters.pairs } }
/-- Bank `b`. -/
def State.bank (s : State) (b : Nat) : Bank := tabGet {} b s.counters.banks
/-- Sets bank `b`. -/
def State.setBank (s : State) (b : Nat) (x : Bank) : State :=
  { s with counters := { s.counters with banks := tabPut {} b x s.counters.banks } }

/-- A channel's source is fitted (R203). -/
def State.chanFitted (s : State) (c : Nat) : Bool :=
  !(decide (c = 14 ∨ c = 15) && !s.present 3) && !(decide (c = 24) && !s.present 0)
/-- A reference slot or an ensemble member binds the channel (R218). -/
def State.chanInUse (s : State) (c : Nat) : Bool :=
  let src := if c < 4 then 3 * 256 + c else if c < 12 then 4 * 256 + (c - 4) else if c = 24 then 256 else 0
  (decide (src ≠ 0) && (List.range 32).any (fun n => decide (s.n E.refSource n = src))) ||
  (decide (12 ≤ c ∧ c < 16) && s.flag E.ensEnable (c - 11)) || decide (c = 25)
/-- `CH_ENABLE` (R219): a channel in use stays enabled. -/
def spChEnable : Special where
  entry := E.chEnable
  codes c s := if c.v = 0 ∧ s.chanInUse c.i then [0xA] else []
/-- `CH_EDGE` (R219): PPSIN and EVTIN alone have other edges than rising. -/
def spChEdge : Special where
  entry := E.chEdge
  codes c _ := if c.v ≠ 0 ∧ ¬ (c.i < 4 ∨ (16 ≤ c.i ∧ c.i < 24)) then [7] else []

/-! ### Counters and converters (R204 to R208) -/

/-- One wrap of a coarse counter in ticks (R206). -/
def wrapTicks : Nat := 2 ^ 48
/-- A bank's counter at tick `now`, wraps not yet taken included. -/
def Bank.at_ (b : Bank) (now : Nat) : Nat := b.value + (now - b.tick)
/-- COUNTER_WRAP (R206). -/
def execCounterWrap (t : Nat) (bank : Fin 4) (s : State) : Host.Outcome State Fault Refusal :=
  timed t s fun s =>
    let b := s.bank bank
    let v := b.at_ s.now
    if wrapTicks ≤ v then
      let w := (b.wraps + 1) % 65536
      let s := s.setBank bank { b with value := v - wrapTicks, tick := s.now, wraps := w }
      if bank = 0 then s.set E.ticWraps 0 w else s
    else s
/-- The first strobe edge after stage 6: every bank takes the tick number (R204). -/
def State.banksLoad (s : State) : State :=
  let s := (List.range 4).foldl (fun s b => s.setBank b { value := s.now % wrapTicks, tick := s.now, wraps := 0, loaded := true }) s
  { s with counters := { s.counters with loadStrobe := some s.islands.strobes } }
/-- INVALID and SLIP of FLAGS (R215). -/
def slipFlags (f : Nat) : Nat := (f.lor 2).lor 32
/-- A stamp of bank `b` in the strobe interval that ends at `now` is invalid after a slip (R205). -/
def Edge.slip (b now : Nat) (e : Edge) : Edge :=
  if e.bank = b ∧ now ≤ e.tick + 512 then { e with flags := slipFlags e.flags, rawBad := true } else e
/-- The results of a strobe interval that rest on such a stamp (R205). -/
def TicResult.slip (b now : Nat) (r : TicResult) : TicResult :=
  if r.stamps.any (fun p => decide (p.1 = b ∧ now ≤ p.2 + 512)) then { r with flags := slipFlags r.flags, raw := false } else r
/-- A pair unit's edges after a slip. -/
def PairUnit.slip (b now : Nat) (x : PairUnit) : PairUnit :=
  { x with waits := x.waits.map (fun w => (w.1.slip b now, w.2.map (Edge.slip b now))), stops := x.stops.map (Edge.slip b now) }
/-- The ensemble member of a channel (R187). -/
def memberOf (c : Nat) : Option Nat := if 12 ≤ c ∧ c < 16 then some (c - 11) else if c = 25 then some 0 else none
/-- A channel of a bank that has slipped: its latest stamp, and what the ensemble would take of it. -/
def State.chanSlip (s : State) (b c : Nat) : State :=
  let x := s.chan c
  match x.last with
  | some e =>
    if s.now ≤ e.tick + 512 then
      let s := (s.setChan c { x with last := some (e.slip b s.now) }).set E.chLastFlags c (slipFlags (s.n E.chLastFlags c))
      match memberOf c with
      | some m => s.setMember m { s.member m with edge := none }
      | none => s
    else s
  | none => s
/-- A bank whose counter is not 512 above its value at the last strobe edge is set to the expected value (R205): the event, the
counter, and the results of the interval marked. -/
def State.bankSlip (s : State) (b : Nat) : State :=
  let s := (s.bump E.ticSlips).raise 64 none (0x100 + b)
  let pairs : Tab PairUnit := s.counters.pairs.map (fun p => (p.1, p.2.slip b s.now))
  let results := s.counters.results.map (TicResult.slip b s.now)
  let s := { s with counters := { s.counters with pairs := pairs, results := results } }
  ((List.range 26).filter (fun c => decide (bankOf c = b))).foldl (fun s c => s.chanSlip b c) s
/-- The counters seen at a strobe edge are compared (R205). -/
def State.banksCheck (s : State) (seen : List (Nat × Nat)) : State :=
  seen.foldl (fun s p => if p.1 < 4 ∧ (s.bank p.1).at_ s.now % wrapTicks ≠ p.2 then s.bankSlip p.1 else s) s

/-- A bit of the stored part of `CH_STATUS` (R218): 2 LIVE, 3 A_EXCLUDED, 4 B_EXCLUDED, 5 CAL_STALE. -/
def State.chBit (s : State) (c b : Nat) : Bool := bitOf (s.n E.chStatus c) b
/-- Sets a bit of `CH_STATUS`. -/
def State.setChBit (s : State) (c b : Nat) (x : Bool) : State := s.set E.chStatus c (setBit (s.n E.chStatus c) b x)
/-- The tick of the live converter's calibration. -/
def State.liveCal (s : State) (c : Nat) : Nat := if s.chBit c 2 then (s.chan c).calB else (s.chan c).calA
/-- CAL_STALE follows the live converter (R208). -/
def State.staleRefresh (s : State) (c : Nat) : State :=
  s.setChBit c 5 (decide (s.liveCal c + ticksMs 100 < s.now))
/-- A calibration of converter A or B (`b`) of a channel (R208), q and h in fs. -/
def State.calibrated (s : State) (c : Nat) (b : Bool) (q h : Nat) : State :=
  let x := s.chan c
  let ok := decide (950 ≤ q ∧ q ≤ 1050)
  let s := s.set (if b then E.chQB else E.chQA) c q
  let s := if b then s.setChan c { x with hB := h, calB := s.now } else s.setChan c { x with hA := h, calA := s.now }
  let s := s.setChBit c (if b then 4 else 3) (!ok)
  if ok then
    let s := if s.chBit c (if s.chBit c 2 then 4 else 3) then s.setChBit c 2 b else s
    let s := s.staleRefresh c
    if (List.range 26).any (fun d => s.chBit d 3 || s.chBit d 4) then s else s.deassert 65
  else
    let s := if s.chBit c 2 = b ∧ ¬ s.chBit c (if b then 3 else 4) then (s.setChBit c 2 (!b)).staleRefresh c else s
    s.raise 65 none c
/-- CONVERTER_CAL. -/
def execConverterCal (t : Nat) (c : Fin 26) (b : Bool) (q h : Nat) (s : State) : Host.Outcome State Fault Refusal :=
  timed t s fun s => s.calibrated c b q h
/-- CONVERTER_SWAP (R208): at every 1,024th strobe edge from the load, unless the calibrating converter is excluded. -/
def execConverterSwap (t : Nat) (c : Fin 26) (s : State) : Host.Outcome State Fault Refusal :=
  timed t s fun s =>
    match s.counters.loadStrobe with
    | some n =>
      let live := s.chBit c 2
      if n < s.islands.strobes ∧ (s.islands.strobes - n) % 1024 = 0 ∧ ¬ s.chBit c (if live then 3 else 4) then
        (s.setChBit c 2 (!live)).staleRefresh c
      else s
    | none => s
/-- CAL_STALE (R208). -/
def execCalStale (t : Nat) (c : Fin 26) (s : State) : Host.Outcome State Fault Refusal :=
  timed t s fun s => s.staleRefresh c

/-! ### Stamps (R207, R209, R210) -/

/-- An edge converted: what `CHANNEL_EDGE` forms before anything is done with it. `event` counts OSCIN fs since reset. -/
structure Converted where
  event : Int
  priv : Int
  edge : Edge
deriving DecidableEq, Repr

/-- The event's time in fs of OSCIN since reset (R207, R209): the transition less Δ = (N − ½)·q. -/
def State.eventFs (s : State) (o : EdgeObs) : Int :=
  let c := o.ch.val
  let live := s.chBit c 2
  let q := s.n (if live then E.chQB else E.chQA) c
  let h := if live then (s.chan c).hB else (s.chan c).hA
  ((s.now * 2000000 + (if o.fallTransition then h else 0) : Nat) : Int) - Int.tdiv ((2 * o.cycles - 1) * q) 2
/-- A bank's copy at a time of OSCIN in fs, in 2⁻⁵⁶ ns (R24, R209): its value at the bank clock edge before, and the interval from
there scaled by the copy's rate ratio; in a strobe's tick as it stood before the strobe's correction (R214). -/
def State.bankTime (s : State) (b : Nat) (e : Int) : Int :=
  let ratio : Int := if s.n E.copyRate b = 0 then s.privet.incr else s.n E.copyRate b
  let d := e - s.now * 2000000
  if s.islands.strobeAt = some s.now then ((s.leaf b).before : Int) + Int.fdiv (d * ratio) 2000000
  else if d < 0 then (s.copyPrev56 b : Int) + Int.fdiv ((d + 2000000) * ratio) 2000000
  else (s.copy56 b : Int) + Int.fdiv (d * ratio) 2000000
/-- The stamps of an edge (R209, R206, R124, R125). -/
def State.convert (s : State) (o : EdgeObs) : Converted :=
  let c := o.ch.val
  let e := s.eventFs o
  let delay := s.int E.chDelay c * 1000
  let b := s.bank (bankOf c)
  let abs := e - s.now * 2000000 + ((b.wraps * wrapTicks + b.at_ s.now : Nat) : Int) * 2000000 - delay
  let m : Int := (wrapTicks * 2000000 : Nat)
  let x := s.chan c
  let bad := !b.loaded || (s.chBit c 3 && s.chBit c 4)
  let unsync := s.unsync (0x100 + bankOf c)
  let stamp56 := s.bankTime (bankOf c) e - Int.fdiv (delay * 2 ^ 56) (10 ^ 6)
  let flags := ofBool o.falling + 2 * ofBool (bad || unsync) + 8 * ofBool x.dead + 16 * ofBool (s.chBit c 5)
  { event := e - delay, priv := fsOf stamp56,
    edge := { bank := bankOf c, raw := Int.emod abs m, wraps := (Int.emod (Int.fdiv abs m) 65536).toNat, event := e, flags := flags, rawBad := bad,
              stamp := (Int.fdiv stamp56 (2 ^ 40)).toNat, bound := if unsync then 0xFFFFFFFF else s.emitted 30,
              tick := s.now } }
/-- A 32-byte result record (R215). -/
def resultRecord (kind source flags seq : Nat) (time : T96) (bound : Bound) (value : Int) : List Byte :=
  be 1 kind ++ be 1 source ++ be 2 flags ++ be 4 seq ++ t96Bytes time ++ be 4 bound ++ be 8 (wordOfInt value).toNat
/-- The raw stamp as a record holds it (R215). -/
def rawValue (raw : Int) : Nat :=
  let r := raw.toNat
  r / 2000000 * 65536 + r % 2000000 * 65536 / 2000000
/-- The raw difference of two stamps (R206): the value with the flags it adds. -/
def rawDiff (a b : Edge) : Int × Nat :=
  let d := (b.wraps + 65536 - a.wraps) % 65536
  let m : Int := (wrapTicks * 2000000 : Nat)
  if d = 0 then (b.raw - a.raw, 0)
  else if d = 1 then (b.raw + m - a.raw, 4)
  else if d = 65535 then (b.raw - m - a.raw, 4)
  else (0, 6)
/-- A result waits for the strobe edge that checks its banks (R205). -/
def State.ticHold (s : State) (r : TicResult) : State :=
  { s with counters := { s.counters with results := s.counters.results ++ [r] } }
/-- A checked result is exported where a world is set (R215), with its bound an output's (R139). -/
def State.ticExport (s : State) (r : TicResult) : State :=
  if r.world < 15 then
    (s.noteOut r.bound).event r.world (resultRecord r.kind r.source r.flags r.seq r.time r.bound r.value)
  else s

/-! ### Pairs (R213, R214) -/

/-- The 40 bytes of `PAIR_STATS` (R219): count, mean in as, variance in fs², minimum, maximum. -/
def pairBytes (x : PairUnit) : List Byte :=
  let n : Int := x.count
  let mean := if x.count = 0 then 0 else Int.tdiv (x.sum * 1000) n
  let var := if x.count < 2 then 0 else (Int.fdiv (n * x.squares - x.sum * x.sum) (n * (n - 1))).toNat
  be 8 x.count ++ be 8 (wordOfInt mean).toNat ++ be 8 (min var (2 ^ 64 - 1)) ++ be 8 (wordOfInt x.low).toNat ++
    be 8 (wordOfInt x.high).toNat
/-- The statistics of a unit are cleared; its results that wait for their check no longer enter them. -/
def State.pairZero (s : State) (u : Nat) : State :=
  let x := s.pairUnit u
  let y := { x with count := 0, sum := 0, squares := 0, low := 0, high := 0 }
  let results := s.counters.results.map (fun (r : TicResult) => if r.kind = 3 ∧ r.source = u then { r with raw := false } else r)
  let s := { s with counters := { s.counters with results := results } }
  (s.setPairUnit u y).setOct E.pairStats u (pairBytes y)
/-- A checked pair result enters the statistics where its raw value is valid (R213). -/
def State.pairCount (s : State) (u : Nat) (v : Int) : State :=
  let x := s.pairUnit u
  let y : PairUnit := { x with
    count := x.count + 1, sum := x.sum + v, squares := x.squares + v.natAbs * v.natAbs
    low := if x.count = 0 then v else min x.low v
    high := if x.count = 0 then v else max x.high v }
  (s.setPairUnit u y).setOct E.pairStats u (pairBytes y)
/-- The results of the strobe interval that ends now, after its check: statistics and export, in the order they were formed. -/
def State.ticFlush (s : State) : State :=
  let l := s.counters.results
  let s := { s with counters := { s.counters with results := [] } }
  l.foldl (fun s r => (if r.kind = 3 ∧ r.raw then s.pairCount r.source r.value else s).ticExport r) s
/-- A pair result of start edge `a` and stop edge `b`. -/
def State.pairResult (s : State) (u : Nat) (a b : Edge) : State :=
  let (v, f) := rawDiff a b
  let bad := a.rawBad || b.rawBad || bitOf f 1
  let flags := (a.flags.lor b.flags).land 0x38 |>.lor (f.land 4) |>.lor (2 * ofBool (bad || bitOf a.flags 1))
  let x := s.pairUnit u
  let seq := (x.seq + 1) % 2 ^ 32
  let s := (s.setPairUnit u { x with seq := seq }).setInt E.pairLast u v
  let s := if bitOf f 2 then s.bump E.chOverflows (s.n E.pairA u) else s
  s.ticHold ⟨3, u, flags, seq, a.stamp, a.bound, v, [(a.bank, a.tick), (b.bank, b.tick)], s.n E.pairExportWorld u, !bad⟩
/-- `b` lies at or after `a` on raw time (R206, R214). -/
def atOrAfter (a b : Edge) : Bool :=
  let d := (b.wraps + 65536 - a.wraps) % 65536
  if d = 0 then decide (a.raw ≤ b.raw) else decide (d < 32768)
/-- `b` lies within half of the start channel's nominal period of `a` (R213); a channel with no nominal sets no limit. -/
def State.pairNear (s : State) (u : Nat) (a b : Edge) : Bool :=
  let c := s.n E.pairA u
  let (v, f) := rawDiff a b
  !bitOf f 1 && decide (s.chNominal c = 0 ∨ v.natAbs * 2 ≤ s.chPeriodFs c)
/-- The nearer of two stop edges to a start edge. -/
def nearer (a : Edge) (x y : Option Edge) : Option Edge :=
  match x, y with
  | some p, some q => if (rawDiff a q).1.natAbs < (rawDiff a p).1.natAbs then some q else some p
  | some p, none => some p
  | none, q => q
/-- A stamped edge of a unit's start channel. -/
def State.pairStart (s : State) (u : Nat) (a : Edge) : State :=
  let x := s.pairUnit u
  if s.n E.pairMode u = 1 then
    match x.stops.find? (atOrAfter a) with
    | some b => s.pairResult u a b
    | none => s.setPairUnit u { x with waits := x.waits ++ [(a, none)] }
  else
    let near := x.stops.filter (s.pairNear u a)
    let best := near.foldl (fun p b => nearer a p (some b)) none
    if x.stops.any (atOrAfter a) then
      match best with
      | some b => s.pairResult u a b
      | none => s.setPairUnit u { x with waits := x.waits ++ [(a, none)] }
    else s.setPairUnit u { x with waits := x.waits ++ [(a, best)] }
/-- The tick by which a start edge of a unit awaits its stop edge (R213, R115). -/
def State.pairDeadline (s : State) (u : Nat) (a : Edge) : Nat := a.tick + ticksMs (s.n E.pairTimeout u)
/-- A stamped edge of a unit's stop channel; one past a wait's deadline comes too late for it. -/
def State.pairStop (s : State) (u : Nat) (b : Edge) : State :=
  let x := s.pairUnit u
  let s := s.setPairUnit u { x with stops := (x.stops ++ [b]).drop (x.stops.length + 1 - 8), waits := [] }
  x.waits.foldl (fun s w =>
    let keep (s : State) (w : Edge × Option Edge) : State :=
      s.setPairUnit u { s.pairUnit u with waits := (s.pairUnit u).waits ++ [w] }
    if s.pairDeadline u w.1 < b.tick then keep s w
    else if ¬ atOrAfter w.1 b then keep s (w.1, if s.pairNear u w.1 b then nearer w.1 w.2 (some b) else w.2)
    else if s.n E.pairMode u = 1 then s.pairResult u w.1 b
    else
      match (if s.pairNear u w.1 b then nearer w.1 w.2 (some b) else w.2) with
      | some e => s.pairResult u w.1 e
      | none => keep s w) s
/-- A stamped edge at every pair unit that compares its channel. -/
def State.pairsEdge (s : State) (c : Nat) (e : Edge) : State :=
  (List.range 16).foldl (fun s u =>
    if s.n E.pairMode u = 0 then s
    else if s.n E.pairA u = c then s.pairStart u e
    else if s.n E.pairB u = c then s.pairStop u e
    else s) s
/-- PAIR_TIMEOUT (R213, R115, R116): waits whose deadline has resolved end, with the best edge they have or as missing. -/
def execPairTimeout (t : Nat) (u : Fin 16) (s : State) : Host.Outcome State Fault Refusal :=
  timed t s fun s =>
    let x := s.pairUnit u
    let (old, rest) := x.waits.partition (fun w => s.resolves [0x100 + bankOf (s.n E.pairB u)] (s.pairDeadline u w.1))
    old.foldl (fun s w => match w.2 with
      | some b => s.pairResult u w.1 b
      | none => s.bump E.pairMissing u) (s.setPairUnit u { x with waits := rest })
/-- `PAIR_CLEAR` (R213). -/
def spPairClear : Special where
  entry := E.pairClear
  apply c s := s.pairZero c.i
/-- PAIR_CLEAR. -/
def execPairClear (t : Nat) (m : Master) (u : Fin 16) (s : State) : Host.Outcome State Fault Refusal :=
  writeRow spPairClear t m u [1] s
/-- A unit's waits and statistics end with a change of mode or channel (R213). -/
def State.pairReset (s : State) (u : Nat) : State :=
  (s.setPairUnit u { s.pairUnit u with waits := [], stops := [] }).pairZero u
/-- `PAIR_A` (R213). -/
def spPairA : Special where
  entry := E.pairA
  codes c s := (if c.v = s.n E.pairB c.i then [7] else []) ++ (if s.chanFitted c.v then [] else [2])
  apply c s := if c.v = s.n E.pairA c.i then s else (s.set E.pairA c.i c.v).pairReset c.i
/-- `PAIR_B` (R213). -/
def spPairB : Special where
  entry := E.pairB
  codes c s := (if c.v = s.n E.pairA c.i then [7] else []) ++ (if s.chanFitted c.v then [] else [2])
  apply c s := if c.v = s.n E.pairB c.i then s else (s.set E.pairB c.i c.v).pairReset c.i
/-- `PAIR_MODE` (R213). -/
def spPairMode : Special where
  entry := E.pairMode
  codes c s := if c.v ≠ 0 ∧ s.n E.pairA c.i = s.n E.pairB c.i then [7] else []
  apply c s := if c.v = s.n E.pairMode c.i then s else (s.set E.pairMode c.i c.v).pairReset c.i

/-! ### Monitors and consumers (R146, R151, R217, R224, R237) -/

/-- A period departs from nominal by more than a limit in 0.01 % (R146). -/
def glitched (nominal period limit : Nat) : Bool :=
  decide (nominal * limit < (if period < nominal then nominal - period else period - nominal) * 10000)
/-- What the GLITCH monitors judge at a stamped edge (R146): the time since the edge they last judged from, and the periods it spans. Up
to 10 MHz that is every stamped edge; above, one in each strobe interval. -/
def State.judged (s : State) (c : Nat) (e : Edge) (period : Option Nat) : Option (Nat × Nat) × State :=
  if s.prescale c = 1 then (period.map (fun p => (p, 1)), s)
  else
    let x := s.chan c
    let k := s.islands.strobes
    match x.span with
    | none => (none, s.setChan c { x with span := some (e.event, 0, k) })
    | some (from', n, k0) =>
      if k = k0 then (none, s.setChan c { x with span := some (from', n + 1, k0) })
      else (some ((e.event - from').toNat, n + 1), s.setChan c { x with span := some (e.event, 0, k) })
/-- What has been judged departs from a nominal period by more than a limit in 0.01 %. -/
def offPeriod (nominal limit : Nat) (p : Nat × Nat) : Bool := glitched (nominal * p.2) p.1 limit
/-- The phase φ_ref − φ_Privet of an edge of slot `n` at `stamp` fs (R145, R161, R181); `none` where the edge names no time. -/
def State.edgePhase (s : State) (n : Nat) (stamp : Int) : Option Int :=
  if s.todOn n then (s.slot n).tod.named.map (fun k => (k : Int) * 10 ^ 15 - stamp)
  else if s.phaseOnly n then some (Int.fdiv (stamp + 5 * 10 ^ 14) (10 ^ 15) * 10 ^ 15 - stamp)
  else
    let num : Int := s.prescale (4 + s.refNo n) * 10 ^ 15
    let den : Int := max 1 (s.n E.refNominal n)
    let prev := match (s.slot n).meas.head? with | some m => m.phase + s.int E.refDelay n * 1000 | none => 0
    some (Int.fdiv (roundDiv ((prev + stamp) * den) num * num) den - stamp)
/-- A stamped edge of a slot's input (R145 to R151, R161): ACTIVITY and GLITCH, the line's second, and the measurement. -/
def State.slotEdge (s : State) (n : Nat) (x : Converted) (period : Option (Nat × Nat)) : State :=
  let y := s.slot n
  let s := (s.setSlot n { y with arrival := s.now, edges := y.edges + 1 }).setCause n 1 false
  let s := match period with
    | some p => s.setCause n 2 (offPeriod (s.chPeriodFs (s.refChannel n)) (s.n E.refGlitch n) p)
    | none => s
  let s := if s.refKind n = 3 then s.todEdge n else s
  let good := !(s.cause n 1 || s.cause n 2 || s.cause n 3) && !bitOf x.edge.flags 1
  let s := match s.edgePhase n x.priv with
    | some p => s.slotMeasure n s.now x.event.toNat x.priv.toNat p good
    | none => s
  s.settle
/-- A stamp of channel 24 (R376): the phase monitor of the GNSS slot, and the check against the instant the pulse was placed for;
beyond 50 ps that second's solutions are invalid. -/
def State.solutionEdge (s : State) (stamp : Int) : State :=
  match s.gnss.pulse with
  | none => s
  | some (sec, at_) =>
    let s := { s with gnss := { s.gnss with pulse := none } }
    let slot := s.slotOf 1 0
    let s := if 50000 < (stamp - at_ * 1000).natAbs then
        let s := { s with gnss := { s.gnss with badSecond := some sec } }
        let s := match slot with
          | some n =>
            let x := s.slot n
            s.setSlot n { x with meas := x.meas.map (fun (m : Meas) => if m.priv / 10 ^ 15 = sec then { m with valid := false } else m) }
          | none => s
        s.raise 324
      else s
    match slot with
    | some n =>
      let p := (sec : Int) * 10 ^ 15 - stamp - s.int E.refDelay n * 1000
      let limit := boundAdd (boundAdd (s.n E.brefLive n) (s.n E.bmeasLive n)) s.bound.e
      (s.setCause n 8 (s.phaseTested && decide (limit < 0xFFFFFFFE ∧ limit < psOfFs p))).settle
    | none => s
/-- A stamped edge of a member (R187, R190): its raw time, where the raw stamp is valid, and its GLITCH monitor at 1 %. -/
def State.memberEdge (s : State) (m c : Nat) (x : Converted) (period : Option (Nat × Nat)) : State :=
  let s := if x.edge.rawBad then s else s.setMember m { s.member m with edge := some (x.event, s.now) }
  match period with
  | some p => if offPeriod (s.chPeriodFs c) 100 p then s.memberInputBad m else s.memberInputGood m
  | none => s
/-- A stamped edge at the units that take it (R217): slots, members, MDLL references, follow-mode outputs. -/
def State.consume (s : State) (c : Nat) (x : Converted) (period : Option (Nat × Nat)) : State :=
  let s := if c = 24 then s.solutionEdge x.priv else s
  let slot := if c < 4 then s.slotOf 3 c else if c < 12 then s.slotOf 4 (c - 4) else none
  let s := match slot with | some n => s.slotEdge n x period | none => s
  let s := match memberOf c with | some m => s.memberEdge m c x period | none => s
  let s := (s.mdllsOn c).foldl (fun s m =>
    match period with
    | some p =>
      if offPeriod (s.prescale c * 10 ^ 15 / max 1 (s.mdll m).refHz) (s.n E.mdllGlitch m) p then s.mdllRefFail m
      else s.mdllRefPass m
    | none => s) s
  (List.range 8).foldl (fun s p =>
    if s.n E.ppsMode p = 3 ∧ s.n E.ppsFollowCh p = c then s.ppsFollowEdge p x.edge.stamp (s.chPeriodFs c / 1000) else s) s
/-- The results of a stamped edge (R209, R212, R215). -/
def State.stampEdge (s : State) (o : EdgeObs) : State :=
  let c := o.ch.val
  let x := s.convert o
  let y := s.chan c
  let seq := (y.seqStamp + 1) % 2 ^ 32
  let e := x.edge
  let value := rawValue e.raw
  let s := (s.setChan c { y with last := some e, seqStamp := seq, dead := false }).perfEvent 0x101 c
  let s := ((s.setT96 E.chLastStamp c e.stamp).set E.chLastBound c e.bound).set E.chLastRaw c value
  let s := s.set E.chLastFlags c e.flags
  let kinds := s.n E.chExportKinds c
  let w := s.n E.chExportWorld c
  let s := s.ticHold ⟨1, c, e.flags, seq, e.stamp, e.bound, value, [(e.bank, e.tick)], if bitOf kinds 0 then w else 15, !e.rawBad⟩
  match y.last with
  | none =>
    let (p, s) := s.judged c e none
    (s.pairsEdge c e).consume c x p
  | some a =>
    let (v, f) := rawDiff a e
    let bad := a.rawBad || e.rawBad || bitOf f 1
    let flags := (e.flags.land 9).lor ((a.flags.lor e.flags).land 0x30) |>.lor (f.land 4) |>.lor (2 * ofBool (bad || bitOf a.flags 1))
    let seq := (y.seqPeriod + 1) % 2 ^ 32
    let s := s.setChan c { s.chan c with seqPeriod := seq }
    let s := (s.setInt E.chLastPeriod c v).set E.chLastFlags c (e.flags.lor f)
    let s := if bitOf f 2 then s.bump E.chOverflows c else s
    let s := s.ticHold ⟨2, c, flags, seq, a.stamp, a.bound, v, [(a.bank, a.tick), (e.bank, e.tick)],
      if bitOf kinds 1 then w else 15, !bad⟩
    let (p, s) := s.judged c e (if bitOf f 1 then none else some v.toNat)
    (s.pairsEdge c e).consume c x p
/-- CHANNEL_EDGE (R203, R207 to R214): every edge of the stamped polarity is counted; each P-th is stamped, unless it falls in
the dead time of the one before. -/
def execChannelEdge (t : Nat) (x : EdgeObs) (s : State) : Host.Outcome State Fault Refusal :=
  timed t s fun s =>
    let c := x.ch.val
    let pol := s.n E.chEdge c
    if ¬ s.flag E.chEnable c ∨ ¬ s.chanFitted c ∨ (pol = 0 ∧ x.falling) ∨ (pol = 1 ∧ ¬ x.falling) then s
    else
      let y := s.chan c
      let p := s.prescale c
      let s := (s.set E.chEdges c ((s.n E.chEdges c + 1) % 2 ^ 64)).setChan c
        { y with phase := (y.phase + 1) % p, lastEdge := s.now }
      if y.phase % p ≠ 0 then s
      else
        let e := s.eventFs x
        match y.last with
        | some a =>
          if e < a.event + 64000000 then ((s.bump E.chDeadtimeMissed c).perfEvent 0x102 c).setChan c { s.chan c with dead := true }
          else s.stampEdge x
        | none => s.stampEdge x

/-- The window since the latest latch is a whole millisecond of Privet time that no step or retard has broken (R146, R477). -/
def State.rateWindow (s : State) : Bool :=
  match s.counters.latchAt with
  | some t => decide (s.gnss.broken.getD 0 ≤ t ∧ t + 499900 ≤ s.now ∧ s.now ≤ t + 500100)
  | none => false
/-- A member's edge count of 1 ms is off nominal (R190): by the REFIN's rule at 1 %; OSCIN's channel gives one edge in 1 ms, and two or
none where the windows slide past it. -/
def State.memberRateOff (s : State) (m count : Nat) : Bool :=
  if m = 0 then decide (2 < count) else rateOff (s.n E.ensNominal m) 100 count
/-- The RATE check of one channel (R146, R190, R210, R224): its count is latched, and, where `judge`, the slot, the member and the MDLLs
that take it are judged by the edges since the last one. -/
def State.rateChannel (s : State) (judge : Bool) (c : Nat) : State :=
  let x := s.chan c
  let now' := s.n E.chEdges c
  let count := (now' + 2 ^ 64 - x.latched) % 2 ^ 64
  let s := s.setChan c { x with latched := now' }
  if !judge then s else
  let s := if 4 ≤ c ∧ c < 12 then
      match s.slotOf 4 (c - 4) with
      | some n => s.setCause n 3 (rateOff (s.n E.refNominal n) (s.n E.refGlitch n) count)
      | none => s
    else s
  let s := match memberOf c with
    | some m => if s.memberRateOff m count then s.memberInputBad m else s
    | none => s
  (s.mdllsOn c).foldl (fun s m =>
    if rateOff (s.mdll m).refHz (s.n E.mdllGlitch m) count then s.mdllRefFail m else s) s
/-- RATE_CHECK (R146, R190, R210, R224): at a whole millisecond the counts are latched and the RATE monitors run. -/
def execRateCheck (t : Nat) (s : State) : Host.Outcome State Fault Refusal :=
  timed t s fun s =>
    if s.atMilli ∧ s.counters.latchAt ≠ some s.now then
      let judge := s.rateWindow
      let s := { s with counters := { s.counters with latchAt := some s.now } }
      ((List.range 26).foldl (fun s c => s.rateChannel judge c) s).settle
    else s
/-- CHANNEL_ACTIVITY_LOSS (R190, R224, R237): no edge within 2 nominal periods at the consumers of a channel. -/
def execChannelActivityLoss (t : Nat) (c : Fin 26) (s : State) : Host.Outcome State Fault Refusal :=
  timed t s fun s =>
    let x := s.chan c
    let passed (tick : Nat) : Bool := s.resolves [0x100 + bankOf c] tick
    let late (hz : Nat) : Bool := passed (x.lastEdge + ceilDiv (2 * ticksS 1) (max 1 hz))
    let s := match memberOf c with
      | some m =>
        if passed (x.lastEdge + max 1024 (ceilDiv (2 * ticksS 1) (max 1 (if m = 0 then s.chNominal c else s.n E.ensNominal m)))) then
          s.memberInputBad m
        else s
      | none => s
    let s := (s.mdllsOn c).foldl (fun s m => if late (s.mdll m).refHz then s.mdllRefFail m else s) s
    (List.range 8).foldl (fun s p =>
      if s.n E.ppsMode p = 3 ∧ s.n E.ppsFollowCh p = c ∧ ¬ (s.pulse p).lost ∧
          passed ((s.pulse p).source + ceilDiv (2 * s.chPeriodFs c) 2000000) then s.ppsSourceLost p else s) s

/-- The special entries of this chapter. -/
def counterSpecials : List Special := [spChEnable, spChEdge, spPairClear, spPairA, spPairB, spPairMode]

end Sys2Proof.Machine
end

