-- ==== Sys2Proof/Machine/Host.lean ====
section
/-! DEFINITION. PCIe links, rings and descriptors (R269 to R283). The ring commands that carry host commands and the SPI
target are in `HostCmd.lean`. -/

namespace Sys2Proof
open Sys2Proof.Machine

/-! ### Descriptors (R275, R276) -/

/-- A field of a descriptor in its posted form. -/
def DmaDesc.field (d : DmaDesc) (off n : Nat) : Nat := leAt d.desc off n
/-- ADDR of a descriptor. -/
def DmaDesc.addr (d : DmaDesc) : Nat := d.field 0 8
/-- LEN of a descriptor. -/
def DmaDesc.len (d : DmaDesc) : Nat := d.field 8 2
/-- OP of a descriptor. -/
def DmaDesc.op (d : DmaDesc) : Nat := d.field 10 1
/-- DFLAGS of a descriptor: 0 SOF, 1 EOF, 2 STAMP, 3 LAUNCH, 4 CSUM. -/
def DmaDesc.flag (d : DmaDesc) (b : Nat) : Bool := bitOf (d.field 11 1) b
/-- USER of a descriptor. -/
def DmaDesc.user (d : DmaDesc) : Nat := d.field 12 4
/-- BUFSZ of a CMD descriptor. -/
def DmaDesc.bufsz (d : DmaDesc) : Nat := d.field 18 2
/-- The insertions of a TX descriptor, as (offset, format). -/
def DmaDesc.insertions (d : DmaDesc) : List (Nat × Nat) :=
  (List.range (d.field 17 1)).map (fun j => (d.field (20 + 3 * j) 2, d.field (22 + 3 * j) 1))

end Sys2Proof

namespace Sys2Proof.Machine

/-- A descriptor in its completed form (R276). -/
def completedDesc (time : List Byte) (bound len cstat err handle user rxflags port cls : Nat) : List Byte :=
  padTo 12 time ++ le 4 bound ++ le 2 len ++ le 1 cstat ++ le 1 err ++ le 4 handle ++ le 4 user ++ le 2 rxflags ++
    le 1 port ++ le 1 cls
/-- The slot of a count (R274). -/
def State.ringSlot (s : State) (r count : Nat) : Nat := count % max 1 (s.n E.ringSize r)
/-- One completion written to the slot of a count, with the slot's next generation (R277). -/
def State.ringComplete (s : State) (r count : Nat) (form : Nat → List Byte) : State :=
  let slot := s.ringSlot r count
  let x := s.ring r
  let n := tabGet 0 slot x.done + 1
  let handle := slot * 65536 + (x.genBase + n) % 65536
  (s.setRing r { x with done := tabPut 0 slot n x.done }).emit
    (.dma (s.n E.ringFunc r) (s.n E.ringBase r + 32 * slot) (form handle))
/-- Descriptors a host has posted that the engine has not completed (R274). -/
def State.ringPosted (s : State) (r : Nat) : Nat :=
  let d := (s.n E.ringDoorbell r + 2 ^ 32 - s.n E.ringEngineIdx r) % 2 ^ 32
  if d < 2 ^ 31 then d else 0
/-- A ring halts on a descriptor error at a count (R278): the completion with ERROR, `RING_ERR`, the count, and the event. -/
def State.ringError (s : State) (r count user err : Nat) : State :=
  let slot := s.ringSlot r count
  let s := s.ringComplete r count (fun h => completedDesc [] 0xFFFFFFFF 0 4 err h user 0 0 0)
  let s := if count = s.n E.ringEngineIdx r then s.ringAdvance r 1 else s
  let e := slot * 65536 + err
  let s := ((s.set E.ringErr r e).bump E.ringDescErr r).set E.ringState r 2
  s.event (r / 8) (be 1 0x40 ++ be 1 (r % 8) ++ zeros 2 ++ be 4 e ++ zeros 24)

/-! ### Ring set-up and control (R273, R274, R277) -/

/-- The block of a reserved ring kind refuses every write (R272). -/
def reservedKind (i : Nat) : List Nat := if 6 ≤ i % 8 then [7] else []
/-- A set-up entry is not written while its ring runs (R273). -/
def State.ringBusy (s : State) (i : Nat) : List Nat := if s.ringRuns i then [0xA] else []
/-- `RING_BASE` (R273). -/
def spRingBase : Special where
  entry := E.ringBase
  codes c s := reservedKind c.i ++ s.ringBusy c.i ++ (if c.v % 4096 = 0 then [] else [7])
/-- `RING_SIZE` (R273). -/
def spRingSize : Special where
  entry := E.ringSize
  codes c s := reservedKind c.i ++ s.ringBusy c.i ++ (if (List.range 11).any (fun j => c.v == 64 * 2 ^ j) then [] else [7])
/-- `RING_WB_ADDR` (R273). -/
def spRingWbAddr : Special where
  entry := E.ringWbAddr
  codes c _ := reservedKind c.i ++ (if c.v % 8 = 0 then [] else [7])
/-- `RING_FUNC` (R273): a function bound to the ring's world. -/
def spRingFunc : Special where
  entry := E.ringFunc
  codes c s := reservedKind c.i ++ s.ringBusy c.i ++ (if c.v < 8 ∧ s.n E.bindPcie c.v = c.i / 8 then [] else [7])
/-- `RING_IRQ_VEC` (R283). -/
def spRingIrqVec : Special where
  entry := E.ringIrqVec
  codes c _ := reservedKind c.i
/-- `RING_IRQ_COUNT` (R283). -/
def spRingIrqCount : Special where
  entry := E.ringIrqCount
  codes c _ := reservedKind c.i
/-- `RING_IRQ_TIME` (R283). -/
def spRingIrqTime : Special where
  entry := E.ringIrqTime
  codes c _ := reservedKind c.i
/-- `RING_QUIET` (R277). -/
def spRingQuiet : Special where
  entry := E.ringQuiet
  codes c _ := reservedKind c.i
/-- The host's count of a ring moves on (R274, R283). -/
def State.doorbell (s : State) (r v : Nat) : State :=
  let was := s.n E.ringDoorbell r
  let s := s.set E.ringDoorbell r v
  let x := s.ring r
  let engine := decide (2 ≤ r % 8 ∧ r % 8 ≤ 4)
  let ages := if engine then x.ages.drop ((v + 2 ^ 32 - was) % 2 ^ 32) else []
  let s := s.setRing r { x with ages := ages }
  if s.ringPending r then s else s.setRing r { s.ring r with signalled := false }
/-- `RING_DOORBELL` (R274): neither behind the previous value nor more than the ring's size beyond the engine's count. -/
def spDoorbell : Special where
  entry := E.ringDoorbell
  codes c s := reservedKind c.i ++
    (if (c.v + 2 ^ 32 - s.n E.ringDoorbell c.i) % 2 ^ 32 < 2 ^ 31 ∧
        ((c.v + 2 ^ 32 - s.n E.ringEngineIdx c.i) % 2 ^ 32 ≤ s.n E.ringSize c.i ∨
          2 ^ 31 ≤ (c.v + 2 ^ 32 - s.n E.ringEngineIdx c.i) % 2 ^ 32) then [] else [7])
  apply c s := s.doorbell c.i c.v
/-- RING_DOORBELL. -/
def execRingDoorbell (t : Nat) (m : Master) (w : Fin 16) (k : Fin 8) (v : Word) (s : State) :
    Host.Outcome State Fault Refusal :=
  writeRow spDoorbell t m (8 * w + k) [v] s

/-- A ring's set-up is complete (R273). -/
def State.ringReady (s : State) (r : Nat) : Bool :=
  let f := s.n E.ringFunc r
  decide (s.n E.ringSize r ≠ 0 ∧ f < 8 ∧ s.n E.bindPcie f = r / 8)
/-- A ring is reset (R277): every generation advances by 1, both counts return to 0, and its quiet time starts. -/
def State.ringReset (s : State) (r : Nat) (endQuiet : Bool) : State :=
  let x := s.ring r
  let q := ticksUs (s.n E.ringQuiet r)
  let s := s.setRing r { x with genBase := x.genBase + 1, quietUntil := s.now + q, ages := [], signalled := false, sent := [] }
  let s := (s.set E.ringDoorbell r 0).set E.ringEngineIdx r 0
  s.set E.ringState r (if endQuiet ∨ q = 0 then 0 else 3)
/-- `RING_CTRL` (R273, R277, R278). -/
def spRingCtrl : Special where
  entry := E.ringCtrl
  codes c s := reservedKind c.i ++
    (match c.v with
     | 1 => if s.n E.ringState c.i = 3 ∨ s.n E.ringState c.i = 2 then [0xA] else if s.ringReady c.i then [] else [7]
     | 2 | 3 | 4 => []
     | _ => [7])
  apply c s :=
    match c.v with
    | 1 => s.set E.ringState c.i 1
    | 2 => if s.ringRuns c.i then s.set E.ringState c.i 2 else s
    | 3 => s.ringReset c.i false
    | _ => s.ringReset c.i true
/-- RING_ENABLE. -/
def execRingEnable (t : Nat) (m : Master) (w : Fin 16) (k : Fin 8) (s : State) : Host.Outcome State Fault Refusal :=
  writeRow spRingCtrl t m (8 * w + k) [1] s
/-- RING_HALT. -/
def execRingHalt (t : Nat) (m : Master) (w : Fin 16) (k : Fin 8) (s : State) : Host.Outcome State Fault Refusal :=
  writeRow spRingCtrl t m (8 * w + k) [2] s
/-- RING_RESET. -/
def execRingReset (t : Nat) (m : Master) (w : Fin 16) (k : Fin 8) (s : State) : Host.Outcome State Fault Refusal :=
  writeRow spRingCtrl t m (8 * w + k) [3] s
/-- RING_RESET_END_QUIET. -/
def execRingResetEndQuiet (t : Nat) (m : Master) (w : Fin 16) (k : Fin 8) (s : State) : Host.Outcome State Fault Refusal :=
  writeRow spRingCtrl t m (8 * w + k) [4] s
/-- RING_QUIET_EXPIRY (R277). -/
def execRingQuietExpiry (t : Nat) (w : Fin 16) (k : Fin 8) (s : State) : Host.Outcome State Fault Refusal :=
  timed t s fun s =>
    let r := 8 * w.val + k.val
    if s.n E.ringState r = 3 ∧ (s.ring r).quietUntil ≤ s.now then s.set E.ringState r 0 else s
/-- RING_IRQ_TIME_EXPIRY (R283). -/
def execRingIrqTimeExpiry (t : Nat) (w : Fin 16) (k : Fin 8) (s : State) : Host.Outcome State Fault Refusal :=
  timed t s fun s => s.ringSignal (8 * w.val + k.val)
/-- RING_LOSS_RECORD (R281, R282): the pending loss record of a world's EVT ring takes the first free slot. -/
def execRingLossRecord (t : Nat) (w : Fin 16) (s : State) : Host.Outcome State Fault Refusal :=
  timed t s fun s => s.ringFlushLoss (8 * w.val + 3)

/-! ### Links and functions (R269 to R271) -/

/-- A link the arrangement provides (R269). -/
def State.linkProvided (s : State) (l : Nat) : Bool :=
  match s.n E.pcieBifur with | 0 => decide (l = 0) | 1 => decide (l < 2) | _ => decide (l < 4)
/-- What an FLR, a lost link, a binding change or a cleared bus-master enable does to a function (R271). -/
def State.functionReset (s : State) (f : Nat) : State :=
  let s := (List.range 128).foldl (fun s r => if s.n E.ringFunc r = f then s.ringReset r false else s) s
  let s := { s with control := { s.control with
    latch := tabErase f s.control.latch
    staged := s.control.staged.filter (fun p => decide (p.1 ≠ f)) } }
  match s.control.pair with
  | some p => if p.func = f then s.pairDiscard else s
  | none => s
/-- The lanes of a provided link (R269). -/
def State.linkLanes (s : State) : Nat := match s.n E.pcieBifur with | 0 => 16 | 1 => 8 | _ => 4
/-- PCIE_LINK_UP (R270): a link trains at one of five speeds and at any width down to one lane. -/
def execPcieLinkUp (t : Nat) (l : Fin 4) (speed width : Nat) (s : State) : Host.Outcome State Fault Refusal :=
  timed t s fun s =>
    if s.linkProvided l ∧ 1 ≤ speed ∧ speed ≤ 5 ∧ [1, 2, 4, 8, 16].contains width ∧ width ≤ s.linkLanes then ((s.set E.pcieLinkState l 1).set E.pcieLinkSpeed l speed).set E.pcieLinkWidth l width else s
/-- PCIE_LINK_DOWN (R271). -/
def execPcieLinkDown (t : Nat) (l : Fin 4) (s : State) : Host.Outcome State Fault Refusal :=
  timed t s fun s =>
    let s := ((s.set E.pcieLinkState l 0).set E.pcieLinkSpeed l 0).set E.pcieLinkWidth l 0
    (s.functionReset (2 * l)).functionReset (2 * l + 1)
/-- PCIE_FLR (R271). -/
def execPcieFlr (t : Nat) (f : Fin 8) (s : State) : Host.Outcome State Fault Refusal :=
  timed t s fun s => (s.bump E.pcieFlrCount (f / 2)).functionReset f
/-- BUS_MASTER_CLEAR (R271). -/
def execBusMasterClear (t : Nat) (f : Fin 8) (s : State) : Host.Outcome State Fault Refusal :=
  timed t s fun s => s.functionReset f
/-- `PCIE_BIFUR_BURN` (R269). -/
def spBifurBurn : Special where
  entry := E.pcieBifurBurn
  codes c s := (if s.n E.lifecycle = 1 ∨ s.n E.lifecycle = 2 then [] else [9]) ++ (if c.v ≤ 2 then [] else [7])
  apply c s := { s with otp := { s.otp with bifur := c.v } }

/-! ### Receiving (R279) -/

/-- The error of an RXM descriptor; `none` when it is good (R278). -/
def rxmError (d : DmaDesc) : Option Nat :=
  if d.data.isNone then some 0x14
  else if d.op ≠ 1 then some 0x12
  else if d.len = 0 then some 0x10
  else if d.len < 256 ∨ 16384 < d.len ∨ d.len % 64 ≠ 0 then some 0x11
  else if d.addr % 64 ≠ 0 then some 0x13
  else none
/-- The buffers a frame fills: descriptor, bytes; the descriptor error met, or `none` for the frame when buffers run out. -/
def fillBuffers : List Byte → List DmaDesc → Nat → Option (List (DmaDesc × List Byte)) × Option (Nat × DmaDesc × Nat)
  | [], _, _ => (some [], none)
  | _ :: _, [], _ => (none, none)
  | b :: bs, d :: ds, i =>
    match rxmError d with
    | some e => (none, some (i, d, e))
    | none =>
      let l := b :: bs
      match fillBuffers (l.drop d.len) ds (i + 1) with
      | (some r, _) => (some ((d, l.take d.len) :: r), none)
      | (none, e) => (none, e)
/-- A frame's buffers and completions written, the write-back last (R276, R279). -/
def State.rxmWrite (s : State) (r : Nat) (f : RxFrame) (bufs : List (DmaDesc × List Byte)) : State :=
  let func := s.n E.ringFunc r
  let base := s.n E.ringEngineIdx r
  let n := bufs.length
  let s := bufs.foldl (fun s p => s.emit (.dma func p.1.addr p.2)) s
  let s := bufs.zipIdx.foldl (fun s p =>
    s.ringComplete r (base + p.2) (fun h =>
      completedDesc (t96Bytes f.stamp).reverse f.bound p.1.2.length
        (ofBool (p.2 == 0) + 2 * ofBool (p.2 + 1 == n)) 0 h p.1.1.user f.flags f.port f.cls)) s
  (s.ringAdvance r n).noteOut f.bound
/-- RXM_FRAME (R279): the oldest frame steered to the world goes into its posted buffers, or is dropped whole. -/
def execRxmFrame (t : Nat) (w : Fin 16) (descs : List DmaDesc) (s : State) : Host.Outcome State Fault Refusal :=
  timed t s fun s =>
    let r := 8 * w.val
    let x := s.ring r
    match x.waiting with
    | [] => s
    | f :: rest =>
      let s := (s.setRing r { x with waiting := rest }).occSub f.port f.prio f.bytes.length
      let posted := s.ringPosted r
      if ¬ s.ringRuns r then s
      else if posted = 0 then s.bump E.ringEmpty r
      else
        match fillBuffers f.bytes ((List.range posted).map (fun i => descs.getD i ⟨[], none⟩)) 0 with
        | (some bufs, _) => s.rxmWrite r f bufs
        | (none, some (i, d, e)) => s.ringError r (s.n E.ringEngineIdx r + i) d.user e
        | (none, none) => s.bump E.ringStarved r

/-! ### Transmitting (R280) -/

/-- Transmit frames completed in ring order, as far as their results are known (R280). -/
def State.txFlush (s : State) (r : Nat) : Nat → State
  | 0 => s
  | fuel + 1 =>
    let x := s.ring r
    match x.sent with
    | e :: rest =>
      match e.result with
      | some (err, handle) =>
        let n := e.users.length
        let s := s.setRing r { x with sent := rest }
        let s := e.users.zipIdx.foldl (fun s p =>
          s.ringComplete r (e.start + p.2) (fun h =>
            completedDesc (if p.2 = 0 then le 4 handle else []) 0xFFFFFFFF 0
              (ofBool (p.2 == 0) + 2 * ofBool (p.2 + 1 == n) + 4 * ofBool (err != 0)) err h p.1 0 0 0)) s
        (s.ringAdvance r n).txFlush r fuel
      | none => s
    | [] => s
/-- A transmit frame has been sent or refused (R280); after a reset that followed its reading the completion is stale (R277).
`o` names the ring's world, the count of the SOF slot, the ring's generation base and the number of descriptors. -/
def State.txDone (s : State) (o : Origin) (err handle : Nat) : State :=
  if o.unit < 16 then s
  else
    let r := 8 * (o.unit - 16) + 1
    let x := s.ring r
    if x.genBase ≠ o.kind then s.bump E.ringStale r o.seq
    else
      let sent := x.sent.map (fun e => if e.start = o.inst ∧ e.result.isNone then { e with result := some (err, handle) } else e)
      (s.setRing r { x with sent := sent }).txFlush r (sent.length + 1)
/-- Descriptors read and not yet completed. -/
def State.txRead (s : State) (r : Nat) : Nat := (((s.ring r).sent).map (·.users.length)).foldl (· + ·) 0
/-- The first descriptor error of a transmit frame, with its place (R278). -/
def txError (descs : List DmaDesc) : Option (Nat × DmaDesc × Nat) :=
  (descs.zipIdx.findSome? (fun p =>
    let d := p.1
    let e :=
      if d.data.isNone then 0x14
      else if d.op ≠ 0x10 then 0x12
      else if d.len = 0 then 0x10
      else if 16384 < d.len then 0x11
      else if (p.2 = 0) ≠ (d.flag 0 = true) then 0x15
      else if p.2 ≠ 0 ∧ (((d.desc.drop 16).take 16).any (· != 0) ∨ d.field 11 1 / 4 ≠ 0) then 0x15
      else if p.2 = 0 ∧ 3 < d.field 17 1 then 0x15
      else if p.2 = 0 ∧ 17 < d.field 16 1 then 0x16
      else 0
    if e = 0 then none else some (p.2, d, e))).orElse (fun _ =>
      if 16384 < (descs.map DmaDesc.len).foldl (· + ·) 0 then (descs.getLast?).map (fun d => (descs.length - 1, d, 0x15))
      else none)

/-! ### Commands (R275, R276, R278, R285) -/

/-- The error of a CMD descriptor; `none` when it is good (R278). -/
def cmdError (d : DmaDesc) : Option Nat :=
  if d.data.isNone then some 0x14
  else if d.op ≠ 0x20 ∧ d.op ≠ 0x21 then some 0x12
  else if d.len = 0 then some 0x10
  else if d.bufsz < 256 ∨ 16384 < d.bufsz ∨ d.bufsz < d.len then some 0x11
  else none
/-- The command in progress on a world's CMD ring. -/
def State.cmdBusy (s : State) (w : Nat) : Bool := s.host.cmd.any (fun p => p.1 == w)
/-- The command in progress of world `w` completes with a code and a reply (R276, R285): a reply longer than BUFSZ is not
written. After a reset that followed the reading of its descriptor, the completion is stale (R277). -/
def State.cmdFinish (s : State) (w err : Nat) (reply : List Byte) : State :=
  let r := 8 * w + 5
  match s.host.cmd.find? (fun p => p.1 == w) with
  | none => s
  | some (_, d, base) =>
    let s := { s with host := { s.host with cmd := s.host.cmd.filter (fun p => p.1 != w) } }
    if (s.ring r).genBase ≠ base then s.bump E.ringStale r
    else
      let err := if err = 0 ∧ d.bufsz < reply.length then 8 else err
      let reply := if err = 0 then reply else []
      let s := if reply.isEmpty then s else s.emit (.dma (s.n E.ringFunc r) d.addr reply)
      let s := s.ringComplete r (s.n E.ringEngineIdx r) (fun h =>
        completedDesc (t96Bytes s.tai).reverse 0xFFFFFFFF reply.length (if err = 0 then 3 else 7) err h d.user 0 0 0)
      s.ringAdvance r 1
/-- The next descriptor of a world's CMD ring is read and run by `f`; on a descriptor error the ring halts (R278). A ring that
does not run, has nothing posted or is still busy reads none. -/
def State.cmdStart (s : State) (w : Nat) (d : DmaDesc) (f : State → State) : State :=
  let r := 8 * w + 5
  if ¬ s.ringRuns r ∨ s.ringPosted r = 0 ∨ s.cmdBusy w then s
  else
    match cmdError d with
    | some e => s.ringError r (s.n E.ringEngineIdx r) d.user e
    | none => f { s with host := { s.host with cmd := s.host.cmd ++ [(w, d, (s.ring r).genBase)] } }

/-- The special entries of this chapter that act here. -/
def hostSpecials : List Special :=
  [spRingBase, spRingSize, spRingWbAddr, spRingFunc, spRingIrqVec, spRingIrqCount, spRingIrqTime, spRingQuiet, spDoorbell,
   spRingCtrl, spBifurBurn]

end Sys2Proof.Machine
end

