-- ==== Sys2Proof/Machine/Vault.lean ====
section
/-! DEFINITION. The key vault: key slots, anchors and their journal, shares, the DRBG and the self-tests (R385 to R412).
DERIVATION_COMPLETE, whose waiting uses are the NTS service's, is in `Ntp.lean`. -/

namespace Sys2Proof.Machine

/-- The material length of a type (R389). -/
def typeLength (t : Nat) : Nat :=
  match t with | 1 | 2 | 3 | 5 | 8 => 32 | 4 => 64 | 6 => 96 | 7 => 48 | _ => 0
/-- The usage bits a type allows (R389). -/
def typeUsage (t : Nat) : Nat :=
  match t with | 1 => 7 | 2 => 2 | 3 => 4 | 4 | 6 => 16 | 5 | 7 => 8 | 8 => 32 | _ => 0
/-- A mask has only bits of another. -/
def maskIn (a b : Nat) : Bool := (List.range 16).all (fun i => !bitOf a i || bitOf b i) && decide (a < 2 ^ 16)
/-- A private type (R389). -/
def privateType (t : Nat) : Bool := t = 5 || t = 7

/-- A key of a type drawn from the DRBG (R399, R402): for a private type a number from 1 up, below the order of its curve. -/
def State.newKey (s : State) (t : Nat) : List Byte :=
  match t with
  | 5 => be 32 (1 + s.drawn (p256.n - 1))
  | 7 => be 48 (1 + s.drawn (p384.n - 1))
  | t => s.randomBytes (typeLength t)
/-- Sets the material of a slot. -/
def State.setKey (s : State) (k : Nat) (key : List Byte) : State :=
  let (x, s) := s.share key
  { s with vault := { s.vault with keys := tabPut {} k x s.vault.keys } }
/-- Erases the material of a slot. -/
def State.eraseKey (s : State) (k : Nat) : State :=
  { s with vault := { s.vault with keys := tabErase k s.vault.keys } }
/-- The CRC of a DERIVED slot's declaration (R388): class, type, parent, label. -/
def State.declaration (s : State) (k : Nat) : Nat :=
  crc32c (be 1 (s.n E.keyClass k) ++ be 1 (s.n E.keyType k) ++ be 2 (s.n E.keyParent k) ++ s.oct E.keyLabel k)
/-- Sets a slot's generation; a derived slot's check value is to be computed again. -/
def State.setGen (s : State) (k g : Nat) : State :=
  let s := s.set E.keyRef k (k * 2 ^ 20 + g)
  if s.derivedSlot k then s.set E.keyKcv k 0 else s
/-- A slot's generation advances under R399; a kept record is rewritten (R388). -/
def State.advanceGen (s : State) (k : Nat) : State :=
  let g := nextGen (s.slotGen k)
  let s := s.setGen k g
  if s.vault.kept.any (fun p => p.1 = k) ∧ s.derivedSlot k then
    { s with vault := { s.vault with kept := tabInsert k (g, s.declaration k) s.vault.kept } }
  else s
/-- The kept records as a matched commit writes them (R388). -/
def State.keepRecords (s : State) : State :=
  let ks := s.declared.filter s.derivedSlot
  { s with vault := { s.vault with kept := ks.map (fun k => (k, (s.slotGen k, s.declaration k))) } }

/-! ### Declarations (R386, R388, R391, R395, R412) -/

/-- The depth entries of a slot and its descendants follow. -/
def State.depthRefresh (s : State) (k : Nat) : State :=
  (k :: s.descendants k).foldl (fun s j => s.set E.keyDepth j (s.depthOf j)) s
/-- A declaration has been written (R387, R388, R398): the state its class gives, a provisioned slot's first generation, and a
derived slot's kept or drawn one. A REVOKED slot stays so. -/
def State.redeclare (s : State) (k : Nat) (cls : Bool) : State :=
  let c := s.n E.keyClass k
  let s := if ¬ cls ∨ s.n E.keyState k = 5 then s
    else s.set E.keyState k (match c with | 1 => 2 | 2 => 4 | _ => 0)
  let s := if c = 2 then
      match s.vault.kept.find? (fun p => p.1 = k) with
      | some (_, g, crc) => if crc = s.declaration k then s.setGen k g else (s.setGen k s.drawnGen).drew
      | none => (s.setGen k s.drawnGen).drew
    else if c = 1 ∧ s.slotGen k = 0 then (s.setGen k s.drawnGen).drew
    else s
  (s.depthRefresh k).cachePurge
/-- A declared attribute written. -/
def State.declare (s : State) (e : Entry) (c : Ctx) : State :=
  (s.setWords e c.i c.words).redeclare c.i (e.sub == E.keyClass.sub)
/-- What a DERIVED definition must hold (R395): a parent with DERIVE usage that is no anchor, no loop, and depth at most 8 in
the slot and its descendants. -/
def State.definitionOk (s : State) (k : Nat) : Bool :=
  if s.n E.keyClass k ≠ 2 then true
  else
    let p := s.slotParent k
    (p == 0 || ([2, 3].contains (s.slotClass p) && bitOf (s.slotUsage p) 2)) &&
    (k :: s.descendants k).all (fun j => decide ((s.chainOf j).length ≤ 9))
/-- The codes of a declaration write: LOADED or quiet (R387, R397), and the definition it would leave. -/
def declareCodes (e : Entry) (c : Ctx) (s : State) : List Nat :=
  (if s.n E.keyState c.i = 3 then [0xA] else []) ++
  (if s.n E.keyState c.i = 1 ∧ s.now < tabGet 0 c.i s.vault.quietUntil then [0xA] else []) ++
  (if (s.declare e c).definitionOk c.i then [] else [7])
/-- `KEY_CLASS` (R386). -/
def spKeyClass : Special where
  entry := E.keyClass
  codes c s := declareCodes E.keyClass c s ++ (if c.v = 2 ∧ 3 < s.n E.keyType c.i then [7] else [])
  apply c s := s.declare E.keyClass c
/-- `KEY_TYPE` (R389, R412). -/
def spKeyType : Special where
  entry := E.keyType
  codes c s := declareCodes E.keyType c s ++
    (if s.n E.keyClass c.i = 2 ∧ (c.v = 0 ∨ 3 < c.v) then [7] else []) ++
    (if maskIn (s.n E.keyUsage c.i) (typeUsage c.v) then [] else [7])
  apply c s := s.declare E.keyType c
/-- `KEY_PARENT` (R395, R412). -/
def spKeyParent : Special where
  entry := E.keyParent
  codes c s := declareCodes E.keyParent c s ++ (if c.v = 0 ∨ (16 ≤ c.v ∧ c.v < 4096) then [] else [7])
  apply c s := s.declare E.keyParent c
/-- `KEY_LABEL` (R394, R395): 1 to 64 bytes, not beginning with `BOX`. -/
def spKeyLabel : Special where
  entry := E.keyLabel
  codes c s :=
    let l := octBytes c.words
    declareCodes E.keyLabel c s ++
    (if l.isEmpty ∨ 64 < l.length ∨ l.take 3 = [0x42#8, 0x4F#8, 0x58#8] then [7] else [])
  apply c s := s.declare E.keyLabel c
/-- `KEY_USAGE` (R389, R391). -/
def spKeyUsage : Special where
  entry := E.keyUsage
  codes c s := (if s.n E.keyState c.i = 3 then [0xA] else []) ++
    (if s.n E.keyState c.i = 1 ∧ s.now < tabGet 0 c.i s.vault.quietUntil then [0xA] else []) ++
    (if maskIn c.v (typeUsage (s.n E.keyType c.i)) then [] else [7])
/-- `KEY_ENGINE_MASK` (R391). -/
def spKeyEngineMask : Special where
  entry := E.keyEngineMask
  codes c s := (if s.n E.keyState c.i = 3 then [0xA] else []) ++
    (if s.n E.keyState c.i = 1 ∧ s.now < tabGet 0 c.i s.vault.quietUntil then [0xA] else [])

/-! ### Operations on slots (R397, R399, R400) -/

/-- The use of the wrapping key of a LOAD_WRAPPED (R397, R476). -/
def wrapUse (c : Ctx) : KeyUse :=
  { ref := bitsOf c.v 27 16 * 2 ^ 20 + 0xFFFFF, op := 5, types := [8], classes := [1, 2], role := 4,
    master := match c.m with
      | .pcie f => f.val / 2 | .spit => 5 | .irlin _ => 4 | .seq => 6 }
/-- The material a LOAD_WRAPPED unwraps. -/
def State.unwrapped (s : State) (c : Ctx) : Option (List Byte) :=
  if s.keyReason (wrapUse c) = 0 then kwpUnwrap (s.slotKey (bitsOf c.v 27 16)) (s.oct E.keyMaterial c.i) else none
/-- The codes of `KEY_CTRL` (R387, R397, R399, R409). -/
def keyCtrlCodes (c : Ctx) (s : State) : List Nat :=
  let op := bitsOf c.v 7 0
  let st := s.n E.keyState c.i
  let life := s.n E.lifecycle
  let t := s.n E.keyType c.i
  if op = 1 ∨ op = 2 ∨ op = 6 then
    (if st = 3 then [0xA] else if (st = 1 ∨ st = 2) ∧ s.n E.keyClass c.i = 1 then [] else [7]) ++
    (if st = 1 ∧ s.now < tabGet 0 c.i s.vault.quietUntil then [0xA] else []) ++
    (if op = 2 then (if t = 0 ∨ t = 4 ∨ t = 6 then [7] else [])
     else
      (if life = 0 ∨ (life = 1 ∧ op = 6) then [9] else []) ++
      (if op = 1 ∧ s.flag E.boxCertMode ∧ life ≠ 1 then [9] else []) ++
      (if t = 0 ∨ privateType t then [7] else []) ++
      (if op = 1 then (if (s.oct E.keyMaterial c.i).length = typeLength t then [] else [8])
       else match s.unwrapped c with
        | none => [7]
        | some key => if key.length = typeLength t then [] else [8]))
  else if op = 3 then (if st = 3 ∨ st = 4 then [] else [7])
  else if op = 4 then (if st = 0 ∨ st = 1 then [7] else [])
  else if op = 5 then (if st = 0 then [7] else [])
  else [7]
/-- The generations of a slot's descendants advance with it, and old cache entries are purged (R399). -/
def State.advanceTree (s : State) (k : Nat) : State :=
  ((k :: s.descendants k).foldl State.advanceGen s).cachePurge
/-- Material takes its place in a slot (R397): shares, check value, generation, LOADED, `KEY_MATERIAL` cleared. -/
def State.loadKey (s : State) (k : Nat) (key : List Byte) : State :=
  let t := s.n E.keyType k
  let s := s.setKey k key
  let s := (s.set E.keyKcv k (kcvOf t key)).set E.keyState k 3
  let s := s.setOct E.keyPubkey k (if privateType t then ecdsaPublic key else [])
  (s.setOct E.keyMaterial k []).advanceTree k
/-- A slot and its descendants are revoked, the slot into state `st` (R399). -/
def State.dropKey (s : State) (k st : Nat) : State :=
  let down := s.descendants k
  let s := (down.foldl (fun s j => s.advanceGen j) s).advanceGen k
  let s := down.foldl (fun s j => s.set E.keyState j 5) s
  let s := ((s.eraseKey k).set E.keyState k st).set E.keyKcv k 0
  (s.setOct E.keyPubkey k []).cachePurge
/-- `KEY_CTRL`. A GENERATE while the DRBG is in ERROR fails (R408). -/
def spKeyCtrl : Special where
  entry := E.keyCtrl
  codes := keyCtrlCodes
  apply c s :=
    match bitsOf c.v 7 0 with
    | 1 => s.loadKey c.i (s.oct E.keyMaterial c.i)
    | 2 =>
      if s.n E.drbgState = 1 then
        s.drew.loadKey c.i (s.newKey (s.n E.keyType c.i))
      else s.set E.keyCtrl c.i 3
    | 3 => s.advanceTree c.i
    | 4 => s.dropKey c.i 5
    | 5 =>
      let s := s.dropKey c.i 1
      { s with vault := { s.vault with
        quietUntil := tabPut 0 c.i (s.now + ticksMs (s.n E.vaultSlotQuiet)) s.vault.quietUntil } }
    | _ =>
      match s.useKey (wrapUse c), s.unwrapped c with
      | (_, s'), some key => s'.loadKey c.i key
      | (_, s'), none => s'
  refused code c s := if bitsOf c.v 7 0 = 6 ∧ code = 7 ∧ s.keyReason (wrapUse c) ≠ 0 then (s.useKey (wrapUse c)).2 else s

/-- KEY_LOAD. -/
def execKeyLoad (t : Nat) (m : Master) (k : Fin 4080) (s : State) : Host.Outcome State Fault Refusal :=
  writeRow spKeyCtrl t m (k.val + 16) [1] s
/-- KEY_GENERATE. -/
def execKeyGenerate (t : Nat) (m : Master) (k : Fin 4080) (s : State) : Host.Outcome State Fault Refusal :=
  writeRow spKeyCtrl t m (k.val + 16) [2] s
/-- KEY_INVALIDATE. -/
def execKeyInvalidate (t : Nat) (m : Master) (k : Fin 4080) (s : State) : Host.Outcome State Fault Refusal :=
  writeRow spKeyCtrl t m (k.val + 16) [3] s
/-- KEY_REVOKE. -/
def execKeyRevoke (t : Nat) (m : Master) (k : Fin 4080) (s : State) : Host.Outcome State Fault Refusal :=
  writeRow spKeyCtrl t m (k.val + 16) [4] s
/-- KEY_FREE. -/
def execKeyFree (t : Nat) (m : Master) (k : Fin 4080) (s : State) : Host.Outcome State Fault Refusal :=
  writeRow spKeyCtrl t m (k.val + 16) [5] s
/-- KEY_LOAD_WRAPPED. -/
def execKeyLoadWrapped (t : Nat) (m : Master) (k : Fin 4080) (wrap : Fin 4096) (s : State) : Host.Outcome State Fault Refusal :=
  writeRow spKeyCtrl t m (k.val + 16) [BitVec.ofNat 64 (wrap.val * 65536 + 6)] s
/-- VAULT_SLOT_QUIET_EXPIRY (R387). -/
def execVaultSlotQuietExpiry (t : Nat) (k : Fin 4080) (s : State) : Host.Outcome State Fault Refusal :=
  timed t s fun s =>
    if tabGet 0 (k.val + 16) s.vault.quietUntil ≤ s.now then
      { s with vault := { s.vault with quietUntil := tabErase (k.val + 16) s.vault.quietUntil } }
    else s
/-- `VAULT_QUIET_FORCE` (R387). -/
def spVaultQuietForce : Special where
  entry := E.vaultQuietForce
  apply _ s := { s with vault := { s.vault with quietUntil := [] } }
/-- VAULT_QUIET_FORCE. -/
def execVaultQuietForce (t : Nat) (m : Master) (s : State) : Host.Outcome State Fault Refusal :=
  writeRow spVaultQuietForce t m 0 [1] s

/-! ### Shadows (R401, R402) -/

/-- The type an anchor role takes (R401). -/
def roleType (r : Nat) : Nat := match r with | 1 => 2 | 2 => 4 | 3 => 5 | 4 => 8 | _ => 0
/-- The role and masks of a shadow stand (R391, R401). -/
def State.shadowOk (s : State) (a : Nat) : Bool :=
  let t := s.n E.shType a
  decide (t ≠ 0 ∧ t = roleType (s.n E.shRole a)) && maskIn (s.n E.shUsage a) (typeUsage t) &&
    decide (s.n E.shMasterMask a < 128 ∧ s.n E.shLifeMask a < 16)
/-- Shadows are written in ROOTED, PROVISIONED and FIELD alone (R402). -/
def shadowLife (s : State) : List Nat := if 1 ≤ s.n E.lifecycle ∧ s.n E.lifecycle ≤ 3 then [] else [9]
/-- An attribute of a shadow. -/
def spShadow (e : Entry) : Special := { entry := e, codes := fun _ s => shadowLife s }
/-- Empties a shadow. -/
def State.shadowEmpty (s : State) (a : Nat) : State :=
  let s := (((s.set E.shState a 0).set E.shKcv a 0).setOct E.shPubkey a []).setOct E.shMaterial a []
  { s with vault := { s.vault with shadows := tabErase a s.vault.shadows } }
/-- Material takes its place in a shadow. -/
def State.shadowKey (s : State) (a : Nat) (key : List Byte) : State :=
  let (x, s) := s.share key
  let s := { s with vault := { s.vault with shadows := tabPut {} a x s.vault.shadows } }
  s.set E.shKcv a (kcvOf (s.n E.shType a) key)
/-- `SH_CTRL` (R402, R408). -/
def spShCtrl : Special where
  entry := E.shCtrl
  codes c s :=
    let st := s.n E.shState c.i
    let t := s.n E.shType c.i
    shadowLife s ++
    (match c.v with
     | 1 => (if st = 0 then [] else [7]) ++ (if t ≠ 0 ∧ t = roleType (s.n E.shRole c.i) ∧ ¬ privateType t then [] else [7]) ++
        (if (s.oct E.shMaterial c.i).length = typeLength t then [] else [8])
     | 2 => (if st = 0 then [] else [7]) ++ (if t = roleType (s.n E.shRole c.i) ∧ privateType t then [] else [7])
     | 3 => if st = 0 ∧ s.n E.anchorState c.i = 1 then [] else [7]
     | 4 => []
     | _ => [7])
  apply c s :=
    match c.v with
    | 1 => ((s.shadowKey c.i (s.oct E.shMaterial c.i)).setOct E.shMaterial c.i []).set E.shState c.i 1
    | 2 =>
      if s.n E.drbgState = 1 then
        let key := s.newKey (s.n E.shType c.i)
        ((s.drew.shadowKey c.i key).setOct E.shPubkey c.i (ecdsaPublic key)).set E.shState c.i 2
      else s.set E.shCtrl c.i 3
    | 3 => s.set E.shState c.i 4
    | _ => s.shadowEmpty c.i
/-- SH_LOAD. -/
def execShLoad (t : Nat) (m : Master) (a : Fin 15) (s : State) : Host.Outcome State Fault Refusal :=
  writeRow spShCtrl t m (a.val + 1) [1] s
/-- SH_GENERATE. -/
def execShGenerate (t : Nat) (m : Master) (a : Fin 15) (s : State) : Host.Outcome State Fault Refusal :=
  writeRow spShCtrl t m (a.val + 1) [2] s
/-- SH_REMOVAL. -/
def execShRemoval (t : Nat) (m : Master) (a : Fin 15) (s : State) : Host.Outcome State Fault Refusal :=
  writeRow spShCtrl t m (a.val + 1) [3] s
/-- SH_DISCARD. -/
def execShDiscard (t : Nat) (m : Master) (a : Fin 15) (s : State) : Host.Outcome State Fault Refusal :=
  writeRow spShCtrl t m (a.val + 1) [4] s
/-- SHADOW_KCV_CHECK (R402): VERIFIED or MISMATCH. -/
def execShadowKcvCheck (t : Nat) (a : Fin 15) (s : State) : Host.Outcome State Fault Refusal :=
  timed t s fun s =>
    let a := a.val + 1
    if s.n E.shState a ≠ 1 then s
    else if s.n E.shKcv a = s.n E.shKcvExpect a then s.set E.shState a 2
    else (s.set E.shState a 3).bump E.anchorKcvFail

/-! ### Anchors and their journal (R401 to R405) -/

/-- The ACTIVE anchors, in slot order. -/
def State.anchors (s : State) : List Anchor :=
  ((List.range 16).filter (fun a => decide (1 ≤ a ∧ s.n E.anchorState a = 1))).map (fun a =>
    { slot := a, role := s.n E.anchorRole a, type := s.n E.anchorType a, gen := s.slotGen a,
      engine := s.n E.anchorEngineMask a, usage := s.n E.anchorUsage a, life := s.n E.anchorLifeMask a,
      worlds := s.n E.anchorWorldMask a, masters := s.n E.anchorMasterMask a, kcv := s.n E.anchorKcv a,
      key := s.slotKey a })
/-- The anchor a VERIFIED shadow makes of its slot. -/
def State.shadowAnchor (s : State) (a : Nat) : Anchor :=
  { slot := a, role := s.n E.shRole a, type := s.n E.shType a, gen := nextGen (s.slotGen a),
    engine := s.n E.shEngineMask a, usage := s.n E.shUsage a, life := s.n E.shLifeMask a,
    worlds := s.n E.shWorldMask a, masters := s.n E.shMasterMask a, kcv := s.n E.shKcv a,
    key := (tabGet {} a s.vault.shadows).key }
/-- The anchors a commit would put in force (R403). -/
def State.nextAnchors (s : State) : List Anchor :=
  (List.range 16).filterMap (fun a =>
    if a = 0 then none
    else if s.n E.shState a = 2 then some (s.shadowAnchor a)
    else if s.n E.shState a = 4 then none
    else s.anchors.find? (fun x => x.slot = a))
/-- An anchor set takes effect. -/
def State.setAnchors (s : State) (l : List Anchor) : State :=
  (List.range 16).foldl (fun s a =>
    if a = 0 then s
    else
      match l.find? (fun x => x.slot = a) with
      | some x =>
        let s := (((s.set E.anchorState a 1).set E.anchorRef a (a * 2 ^ 20 + x.gen)).set E.anchorRole a x.role).set
          E.anchorType a x.type
        let s := (((s.set E.anchorEngineMask a x.engine).set E.anchorUsage a x.usage).set E.anchorWorldMask a x.worlds).set
          E.anchorMasterMask a x.masters
        let s := ((s.set E.anchorLifeMask a x.life).set E.anchorKcv a x.kcv).setOct E.anchorPubkey a
          (if x.type = 4 then x.key else if x.type = 5 then ecdsaPublic x.key else [])
        if s.slotKey a = x.key then s else s.setKey a x.key
      | none =>
        let s := (((s.set E.anchorState a 0).set E.anchorRef a 0).set E.anchorRole a 0).set E.anchorType a 0
        let s := (((s.set E.anchorEngineMask a 0).set E.anchorUsage a 0).set E.anchorWorldMask a 0).set E.anchorMasterMask a 0
        (((s.set E.anchorLifeMask a 0).set E.anchorKcv a 0).setOct E.anchorPubkey a []).eraseKey a) s

/-- ASCII of `BOXJ-WRAP`. -/
def wrapLabel : List Byte := [0x42, 0x4F, 0x58, 0x4A, 0x2D, 0x57, 0x52, 0x41, 0x50].map (BitVec.ofNat 8)
/-- ASCII of `BOXJ-MAC`. -/
def macLabel : List Byte := [0x42, 0x4F, 0x58, 0x4A, 0x2D, 0x4D, 0x41, 0x43].map (BitVec.ofNat 8)
/-- The 128 bytes of an anchor in a journal record (R404). -/
def State.anchorBytes (s : State) (x : Anchor) : List Byte :=
  let w := kwpWrap (s.rootChild wrapLabel) x.key
  be 2 x.slot ++ be 1 x.role ++ be 1 x.type ++ be 4 x.gen ++ be 2 x.engine ++ be 1 x.usage ++ be 1 x.life ++
    be 2 x.worlds ++ be 1 x.masters ++ be 1 0 ++ be 4 x.kcv ++ be 2 w.length ++ be 2 0 ++ padTo 104 w
/-- Bytes 0 to 4,079 of journal record `n` (R404). -/
def State.journalBytes (s : State) (n : Nat) (l : List Anchor) : List Byte :=
  let b := padTo 2064 (be 4 0x424F584A ++ be 2 1 ++ be 2 l.length ++ be 4 n ++ be 4 0 ++ l.flatMap s.anchorBytes)
  b ++ padTo 16 (cmac (s.rootChild macLabel) b) ++ zeros 2000
/-- The commit marker of a record (R404). -/
def journalMarker (n : Nat) (record : List Byte) : List Byte := be 4 0x434F4D4D ++ be 4 n ++ ((record.drop 2064).take 8)
/-- The flash address of record `n` (R404). -/
def journalAddr (n : Nat) : Nat := 0x800000 + 0x1000 * (n - 1)
/-- An anchor read back from a journal record. -/
def State.parseAnchor (s : State) (b : List Byte) : Anchor :=
  { slot := beAt b 0 2, role := beAt b 2 1, type := beAt b 3 1, gen := beAt b 4 4 % 2 ^ 20, engine := beAt b 8 2,
    usage := beAt b 10 1, life := beAt b 11 1, worlds := beAt b 12 2, masters := beAt b 14 1, kcv := beAt b 16 4,
    key := (kwpUnwrap (s.rootChild wrapLabel) ((b.drop 24).take (beAt b 20 2))).getD [] }
/-- The anchors of record `n` where it is valid (R405): magic, MAC and marker. -/
def State.journalRecord (s : State) (n : Nat) (b : List Byte) : Option (List Anchor) :=
  let body := b.take 2064
  if 1 ≤ n ∧ n ≤ 256 ∧ b.length = 4096 ∧ beAt b 0 4 = 0x424F584A ∧
      (b.drop 2064).take 16 = padTo 16 (cmac (s.rootChild macLabel) body) ∧
      b.drop 4080 = journalMarker n b then
    some ((List.range (min 15 (beAt b 6 2))).map (fun i => s.parseAnchor ((b.drop (16 + 128 * i)).take 128)))
  else none
/-- The journal load at the start of stage 4 (R405): `now'` is record C as read, `next` record C + 1; `answers` whether the flash
responds. -/
def State.journalLoad (s : State) (answers : Bool) (now' next : List Byte) : State :=
  let c := s.otp.anchorCounter
  let adopt (s : State) (n result : Nat) (l : List Anchor) : State :=
    ((({ s with otp := { s.otp with anchorCounter := n } }).setAnchors l).set E.anchorCounter 0 n |>.set E.anchorSeq 0 n).set
      E.anchorBootResult 0 result
  if ¬ answers then s.set E.anchorBootResult 0 4
  else
    match s.journalRecord (c + 1) next with
    | some l => adopt s (c + 1) 2 l
    | none =>
      if c = 0 then s.set E.anchorBootResult 0 0
      else
        match s.journalRecord c now' with
        | some l => adopt s c 1 l
        | none => (s.set E.anchorBootResult 0 3).raise 385

/-- `ANCHOR_COMMIT` (R403). -/
def spAnchorCommit : Special where
  entry := E.anchorCommit
  codes c s :=
    let sh := (List.range 16).filter (fun a => decide (1 ≤ a))
    let is (a st : Nat) : Bool := decide (s.n E.shState a = st)
    shadowLife s ++
    (if c.v = s.n E.anchorSeq + 1 ∧ c.v ≤ 256 ∧ s.n E.anchorCounter < 256 then [] else [7]) ++
    (if sh.any (fun a => is a 2 || is a 4) ∧ ¬ sh.any (fun a => is a 1 || is a 3) ∧
        sh.all (fun a => !is a 2 || s.shadowOk a) then [] else [7]) ++
    (if s.vault.commit.isSome ∨ s.boot.burning.isSome then [0xA] else [])
  apply c s :=
    let n := s.n E.anchorCounter + 1
    ({ s with vault := { s.vault with commit := some ⟨n, s.nextAnchors, s.now⟩ } }).set E.anchorCommit 0 c.v |>.set
      E.anchorCommitState 0 1
/-- ANCHOR_COMMIT. -/
def execAnchorCommit (t : Nat) (m : Master) (v : Word) (s : State) : Host.Outcome State Fault Refusal :=
  writeRow spAnchorCommit t m 0 [v] s
/-- The running commit goes on to its next step (R403). -/
def State.anchorStep (s : State) (from' : Nat) (f : AnchorCommit → State → State) : State :=
  match s.vault.commit with
  | some c =>
    if s.n E.anchorCommitState = from' then
      let s := ({ s with vault := { s.vault with commit := some { c with since := s.now } } }).set E.anchorCommitState 0 (from' + 1)
      f c s
    else s
  | none => s
/-- ANCHOR_ERASE_DONE (R403): the record goes to the flash. -/
def execAnchorEraseDone (t : Nat) (s : State) : Host.Outcome State Fault Refusal :=
  timed t s fun s => s.anchorStep 1 (fun c s => s.emit (.flash (journalAddr c.seq) (s.journalBytes c.seq c.anchors)))
/-- ANCHOR_WRITE_DONE (R403): the record has been read back; the marker goes to the flash. -/
def execAnchorWriteDone (t : Nat) (s : State) : Host.Outcome State Fault Refusal :=
  timed t s fun s => s.anchorStep 2 (fun c s =>
    s.emit (.flash (journalAddr c.seq + 4080) (journalMarker c.seq (s.journalBytes c.seq c.anchors))))
/-- ANCHOR_MARK_DONE (R402, R403): the record's anchors take effect, every shadow is EMPTY. -/
def execAnchorMarkDone (t : Nat) (s : State) : Host.Outcome State Fault Refusal :=
  timed t s fun s => s.anchorStep 3 (fun c s =>
    (List.range 16).foldl (fun s a => if a = 0 then s else s.shadowEmpty a) (s.setAnchors c.anchors))
/-- ANCHOR_BURN_DONE (R403). -/
def execAnchorBurnDone (t : Nat) (s : State) : Host.Outcome State Fault Refusal :=
  timed t s fun s => s.anchorStep 4 (fun c s =>
    let s := { s with otp := { s.otp with anchorCounter := c.seq }, vault := { s.vault with commit := none } }
    (s.set E.anchorCounter 0 c.seq).set E.anchorSeq 0 c.seq)
/-- ANCHOR_FLASH_TIMEOUT (R403): a read-back fails, or the flash does not respond within 1 s. -/
def execAnchorFlashTimeout (t : Nat) (readBackFails : Bool) (s : State) : Host.Outcome State Fault Refusal :=
  timed t s fun s =>
    match s.vault.commit with
    | some c =>
      if s.n E.anchorCommitState ≤ 3 ∧ (readBackFails ∨ c.since + ticksS 1 < s.now) then
        ({ s with vault := { s.vault with commit := none } }).set E.anchorCommitState 0 6
      else s
    | none => s

/-! ### Re-masking, the DRBG, self-tests (R406, R408, R409) -/

/-- A list of shares refreshed, each with a fresh draw. -/
def State.remaskTab (s : State) (t : Tab Shares) : Tab Shares × State :=
  t.foldr (fun p r => ((p.1, p.2.remask (r.2.randomBytes (max p.2.a.length p.2.b.length))) :: r.1, r.2.drew)) ([], s)
/-- REMASK_PASS (R406): at each whole millisecond; none while the DRBG is not READY. -/
def execRemaskPass (t : Nat) (s : State) : Host.Outcome State Fault Refusal :=
  timed t s fun s =>
    if s.n E.drbgState = 1 ∧ s.atMilli then
      let (keys, s) := s.remaskTab s.vault.keys
      let (shadows, s) := s.remaskTab s.vault.shadows
      let (cache, s) := s.vault.cache.foldr (fun c r =>
        ({ c with key := c.key.remask (r.2.randomBytes (max c.key.a.length c.key.b.length)) } :: r.1, r.2.drew)) ([], s)
      let s := { s with vault := { s.vault with keys := keys, shadows := shadows, cache := cache } }
      s.set E.remaskPasses 0 (s.n E.remaskPasses + 1)
    else s
/-- The DRBG is reseeded. -/
def State.reseed (s : State) : State := { s with vault := { s.vault with requests := s.draws } }
/-- DRBG_RESEED (R408): at a whole second, and after 2²⁰ requests. -/
def execDrbgReseed (t : Nat) (s : State) : Host.Outcome State Fault Refusal :=
  timed t s fun s =>
    if s.n E.drbgState = 1 ∧ (s.atSecond ∨ s.vault.requests + 2 ^ 20 ≤ s.draws) then s.reseed else s
/-- ENTROPY_HEALTH_FAIL (R408). -/
def execEntropyHealthFail (t : Nat) (s : State) : Host.Outcome State Fault Refusal :=
  timed t s fun s => ((s.set E.drbgState 0 2).bump E.entropyFails).raise 386
/-- DRBG_RECOVER (R408): after 1,024 samples in a row that pass. -/
def execDrbgRecover (t passed : Nat) (s : State) : Host.Outcome State Fault Refusal :=
  timed t s fun s =>
    if s.n E.drbgState = 2 ∧ 1024 ≤ passed then ((s.set E.drbgState 0 1).reseed).deassert 386 else s
/-- The known-answer tests of R409 have run: `failed` has a bit per test that failed. -/
def State.selfTests (s : State) (failed : Nat) : State :=
  let s := s.set E.selftestResult 0 failed
  if failed = 0 then s else (s.set E.vaultState 0 2).raise 385 (some 3)
/-- `SELFTEST_CMD` outside a row: the tests pass (log 40). -/
def spSelftest : Special where
  entry := E.selftestCmd
  apply _ s := State.selfTests s 0
/-- SELFTEST_CMD (R409). -/
def execSelftestCmd (t : Nat) (m : Master) (failed : Nat) (s : State) : Host.Outcome State Fault Refusal :=
  writeRow { spSelftest with apply := fun _ s => s.selfTests failed } t m 0 [1] s
/-- `BOX_CERT_BURN` (R409): ROOTED only; read at the next power-on. -/
def spCertBurn : Special where
  entry := E.boxCertBurn
  codes c s := (if s.n E.lifecycle = 1 then [] else [9]) ++ (if c.v = 1 then [] else [7])
  apply _ s := { s with otp := { s.otp with certified := true } }
/-- BOX_CERT_BURN. -/
def execBoxCertBurn (t : Nat) (m : Master) (v : Word) (s : State) : Host.Outcome State Fault Refusal :=
  writeRow spCertBurn t m 0 [v] s

/-- The special entries of this chapter. -/
def vaultSpecials : List Special :=
  [spKeyClass, spKeyType, spKeyParent, spKeyLabel, spKeyUsage, spKeyEngineMask, spKeyCtrl, spVaultQuietForce, spShCtrl,
   spShadow E.shRole, spShadow E.shType, spShadow E.shEngineMask, spShadow E.shUsage, spShadow E.shWorldMask,
   spShadow E.shMasterMask, spShadow E.shLifeMask, spShadow E.shKcvExpect, spShadow E.shMaterial, spAnchorCommit,
   spSelftest, spCertBurn]

end Sys2Proof.Machine
end

