-- ==== Sys2Proof/Machine/Frames.lean ====
section
/-! DEFINITION. What a received frame's octets say (R84, R253, R255): its layers, its steer class, and the PTP message, the NTP request
or the Irlin datagram it carries; and the frames that wait for the engines. -/

namespace Sys2Proof

/-- The message type. -/
def PtpRx.kind (x : PtpRx) : Nat := Machine.beAt x.bytes 0 1 % 16
/-- The message as its messageLength bounds it. -/
def PtpRx.msg (x : PtpRx) : List Byte := x.bytes.take (Machine.beAt x.bytes 2 2)
/-- domainNumber. -/
def PtpRx.domain (x : PtpRx) : Nat := Machine.beAt x.bytes 4 1
/-- sequenceId. -/
def PtpRx.seq (x : PtpRx) : Nat := Machine.beAt x.bytes 30 2
/-- sourcePortIdentity, 10 bytes. -/
def PtpRx.src (x : PtpRx) : List Byte := (x.bytes.drop 20).take 10
/-- correctionField in 2⁻¹⁶ ns. -/
def PtpRx.corr (x : PtpRx) : Int := (BitVec.ofNat 64 (Machine.beAt x.bytes 8 8)).toInt
/-- The Timestamp after the header, in 2⁻¹⁶ ns. -/
def PtpRx.time (x : PtpRx) : Int := (Machine.beAt x.bytes 34 6 * 10 ^ 9 + Machine.beAt x.bytes 40 4) * 65536
/-- A bit of flagField, numbered over its two octets, the first one high. -/
def PtpRx.flag (x : PtpRx) (b : Nat) : Bool := Machine.bitOf (Machine.beAt x.bytes 6 2) b
/-- An event message. -/
def PtpRx.event (x : PtpRx) : Bool := decide (x.kind ≤ 3)

end Sys2Proof

namespace Sys2Proof.Machine

/-! ### TLVs of a PTP message -/

/-- The TLVs of a message from an offset: type, offset, value. -/
def tlvsFrom (b : List Byte) : Nat → Nat → List (Nat × Nat × List Byte)
  | 0, _ => []
  | fuel + 1, off =>
    if b.length < off + 4 then []
    else
      let n := beAt b (off + 2) 2
      (beAt b off 2, off, (b.drop (off + 4)).take n) :: tlvsFrom b fuel (off + 4 + n)
/-- Where a message's TLVs begin. -/
def tlvStart (kind : Nat) : Nat := match kind with | 2 | 3 | 9 | 0xA => 54 | 0xB => 64 | _ => 44
/-- A received message's TLVs. -/
def tlvsOf (x : PtpRx) : List (Nat × Nat × List Byte) := tlvsFrom x.msg x.bytes.length (tlvStart x.kind)
/-- The engine's organization extension of a subtype: its data (R309, R317, R318). -/
def orgTlv (x : PtpRx) (subtype : Nat) : Option (List Byte) :=
  (tlvsOf x).findSome? (fun p =>
    if p.1 = 3 ∧ beAt p.2.2 0 3 = 0xAA473E ∧ beAt p.2.2 3 3 = subtype then some (p.2.2.drop 6) else none)
/-- The AUTHENTICATION TLV, last of the message (R306): its offset and value. -/
def authTlv (x : PtpRx) : Option (Nat × List Byte) :=
  match (tlvsOf x).getLast? with
  | some p => if p.1 = 0x8009 then some p.2 else none
  | none => none

/-! ### The layers of a frame (R255) -/

/-- The length of the tags the MAC parses (R255): one 802.1Q tag, or an 802.1ad tag followed by one. -/
def tagLen (b : List Byte) : Nat :=
  if beAt b 12 2 = 0x8100 then 4 else if beAt b 12 2 = 0x88A8 ∧ beAt b 16 2 = 0x8100 then 8 else 0
/-- The outer tag's control word, 0 without one. -/
def outerTag (b : List Byte) : Nat := if tagLen b = 0 then 0 else beAt b 14 2
/-- The priority of a whole frame: its outer tag's, 0 without one (R255). -/
def framePriority (b : List Byte) : Nat := outerTag b / 8192

/-- A frame's layers: the EtherType; the network layer (0 none, 1 IPv4, 2 IPv6) with its protocol, 256 where none can be told, and its
source and destination addresses in 16 bytes and its DSCP; the ports, and what the innermost layer told carries. -/
structure Layers where
  ety : Nat
  net : Nat := 0
  proto : Nat := 256
  src : List Byte := []
  sport : Nat := 0
  dport : Nat := 0
  body : List Byte := []
  dst : List Byte := []
  dscp : Nat := 0
deriving DecidableEq, Repr
/-- The layer above IP: UDP's payload as its length bounds it, TCP's ports, else the bytes as they are. -/
def upperLayer (l : Layers) (b : List Byte) : Layers :=
  match l.proto with
  | 17 => { l with sport := beAt b 0 2, dport := beAt b 2 2, body := (b.take (beAt b 4 2)).drop 8 }
  | 6 => { l with sport := beAt b 0 2, dport := beAt b 2 2, body := b }
  | _ => { l with body := b }
/-- The layers of a frame. A fragment's protocol is not told. -/
def layersOf (b : List Byte) : Layers :=
  let o := 12 + tagLen b
  let ip := b.drop (o + 2)
  match beAt b o 2 with
  | 0x0800 =>
    let whole := decide (beAt ip 6 2 % 16384 = 0)
    upperLayer { ety := 0x0800, net := 1, proto := if whole then beAt ip 9 1 else 256,
                 src := zeros 10 ++ be 2 0xFFFF ++ (ip.drop 12).take 4, dst := zeros 10 ++ be 2 0xFFFF ++ (ip.drop 16).take 4,
                 dscp := beAt ip 1 1 / 4 } (ip.drop (beAt ip 0 1 % 16 * 4))
  | 0x86DD =>
    upperLayer { ety := 0x86DD, net := 2, proto := beAt ip 6 1, src := (ip.drop 8).take 16, dst := (ip.drop 24).take 16,
                 dscp := beAt ip 0 2 / 64 % 64 } (ip.drop 40)
  | e => { ety := e, src := zeros 10 ++ (b.drop 6).take 6, body := ip }
/-- A group address of the MAC. -/
def groupAddressed (b : List Byte) : Bool := bitOf (beAt b 0 1) 0

/-! ### What a frame carries -/

/-- The PTP message of a frame with the frame's metadata (R253, R304): over Ethernet, or over UDP to the event or general port. -/
def ptpRxOf (f : RxFrame) : Option PtpRx :=
  let l := layersOf f.bytes
  let l2 := decide (l.ety = 0x88F7)
  if l2 ∨ (l.proto = 17 ∧ (l.dport = 319 ∨ l.dport = 320)) then
    some { port := ⟨f.port % 18, Nat.mod_lt _ (by decide)⟩, stamp := f.stamp, bound := f.bound, flags := f.flags,
           transport := if l2 then 0 else if l.net = 1 then 1 else 2, unicast := !groupAddressed f.bytes, addr := l.src,
           vlan := outerTag f.bytes, bytes := if l2 then l.body.take (l.body.length - 4) else l.body }
  else none
/-- The request datagram of a frame with its metadata (R253, R327), its UDP destination port apart. -/
def ntpRxOf (f : RxFrame) : Option NtpRx :=
  let l := layersOf f.bytes
  if l.proto = 17 then
    some { port := ⟨f.port % 18, Nat.mod_lt _ (by decide)⟩, stamp := f.stamp, bound := f.bound, flags := f.flags,
           v6 := decide (l.net = 2), uni := !groupAddressed f.bytes, src := l.src, srcPort := l.sport, payload := l.body,
           macs := f.bytes.take 12, tags := (f.bytes.drop 12).take (tagLen f.bytes), dst := l.dst, dscp := l.dscp }
  else none

/-! ### Steer classes (R84) -/

/-- The class of a PTP message by its type (R84): replies to an upstream instance go with Sync and Follow_Up, a Signaling message that
carries a report with the Partner Reports. -/
def ptpClass (x : PtpRx) : Nat :=
  match x.kind with
  | 0 | 3 | 8 | 9 | 0xA => 0
  | 0xB => 1
  | 1 | 2 => 2
  | 0xC => if (orgTlv x 2).isSome then 11 else 3
  | 0xD => 4
  | _ => 12
/-- The steer class of a frame (R84); `own` says that it is addressed to the engine. -/
def State.steerClass (s : State) (own : Bool) (f : RxFrame) : Nat :=
  let l := layersOf f.bytes
  if ¬ own then 13
  else
    match ptpRxOf f with
    | some x => ptpClass x
    | none =>
      if l.proto = 17 ∧ l.dport = s.n E.ntpUdpPort then (if beAt l.body 0 1 % 8 = 3 then 5 else 6)
      else if l.proto = 17 ∧ l.dport = s.n E.irlinUdpPort ∧ l.dport ≠ 0 then 10
      else if l.proto = 6 ∧ l.dport = 4460 then 7
      else if l.ety = 0x0806 ∨ (l.net = 2 ∧ l.proto = 58 ∧ 133 ≤ beAt l.body 0 1 ∧ beAt l.body 0 1 ≤ 137) then 8
      else if (l.net = 1 ∧ l.proto = 1 ∧ (beAt l.body 0 1 = 8 ∨ beAt l.body 0 1 = 0)) ∨
          (l.net = 2 ∧ l.proto = 58 ∧ (beAt l.body 0 1 = 128 ∨ beAt l.body 0 1 = 129)) then 9
      else 12
/-- A class's target and world as the table stood before this tick (R84). -/
def State.steerOf (s : State) (c : Nat) : Nat × Nat :=
  match s.host.steerWas.find? (fun p => decide (p.1 = c ∧ p.2.1 = s.now)) with
  | some (_, _, w) => w
  | none => (s.n E.steerTarget c, s.n E.steerWorld c)
/-- The table's entries of a class are kept before the first change of a tick (R84). -/
def State.steerKeep (s : State) (c : Nat) : State :=
  let was := s.steerOf c
  { s with host := { s.host with steerWas := tabInsert c (s.now, was) s.host.steerWas } }

/-! ### Frames that wait for the engines -/

/-- Octets of a frame held for an engine count in its port's receive occupancy where its host copy's do not (R262). -/
def State.frameKeep (s : State) (f : RxFrame) : State :=
  let s := s.setPort f.port { s.port f.port with inbox := (s.port f.port).inbox ++ [f] }
  let x := s.port f.port
  if f.held then
    (s.setPort f.port { x with occupancy := tabPut 0 f.prio (tabGet 0 f.prio x.occupancy + f.bytes.length) x.occupancy }).occRefresh f.port
  else s
/-- A waiting frame of a port leaves it for its engine. -/
def State.frameTaken (s : State) (p : Nat) (f : RxFrame) : State :=
  let s := s.setPort p { s.port p with inbox := (s.port p).inbox.erase f }
  if f.held then s.occSub p f.prio f.bytes.length else s
/-- An engine takes the oldest waiting frame of a port that it wants; without one nothing happens. -/
def State.frameTake (s : State) (p : Nat) (want : RxFrame → Bool) (act : State → State) : State :=
  match (s.port p).inbox.find? want with
  | some f => act (s.frameTaken p f)
  | none => s

end Sys2Proof.Machine
end

