-- ==== Sys2Proof/Machine/PortOps.lean ====
section
/-! DEFINITION. What ports do for the units that send through them: stamps, launch, the stamp queue, checksums, occupancy and
pause (R247 to R267). The port commands are in `Ports.lean`. -/

namespace Sys2Proof.Machine

/-! ### Lanes, stamps -/

/-- The lanes a mode uses (R247). -/
def modeLanes (mode : Nat) : Nat := match mode with | 5 => 4 | 6 => 2 | _ => 1
/-- Port `p` is held as a member of another port's lane group (R247). -/
def State.groupMember (s : State) (p : Nat) : Bool :=
  (List.range 16).any (fun q => decide (q < p ∧ p < q + modeLanes (s.n E.portMode q) ∧ p < 16))
/-- A bit time of a port's line in fs (R247). -/
def State.bitFs (s : State) (p : Nat) : Nat :=
  if 16 ≤ p then 1000000
  else match s.n E.portMode p with | 1 => 100000 | 2 | 3 => 40000 | 4 => 20000 | _ => 10000
/-- A time of `n` bits on a port's line in 2⁻¹⁶ ns, rounded up. -/
def State.bitTime (s : State) (p n : Nat) : Nat := ceilDiv (n * s.bitFs p * 65536) (10 ^ 6)
/-- The length of a frame on the line in octets, padded and with its FCS (R255). -/
def wireLen (f : Outgoing) : Nat := max 64 (f.bytes.length + f.carrier)
/-- The link is up. -/
def State.linkIsUp (s : State) (p : Nat) : Bool := decide (s.n E.portLink p = 1)
/-- A stamp a port forms now carries INVALID (R22, R24, R250). -/
def State.stampBad (s : State) (p : Nat) : Bool :=
  decide (s.n E.portCalState p ≠ 2) || s.unsync (portIsland p)
/-- FLAGS of a port stamp: INVALID and BULK (R253, R264). -/
def State.stampFlags (s : State) (p : Nat) : Nat := ofBool (s.stampBad p) + 2 * ofBool (decide (s.stampMode p = 1))
/-- The bound of a port stamp or launch (R124, R250). -/
def State.stampBound (s : State) (p : Nat) : Bound := if s.stampBad p then 0xFFFFFFFF else s.emitted (s.portAdd p)
/-- An ingress stamp (R251). -/
def State.rxStamp (s : State) (p : Nat) (edge : T96) : T96 := ((edge : Int) - unitsOfPs (s.int E.portRxDelay p)).toNat
/-- An egress stamp, of a sent or a launched frame (R251, R256). -/
def State.txStamp (s : State) (p : Nat) (edge : T96) : T96 := ((edge : Int) + unitsOfPs (s.int E.portTxDelay p)).toNat

/-! ### Checksums (R259) -/

/-- The ones' complement sum of 16-bit words. -/
def onesSum : List Byte → Nat → Nat
  | a :: b :: r, acc => onesSum r (let x := acc + a.toNat * 256 + b.toNat; x % 65536 + x / 65536)
  | [a], acc => let x := acc + a.toNat * 256; x % 65536 + x / 65536
  | [], acc => acc
/-- An Internet checksum. -/
def checksum (l : List Byte) : Nat := 0xFFFF - onesSum l 0
/-- Bytes `n` long written at an offset. -/
def splice (l : List Byte) (off : Nat) (v : List Byte) : List Byte := l.take off ++ v ++ l.drop (off + v.length)
/-- The checksums of a whole frame written (R259): the IPv4 header's, and UDP's over IPv4 or IPv6, with up to two tags. -/
def writeChecksums (f : List Byte) : List Byte :=
  let o := 12 + tagLen f
  let ip := o + 2
  if beAt f o 2 = 0x0800 then
    let hl := (beAt f ip 1 % 16) * 4
    let f := splice f (ip + 10) (be 2 0)
    let f := splice f (ip + 10) (be 2 (checksum ((f.drop ip).take hl)))
    if beAt f (ip + 9) 1 = 17 ∧ beAt f (ip + 6) 2 % 8192 = 0 then
      let u := ip + hl
      let n := beAt f (u + 4) 2
      let f := splice f (u + 6) (be 2 0)
      let c := checksum ((f.drop (ip + 12)).take 8 ++ be 2 17 ++ be 2 n ++ (f.drop u).take n)
      splice f (u + 6) (be 2 (if c = 0 then 0xFFFF else c))
    else f
  else if beAt f o 2 = 0x86DD ∧ beAt f (ip + 6) 1 = 17 then
    let u := ip + 40
    let n := beAt f (u + 4) 2
    let f := splice f (u + 6) (be 2 0)
    let c := checksum ((f.drop (ip + 8)).take 32 ++ be 4 n ++ be 4 17 ++ (f.drop u).take n)
    splice f (u + 6) (be 2 (if c = 0 then 0xFFFF else c))
  else f
/-- A checksum of a received frame fails (R259): the IPv4 header's; UDP's of a whole datagram, where an IPv4 field of 0 passes and an
IPv6 field of 0 fails. A fragment other than the first is not verified, nor what a tunnel carries. -/
def csumFails (f : List Byte) : Bool :=
  let o := 12 + tagLen f
  let ip := o + 2
  if beAt f o 2 = 0x0800 then
    let hl := (beAt f ip 1 % 16) * 4
    let u := ip + hl
    let n := beAt f (u + 4) 2
    if beAt f (ip + 6) 2 % 8192 ≠ 0 then false
    else
      decide (checksum ((f.drop ip).take hl) ≠ 0) ||
      (decide (beAt f (ip + 9) 1 = 17 ∧ beAt f (ip + 6) 2 % 16384 = 0 ∧ beAt f (u + 6) 2 ≠ 0) &&
        decide (checksum ((f.drop (ip + 12)).take 8 ++ be 2 17 ++ be 2 n ++ (f.drop u).take n) ≠ 0))
  else if beAt f o 2 = 0x86DD ∧ beAt f (ip + 6) 1 = 17 then
    let u := ip + 40
    let n := beAt f (u + 4) 2
    decide (beAt f (u + 6) 2 = 0) ||
      decide (checksum ((f.drop (ip + 8)).take 32 ++ be 4 n ++ be 4 17 ++ (f.drop u).take n) ≠ 0)
  else false

/-! ### Scheduled launch (R256 to R261) -/

/-- The NTP timestamp of a TAI instant (R256, R328, R108): UTC, smeared where smearing applies, standing still in IN_LEAP where
it does not; seconds since 1900 modulo 2³² and a 2⁻³² s fraction, truncated. -/
def State.ntpTime (s : State) (t : T96) : List Byte :=
  let u : T96 :=
    if s.smearSettings.1 = 1 ∧ s.smear.isSome then s.smeared t
    else
      let off := (s.offsetAt t * (ofSec 1 : Nat) : Int)
      match s.leapAfter t with
      | some (_, tL, o) =>
        if s.offsetAt t < o ∧ ofSec (tL - 1) ≤ t then ((ofSec (tL - 1) : Int) - off - 1).toNat
        else ((t : Int) - off).toNat
      | none => ((t : Int) - off).toNat
  be 4 (secOf u + 2208988800) ++ be 4 ((u % ofSec 1) * 2 ^ 32 / ofSec 1)
/-- An insertion written for V (R256): the field at its offset. -/
def State.insertTime (s : State) (p : Nat) (v : T96) (b : List Byte) (i : Nat × Nat) : List Byte :=
  match i.2 with
  | 1 => splice b i.1 (be 6 (secOf v) ++ be 4 (nsOf v))
  | 2 => splice b i.1 (be 8 ((beAt b i.1 8 + fracOf v) % 2 ^ 64))
  | 3 => splice b i.1 (s.ntpTime v)
  | 4 => splice b i.1 (t96Bytes v)
  | 5 => splice b i.1 (be 4 (s.stampBound p))
  | _ => b
/-- A code completed over a frame (R258): an ICV of 16 bytes, or an AES-SIV output in place. -/
def Seal.close (c : Seal) (b : List Byte) : List Byte :=
  let covered := (b.take c.at_).drop c.start
  match c.kind with
  | 1 => b.take c.at_ ++ (hmac c.key covered).take 16
  | 2 => b.take c.at_ ++ (gmac c.key c.nonce covered).take 16
  | _ =>
    let sealed := sivSeal c.key covered c.nonce c.plain
    b.take c.at_ ++ be 2 0x0404 ++ be 2 (8 + c.nonce.length + sealed.length) ++ be 2 c.nonce.length ++ be 2 sealed.length ++
      c.nonce ++ sealed
/-- The bytes of a launch frame for L (R256, R258). -/
def State.launchBytes (s : State) (p : Nat) (f : Outgoing) (l : T96) : List Byte :=
  let b := f.ins.foldl (s.insertTime p (s.txStamp p l)) f.bytes
  let b := match f.code with | some c => c.close b | none => b
  if f.csum then writeChecksums b else b
/-- The tick a received pause that holds a priority ends, 0 when none is in force (R262). -/
def State.pauseEnd (s : State) (p prio : Nat) : Nat :=
  let x := s.port p
  if s.n E.portFcMode p = 2 then tabGet 0 prio x.pausedUntil else tabGet 0 8 x.pausedUntil
/-- A received pause is in force for a priority. -/
def State.paused (s : State) (p prio : Nat) : Bool := decide (s.now < s.pauseEnd p prio)
/-- Privet's value at a tick to come. -/
def State.copyAt (s : State) (tick : Nat) : T96 := (s.privet.time + (tick - s.now) * s.privet.incr) / 2 ^ 40
/-- A port's copy now (R257). -/
def State.portCopy (s : State) (p : Nat) : T96 := s.copy (portIsland p)
/-- A port's copy at a tick to come. -/
def State.portCopyAt (s : State) (p tick : Nat) : T96 :=
  s.portCopy p + (tick - s.now) * s.privet.incr / 2 ^ 40
/-- L of a frame (R257, R262): at least the lead after the copy, the preamble and a gap after every frame already given an
instant, outside a pause in force, then `slack` on to the port's grid. -/
def State.chooseLaunch (s : State) (p : Nat) (f : Outgoing) (slack : Nat) : T96 :=
  let after := ((s.port p).held.map (·.clear)).foldl max 0
  let pause := if s.paused p f.priority then s.portCopyAt p (s.pauseEnd p f.priority + 1) else 0
  max (max (s.portCopy p + ofNs (s.n E.portLaunchLead p)) (after + s.bitTime p 64)) pause + slack
/-- A frame handed over is given L and held (R257, R260); a full hold refuses it. -/
def State.holdLaunch (s : State) (p : Nat) (f : Outgoing) (slack : Nat) (again : Bool) : Option State :=
  let x := s.port p
  if 512 ≤ x.held.length then none
  else
    let l := s.chooseLaunch p f slack
    let h : Launch := ⟨f, s.launchBytes p f l, l, l + s.bitTime p (8 * wireLen f + 96), again⟩
    let s := ((s.setPort p { x with held := x.held ++ [h] }).portRefresh p).bump E.portLaunches p
    some ((s.perfEvent 0x303 p).noteOut (s.stampBound p))
/-- A frame that leaves unsent or sent: what its issuer is told. -/
def State.frameDone (s : State) (f : Outgoing) (err handle : Nat) : State := s.txDone f.origin err handle
/-- A launch is missed (R260): rescheduled once from this tick, then dropped. -/
def State.launchMiss (s : State) (p : Nat) (h : Launch) : State :=
  let x := s.port p
  let s := (s.setPort p { x with held := x.held.erase h }).portRefresh p
  if h.again then
    let s := ((s.bump E.portLaunchDropped p).emit (.missed h.frame.origin.unit h.frame.handle false)).frameDone h.frame 0x21 0
    if h.frame.origin.stamp = 0 then s
    else s.packetEnd h.frame.origin.port h.frame.origin.stamp 3 6 none none 0xFF s.tai
  else
    let s := (s.bump E.portLaunchResched p).perfEvent 0x304 p
    match s.holdLaunch p h.frame 0 true with
    | some s => s
    | none => (s.emit (.missed h.frame.origin.unit h.frame.handle false)).frameDone h.frame 0x24 0
/-- A forward step by `off` carries the copy of every port past L − 64 ns of launches it held (R260). -/
def State.launchesStepped (s : State) (off : T96) : State :=
  (List.range 18).foldl (fun s p =>
    ((s.port p).held.filter (fun h =>
      decide (s.portCopy p + ofNs 64 ≤ h.l + off ∧ h.l < s.portCopy p + ofNs 64))).foldl
      (fun s h => s.launchMiss p h) s) s

/-! ### Handing frames to a port -/

/-- A frame is too long for the port (R255). -/
def State.oversize (s : State) (p : Nat) (f : Outgoing) : Bool := decide (s.n E.portMaxFrame p < f.bytes.length + f.carrier)
/-- A frame handed to a port for launch (R256): it takes its launch handle and waits for LAUNCH_REQUEST. -/
def State.toLaunch (s : State) (p : Nat) (f : Outgoing) : State :=
  if s.oversize p f then (s.bump E.portTxOversize p).frameDone f 0x20 0
  else
    let x := s.port p
    s.setPort p { x with
      arriving := x.arriving ++ [{ f with handle := x.nextHandle }], nextHandle := (x.nextHandle + 1) % 2 ^ 32 }
/-- A free stamp handle index (R263): the lowest. -/
def State.freeHandle (s : State) (p : Nat) : Option Nat :=
  (List.range 4096).find? (fun i =>
    let h := tabGet {} i (s.port p).handles
    decide (h.state = 0 ∨ (h.state = 2 ∧ h.quiet ≤ s.now)))
/-- Sets a stamp handle index. -/
def State.setHandle (s : State) (p i : Nat) (h : Handle) : State :=
  let x := s.port p
  s.setPort p { x with handles := tabPut {} i h x.handles }
/-- A handle enters its quiet time (R263, R265). -/
def State.quietHandle (s : State) (p handle : Nat) : State :=
  let i := handle / 2 ^ 20
  let h := tabGet {} i (s.port p).handles
  s.setHandle p i { h with state := 2, quiet := s.now + ticksMs (s.n E.portHandleQuiet p) }
/-- A frame handed to a port without launch (R263): with a stamp request it takes a stamp handle, and is refused when no index is
free. The handle, 0 where none was asked for; `none` where the frame is not sent. -/
def State.toSend (s : State) (p : Nat) (f : Outgoing) (stamp : Bool) : Option Nat × State :=
  let push (s : State) (f : Outgoing) : State := s.setPort p { s.port p with sending := (s.port p).sending ++ [f] }
  if s.oversize p f then (none, (s.bump E.portTxOversize p).frameDone f 0x20 0)
  else if ¬ stamp then (some 0, push s f)
  else
    match s.freeHandle p with
    | none => (none, s.frameDone f 0x24 0)
    | some i =>
      let h := tabGet {} i (s.port p).handles
      let g := (h.gen + 1) % 2 ^ 20
      let handle := i * 2 ^ 20 + g
      (some handle, push (s.setHandle p i ⟨g, 1, 0⟩) { f with stamp := some handle })

/-! ### The stamp queue (R264, R265) -/

/-- The 32 bytes of a stamp queue entry (R264). -/
def stampEntry (kind port flags handle : Nat) (time : List Byte) (bound seq detail : Nat) : List Byte :=
  be 1 kind ++ be 1 port ++ be 2 flags ++ be 4 handle ++ padTo 12 time ++ be 4 bound ++ be 4 seq ++ be 4 detail
/-- The consumers of the lost run, each once: the PTP engine or the world of a ring. -/
def lostUnits (l : List (Origin × Nat)) : List Nat := (l.map (·.1.unit)).eraseDups
/-- The single LOSS entry of a lost run takes the first free entry (R265), one copy for each consumer of the run, which
knows its own lost handles from the issue order (`req`); the handles enter quiet time. -/
def State.lossEntry (s : State) (p : Nat) : State :=
  let x := s.port p
  match x.lost with
  | [] => s
  | (o, first) :: _ =>
    if 1024 ≤ x.queue.length then s
    else
      let last := (x.lost.getLastD (o, first)).2
      let b := stampEntry 2 p 0 0 (be 4 first ++ be 4 last) 0xFFFFFFFF x.seq x.lost.length
      let s := s.setPort p { x with
        queue := x.queue ++ (lostUnits x.lost).map (fun u =>
          (({ unit := u, req := (x.lost.filter (fun l => decide (l.1.unit = u))).flatMap (fun l => be 4 l.2) } : Origin), b))
        lost := [], seq := (x.seq + 1) % 2 ^ 32 }
      (x.lost.foldl (fun s l => s.quietHandle p l.2) s).portRefresh p
/-- An entry formed for a consumer (R264, R265): queued behind a pending LOSS entry, or lost. -/
def State.queueStamp (s : State) (p : Nat) (o : Origin) (handle : Nat) (form : Nat → List Byte) : State :=
  let s := s.lossEntry p
  let x := s.port p
  let b := form x.seq
  let seq := (x.seq + 1) % 2 ^ 32
  if x.queue.length < 1024 then (s.setPort p { x with queue := x.queue ++ [(o, b)], seq := seq }).portRefresh p
  else (s.setPort p { x with lost := x.lost ++ [(o, handle)], seq := seq }).bump E.portStampLost p

/-! ### Receive occupancy and pause (R262) -/

/-- Bytes of a port's allocation, or of one priority's share of it. -/
def State.rxShare (s : State) (p : Nat) : Nat :=
  let a := s.n E.portRxbuf p * 1024
  if s.n E.portFcMode p = 2 then a / max 1 (bitsSet (s.n E.portPfcMask p) 8).length else a
/-- The priority a frame's occupancy is counted under for pause: all together without PFC. -/
def State.fcPrio (s : State) (p prio : Nat) : Nat := if s.n E.portFcMode p = 2 then prio else 0
/-- Occupancy under a priority. -/
def State.occOf (s : State) (p prio : Nat) : Nat :=
  if s.n E.portFcMode p = 2 then tabGet 0 prio (s.port p).occupancy else s.n E.portRxOccupancy p
/-- A pause frame is sent (R262): a MAC control frame of Annex 31B or 802.1Qbb (log 43). -/
def State.sendPause (s : State) (p prio quanta : Nat) : State :=
  let da := be 6 0x0180C2000001 ++ be 6 (s.n E.portMacAddr p) ++ be 2 0x8808
  let b := if s.n E.portFcMode p = 2 then
      da ++ be 2 0x0101 ++ be 2 (2 ^ prio) ++ (List.range 8).flatMap (fun i => be 2 (if i = prio then quanta else 0))
    else da ++ be 2 1 ++ be 2 quanta
  (s.bump E.portPauseSent p).emit (.frame p none [] b)
/-- XOFF is in force for a priority. -/
def State.xoff (s : State) (p prio : Nat) : Bool := bitOf (s.n E.portXoffActive p) prio
/-- Sets whether XOFF is in force. -/
def State.setXoff (s : State) (p prio : Nat) (x : Bool) : State :=
  s.set E.portXoffActive p (setBit (s.n E.portXoffActive p) prio x)
/-- XOFF with `PORT_PAUSE_QUANTA` (R262). -/
def State.sendXoff (s : State) (p prio : Nat) : State :=
  let s := (s.sendPause p prio (s.n E.portPauseQuanta p)).setXoff p prio true
  s.setPort p { s.port p with xoffAt := tabInsert prio s.now (s.port p).xoffAt }
/-- Occupancy rises (R262): XOFF at the level. -/
def State.occAdd (s : State) (p prio n : Nat) : State :=
  let x := s.port p
  let s := (s.setPort p { x with occupancy := tabPut 0 prio (tabGet 0 prio x.occupancy + n) x.occupancy }).occRefresh p
  let q := s.fcPrio p prio
  if s.n E.portFcMode p ≠ 0 ∧ ¬ s.xoff p q ∧ (s.n E.portFcMode p = 1 ∨ bitOf (s.n E.portPfcMask p) q) ∧
      s.rxShare p * s.n E.portXoffPct p ≤ s.occOf p prio * 100 then s.sendXoff p q
  else s
end Sys2Proof.Machine
end

