-- ==== Sys2Proof/Machine/PtpOps.lean ====
section
/-! DEFINITION. The PTP engine's shared operations: message forms, TLVs, authentication, the Bound TLV, instances, the parent
and the exchanges (R291 to R316). Message layouts are those of IEEE 1588-2019 (log 44). -/

namespace Sys2Proof.Machine

/-! ### Instances -/

/-- Instance `i` beside its entries. -/
def State.ptpInst (s : State) (i : Nat) : PtpInst := tabGet {} i s.ptp.insts
/-- Sets instance `i`. -/
def State.setPtpInst (s : State) (i : Nat) (x : PtpInst) : State :=
  { s with ptp := { s.ptp with insts := tabPut {} i x s.ptp.insts } }
/-- Port `p` is in the MASTER state of instance `i` (R295). -/
def State.ptpMaster (s : State) (i p : Nat) : Bool := s.flag E.ptpEnable i && bitOf (s.n E.ptpPortsMaster i) p
/-- Port `p` is an upstream port of instance `i`. -/
def State.ptpUp (s : State) (i p : Nat) : Bool := s.flag E.ptpEnable i && bitOf (s.n E.ptpPortsUpstream i) p
/-- A G.8275 profile. -/
def State.ptpTelecom (s : State) (i : Nat) : Bool := decide (2 ≤ s.n E.ptpProfile i)
/-- The peer-to-peer profile. -/
def State.ptpP2p (s : State) (i : Nat) : Bool := decide (s.n E.ptpProfile i = 1)
/-- The portIdentity of an instance on a port: its clockIdentity and a port number counted from 1 (log 44). -/
def State.portIdentity (s : State) (i p : Nat) : List Byte := be 8 (s.n E.ptpClockId i) ++ be 2 (p + 1)
/-- The engine is in the Quiet state, in which it sends nothing (R77, R314). -/
def State.ptpQuiet (s : State) : Bool := !s.quietOver
/-- `OUTPUT_STATE` is NO_TIME: first lock is still to come (R79). -/
def State.noTime (s : State) : Bool := !s.flag E.firstLock

/-! ### Security associations (R305 to R308) -/

/-- The use of association `a`'s key (R476). -/
def State.saUse (s : State) (a : Nat) : KeyUse :=
  let g := s.n E.saAlg a = 1
  { ref := s.n E.saKey a, op := 1, types := [if g then 1 else 2], classes := [2], sha := !decide g }
/-- The IV of a GMAC message (R307). -/
def gmacIv (clockId : List Byte) (seq : Nat) : List Byte := clockId ++ be 4 seq
/-- The window of R307 takes a sequenceNo: the new window, or `none` where it does not. -/
def windowTake (w : Option (Nat × Nat)) (seq : Nat) : Option (Nat × Nat) :=
  match w with
  | none => some (seq, 0)
  | some (hi, mask) =>
    if hi < seq then some (seq, (if 64 < seq - hi then 0 else (mask * 2 + 1) * 2 ^ (seq - hi - 1)) % 2 ^ 64)
    else if seq = hi ∨ 64 < hi - seq ∨ bitOf mask (hi - seq - 1) then none
    else some (hi, setBit mask (hi - seq - 1) true)
/-- A received message under R306: `some` whether it is authenticated, `none` where it is dropped and counted. -/
def State.ptpVerify (s : State) (i : Nat) (x : PtpRx) : Option Bool × State :=
  let mode := s.n E.ptpAuthMode i
  if mode = 0 then (some false, s)
  else
    match authTlv x with
    | none => if mode = 1 then (some false, s) else (none, s.bump E.ptpAuthFail i)
    | some (off, v) =>
      let keyId := beAt v 2 4
      let a := keyId / 2 ^ 22
      let g := decide (s.n E.saAlg a = 1)
      if s.n E.saState a ≠ 1 ∨ s.n E.saSpp a ≠ beAt v 0 1 ∨ ¬ bitOf (s.n E.saInstances a) i then (none, s.bump E.ptpAuthFail i)
      else if keyId ≠ s.n E.saHandle a then (none, s.bump E.ptpStale i)
      else if beAt v 1 1 ≠ (if g then 2 else 0) ∨ v.length ≠ (if g then 26 else 22) then (none, s.bump E.ptpAuthFail i)
      else
        match s.useKey (s.saUse a) with
        | (.key k, s) =>
          let at' := off + 4 + v.length - 16
          let covered := x.msg.take at'
          let id := x.src.take 8
          let seq := beAt v 6 4
          let icv := if g then gmac k (gmacIv id seq) covered else hmac k covered
          if icv.take 16 ≠ (x.msg.drop at').take 16 then (none, s.bump E.ptpAuthFail i)
          else if ¬ g then (some true, s)
          else
            let mine (w : Nat × Nat × Nat × Nat) := decide (w.1 = a ∧ w.2.1 = ofBe id)
            let w := ((s.ptp.saWindow.find? mine).map (fun w => (w.2.2.1, w.2.2.2)))
            match windowTake w seq with
            | some (hi, mask) =>
              let rest := s.ptp.saWindow.filter (fun w => !mine w)
              (some true, { s with ptp := { s.ptp with saWindow := (a, ofBe id, hi, mask) :: rest } })
            | none => (none, s.bump E.ptpAuthFail i)
        | (_, s) => (none, s.bump E.ptpAuthFail i)
/-- The association an authenticated message came under: its handle and SPP. -/
def authHandle (x : PtpRx) : Nat × Nat :=
  match authTlv x with | some (_, v) => (beAt v 2 4, beAt v 0 1) | none => (0, 0)

/-! ### What messages say (R309 to R313) -/

/-- The limit of a clockAccuracy code in tenths of a picosecond, for 0x17 to 0x2A (R156). -/
def accuracyTenths (code : Nat) : Nat := (if (code - 0x17) % 2 = 0 then 10 else 25) * 10 ^ ((code - 0x17) / 2)
/-- B_ref of a clockAccuracy (R156). -/
def accuracyBound (code : Nat) : Bound :=
  if 0x17 ≤ code ∧ code ≤ 0x2A then ceilDiv (accuracyTenths code) 10
  else if 0x2B ≤ code ∧ code ≤ 0x31 then 0xFFFFFFFE else 0xFFFFFFFF
/-- clockAccuracy of a bound (R312). -/
def accuracyCode (b : Bound) : Nat :=
  if 0xFFFFFFFE ≤ b then 0xFE
  else (((List.range 20).map (· + 0x17)).find? (fun c => decide (b * 10 ≤ accuracyTenths c))).getD 0x2B
/-- The PTP instance the selected slot binds. -/
def State.ptpSelected (s : State) : Option Nat :=
  let n := s.n E.hbSelected
  if n < 32 ∧ s.refKind n = 2 then some (s.refNo n) else none
/-- The row of R311 in force, with what it gives: clockClass, clockAccuracy, timeTraceable, frequencyTraceable, and whether it is
a Locked row. -/
def State.announceRow (s : State) (i p : Nat) : Nat × Nat × Bool × Bool × Bool :=
  let acc := accuracyCode (s.emitted (s.portAdd p))
  let tel := s.ptpTelecom i
  let held := s.bound.hold.isSome
  if s.holly.safe ∨ s.noTime then (248, 0xFE, false, false, false)
  else if s.bound.oot then
    if held then (if tel then s.n E.ptpHoldOosClass i else 52, acc, false, s.flag E.ensStanding, false)
    else (if tel then 248 else 52, acc, false, true, true)
  else if held then (7, acc, true, true, false)
  else (6, acc, true, true, true)
/-- timeSource (R311). -/
def State.ptpTimeSource (s : State) : Nat :=
  let n := s.n E.hbSelected
  let own := if (List.range 5).any (fun m => s.n E.ensClass m == 2 && s.n E.ensState m == 3) then 0x10 else 0xA0
  if 32 ≤ n then own
  else match s.n E.refType n with
    | 0 => 0x20 | 1 => 0x40 | 2 => if s.todOn n then 0x39 else 0x90 | _ => own
/-- HOPS, SOURCE and ROOT_ID of the Bound TLV (R309, R310). -/
def State.boundRoot (s : State) (i : Nat) : Nat × Nat × Nat :=
  let n := s.n E.hbSelected
  let q := if n < 32 then s.n E.refQl n % 16 else 0
  match s.ptpSelected.bind (fun j => (s.ptpInst j).tlvBound) with
  | some (hops, src, root) => (min 255 (hops + 1), src / 16 * 16 + q, root)
  | none =>
    let k := if 32 ≤ n then 0 else match s.n E.refType n with | 0 => 1 | 1 => 2 | 2 => 3 | _ => 4
    (0, k * 16 + q, s.n E.ptpClockId i)
/-- The 38 bytes of the Bound TLV of instance `i` on port `p` (R309). -/
def State.boundTlv (s : State) (i p : Nat) (bound : Bound) : List Byte :=
  let (hops, src, root) := s.boundRoot i
  let flags := ofBool s.bound.hold.isSome + 2 * ofBool s.bound.oot + 4 * ofBool s.noTime + 8 * ofBool s.holly.safe +
    16 * ofBool s.freqSlot.isSome + 32 * ofBool (s.announceRow i p).2.2.1 + 64 * ofBool (decide (s.stampMode p = 1))
  be 2 3 ++ be 2 34 ++ be 3 0xAA473E ++ be 3 1 ++ be 4 bound ++ be 2 flags ++ be 1 hops ++ be 1 src ++
    be 4 (s.n E.ledgerHeadSeq) ++ be 8 (s.n E.ledgerId) ++ be 8 root
/-- A Timestamp of a stamp: seconds and nanoseconds. -/
def ptpTime (t : T96) : List Byte := be 6 (secOf t) ++ be 4 (nsOf t)
/-- A correction as its 8 bytes. -/
def corrBytes (c : Int) : Nat := (BitVec.ofInt 64 c).toNat
/-- The body of an Announce with its flags (R311 to R313), under the row in force. -/
def State.announceBody (s : State) (i p : Nat) : Nat × List Byte :=
  let (cls, acc, timeTr, freqTr, locked) := s.announceRow i p
  let leap := s.leapState
  let flags := 8 + ofBool (leap == 1 || leap == 3) + 2 * ofBool (leap == 2) + 4 * ofBool (s.flag E.firstLock) +
    16 * ofBool timeTr + 32 * ofBool freqTr
  let parent := if locked then s.ptpSelected.bind (fun j => (s.ptpInst j).parent) else none
  let oslv (c : Nat) := if c = 248 then 0xFFFF else s.n E.ptpOslv i
  let offset := (BitVec.ofInt 16 s.taiUtc).toNat
  let head := ptpTime (s.copy 0x400) ++ be 2 offset ++ be 1 0
  match parent with
  | some g =>
    (flags, head ++ be 1 g.priority1 ++ be 1 g.cls ++ be 1 (max acc g.accuracy) ++ be 2 (oslv g.cls) ++ be 1 g.priority2 ++
      be 8 g.gmId ++ be 2 (g.steps + 1) ++ be 1 g.timeSource)
  | none =>
    (flags, head ++ be 1 (s.n E.ptpPriority1 i) ++ be 1 cls ++ be 1 acc ++ be 2 (oslv cls) ++ be 1 (s.n E.ptpPriority2 i) ++
      be 8 (s.n E.ptpClockId i) ++ be 2 0 ++ be 1 s.ptpTimeSource)

/-! ### Building and sending (R298, R306, R307, R315)

The message kinds of an origin: 0 one-step Sync, 1 two-step Sync, 2 Follow_Up, 3 Delay_Resp, 4 Pdelay_Resp,
5 Pdelay_Resp_Follow_Up, 6 Announce, 7 Delay_Req, 8 Pdelay_Req, 9 Signaling. `req` holds the requester's portIdentity and
correctionField for 3 to 5, and the body for 9. -/

/-- A message goes to one station: to a client, to an upstream master, or as Signaling. -/
def ptpUnicast (o : Origin) : Bool := o.client.isSome || o.kind == 9
/-- The addresses around a message: transport, 16-byte address, UDP port, tag. -/
def ptpDest (transport : Nat) (addr : List Byte) (event : Bool) (vlan : Nat) : List Byte :=
  be 1 transport ++ padTo 16 addr ++ be 2 (if transport = 0 then 0 else if event then 319 else 320) ++ be 2 vlan
/-- The group address of an instance's messages (R293). -/
def State.ptpGroup (s : State) (i : Nat) (pdelay : Bool) : List Byte :=
  match s.n E.ptpTransport i with
  | 0 => zeros 10 ++ be 6 (if pdelay ∨ s.n E.ptpL2Dest i = 1 then 0x0180C200000E else 0x011B19000000)
  | 1 => zeros 10 ++ be 2 0xFFFF ++ be 4 0xE0000181
  | _ => if pdelay then be 2 0xFF02 ++ zeros 13 ++ be 1 0x6B else be 2 0xFF0E ++ zeros 12 ++ be 2 0x0181
/-- Type, flags, correction, logMessageInterval, body and insertions of a message. -/
def State.ptpParts (s : State) (o : Origin) : Nat × Nat × Int × Int × List Byte × List (Nat × Nat) :=
  let id := o.req.take 10
  let reqCorr := (BitVec.ofNat 64 (beAt o.req 10 8)).toInt
  let frac : Int := fracOf o.stamp
  match o.kind with
  | 0 => (0, 0, 0, s.int E.ptpLogSync o.inst, zeros 10, [(34, 1), (8, 2)])
  | 1 => (0, 0x200, 0, s.int E.ptpLogSync o.inst, zeros 10, [])
  | 2 => (8, 0, frac, s.int E.ptpLogSync o.inst, ptpTime o.stamp, [])
  | 3 => (9, 0, reqCorr - frac, s.int E.ptpLogMinDelay o.inst, ptpTime o.stamp ++ id, [])
  | 4 => (3, 0x200, -frac, 0x7F, ptpTime o.stamp ++ id, [])
  | 5 => (0xA, 0, reqCorr + frac, 0x7F, ptpTime o.stamp ++ id, [])
  | 6 => let (f, b) := s.announceBody o.inst o.port; (0xB, f, 0, s.int E.ptpLogAnnounce o.inst, b, [])
  | 7 => (1, 0, 0, 0x7F, zeros 10, [])
  | 8 => (2, 0, 0, 0x7F, zeros 20, [])
  | _ => (0xC, 0, 0, 0x7F, o.req, [])
/-- BOUND of a message's Bound TLV (R310); a two-step Sync has no timestamp, and the value is left open. -/
def State.ptpTlvBound (s : State) (o : Origin) : Bound :=
  match o.kind with
  | 0 => 0
  | 1 => s.free (2 ^ 32)
  | 6 => s.emitted (s.portAdd o.port)
  | _ => if s.holly.safe then 0xFFFFFFFF else o.bound
/-- A message carries the Bound TLV (R310). -/
def State.ptpHasTlv (s : State) (o : Origin) : Bool :=
  s.flag E.ptpBoundTlv o.inst && (o.kind ≤ 3 || o.kind == 6)
/-- A message before its AUTHENTICATION TLV, whose length `auth` is counted in, and its insertions. -/
def State.ptpForm (s : State) (o : Origin) (auth : Nat) : List Byte × List (Nat × Nat) :=
  let (ty, flags, corr, log, body, ins) := s.ptpParts o
  let tlv := if s.ptpHasTlv o then s.boundTlv o.inst o.port (s.ptpTlvBound o) else []
  let ins := if o.kind = 0 ∧ s.ptpHasTlv o then ins ++ [(54, 5)] else ins
  let len := 34 + body.length + tlv.length + auth
  let ctl := match ty with | 0 => 0 | 1 => 1 | 8 => 2 | 9 => 3 | _ => 5
  let log := if ptpUnicast o then 0x7F else log
  (be 1 ty ++ be 1 0x12 ++ be 2 len ++ be 1 (s.n E.ptpDomain o.inst) ++ be 1 0 ++
    be 2 (flags + (if ptpUnicast o then 0x400 else 0)) ++ be 8 (corrBytes corr) ++ be 4 0 ++ s.portIdentity o.inst o.port ++
    be 2 o.seq ++ be 1 ctl ++ be 1 (BitVec.ofInt 8 log).toNat ++ body ++ tlv, ins)
/-- The lower-layer bytes around a message with its FCS (R255). -/
def ptpOver (dest : List Byte) : Nat :=
  18 + (match beAt dest 0 1 with | 0 => 0 | 1 => 28 | _ => 48) + (if beAt dest 19 2 = 0 then 0 else 4)
/-- A scheduled transmission for a client: its handle's slot, or `none` for a stale handle, which is counted (R300). -/
def State.clientFor (s : State) (i handle : Nat) : Option Nat × State :=
  let k := handle / 2 ^ 12
  let s := s.perfEvent 0x405 (k / 262144)
  let c := s.client k
  if c.used ∧ c.gen % 2 ^ 12 = handle % 2 ^ 12 ∧ c.inst = i then (some k, s) else (none, s.bump E.ptpStale i)
/-- A message's frame before the check of its client's handle; `none` where its association refuses: it is then counted in
`PTP_KEY_FAIL` (R308). -/
def State.ptpFrame (s : State) (o : Origin) : Option Outgoing × State :=
  let i := o.inst
  let frame (b : List Byte) (ins : List (Nat × Nat)) (c : Option Seal) : Outgoing :=
    { origin := o, bytes := b, carrier := ptpOver o.peer, ins := ins, code := c }
  let note (s : State) : State := if s.ptpHasTlv o && decide (2 ≤ o.kind) then s.noteOut (s.ptpTlvBound o) else s
  if s.n E.ptpAuthMode i = 0 then let (b, ins) := s.ptpForm o 0; (some (frame b ins none), (note s).drew)
  else
    let a := s.n E.ptpTxSa i
    let g := decide (s.n E.saAlg a = 1)
    let seq := s.n E.saTxSeq a + 1
    if s.n E.saState a ≠ 1 ∨ ¬ bitOf (s.n E.saInstances a) i ∨ (g ∧ 2 ^ 32 ≤ seq) then (none, s.bump E.ptpKeyFail i)
    else
      match s.useKey (s.saUse a) with
      | (.key k, s) =>
        let len := if g then 26 else 22
        let (b, ins) := s.ptpForm o (4 + len)
        let b := b ++ be 2 0x8009 ++ be 2 len ++ be 1 (s.n E.saSpp a) ++ be 1 (if g then 2 else 0) ++
          be 4 (s.n E.saHandle a) ++ (if g then be 4 seq else [])
        let s := if g then s.set E.saTxSeq a seq else s
        let iv := gmacIv (be 8 (s.n E.ptpClockId i)) seq
        (some (frame b ins (some { kind := if g then 2 else 1, key := k, at_ := b.length, nonce := iv })), (note s).drew)
      | (_, s) => (none, s.bump E.ptpKeyFail i)
/-- A message built as a frame (R300, R308, R324): none for a client's handle gone stale; an Announce shows what it carries. -/
def State.ptpBuild (s : State) (o : Origin) : Option Outgoing × State :=
  let (fresh, s) := match o.client with
    | some h => if o.kind ≤ 6 then (let (k, s) := s.clientFor o.inst h; (k.isSome, s)) else (true, s)
    | none => (true, s)
  if ¬ fresh then (none, s)
  else
    let s := if o.kind = 6 then
        let b := (s.announceBody o.inst o.port).2
        (s.set E.ptpClassTx o.inst (beAt b 14 1)).set E.ptpAccuracyTx o.inst (beAt b 15 1)
      else s
    s.ptpFrame o
/-- A message counted as sent by the engine (R322). -/
def State.ptpSent (s : State) (i : Nat) : State :=
  (s.bump E.ptpTxMsgs i).svcPacket (decide (s.n E.ptpAuthMode i ≠ 0)) false
/-- A message handed to its port for launch. -/
def State.ptpLaunch (s : State) (o : Origin) : State :=
  match s.ptpBuild o with
  | (some f, s) => (s.toLaunch o.port f).ptpSent o.inst
  | (none, s) => s
/-- A message handed to its port without launch, with a stamp request where one is asked for, which the instance then awaits. -/
def State.ptpSend (s : State) (o : Origin) (stamp : Bool := false) : State :=
  match s.ptpBuild o with
  | (some f, s) =>
    let b := match f.code with | some c => c.close f.bytes | none => f.bytes
    match s.toSend o.port { f with bytes := b, code := none } stamp with
    | (some h, s) =>
      let s := s.ptpSent o.inst
      if stamp then
        let x := s.ptpInst o.inst
        s.setPtpInst o.inst { x with awaiting := x.awaiting ++ [(o.port, h, o.kind, o.seq)] }
      else s
    | (none, s) => s
  | (none, s) => s
/-- A message that is not sent for want of a valid stamp or copy (R298). -/
def State.ptpSuppress (s : State) (i : Nat) : State := s.bump E.ptpTxSuppressed i
/-- The next sequenceId of a message type on a port (R315), and the state after. -/
def State.ptpNextSeq (s : State) (i p ty : Nat) : Nat × State :=
  let x := s.ptpInst i
  let k := p * 16 + ty
  let q := tabGet 0 k x.seqs
  (q, s.setPtpInst i { x with seqs := tabPut 0 k ((q + 1) % 65536) x.seqs })

/-! ### Receiving (R299) -/

/-- The instance a message is for, with whether it takes the message: the one enabled on the port and transport with the
message's domain, else one to count the discard at (log 45). -/
def State.ptpTarget (s : State) (x : PtpRx) : Option Nat × Bool :=
  let on := (List.range 16).filter (fun i => s.flag E.ptpEnable i)
  let here := on.filter (fun i => (s.ptpMaster i x.port || s.ptpUp i x.port) && decide (s.n E.ptpTransport i = x.transport.val))
  match here.find? (fun i => decide (s.n E.ptpDomain i = x.domain)) with
  | some i => (some i, true)
  | none => (here.head?.orElse (fun _ => on.head?), false)
/-- A message that is dropped after its issue (R440, R442). -/
def State.ptpDropped (s : State) (x : PtpRx) (stage : Nat) : State :=
  s.packetEnd x.port x.stamp 2 stage none none 0xFF s.tai
/-- A received message under R299 and R306: the instance that takes it and whether it is authenticated. -/
def State.ptpReceive (s : State) (x : PtpRx) : Option (Nat × Bool) × State :=
  if s.ptpQuiet then (none, s.ptpDropped x 1)
  else
    match s.ptpTarget x with
    | (none, _) => (none, s.ptpDropped x 1)
    | (some i, takes) =>
      if ¬ takes ∨ bitOf x.flags 2 ∨ bitOf x.flags 4 ∨ beAt x.bytes 1 1 % 16 ≠ 2 ∨ x.bytes.length < tlvStart x.kind ∨
          x.bytes.length < beAt x.bytes 2 2 ∨ (x.event ∧ bitOf x.flags 0) then
        (none, (s.bump E.ptpRxDrop i).ptpDropped x 1)
      else
        match s.ptpVerify i x with
        | (some a, s) => (some (i, a), (s.bump E.ptpRxMsgs i).svcPacket (decide ((authTlv x).isSome ∧ s.n E.ptpAuthMode i ≠ 0)) true)
        | (none, s) => (none, s.ptpDropped x 4)
/-- The client slot of a sender (R300). -/
def State.findClient (s : State) (i : Nat) (x : PtpRx) : Option Nat :=
  (s.ptp.clients.find? (fun p => p.2.used && decide (p.2.inst = i ∧ p.2.port = x.port.val ∧ p.2.addr = x.addr ∧
    p.2.portId = x.src))).map (·.1)
/-- A row that a received message of one of these types makes: the engine takes its frame, receives it, then `f` with its instance and
authentication, and it retires. -/
def ptpRow (t : Nat) (x : PtpRx) (kinds : List Nat) (s : State) (f : Nat → Bool → State → State) (msg : Option Nat := none) :
    Host.Outcome State Fault Refusal :=
  timed t s fun s =>
    if ¬ kinds.contains x.kind then s
    else
    s.frameTake x.port (fun g => decide (ptpRxOf g = some x)) fun s =>
      match s.ptpReceive x with
      | (some (i, a), s) =>
        let c := (s.findClient i x).map (fun k => clientHandle k (s.client k))
        (f i a s).packetEnd x.port x.stamp 0 5 msg c 0xFF s.tai
      | (none, s) => s

/-! ### The parent and its exchanges (R295 to R297, R316) -/

/-- The data set comparison of the profile as a key, the lower the better (R295, log 44). -/
def State.parentKey (s : State) (i : Nat) (a : ParentSet) : List Nat :=
  let tail := [ofBe a.portId, a.port]
  if s.ptpTelecom i then
    [a.cls, a.accuracy, a.variance, a.priority2] ++ (if a.cls ≤ 127 then [a.steps] else [a.gmId, a.steps]) ++ tail
  else [a.priority1, a.cls, a.accuracy, a.variance, a.priority2, a.gmId, a.steps] ++ tail
/-- An interval of a log₂ of seconds in ticks. -/
def logTicks (log : Int) : Nat := if 0 ≤ log then ticksS (2 ^ log.toNat) else ticksS 1 / 2 ^ (-log).toNat
/-- The announce receipt timeout in ticks (R297). -/
def State.announceTicks (s : State) (i : Nat) : Nat := s.n E.ptpAnnounceTimeout i * logTicks (s.int E.ptpLogAnnounce i)
/-- The sync receipt timeout in ticks (R297). -/
def State.syncTicks (s : State) (i : Nat) : Nat := s.n E.ptpSyncTimeout i * logTicks (s.int E.ptpLogSync i)
/-- The islands on the paths of what reaches an instance from upstream (R116). -/
def State.upPaths (s : State) (i : Nat) : List Nat :=
  0x400 :: (bitsSet (s.n E.ptpPortsUpstream i) 18).map portIsland
/-- The announce receipt timeout of a master has resolved (R115, R116, R297). -/
def State.announceGone (s : State) (i : Nat) (a : ParentSet) : Bool := s.resolves (s.upPaths i) (a.last + s.announceTicks i)
/-- The best of the parents heard within the announce receipt timeout. -/
def State.bestParent (s : State) (i : Nat) : Option ParentSet :=
  ((s.ptpInst i).heard.filter (fun a => !s.announceGone i a)).foldl
    (fun b a => match b with
      | none => some a
      | some c => if rankLt (s.parentKey i a) (s.parentKey i c) then some a else some c) none
/-- The request epoch advances (R316). -/
def State.reqEpochUp (s : State) (i : Nat) : State := s.set E.ptpReqEpoch i ((s.n E.ptpReqEpoch i + 1) % 65536)
/-- The sync epoch advances (R316). -/
def State.syncEpochUp (s : State) (i : Nat) : State := s.set E.ptpSyncEpoch i ((s.n E.ptpSyncEpoch i + 1) % 65536)
/-- The slot an instance feeds. -/
def State.ptpSlot (s : State) (i : Nat) : Option Nat := s.slotOf 2 i
/-- The instance reports loss of its parent to Hornbeam (R147, R297). -/
def State.parentLost (s : State) (i : Nat) : State :=
  let s := s.setPtpInst i { s.ptpInst i with lost := true }
  match s.ptpSlot i with
  | some n => (s.setCause n 1 true).settle
  | none => s
/-- The instance has its parent again (R147). -/
def State.parentBack (s : State) (i : Nat) : State :=
  if (s.ptpInst i).lost then
    let s := s.setPtpInst i { s.ptpInst i with lost := false }
    match s.ptpSlot i with
    | some n => (s.setCause n 1 false).settle
    | none => s
  else s
/-- The slot's quality follows the Announce of the parent (R155): level 0 without one. -/
def State.parentQuality (s : State) (i : Nat) : State :=
  match s.ptpSlot i, (s.ptpInst i).parent with
  | some n, some a => s.quality n (a.accuracy * 256 + a.cls) (announceLevel a)
  | some n, none => s.quality n 0 0
  | none, _ => s
/-- The parent is chosen anew: a change advances both epochs and discards the entries of the earlier ones (R316); the slot's quality is
that of the new one (R155). -/
def State.chooseParent (s : State) (i : Nat) : State :=
  let x := s.ptpInst i
  let b := s.bestParent i
  let same := decide (b.map (fun a => (a.port, a.portId)) = x.parent.map (fun a => (a.port, a.portId)))
  let s := s.setPtpInst i { x with parent := b }
  let s := match s.ptpSlot i with | some n => s.termsRefresh n | none => s
  if same then s
  else
    let s := (s.reqEpochUp i).syncEpochUp i
    let s := s.setPtpInst i { s.ptpInst i with
      exchanges := [], done := [], links := [], lastOffset := none, lastSyncSeq := none, tlvSeen := none, lastSync := s.now }
    (s.set E.ptpParentId i (match b with | some a => beAt a.portId 0 8 | none => 0)).parentQuality i
/-- The message comes from the parent of an upstream instance. -/
def State.fromParent (s : State) (i : Nat) (x : PtpRx) : Bool :=
  match (s.ptpInst i).parent with
  | some a => s.ptpUp i x.port && decide (a.port = x.port.val ∧ a.portId = x.src)
  | none => false
/-- A Bound TLV as R297 counts it, 0xFFFF_FFFF where SAFE or NO_TIME is set. -/
def State.tlvBoundOf (s : State) (i : Nat) (x : PtpRx) (auth : Bool) : Option Bound :=
  if auth || s.flag E.ptpBoundUnauth i then
    (orgTlv x 1).map (fun d => if bitOf (beAt d 4 2) 2 || bitOf (beAt d 4 2) 3 then 0xFFFFFFFF else beAt d 0 4)
  else none
/-- HOPS, SOURCE and ROOT_ID of a counted Bound TLV are kept (R310). -/
def State.tlvNote (s : State) (i : Nat) (x : PtpRx) (auth : Bool) : State :=
  if auth || s.flag E.ptpBoundUnauth i then
    match orgTlv x 1 with
    | some d => s.setPtpInst i { s.ptpInst i with tlvSeen := some (beAt d 6 1, beAt d 7 1, beAt d 20 8) }
    | none => s
  else s
/-- A span of 2⁻¹⁶ ns in fs. -/
def fsOfUnits (d : Int) : Int := Int.tdiv (d * 10 ^ 6) 65536
/-- A Sync pair is complete (R296): the offset of a peer-delay instance, or the Sync half of the next exchange. -/
def State.pairDone (s : State) (i : Nat) (t1 t2 corr : Int) (tlv : Option Bound) : State :=
  let off := t2 - t1 - corr
  let x := s.ptpInst i
  let x := { x with lastOffset := some (off, tlv) }
  let x := match s.ptpP2p i, x.parent.bind (fun a => (x.links.find? (fun l => l.1 == a.port)).map (·.2)) with
    | true, some m => { x with done := x.done ++ [(fsOfUnits (off - m), fsOfUnits (2 * m), tlv)] }
    | _, _ => x
  (s.setPtpInst i x).parentBack i
/-- A Delay exchange with both its stamps is complete (R296). -/
def State.delayDone (s : State) (i : Nat) (e : Exchange) : State :=
  let x := s.ptpInst i
  match e.t3, e.t4, x.lastOffset with
  | some t3, some t4, some (a, tlv) =>
    let b := t4 - t3 - e.corr
    let bound := match tlv, e.bound with | some u, some v => some (max u v) | none, v => v | u, none => u
    s.setPtpInst i { x with
      exchanges := x.exchanges.erase e, done := x.done ++ [(Int.tdiv ((a - b) * 10 ^ 6) (2 * 65536), fsOfUnits (a + b), bound)] }
  | some _, some _, none => s.setPtpInst i { x with exchanges := x.exchanges.erase e }
  | _, _, _ => s
/-- A Pdelay exchange with all its stamps gives the mean link delay (R296). -/
def State.pdelayDone (s : State) (i : Nat) (e : Exchange) : State :=
  let x := s.ptpInst i
  match e.t1, e.t2, e.t3, e.t4 with
  | some t1, some t2, some t3, some t4 =>
    s.setPtpInst i { x with
      exchanges := x.exchanges.erase e, links := tabInsert e.port (Int.tdiv ((t4 - t1) - (t3 - t2) - e.corr) 2) x.links }
  | _, _, _, _ => s
/-- Replaces an entry and completes it where it can be. -/
def State.exchangeSet (s : State) (i : Nat) (old new : Exchange) : State :=
  let x := s.ptpInst i
  let s := s.setPtpInst i { x with exchanges := x.exchanges.map (fun e => if e = old then new else e) }
  match new.kind with | 1 => s.delayDone i new | 2 => s.pdelayDone i new | _ => s
/-- The entry a reply that arrives at tick `at'` matches under R316: of the current epoch when its sequenceId is at or below the last issued, else of the
epoch before. -/
def State.exchangeFor (s : State) (i kind seq at' : Nat) : Option Exchange :=
  let x := s.ptpInst i
  let cur := if kind = 0 then s.n E.ptpSyncEpoch i else s.n E.ptpReqEpoch i
  let last := if kind = 0 then x.lastSyncSeq.getD 0 else x.lastReq
  let ep := if seq ≤ last then cur else (cur + 65535) % 65536
  x.exchanges.find? (fun e => decide (e.kind = kind ∧ e.epoch = ep ∧ e.seq = seq ∧ at' ≤ e.expires))
/-- The next request sequenceId: values with an unexpired entry are skipped, and the epoch advances at a wrap (R316). -/
def State.nextReq (s : State) (i : Nat) : Nat → State
  | 0 => s
  | fuel + 1 =>
    let q := ((s.ptpInst i).lastReq + 1) % 65536
    let s := if q = 0 then s.reqEpochUp i else s
    let s := s.setPtpInst i { s.ptpInst i with lastReq := q }
    if (s.ptpInst i).exchanges.any (fun e => decide (e.kind ≠ 0 ∧ e.seq = q ∧ s.now ≤ e.expires)) then s.nextReq i fuel else s

/-! ### Stamps back from the ports (R264, R265, R298) -/

/-- The stamp of a message the instance awaits is lost: no Follow_Up, and its exchange ends (R298, R296). -/
def State.stampLost (s : State) (i kind seq : Nat) : State :=
  let s := if kind = 1 then s.bump E.ptpFollowupLost i else s
  let x := s.ptpInst i
  if kind = 7 ∨ kind = 8 then
    s.setPtpInst i { x with exchanges := x.exchanges.filter (fun e => !decide (e.kind = kind - 6 ∧ e.seq = seq)) }
  else s
/-- Handles of a port no longer awaited by any instance, as lost. -/
def State.handlesLost (s : State) (p : Nat) (handles : List Nat) : State :=
  (List.range 16).foldl (fun s i =>
    let x := s.ptpInst i
    let gone := x.awaiting.filter (fun a => decide (a.1 = p) && handles.contains a.2.1)
    let s := s.setPtpInst i { x with awaiting := x.awaiting.filter (fun a => !gone.contains a) }
    gone.foldl (fun s a => s.stampLost i a.2.2.1 a.2.2.2) s) s
/-- A stamp reaches the engine for the message of `o` (R298, R315). -/
def State.ptpStamped (s : State) (o : Origin) (stamp : T96) (bound : Bound) : State :=
  let i := o.inst
  let general := o.peer.take 17 ++ be 2 (if beAt o.peer 0 1 = 0 then 0 else 320) ++ o.peer.drop 19
  let find (k : Nat) := (s.ptpInst i).exchanges.find? (fun e => decide (e.kind = k ∧ e.seq = o.seq))
  match o.kind with
  | 1 => s.ptpSend { o with kind := 2, peer := general, stamp := stamp, bound := bound }
  | 4 => s.ptpSend { o with kind := 5, peer := general, stamp := stamp, bound := bound }
  | 7 => match find 1 with | some e => s.exchangeSet i e { e with t3 := some stamp } | none => s
  | 8 => match find 2 with | some e => s.exchangeSet i e { e with t1 := some stamp } | none => s
  | _ => s
/-- A stamp queue entry drained to the PTP engine (R264). -/
def State.ptpEntry (s : State) (o : Origin) (b : List Byte) : State :=
  let p := beAt b 1 1
  let handle := beAt b 4 4
  match beAt b 0 1 with
  | 2 => s.handlesLost p ((List.range (o.req.length / 4)).map (fun j => beAt o.req (4 * j) 4))
  | 3 => s.handlesLost p [handle]
  | _ =>
    let x := s.ptpInst o.inst
    if x.awaiting.any (fun a => decide (a.1 = p ∧ a.2.1 = handle)) then
      let s := s.setPtpInst o.inst { x with awaiting := x.awaiting.filter (fun a => !decide (a.1 = p ∧ a.2.1 = handle)) }
      if bitOf (beAt b 2 2) 0 then
        if o.kind = 7 ∨ o.kind = 8 then s.stampLost o.inst o.kind o.seq else s.ptpSuppress o.inst
      else s.ptpStamped o (ofSec (beAt b 8 6) + beAt b 14 4 * 65536 + beAt b 18 2) (beAt b 20 4)
    else s.bump E.ptpStale o.inst
/-- The request epochs of the instances on a port that goes down advance (R316). -/
def State.ptpPortDown (s : State) (p : Nat) : State :=
  (List.range 16).foldl (fun s i => if s.ptpMaster i p ∨ s.ptpUp i p then s.reqEpochUp i else s) s

/-! ### Rebuilding in the safe state (R261, R314) -/

/-- A frame of the PTP engine built again under the state in force. -/
def State.ptpRebuild (s : State) (f : Outgoing) : Option Outgoing × State :=
  match s.ptpBuild f.origin with
  | (some g, s) => (some { g with handle := f.handle, stamp := f.stamp }, s)
  | (none, s) => (none, s)

end Sys2Proof.Machine
end

