-- ==== Sys2Proof/Machine/PtpStore.lean ====
section
/-! DEFINITION. Unicast negotiation, the client store, the security associations and the partner table (R300 to R305,
R317 to R321). -/

namespace Sys2Proof.Machine

/-- The lowest index not listed as busy. -/
def firstFree {α : Type} (busy : α → Bool) : Tab α → Nat → Nat
  | [], i => i
  | (k, x) :: r, i => if k < i then firstFree busy r i else if k = i ∧ busy x then firstFree busy r (i + 1) else i

/-! ### Clients (R300 to R304) -/

/-- A client's grant by message type. -/
def clientGrant (c : Client) (kind : Nat) : Option Grant :=
  match kind with | 0 => c.sync | 9 => c.delay | 3 => c.pdelay | 0xB => c.announce | _ => none
/-- Sets a client's grant by message type. -/
def clientSetGrant (c : Client) (kind : Nat) (g : Option Grant) : Client :=
  match kind with
  | 0 => { c with sync := g } | 9 => { c with delay := g } | 3 => { c with pdelay := g } | 0xB => { c with announce := g } | _ => c
/-- A client holds a grant. -/
def clientHolds (c : Client) : Bool := c.announce.isSome || c.sync.isSome || c.delay.isSome || c.pdelay.isSome
/-- The shortest interval an instance grants for a message type (R301); `none` for types it does not grant. -/
def State.minLog (s : State) (i kind : Nat) : Option Int :=
  match kind with
  | 0 => some (s.int E.ptpMinLogSync i)
  | 0xB => some (s.int E.ptpMinLogAnnounce i)
  | 9 | 3 => some (s.int E.ptpMinLogDelay i)
  | _ => none
/-- The planned load stands above the limit of R303: in all, or of what authenticates. -/
def State.overPlanned (s : State) (auth : Bool) : Bool :=
  let (a, t) := s.capacity
  let pct := s.n E.ptpPlanPct
  decide (t * pct * planUnit < s.planned false * 100) || (auth && decide (a * pct * planUnit < s.planned true * 100))
/-- A Signaling message to a station: its portIdentity and TLVs. -/
def State.signal (s : State) (i p : Nat) (addr : List Byte) (vlan : Nat) (target : List Byte) (tlvs : List Byte)
    (client : Option Nat) : State :=
  let (q, s) := s.ptpNextSeq i p 0xC
  s.ptpSend { unit := 0, inst := i, kind := 9, client := client, seq := q, port := p,
              peer := ptpDest (s.n E.ptpTransport i) addr false vlan, req := target ++ tlvs }
/-- A GRANT_UNICAST_TRANSMISSION TLV. -/
def grantTlv (kind : Nat) (log : Int) (duration : Nat) : List Byte :=
  be 2 5 ++ be 2 8 ++ be 1 (kind * 16) ++ be 1 (BitVec.ofInt 8 log).toNat ++ be 4 duration ++ be 1 0 ++
    be 1 (if duration = 0 then 0 else 1)
/-- The answer to one request: a grant for a duration in s, 0 for a denial. -/
def State.answerGrant (s : State) (i : Nat) (x : PtpRx) (kind : Nat) (log : Int) (duration : Nat) : State :=
  s.signal i x.port x.addr x.vlan x.src (grantTlv kind log duration) none
/-- A request denied (R301). -/
def State.denyGrant (s : State) (i : Nat) (x : PtpRx) (kind : Nat) (log : Int) : State :=
  (s.bump E.ptpGrantDenied i).answerGrant i x kind log 0
/-- The content a client slot takes on its first grant (R300, R304). -/
def newClient (c : Client) (i : Nat) (x : PtpRx) : Client :=
  { used := true, gen := (c.gen + 1) % 2 ^ 12, inst := i, port := x.port, addr := x.addr, portId := x.src, vlan := x.vlan,
    flags := 2 * ofBool (decide (x.transport = 0)) + 4 * ofBool (decide (x.transport = 2)) }
/-- A grant ends; the slot is released with the last (R300, R302). -/
def State.endGrant (s : State) (k kind : Nat) : State :=
  let c := clientSetGrant (s.client k) kind none
  if clientHolds c then (s.setClient k c).clientRefresh else s.releaseClient k
/-- A request that arrives after its grant's deadline tick finds the grant ended (R302, R115). -/
def State.grantLate (s : State) (i : Nat) (x : PtpRx) (kind : Nat) : State :=
  match s.findClient i x with
  | some k =>
    (match clientGrant (s.client k) kind with
     | some g => if g.expires < s.stampTick x.stamp then s.endGrant k kind else s
     | none => s)
  | none => s
/-- One REQUEST_UNICAST_TRANSMISSION TLV (R300 to R303). -/
def State.requestGrant (s : State) (i : Nat) (x : PtpRx) (auth : Bool) (kind : Nat) (log : Int) (duration : Nat) : State :=
  match s.minLog i kind with
  | none => s.denyGrant i x kind log
  | some least =>
    if log < least ∨ ((kind = 0 ∨ kind = 9) ∧ s.noTime) then s.denyGrant i x kind log
    else
      let s := s.grantLate i x kind
      let dur := max (s.n E.ptpGrantMin i) (min duration (s.n E.ptpGrantMax i))
      let known := s.findClient i x
      let k := known.getD (firstFree (fun c : Client => c.used || decide (s.now < c.quietUntil)) s.ptp.clients 0)
      if known.isNone ∧ s.clientLimit ≤ k then (s.bump E.ptpStoreFull i).answerGrant i x kind log 0
      else
        let old := s.client k
        let c := if known.isSome then old else newClient old i x
        let renew := clientGrant c kind
        let (start, given) := match renew with | some g => (s.stampTick x.stamp, g.given) | none => (s.now, s.now)
        let c := clientSetGrant c kind (some ⟨log, start + ticksS dur, given⟩)
        let (sa, spp) := if auth then authHandle x else (0, 0)
        let c := { c with
          flags := setBit c.flags 3 auth, sa := sa, spp := spp, vlan := x.vlan,
          renewals := if renew.isSome then min (c.renewals + 1) (2 ^ 32 - 1) else c.renewals }
        let two := s.flag E.ptpTwoStep i
        let t := s.setClient k c
        if t.overPlanned auth ∧ ¬ (renew.isSome ∧ clientLoad two c ≤ clientLoad two old) then s.denyGrant i x kind log
        else t.clientRefresh.answerGrant i x kind log dur
/-- A grant's deadline tick has passed (R302, R115, R116). -/
def State.grantExpired (s : State) (k kind : Nat) : State :=
  match clientGrant (s.client k) kind with
  | some g => if s.resolves [0x400, portIsland (s.client k).port] g.expires then s.endGrant k kind else s
  | none => s
/-- One CANCEL for each active grant of a client that a trim change evicts (R87, R302). -/
def State.cancelGrants (s : State) (k : Nat) : State :=
  let c := s.client k
  ([0, 9, 3, 0xB].filter (fun kind => (clientGrant c kind).isSome)).foldl
    (fun s kind => s.signal c.inst c.port c.addr c.vlan c.portId (be 2 6 ++ be 2 2 ++ be 1 (kind * 16) ++ be 1 0) none) s
/-- An expiry tick as milliseconds of Privet time modulo 2³², rounded up (R304). -/
def State.expiryMs (s : State) (g : Option Grant) : Nat :=
  match g with | some g => ceilDiv (s.copyAt g.expires) (10 ^ 6 * 65536) % 2 ^ 32 | none => 0
/-- The 64 bytes of a client record (R304). -/
def State.clientRecord (s : State) (k : Nat) : List Byte :=
  let c := s.client k
  let quiet := !c.used && decide (s.now < c.quietUntil)
  let log (g : Option Grant) : Nat := match g with | some g => (BitVec.ofInt 8 g.log).toNat | none => 0x7F
  be 4 (if c.used then clientHandle k c else 0) ++ be 1 c.inst ++ be 1 c.port ++
    be 2 (ofBool c.used + c.flags + 16 * ofBool quiet) ++ padTo 16 c.addr ++ padTo 10 c.portId ++ be 2 c.vlan ++
    be 1 (log c.announce) ++ be 1 (log c.sync) ++ be 1 (log c.delay) ++ be 1 c.spp ++ be 4 (s.expiryMs c.announce) ++
    be 4 (s.expiryMs c.sync) ++ be 4 (s.expiryMs c.delay) ++ be 4 c.sa ++ be 2 c.announceSeq ++ be 2 c.syncSeq ++ be 4 c.renewals
/-- Slots the part's store holds (R1). -/
def State.clientSlots (s : State) : Nat := if s.present 2 then 1048576 else 262144
/-- `PTP_CLIENT_SEL` (R304): the slots a PKY9612 has not are an absent unit's (R7). -/
def spClientSel : Special where
  entry := E.ptpClientSel
  codes c s := if c.v < s.clientSlots then [] else if c.v < 1048576 then [2] else [7]
  apply c s := (s.set E.ptpClientSel c.i c.v).setOct E.ptpClientRec c.i (s.clientRecord c.v)
/-- `PTP_CLIENT_FORCE` (R300). -/
def spClientForce : Special where
  entry := E.ptpClientForce
  codes c _ := if c.v = 1 then [] else [7]
  apply _ s := { s with ptp := { s.ptp with
    clients := s.ptp.clients.map (fun p => (p.1, { p.2 with quietUntil := 0 })) } }

/-! ### Partners (R317 to R321) -/

/-- Partner `k`. -/
def State.partner (s : State) (k : Nat) : Partner := tabGet {} k s.ptp.partners
/-- Sets partner `k`. -/
def State.setPartner (s : State) (k : Nat) (x : Partner) : State :=
  { s with ptp := { s.ptp with partners := tabPut {} k x s.ptp.partners } }
/-- A partner handle: 12-bit index | 20-bit generation (R319). -/
def partnerHandle (k : Nat) (x : Partner) : Nat := k * 2 ^ 20 + x.gen % 2 ^ 20
/-- The counts the entries report follow the table (R321, R323). -/
def State.partnerRefresh (s : State) : State :=
  let live := s.ptp.partners.filter (·.2.active)
  (s.set E.ptpPartnerCount 0 live.length).set E.ptpPartnerWorst 0 ((live.map (·.2.bound)).foldl max 0)
/-- A PARTNER ledger entry (R321). -/
def State.partnerLedger (s : State) (k event : Nat) (bound : Bound) : State :=
  s.ledgerNote 20 k (event * 2 ^ 30 + min bound 0x3FFFFFFF)
/-- BOUND crosses `PTP_PARTNER_LIMIT` (R321). -/
def State.partnerLevel (s : State) (k : Nat) (old new : Bound) : State :=
  let l := s.n E.ptpPartnerLimit
  if old ≤ l ∧ l < new then s.partnerLedger k 2 new
  else if l < old ∧ new ≤ l then s.partnerLedger k 3 new else s
/-- A report that arrived at tick `at'` accepted into entry `k`. -/
def State.partnerTake (s : State) (k : Nat) (r : List Byte) (via at' : Nat) : State :=
  let x := s.partner k
  let b := beAt r 40 4
  let s := s.setPartner k { x with
    id := beAt r 0 8, seq := beAt r 12 4, last := at', interval := beAt r 16 2, bound := b, via := via, report := r }
  s.partnerRefresh
/-- The deadline tick of a partner (R320). -/
def State.partnerDeadline (s : State) (k : Nat) : Nat :=
  (s.partner k).last + ticksS (s.n E.ptpPartnerMiss * (s.partner k).interval)
/-- The islands on the paths of a partner's reports (R116): its port's, or those Irlin messages can come by. -/
def State.partnerPaths (s : State) (k : Nat) : List Nat :=
  let via := (s.partner k).via
  if via < 256 then [0x400, portIsland via]
  else 0x701 :: 0x702 :: (bitsSet (s.n E.irlinPortMask) 18).map portIsland
/-- A partner is freed as it ages out (R320, R321). -/
def State.partnerFree (s : State) (k : Nat) : State :=
  let x := s.partner k
  let s := s.setPartner k { gen := x.gen + 1, quietUntil := s.now + ticksS (s.n E.ptpPartnerQuiet) }
  s.partnerRefresh.partnerLedger k 1 x.bound
/-- A partner ages out (R320, R321). -/
def State.partnerAge (s : State) (k : Nat) : State :=
  if (s.partner k).active ∧ s.resolves (s.partnerPaths k) (s.partnerDeadline k) then s.partnerFree k else s
/-- A report that arrives at tick `at'`, after its partner's deadline tick, finds the partner aged out (R320). -/
def State.partnerLate (s : State) (k at' : Nat) : State :=
  if (s.partner k).active ∧ s.partnerDeadline k < at' then s.partnerFree k else s
/-- A Partner Report that arrived at tick `at'` against the table (R319): status, handle, INTERVAL. `via` is as R321 records it. -/
def State.partnerReport (s : State) (r : List Byte) (via at' : Nat) : (Nat × Nat × Nat) × State :=
  let id := beAt r 0 8
  let handle := beAt r 8 4
  let seq := beAt r 12 4
  let interval := beAt r 16 2
  let find (s : State) : Option Nat := (s.ptp.partners.find? (fun p => p.2.active && decide (p.2.id = id))).map (·.1)
  let s := match find s with | some k => s.partnerLate k at' | none => s
  let known := find s
  if interval < 1 ∨ 3600 < interval ∨ beAt r 52 1 = 255 then ((7, 0, 0), s)
  else if handle = 0 then
    match known with
    | some k =>
      let old := (s.partner k).bound
      ((0, partnerHandle k (s.partner k), interval), (s.partnerTake k r via at').partnerLevel k old (beAt r 40 4))
    | none =>
      let k := firstFree (fun x : Partner => x.active || decide (s.now < x.quietUntil)) s.ptp.partners 0
      if 4096 ≤ k then ((0xA, 0, 0), s.bump E.ptpPartnerFull)
      else
        let x : Partner := { active := true, gen := (s.partner k).gen + 1 }
        let s := ((s.setPartner k x).partnerTake k r via at').partnerLedger k 0 (beAt r 40 4)
        ((0, partnerHandle k (s.partner k), interval), s)
  else
    let k := handle / 2 ^ 20
    let x := s.partner k
    if ¬ x.active ∨ partnerHandle k x ≠ handle ∨ x.id ≠ id ∨ seq ≤ x.seq then ((0xC, 0, 0), s.bump E.ptpPartnerStale)
    else ((0, handle, interval), (s.partnerTake k r via at').partnerLevel k x.bound (beAt r 40 4))
/-- The 64 bytes of a partner record (R321). -/
def State.partnerRecord (s : State) (k : Nat) : List Byte :=
  let x := s.partner k
  let st := if x.active then 1 else if s.now < x.quietUntil then 2 else 0
  let missed := if x.active then min 255 ((s.now - x.last) / ticksS (max 1 x.interval)) else 0
  be 4 (if x.active then partnerHandle k x else 0) ++ be 1 st ++ be 1 missed ++ be 2 x.via ++ padTo 56 x.report
/-- `PTP_PARTNER_SEL` (R321). -/
def spPartnerSel : Special where
  entry := E.ptpPartnerSel
  codes c _ := if c.v < 4096 then [] else [7]
  apply c s := (s.set E.ptpPartnerSel c.i c.v).setOct E.ptpPartnerRec c.i (s.partnerRecord c.v)
/-- `PTP_PARTNER_FORCE` (R320). -/
def spPartnerForce : Special where
  entry := E.ptpPartnerForce
  codes c _ := if c.v = 1 then [] else [7]
  apply _ s := { s with ptp := { s.ptp with
    partners := s.ptp.partners.map (fun p => (p.1, { p.2 with quietUntil := 0 })) } }

/-! ### Associations (R305) -/

/-- `SA_KEY` (R305, R476): a provisioned key; a new one starts its sequence afresh (log 46). -/
def spSaKey : Special where
  entry := E.saKey
  codes c s := s.refCodes { s.saUse c.i with ref := c.v } none
  apply c s := (s.set E.saKey c.i c.v).set E.saTxSeq c.i 0
/-- `SA_CTRL` (R305): 1 activates, 2 frees. -/
def spSaCtrl : Special where
  entry := E.saCtrl
  codes c s := match c.v with
    | 1 => if s.n E.saState c.i = 4 then [0xA] else []
    | 2 => []
    | _ => [7]
  apply c s :=
    let a := c.i
    if c.v = 1 then
      let g := (tabGet 0 a s.ptp.saGen + 1) % 2 ^ 22
      let s := { s with ptp := { s.ptp with saGen := tabPut 0 a g s.ptp.saGen } }
      (s.set E.saHandle a (a * 2 ^ 22 + g)).set E.saState a 1
    else if s.n E.saState a = 1 then
      let q := ticksS (s.n E.ptpSaQuiet)
      let s := { s with ptp := { s.ptp with
        saQuiet := tabPut 0 a (s.now + q) s.ptp.saQuiet, saWindow := s.ptp.saWindow.filter (fun w => decide (w.1 ≠ a)) } }
      s.set E.saState a (if q = 0 then 0 else 4)
    else s

end Sys2Proof.Machine
end

