-- ==== Sys2Proof/Machine/Ptp.lean ====
section
/-! DEFINITION. The PTP commands (R291 to R325). -/

namespace Sys2Proof.Machine

/-! ### Settings (R293, R294) -/

/-- The transports a profile allows (R293). -/
def profileTransports (p : Nat) : List Nat := match p with | 2 => [0] | 3 => [1, 2] | _ => [0, 1, 2]
/-- The domains a profile allows (R293). -/
def profileDomains (p : Nat) : Nat × Nat := match p with | 2 => (24, 43) | 3 => (44, 63) | _ => (0, 127)
/-- The values of `PTP_UNICAST` a profile allows (R293). -/
def profileUnicast (p : Nat) : List Nat := match p with | 0 => [0, 1] | 3 => [1] | _ => [0]
/-- Log Announce, Sync and MinDelayReq intervals of a profile (R293). -/
def profileLogs (p : Nat) : Int × Int × Int := match p with | 2 => (-3, -4, -4) | 3 => (0, -4, -4) | _ => (1, 0, 0)
/-- Another instance has one of the ports with the same domain and transport (R294). -/
def State.ptpClash (s : State) (i domain transport ports : Nat) : Bool :=
  (List.range 16).any (fun j => decide (j ≠ i ∧ s.n E.ptpDomain j = domain ∧ s.n E.ptpTransport j = transport) &&
    (List.range 18).any (fun p => bitOf ports p && (bitOf (s.n E.ptpPortsMaster j) p || bitOf (s.n E.ptpPortsUpstream j) p)))
/-- The ports of an instance. -/
def State.ptpPorts (s : State) (i : Nat) : Nat := Nat.lor (s.n E.ptpPortsMaster i) (s.n E.ptpPortsUpstream i)
/-- Code of an enabled instance (R294). -/
def State.ptpBusy (s : State) (i : Nat) : List Nat := if s.flag E.ptpEnable i then [0xA] else []
/-- `PTP_PROFILE` (R293): the profile's intervals, domain and grant defaults load. -/
def spPtpProfile : Special where
  entry := E.ptpProfile
  codes c s := s.ptpBusy c.i ++ (if (profileTransports c.v).contains (s.n E.ptpTransport c.i) then [] else [7]) ++
    (if s.ptpClash c.i (match c.v with | 2 => 24 | 3 => 44 | _ => 0) (s.n E.ptpTransport c.i) (s.ptpPorts c.i) then [7] else [])
  apply c s :=
    let i := c.i
    let (a, y, d) := profileLogs c.v
    let s := ((s.set E.ptpProfile i c.v).set E.ptpDomain i (match c.v with | 2 => 24 | 3 => 44 | _ => 0)).set E.ptpUnicast i
      (ofBool (decide (c.v = 3)))
    let s := ((s.setInt E.ptpLogAnnounce i a).setInt E.ptpLogSync i y).setInt E.ptpLogMinDelay i d
    let s := (s.set E.ptpGrantMin i 60).set E.ptpGrantMax i 1000
    ((s.setInt E.ptpMinLogSync i (-7)).setInt E.ptpMinLogAnnounce i (-3)).setInt E.ptpMinLogDelay i (-7)
/-- PTP_PROFILE. -/
def execPtpProfile (t : Nat) (m : Master) (i : Fin 16) (v : Word) (s : State) : Host.Outcome State Fault Refusal :=
  writeRow spPtpProfile t m i [v] s
/-- `PTP_DOMAIN` (R293, R294). -/
def spPtpDomain : Special where
  entry := E.ptpDomain
  codes c s :=
    let (lo, hi) := profileDomains (s.n E.ptpProfile c.i)
    (if lo ≤ c.v ∧ c.v ≤ hi then [] else [7]) ++
    (if s.ptpClash c.i c.v (s.n E.ptpTransport c.i) (s.ptpPorts c.i) then [7] else [])
/-- `PTP_TRANSPORT` (R294). -/
def spPtpTransport : Special where
  entry := E.ptpTransport
  codes c s := s.ptpBusy c.i ++ (if (profileTransports (s.n E.ptpProfile c.i)).contains c.v then [] else [7]) ++
    (if s.ptpClash c.i (s.n E.ptpDomain c.i) c.v (s.ptpPorts c.i) then [7] else [])
/-- `PTP_UNICAST` (R293, R294). -/
def spPtpUnicast : Special where
  entry := E.ptpUnicast
  codes c s := if (profileUnicast (s.n E.ptpProfile c.i)).contains c.v then [] else [7]
/-- The codes of a port mask (R294): `other` is the instance's other mask. -/
def portMaskCodes (c : Ctx) (s : State) (other : Nat) : List Nat :=
  s.ptpBusy c.i ++ (if c.v < 2 ^ 18 ∧ Nat.land c.v other = 0 then [] else [7]) ++
  (if (bitsSet c.v 18).any (fun p => decide (s.n E.portRole p ≠ 0)) then [7] else []) ++
  (if ¬ s.present 5 ∧ (bitsSet c.v 16).any (fun p => decide (8 ≤ p)) then [2] else []) ++
  (if s.ptpClash c.i (s.n E.ptpDomain c.i) (s.n E.ptpTransport c.i) c.v then [7] else [])
/-- `PTP_PORTS_MASTER` (R294). -/
def spPtpMaster : Special where
  entry := E.ptpPortsMaster
  codes c s := portMaskCodes c s (s.n E.ptpPortsUpstream c.i)
/-- `PTP_PORTS_UPSTREAM` (R294). -/
def spPtpUpstream : Special where
  entry := E.ptpPortsUpstream
  codes c s := portMaskCodes c s (s.n E.ptpPortsMaster c.i)
/-- `PTP_ENABLE`: an instance that is disabled has neither parent nor exchanges. -/
def spPtpEnable : Special where
  entry := E.ptpEnable
  apply c s :=
    let s := s.set E.ptpEnable c.i c.v
    if c.v = 0 then ((s.setPtpInst c.i {}).set E.ptpParentId c.i 0).parentLost c.i else s

/-! ### Sending (R298, R300, R311, R315) -/

/-- A transmission on a MASTER port is due: to the group, or to a client whose handle and grant stand (R300 to R302). -/
def State.sendTo (s : State) (i p kind : Nat) (client : Option Nat) : Option (Option Nat) × State :=
  match client with
  | none => (if s.flag E.ptpUnicast i then none else some none, s)
  | some h =>
    match s.clientFor i h with
    | (some k, s) =>
      let c := s.client k
      match clientGrant c kind with
      | some g =>
        (if c.port = p ∧ s.now ≤ g.expires ∧ g.given + ticksNs (s.n E.portLaunchLead p) ≤ s.now then some (some k) else none, s)
      | none => (none, s)
    | (none, s) => (none, s)
/-- The sequenceId and the addresses of a Sync (kind 0) or an Announce (kind 0xB). -/
def State.sendSeq (s : State) (i p kind : Nat) (client : Option Nat) : Nat × List Byte × State :=
  let tr := s.n E.ptpTransport i
  match client with
  | none =>
    let (q, s) := s.ptpNextSeq i p kind
    (q, ptpDest tr (s.ptpGroup i false) (kind == 0) 0, s)
  | some k =>
    let c := s.client k
    let d := ptpDest tr c.addr (kind == 0) c.vlan
    if kind = 0 then (c.syncSeq, d, s.setClient k { c with syncSeq := (c.syncSeq + 1) % 65536 })
    else (c.announceSeq, d, s.setClient k { c with announceSeq := (c.announceSeq + 1) % 65536 })
/-- SYNC_INTERVAL (R298, R314): a one-step Sync goes to launch, a two-step one with a stamp request; none in NO_TIME. -/
def execSyncInterval (t : Nat) (i : Fin 16) (p : Fin 18) (client : Option Nat) (s : State) :
    Host.Outcome State Fault Refusal :=
  timed t s fun s =>
    if ¬ s.ptpMaster i p ∨ s.ptpQuiet ∨ s.noTime then s
    else
      match s.sendTo i p 0 client with
      | (none, s) => s
      | (some c, s) =>
        let two := s.flag E.ptpTwoStep i
        if ¬ two ∧ s.stampBad p then s.ptpSuppress i
        else
          let (q, d, s) := s.sendSeq i p 0 c
          let o : Origin := { unit := 0, inst := i, kind := ofBool two, client := c.map (fun k => clientHandle k (s.client k)), seq := q, peer := d, port := p }
          if two then s.ptpSend o true else s.ptpLaunch o
/-- ANNOUNCE_INTERVAL (R298, R311 to R314). -/
def execAnnounceInterval (t : Nat) (i : Fin 16) (p : Fin 18) (client : Option Nat) (s : State) :
    Host.Outcome State Fault Refusal :=
  timed t s fun s =>
    if ¬ s.ptpMaster i p ∨ s.ptpQuiet then s
    else
      match s.sendTo i p 0xB client with
      | (none, s) => s
      | (some c, s) =>
        if s.unsync 0x400 then s.ptpSuppress i
        else
          let (q, d, s) := s.sendSeq i p 0xB c
          s.ptpSend { unit := 0, inst := i, kind := 6, client := c.map (fun k => clientHandle k (s.client k)), seq := q, peer := d, port := p }
/-- DELAY_REQ_INTERVAL (R298, R316): a Delay_Req on the port that is in SLAVE, or a Pdelay_Req on an upstream port; to an
upstream master of the table under unicast negotiation. -/
def execDelayReqInterval (t : Nat) (i : Fin 16) (p : Fin 18) (um : Option (Fin 4)) (s : State) :
    Host.Outcome State Fault Refusal :=
  timed t s fun s =>
    let p2p := s.ptpP2p i
    let slave : Bool := match (s.ptpInst i).parent with | some a => decide (a.port = p.val) | none => false
    let dst : Bool := match um with
      | none => !s.flag E.ptpUnicast i
      | some u => s.flag E.ptpUnicast i && s.flag E.ptpUmEnable (4 * i + u)
    if ¬ s.ptpUp i p ∨ s.ptpQuiet ∨ ¬ dst ∨ ¬ (p2p ∨ slave) then s
    else
      let s := s.nextReq i 65536
      let x := s.ptpInst i
      let k := if p2p then 2 else 1
      let e : Exchange := { kind := k, epoch := s.n E.ptpReqEpoch i, seq := x.lastReq, port := p,
                            expires := s.now + ticksMs (s.n E.ptpRespTimeout) }
      let s := s.setPtpInst i { x with exchanges := x.exchanges ++ [e] }
      let addr := match um with
        | none => s.ptpGroup i p2p
        | some u => be 8 (s.n E.ptpUmAddrHi (4 * i + u)) ++ be 8 (s.n E.ptpUmAddrLo (4 * i + u))
      s.ptpSend { unit := 0, inst := i, kind := 6 + k, client := um.map (·.val), seq := x.lastReq, port := p,
                  peer := ptpDest (s.n E.ptpTransport i) addr true 0 } true

/-! ### Receiving from upstream (R295, R296, R316) -/

/-- A Sync arrives after the sync receipt timeout: the parent was lost at the deadline (R115, R297). -/
def State.syncLate (s : State) (i at' : Nat) : State :=
  let x := s.ptpInst i
  if ¬ x.lost ∧ x.lastSync + s.syncTicks i < at' then s.parentLost i else s
/-- SYNC_RECEIVED (R296, R297, R316). -/
def execSyncReceived (t : Nat) (x : PtpRx) (s : State) : Host.Outcome State Fault Refusal :=
  ptpRow t x [0] s fun i auth s =>
    if ¬ s.fromParent i x then s
    else
      let at' := s.stampTick x.stamp
      let jump := match (s.ptpInst i).lastSyncSeq with
        | some q => let d := (x.seq + 65536 - q) % 65536; decide (d < 1 ∨ 32767 < d)
        | none => false
      let s := if jump then s.syncEpochUp i else s
      let s := s.tlvNote i x auth
      let s := s.syncLate i at'
      let y := s.ptpInst i
      let s := s.setPtpInst i { y with lastSyncSeq := some x.seq, lastSync := at' }
      let t2 := (x.stamp : Int)
      let tlv := s.tlvBoundOf i x auth
      if x.flag 9 then
        let e : Exchange := { kind := 0, epoch := s.n E.ptpSyncEpoch i, seq := x.seq, t2 := some t2, corr := x.corr, bound := tlv,
                              expires := at' + ticksMs (s.n E.ptpRespTimeout) }
        s.setPtpInst i { s.ptpInst i with exchanges := (s.ptpInst i).exchanges ++ [e] }
      else s.pairDone i x.time t2 x.corr tlv
/-- FOLLOW_UP_RECEIVED (R316). -/
def execFollowUpReceived (t : Nat) (x : PtpRx) (s : State) : Host.Outcome State Fault Refusal :=
  ptpRow t x [8] s fun i auth s =>
    if ¬ s.fromParent i x then s
    else
      match s.exchangeFor i 0 x.seq (s.stampTick x.stamp) with
      | some e =>
        let y := s.ptpInst i
        let s := (s.setPtpInst i { y with exchanges := y.exchanges.erase e }).tlvNote i x auth
        let tlv := (s.tlvBoundOf i x auth).orElse (fun _ => e.bound)
        s.pairDone i x.time (e.t2.getD 0) (e.corr + x.corr) tlv
      | none => s.bump E.ptpUnmatched i
/-- The message answers this instance's request on the port. -/
def State.answersUs (s : State) (i : Nat) (x : PtpRx) : Bool := (x.bytes.drop 44).take 10 = s.portIdentity i x.port
/-- DELAY_RESP_RECEIVED (R296, R316). -/
def execDelayRespReceived (t : Nat) (x : PtpRx) (s : State) : Host.Outcome State Fault Refusal :=
  ptpRow t x [9] s fun i auth s =>
    if ¬ s.fromParent i x ∨ ¬ s.answersUs i x then s
    else
      match s.exchangeFor i 1 x.seq (s.stampTick x.stamp) with
      | some e => (s.tlvNote i x auth).exchangeSet i e { e with t4 := some x.time, corr := x.corr, bound := s.tlvBoundOf i x auth }
      | none => s.bump E.ptpUnmatched i
/-- PDELAY_RESP_RECEIVED (R296, R316): a Pdelay_Resp brings t2 and t4, its Follow_Up t3. -/
def execPdelayRespReceived (t : Nat) (x : PtpRx) (s : State) : Host.Outcome State Fault Refusal :=
  ptpRow t x [3, 0xA] s fun i _ s =>
    if ¬ s.ptpP2p i ∨ ¬ s.ptpUp i x.port ∨ ¬ s.answersUs i x then s
    else
      match (s.exchangeFor i 2 x.seq (s.stampTick x.stamp)).filter (fun e => decide (e.port = x.port.val)) with
      | some e =>
        if x.kind = 3 then
          s.exchangeSet i e { e with t2 := some x.time, t4 := some ((x.stamp : Int)), corr := e.corr + x.corr }
        else s.exchangeSet i e { e with t3 := some x.time, corr := e.corr + x.corr }
      | none => s.bump E.ptpUnmatched i
/-- An Announce's data set. -/
def announceSet (x : PtpRx) (now : Nat) : ParentSet :=
  let b := x.bytes
  { port := x.port, portId := x.src, gmId := beAt b 53 8, priority1 := beAt b 47 1, priority2 := beAt b 52 1,
    cls := beAt b 48 1, accuracy := beAt b 49 1, variance := beAt b 50 2, steps := beAt b 61 2, timeSource := beAt b 63 1,
    flags := beAt b 6 2, last := now }
/-- The leap flags of the selected reference's Announce (R107): the second they name ends with the current UTC day. -/
def State.announceLeap (s : State) (a : ParentSet) : State :=
  let utc : Int := secOf s.tai - s.taiUtc
  let day := (Int.fdiv utc 86400 + 1) * 86400
  if bitOf a.flags 0 then s.leapAnnounced (day + s.taiUtc + 1).toNat (s.taiUtc + 1)
  else if bitOf a.flags 1 then s.leapAnnounced (day + s.taiUtc - 1).toNat (s.taiUtc - 1)
  else s.leapWithdrawn (fun _ => true)
/-- An Announce of the parent arrives after the announce receipt timeout: the parent was lost at the deadline (R115, R297). -/
def State.announceLate (s : State) (i : Nat) (a : ParentSet) : State :=
  match (s.ptpInst i).parent with
  | some b =>
    if b.port = a.port ∧ b.portId = a.portId ∧ ¬ (s.ptpInst i).lost ∧ b.last + s.announceTicks i < a.last then s.parentLost i else s
  | none => s
/-- ANNOUNCE_RECEIVED (R295, R155, R107). -/
def execAnnounceReceived (t : Nat) (x : PtpRx) (s : State) : Host.Outcome State Fault Refusal :=
  ptpRow t x [0xB] s fun i _ s =>
    if ¬ s.ptpUp i x.port then s
    else
      let a := announceSet x (s.stampTick x.stamp)
      let s := s.announceLate i a
      let y := s.ptpInst i
      let heard := y.heard.filter (fun b => !decide (b.port = a.port ∧ b.portId = a.portId))
      let s := (s.setPtpInst i { y with heard := heard ++ [a] }).chooseParent i
      match (s.ptpInst i).parent, s.ptpSlot i with
      | some b, some n =>
        if b = a then
          let s := s.parentQuality i
          if s.n E.hbSelected = n then s.announceLeap a else s
        else s
      | _, _ => s

/-! ### The second and the deadlines (R296, R297, R316) -/

/-- A number among others by size: the `k`-th smallest, 0 being the smallest. -/
def kthSmallest (l : List Int) (k : Nat) : Int :=
  (l.find? (fun a => decide ((l.filter (fun b => decide (b < a))).length ≤ k ∧
    k < (l.filter (fun b => decide (b ≤ a))).length))).getD 0
/-- The exchanges of a second that are kept (R296). -/
def State.keptExchanges (s : State) (i : Nat) : List (Int × Int × Option Bound) :=
  let l := (s.ptpInst i).done
  if s.ptpP2p i then l
  else
    let k := max 1 (l.length * s.n E.ptpFilterPct i / 100)
    let limit := kthSmallest (l.map (·.2.1)) (k - 1)
    l.filter (fun e => decide (e.2.1 ≤ limit))
/-- B_ref of a second's exchanges (R297), and whether Bound TLVs gave it. -/
def State.exchangeBound (s : State) (i : Nat) (kept : List (Int × Int × Option Bound)) : Bound × Bool :=
  if kept.all (fun e => e.2.2.isSome) then ((kept.map (fun e => e.2.2.getD 0)).foldl max 0, true)
  else (match (s.ptpInst i).parent with | some a => accuracyBound a.accuracy | none => 0xFFFFFFFF, false)
/-- PTP_SECOND (R296, R297): at a whole second, the kept offsets and B_ref go to Hornbeam. -/
def execPtpSecond (t : Nat) (i : Fin 16) (s : State) : Host.Outcome State Fault Refusal :=
  timed t s fun s =>
    let kept := s.keptExchanges i
    if ¬ s.atSecond then s
    else
      match kept.getLast? with
      | none => s
      | some (o, rt, _) =>
        let (b, byTlv) := s.exchangeBound i kept
        let x := s.ptpInst i
        let s := s.setPtpInst i { x with done := [], tlvBound := if byTlv then x.tlvSeen else none }
        let s := (s.setInt E.ptpOffset i o).setInt E.ptpMeanDelay i (Int.tdiv rt 2)
        match s.ptpSlot i with
        | some n =>
          let s := (s.setSlot n { s.slot n with bref := b, arrival := s.now }).termsRefresh n
          (kept.foldl (fun s e => s.slotMeasure n (s.now - 1) (s.now * 2000000) s.privFs (-e.1) true) s).settle
        | none => s
/-- The announce receipt timeout has passed (R297, R115, R116). -/
def State.announceLost (s : State) (i : Nat) : State :=
  match (s.ptpInst i).parent with
  | some a => if s.announceGone i a then (s.parentLost i).chooseParent i else s
  | none => s
/-- ANNOUNCE_TIMEOUT. -/
def execAnnounceTimeout (t : Nat) (i : Fin 16) (s : State) : Host.Outcome State Fault Refusal :=
  timed t s fun s => s.announceLost i
/-- The sync receipt timeout has passed (R297, R115, R116). -/
def State.syncLost (s : State) (i : Nat) : State :=
  let x := s.ptpInst i
  if x.parent.isSome ∧ ¬ x.lost ∧ s.resolves (s.upPaths i) (x.lastSync + s.syncTicks i) then s.parentLost i else s
/-- SYNC_TIMEOUT. -/
def execSyncTimeout (t : Nat) (i : Fin 16) (s : State) : Host.Outcome State Fault Refusal :=
  timed t s fun s => s.syncLost i
/-- RESP_TIMEOUT (R316): entries past `PTP_RESP_TIMEOUT` are discarded. -/
def execRespTimeout (t : Nat) (i : Fin 16) (s : State) : Host.Outcome State Fault Refusal :=
  timed t s fun s =>
    let x := s.ptpInst i
    s.setPtpInst i { x with exchanges := x.exchanges.filter (fun e => !s.resolves (s.upPaths i) e.expires) }

/-! ### Answering requests (R298, R299) -/

/-- What a reply of a request carries of it: the requester's portIdentity and correctionField. -/
def replyReq (x : PtpRx) : List Byte := x.src ++ be 8 (corrBytes x.corr)
/-- DELAY_REQ_RECEIVED (R298, R299): a Delay_Resp with the ingress stamp; none in NO_TIME. -/
def execDelayReqReceived (t : Nat) (x : PtpRx) (s : State) : Host.Outcome State Fault Refusal :=
  ptpRow t x [1] s fun i _ s =>
    if ¬ s.ptpMaster i x.port ∨ s.ptpP2p i then s
    else
      let k := s.findClient i x
      let granted : Bool := match k with
        | some k => (match (s.client k).delay with | some g => decide (s.stampTick x.stamp ≤ g.expires) | none => false)
        | none => false
      if x.unicast ∧ ¬ granted then s.bump E.ptpRxDrop i
      else if s.noTime ∨ (¬ x.unicast ∧ s.flag E.ptpUnicast i) then s
      else
        let addr := if x.unicast then x.addr else s.ptpGroup i false
        s.ptpSend { unit := 0, inst := i, kind := 3, client := if x.unicast then k.map (fun k => clientHandle k (s.client k)) else none, seq := x.seq, port := x.port,
                    peer := ptpDest x.transport addr false x.vlan, req := replyReq x, stamp := x.stamp, bound := x.bound }
/-- PDELAY_REQ_RECEIVED (R298, R299): a two-step Pdelay_Resp, on the peer-to-peer profile only. -/
def execPdelayReqReceived (t : Nat) (x : PtpRx) (s : State) : Host.Outcome State Fault Refusal :=
  ptpRow t x [2] s fun i _ s =>
    if ¬ s.ptpP2p i then s
    else if x.unicast then s.bump E.ptpRxDrop i
    else if s.noTime then s
    else
      s.ptpSend { unit := 0, inst := i, kind := 4, seq := x.seq, port := x.port,
                  peer := ptpDest x.transport (s.ptpGroup i true) true x.vlan, req := replyReq x, stamp := x.stamp,
                  bound := x.bound } true

/-! ### Unicast negotiation (R300 to R304) -/

/-- A negotiating instance on a MASTER port. -/
def State.negotiates (s : State) (i : Nat) (x : PtpRx) : Bool := s.ptpMaster i x.port && s.flag E.ptpUnicast i
/-- REQUEST_UNICAST_TRANSMISSION (R300, R301): each request of the message. -/
def execRequestUnicastTransmission (t : Nat) (x : PtpRx) (s : State) : Host.Outcome State Fault Refusal :=
  ptpRow t x [0xC] s fun i auth s =>
    if s.negotiates i x then
      ((tlvsOf x).filter (fun p => decide (p.1 = 4))).foldl (fun s p =>
        s.requestGrant i x auth (beAt p.2.2 0 1 / 16) ((BitVec.ofNat 8 (beAt p.2.2 1 1)).toInt) (beAt p.2.2 2 4)) s
    else s
/-- CANCEL_UNICAST_TRANSMISSION (R302). -/
def execCancelUnicastTransmission (t : Nat) (x : PtpRx) (s : State) : Host.Outcome State Fault Refusal :=
  ptpRow t x [0xC] s fun i _ s =>
    if s.negotiates i x then
      ((tlvsOf x).filter (fun p => decide (p.1 = 6))).foldl (fun s p =>
        let kind := beAt p.2.2 0 1 / 16
        let s := match s.findClient i x with
          | some k => if (clientGrant (s.client k) kind).isSome then s.endGrant k kind else s
          | none => s
        s.signal i x.port x.addr x.vlan x.src (be 2 7 ++ be 2 2 ++ be 1 (kind * 16) ++ be 1 0) none) s
    else s
/-- GRANT_EXPIRY (R302). -/
def execGrantExpiry (t slot kind : Nat) (s : State) : Host.Outcome State Fault Refusal :=
  timed t s fun s => s.grantExpired slot kind
/-- CLIENT_QUIET_EXPIRY (R300). -/
def execClientQuietExpiry (t slot : Nat) (s : State) : Host.Outcome State Fault Refusal :=
  timed t s fun s =>
    let c := s.client slot
    if ¬ c.used ∧ c.quietUntil ≤ s.now then s.setClient slot { c with quietUntil := 0 } else s
/-- PTP_CLIENT_FORCE. -/
def execPtpClientForce (t : Nat) (m : Master) (s : State) : Host.Outcome State Fault Refusal :=
  writeRow spClientForce t m 0 [1] s
/-- PTP_CLIENT_SEL. -/
def execPtpClientSel (t : Nat) (m : Master) (w : Fin 16) (v : Word) (s : State) : Host.Outcome State Fault Refusal :=
  writeRow spClientSel t m w [v] s

/-! ### Partners (R317 to R321) -/

/-- PARTNER_REPORT (R318, R319): a report in a Signaling message, acknowledged in one. -/
def execPartnerReport (t : Nat) (x : PtpRx) (s : State) : Host.Outcome State Fault Refusal :=
  ptpRow t x [0xC] s (msg := some 5) fun i auth s =>
    match orgTlv x 2 with
    | some r =>
      if ¬ s.flag E.ptpPartnerAccept i ∨ (s.flag E.ptpPartnerAuth ∧ ¬ auth) ∨ r.length < 56 then s
      else
        let ((status, handle, interval), s) := s.partnerReport (r.take 56) x.port (s.stampTick x.stamp)
        s.signal i x.port x.addr x.vlan x.src
          (be 2 3 ++ be 2 14 ++ be 3 0xAA473E ++ be 3 3 ++ be 4 handle ++ be 1 status ++ be 1 0 ++ be 2 interval) none
    | none => s
/-- PARTNER_AGE_OUT (R320). -/
def execPartnerAgeOut (t : Nat) (i : Fin 4096) (s : State) : Host.Outcome State Fault Refusal :=
  timed t s fun s => s.partnerAge i
/-- PARTNER_QUIET_EXPIRY (R320). -/
def execPartnerQuietExpiry (t : Nat) (i : Fin 4096) (s : State) : Host.Outcome State Fault Refusal :=
  timed t s fun s =>
    let x := s.partner i
    if ¬ x.active ∧ x.quietUntil ≤ s.now then s.setPartner i { x with quietUntil := 0 } else s
/-- PTP_PARTNER_FORCE. -/
def execPtpPartnerForce (t : Nat) (m : Master) (s : State) : Host.Outcome State Fault Refusal :=
  writeRow spPartnerForce t m 0 [1] s
/-- PTP_PARTNER_SEL. -/
def execPtpPartnerSel (t : Nat) (m : Master) (w : Fin 16) (v : Word) (s : State) : Host.Outcome State Fault Refusal :=
  writeRow spPartnerSel t m w [v] s

/-! ### Associations (R305) -/

/-- SA_ACTIVATE. -/
def execSaActivate (t : Nat) (m : Master) (a : Fin 1024) (s : State) : Host.Outcome State Fault Refusal :=
  writeRow spSaCtrl t m a [1] s
/-- SA_FREE. -/
def execSaFree (t : Nat) (m : Master) (a : Fin 1024) (s : State) : Host.Outcome State Fault Refusal :=
  writeRow spSaCtrl t m a [2] s
/-- SA_QUIET_EXPIRY (R305). -/
def execSaQuietExpiry (t : Nat) (a : Fin 1024) (s : State) : Host.Outcome State Fault Refusal :=
  timed t s fun s =>
    if s.n E.saState a = 4 ∧ tabGet 0 a.val s.ptp.saQuiet ≤ s.now then s.set E.saState a 0 else s

/-- The special entries of this chapter. -/
def ptpSpecials : List Special :=
  [spPtpProfile, spPtpDomain, spPtpTransport, spPtpUnicast, spPtpMaster, spPtpUpstream, spPtpEnable, spClientSel,
   spClientForce, spPartnerSel, spPartnerForce, spSaKey, spSaCtrl]

end Sys2Proof.Machine
end

