-- ==== Sys2Proof/Machine/Ntp.lean ====
section
/-! DEFINITION. The NTP/NTS engine (R326 to R341). -/

namespace Sys2Proof.Machine

/-! ### Requests (R327, R331) -/

/-- The extension fields from an offset, as (type, offset, length); `none` where they break R327. -/
def ntpFields (b : List Byte) : Nat → Nat → Option (List (Nat × Nat × Nat))
  | 0, _ => none
  | fuel + 1, off =>
    let rest := b.length - off
    let n := beAt b (off + 2) 2
    if rest = 0 then some []
    else if rest = 20 ∨ rest = 24 ∨ n < 16 ∨ n % 4 ≠ 0 ∨ rest < n then none
    else (ntpFields b fuel (off + n)).map ((beAt b off 2, off, n) :: ·)
/-- The version of a request. -/
def ntpVersion (x : NtpRx) : Nat := beAt x.payload 0 1 / 8 % 8
/-- The request's extension fields. -/
def ntpExts (x : NtpRx) : Option (List (Nat × Nat × Nat)) := ntpFields x.payload x.payload.length 48
/-- Fields of one type. -/
def fieldsOf (l : List (Nat × Nat × Nat)) (ty : Nat) : List (Nat × Nat × Nat) := l.filter (fun f => decide (f.1 = ty))
/-- A version 4 request with an NTS Cookie. -/
def isNts (x : NtpRx) : Bool :=
  match ntpExts x with | some l => ntpVersion x == 4 && !(fieldsOf l 0x204).isEmpty | none => false
/-- The structure of an NTS request (R331). -/
def ntsOk (l : List (Nat × Nat × Nat)) : Bool :=
  (match fieldsOf l 0x104 with | [(_, _, n)] => decide (36 ≤ n ∧ n ≤ 260) | _ => false) &&
  (match fieldsOf l 0x204 with | [(_, _, n)] => decide (n = 108) | _ => false) &&
  (match fieldsOf l 0x404, l.getLast? with | [_], some (ty, _, _) => decide (ty = 0x404) | _, _ => false)
/-- A frame of class 5 steered to the engine is an NTP request (R327). -/
def State.ntpTakes (s : State) (x : NtpRx) : Bool :=
  s.flag E.ntpEnable && bitOf (s.n E.ntpPorts) x.port && x.uni
/-- A request is dropped as malformed (R327, R331). -/
def ntpMalformed (x : NtpRx) : Bool :=
  bitOf x.flags 0 || bitOf x.flags 2 || bitOf x.flags 4 || decide (x.srcPort = 0) || decide (x.payload.length < 48) ||
    decide (1024 < x.payload.length) || !(ntpVersion x == 3 || ntpVersion x == 4) ||
    (ntpVersion x == 3 && decide (x.payload.length ≠ 48)) ||
    (match ntpExts x with | some l => isNts x && !ntsOk l | none => true)

/-! ### Rate limiting (R337) -/

/-- The bucket of a source prefix. -/
def State.bucketNo (s : State) (x : NtpRx) : Nat :=
  let (w, n) := if x.v6 then (128, s.n E.ntpRatePrefix6) else (32, s.n E.ntpRatePrefix4)
  let a := ofBe (if x.v6 then x.src.take 16 else (x.src.drop 12).take 4)
  Config.rateHash s.ntp.hashKey (be 1 (ofBool x.v6) ++ be 16 (a / 2 ^ (w - n))) % 2 ^ 18
/-- A bucket's tokens at a tick, in 2 × 10⁻⁹ token; one not used since reset is full. -/
def State.bucketAt (s : State) (k tick : Nat) : Bucket :=
  let full := s.n E.ntpRateBurst * ticksS 1
  match s.ntp.buckets.find? (fun p => decide (p.1 = k)) with
  | some (_, b) => { b with level := min full (b.level + (tick - b.tick) * s.n E.ntpRatePerS), tick := max tick b.tick }
  | none => ⟨full, tick, none⟩
/-- Sets a bucket. -/
def State.setBucket (s : State) (k : Nat) (b : Bucket) : State :=
  { s with ntp := { s.ntp with buckets := tabInsert k b s.ntp.buckets } }
/-- A request is charged: whether it lies within the limit. -/
def State.charge (s : State) (x : NtpRx) : Bool × State :=
  let k := s.bucketNo x
  let b := s.bucketAt k (s.stampTick x.stamp)
  if ticksS 1 ≤ b.level then (true, s.setBucket k { b with level := b.level - ticksS 1 }) else (false, s.setBucket k b)

/-! ### Responses (R328 to R330, R335, R338)

The response kinds of an origin: 0 plain, 1 NTS, 2 NTS NAK, 3 RATE; `req` is the request's payload. -/

/-- The leap LI (R329). -/
def State.leapLi (s : State) : Nat :=
  if s.smearSettings.1 = 1 then 0
  else match s.leapState with | 1 | 3 => 1 | 2 => 2 | _ => 0
/-- The reference ID by source (R329). -/
def State.sourceRefId (s : State) : Nat :=
  let n := s.n E.hbSelected
  if 32 ≤ n then 0x484F4C44
  else match s.n E.refType n with | 0 => 0x474E5353 | 1 => 0x50545000 | 2 => 0x50505300 | _ => 0x484F4C44
/-- LI, stratum and reference ID of the state (R329). -/
def State.ntpState (s : State) : Nat × Nat × Nat :=
  let smear (r : Nat) := if s.smearing then s.n E.ntpSmearRefid else r
  let (li, st, id) : Nat × Nat × Nat :=
    if s.noTime then (3, 16, 0x494E4954)
    else if s.bound.oot then (s.leapLi, s.n E.ntpOotStratum, smear s.sourceRefId)
    else if s.bound.hold.isSome then (s.leapLi, 1, smear 0x484F4C44)
    else (s.leapLi, 1, smear s.sourceRefId)
  (if s.holly.safe then 3 else li, st, id)
/-- A bound in ps as NTP short format, rounded up (R330). -/
def ntpShort (ps : Nat) : Nat := ceilDiv (ps * 65536) (10 ^ 12)
/-- Root delay and root dispersion (R330). -/
def State.ntpRoot (s : State) (p : Nat) : Nat × Nat :=
  let e := s.emitted 0
  let asym := s.n E.boundTerm 4
  if 0xFFFFFFFE ≤ e then (0xFFFFFFFF, 0xFFFFFFFF) else (ntpShort (2 * asym), ntpShort (e + s.portAdd p - asym))
/-- The reference timestamp (R328): the whole second of the latest loop update, or of the last good measurement. -/
def State.ntpReference (s : State) : List Byte :=
  if s.noTime then zeros 8
  else
    let t := match s.bound.hold with | some h => h.at_ | none => s.yew.lastUpdate
    s.ntpTime (ofSec (secOf (t + ofNs 500000000)))
/-- The 48-byte header of a response (R328, R335, R338). -/
def State.ntpHeader (s : State) (o : Origin) : List Byte :=
  let (li, st, id) := s.ntpState
  let (li, st, id) : Nat × Nat × Nat :=
    match o.kind with | 2 => (3, 0, 0x4E54534E) | 3 => (3, 0, 0x52415445) | _ => (li, st, id)
  let poll := (BitVec.ofNat 8 (beAt o.req 2 1)).toInt
  let poll := if o.kind = 3 then max poll (s.int E.ntpKodPoll)
    else max (s.int E.ntpPollMin) (min poll (s.int E.ntpPollMax))
  let (rd, rp) := s.ntpRoot o.port
  be 1 (li * 64 + beAt o.req 0 1 / 8 % 8 * 8 + 4) ++ be 1 st ++ be 1 (BitVec.ofInt 8 poll).toNat ++
    be 1 (if s.stampMode o.port = 1 then 0xE2 else 0xDF) ++ be 4 rd ++ be 4 rp ++ be 4 id ++ s.ntpReference ++
    (o.req.drop 40).take 8 ++ s.ntpTime o.stamp ++ zeros 8
/-- The length of `peer` of a response without VLAN tags. -/
def ntpPeerLen : Nat := 49
/-- A response handed to its port for launch with the NTP_TS insertion (R328): header, what follows it, and the code. -/
def State.ntpSend (s : State) (o : Origin) (rest : List Byte) (code : Option Seal) : State :=
  let v6 := beAt o.peer 0 1 = 2
  let s := s.toLaunch o.port {
    origin := o, bytes := s.ntpHeader o ++ rest, carrier := (if v6 then 66 else 46) + (o.peer.length - ntpPeerLen), ins := [(40, 3)], code := code }
  s.svcPacket (o.kind == 1 || o.kind == 2) false
/-- The origin of a request's response; `peer` holds the layers it goes out under (R328): IPv4 (1) or IPv6 (2), where to, from which
address, the Ethernet addresses swapped, the DSCP, the TTL or hop limit of 64, and the VLAN tags. -/
def ntpOrigin (x : NtpRx) (kind : Nat) : Origin :=
  { unit := 1, kind := kind, port := x.port, stamp := x.stamp, bound := x.bound, req := x.payload,
    peer := be 1 (if x.v6 then 2 else 1) ++ padTo 16 x.src ++ be 2 x.srcPort ++ padTo 16 x.dst ++ padTo 12 ((x.macs.drop 6) ++ x.macs.take 6) ++
      be 1 x.dscp ++ be 1 64 ++ x.tags }
/-- The Unique Identifier field of a request. -/
def uniqueId (b : List Byte) : List Byte :=
  match ntpFields b b.length 48 with
  | some l => (match fieldsOf l 0x104 with | (_, off, n) :: _ => (b.drop off).take n | [] => [])
  | none => []
/-- An NTS NAK (R335). -/
def State.ntsNak (s : State) (x : NtpRx) : State :=
  (s.bump E.ntpNak).ntpSend (ntpOrigin x 2) (uniqueId x.payload) none

/-! ### Master keys (R334) -/

/-- The identifier of the DERIVED master key of a TAI second. -/
def State.derivedKeyId (s : State) (sec : Nat) : Nat :=
  s.slotGen (refSlot (s.n E.ntsParentKey)) % 256 * 2 ^ 24 + sec / max 1 (s.n E.ntsRotatePeriod) % 2 ^ 24
/-- The label of a DERIVED master key: ASCII `NTSMK`, P and KEY_ID. -/
def State.ntsLabel (s : State) (keyId : Nat) : List Byte :=
  [0x4E, 0x54, 0x53, 0x4D, 0x4B].map (BitVec.ofNat 8) ++ be 4 (s.n E.ntsRotatePeriod) ++ be 4 keyId
/-- The states the provisioned slots had at an instant (R334). -/
def State.mkStates (s : State) (at' : T96) : List Nat :=
  match (s.ntp.past.filter (fun p => decide (at' < p.1))).getLast? with
  | some p => p.2
  | none => (List.range 8).map (fun m => s.n E.ntsMkState m)
/-- A master key's use: the use, and the label of a DERIVED one (R334, R476). -/
def State.ntsUse (s : State) (slot keyId : Nat) : KeyUse × Option (List Byte) :=
  if s.n E.ntsKeySource = 0 then
    ({ ref := s.n E.ntsParentKey, op := 2, types := [1, 3], classes := [2, 3] }, some (s.ntsLabel keyId))
  else ({ ref := s.n E.ntsMkKey slot, op := 0, types := [1], classes := [2] }, none)
/-- The key accepted for opening a cookie of a KEY_ID at an ingress stamp: its provisioned slot, 0 for a DERIVED one. -/
def State.ntsAccepted (s : State) (keyId : Nat) (stamp : T96) : Option Nat :=
  if s.flag E.boxCertMode then none
  else if s.n E.ntsKeySource = 0 then
    let p := max 1 (s.n E.ntsRotatePeriod)
    if s.flag E.firstLock ∧ (List.range (s.n E.ntsKeep + 1)).any (fun j =>
        decide (keyId = s.derivedKeyId (secOf stamp - j * p) ∧ j * p ≤ secOf stamp)) then some 0 else none
  else
    let st := s.mkStates stamp
    (List.range 8).find? (fun m => decide ((st.getD m 0 = 1 ∨ st.getD m 0 = 2) ∧ s.n E.ntsMkId m = keyId))
/-- The key current for minting now: KEY_ID and provisioned slot. -/
def State.ntsCurrent (s : State) : Option (Nat × Nat) :=
  if s.flag E.boxCertMode then none
  else if s.n E.ntsKeySource = 0 then
    if s.flag E.firstLock ∧ s.n E.ntsParentKey ≠ 0 then some (s.derivedKeyId (secOf s.tai), 0) else none
  else ((List.range 8).find? (fun m => decide (s.n E.ntsMkState m = 2))).map (fun m => (s.n E.ntsMkId m, m))
/-- A cookie (R333) under a master key, with the nonce given. -/
def cookieBytes (keyId : Nat) (key nonce c2s s2c : List Byte) : List Byte :=
  be 4 keyId ++ nonce ++ padTo 84 (sivSeal key (be 4 keyId) nonce (be 2 15 ++ be 2 0 ++ c2s ++ s2c))
/-- `n` cookies, each with a fresh nonce from the DRBG. -/
def State.mint (s : State) (keyId : Nat) (key c2s s2c : List Byte) : Nat → List (List Byte) × State
  | 0 => ([], s)
  | n + 1 =>
    let c := cookieBytes keyId key (s.randomBytes 16) c2s s2c
    let (l, s) := (s.drew).mint keyId key c2s s2c n
    (c :: l, s)
/-- The algorithm, C2S and S2C a cookie holds; `none` where it does not open or names another algorithm than 15 (R332). -/
def openCookie (key cookie : List Byte) : Option (List Byte × List Byte) :=
  match sivOpen key (cookie.take 4) ((cookie.drop 4).take 16) (cookie.drop 20) with
  | some p => if beAt p 0 2 = 15 then some ((p.drop 4).take 32, (p.drop 36).take 32) else none
  | none => none
/-- The request's authenticator verifies under C2S (R332). -/
def authOk (b : List Byte) (off : Nat) (c2s : List Byte) : Bool :=
  let nl := beAt b (off + 4) 2
  let cl := beAt b (off + 6) 2
  let pad := (nl + 3) / 4 * 4
  (sivOpen c2s (b.take off) ((b.drop (off + 8)).take nl) ((b.drop (off + 8 + pad)).take cl)).isSome
/-- The cookies a response may carry (R332): 1 + valid placeholders, at most 8, and never a response longer than its request. -/
def cookieCount (x : NtpRx) (l : List (Nat × Nat × Nat)) : Nat :=
  let want := min 8 (1 + ((fieldsOf l 0x304).filter (fun f => decide (f.2.2 = 108))).length)
  let base := 48 + (uniqueId x.payload).length + 40
  min want ((x.payload.length - base) / 108)
/-- The NTS response (R332): the cookies given are sealed under S2C with a fresh nonce, in the state that minted them. -/
def ntsAnswer (x : NtpRx) (keyId slot : Nat) (s2c : List Byte) (minted : List (List Byte) × State) : State :=
  let (cookies, s) := minted
  let uid := uniqueId x.payload
  let plain := cookies.flatMap (fun c => be 2 0x204 ++ be 2 108 ++ c)
  let o := { ntpOrigin x 1 with inst := keyId, seq := s.slotGen slot, client := some slot }
  (s.drew.bump E.ntpMinted 0 cookies.length).ntpSend o uid
    (some { kind := 3, key := s2c, at_ := 48 + uid.length, nonce := s.randomBytes 16, plain := plain })
/-- An NTS request from step 1 on (R332): a use that misses the cache waits for its derivation (R396). A refusal of random
output stands as an absent key (R408). -/
def State.ntsServe (s : State) (x : NtpRx) : State :=
  let wait (s : State) : State := { s with vault := { s.vault with waiting := s.vault.waiting ++ [.nts x] } }
  match ntpExts x with
  | none => s
  | some l =>
    let off := match fieldsOf l 0x204 with | (_, off, _) :: _ => off | [] => 0
    let authOff := match fieldsOf l 0x404 with | (_, off, _) :: _ => off | [] => 0
    let cookie := (x.payload.drop (off + 4)).take 104
    let keyId := beAt cookie 0 4
    match s.ntsAccepted keyId x.stamp with
    | none => s.ntsNak x
    | some slot =>
      let (u, label) := s.ntsUse slot keyId
      match s.useKey u label with
      | (.waits, s) => wait s
      | (.refused _, s) => s.ntsNak x
      | (.key k, s) =>
        match openCookie k cookie with
        | none => s.ntsNak x
        | some (c2s, s2c) =>
          if ¬ authOk x.payload authOff c2s ∨ s.n E.drbgState ≠ 1 then s.ntsNak x
          else
            match s.ntsCurrent with
            | none => ntsAnswer x keyId (refSlot u.ref) s2c ([], s)
            | some (id, m) =>
              let (v, vl) := s.ntsUse m id
              match s.useKey v vl with
              | (.waits, s) => wait s
              | (.refused _, s) => ntsAnswer x keyId (refSlot u.ref) s2c ([], s)
              | (.key master, s) =>
                ntsAnswer x keyId (refSlot u.ref) s2c (s.mint id master c2s s2c (cookieCount x l))
/-- A revocation since the response was built takes its place (R336): its key's slot has another generation now. -/
def State.ntsRevoked (s : State) (o : Origin) : Bool :=
  o.unit == 1 && o.kind == 1 && (match o.client with | some k => decide (s.slotGen k ≠ o.seq) | none => false)
/-- A response built again: in the safe state (R261), or as a NAK after a revocation (R336). -/
def State.ntpRebuild (s : State) (f : Outgoing) : Outgoing × State :=
  if s.ntsRevoked f.origin then
    let o := { f.origin with kind := 2 }
    ({ f with origin := o, bytes := s.ntpHeader o ++ uniqueId o.req, code := none, stale := false }, s.bump E.ntpNak)
  else ({ f with bytes := s.ntpHeader f.origin ++ f.bytes.drop 48, stale := false }, s)

/-! ### The commands -/

/-- A request through acceptance and mode (R339): `serve` where nothing stops it. -/
def State.ntpStages (s : State) (x : NtpRx) (serve : State → State) : State :=
  let drop (s : State) : State := s.packetEnd x.port x.stamp 2 1 none none 0xFF s.tai
  if s.ptpQuiet ∨ ¬ s.ntpTakes x then s
  else if ntpMalformed x then drop (s.bump E.ntpMalformed)
  else if s.n E.ntpAuthMode = 1 ∧ ¬ isNts x then drop (s.bump E.ntpPlainRefused)
  else
    let s := (s.bump E.ntpRequests).svcPacket (isNts x) true
    match s.charge x with
    | (true, s) => serve s
    | (false, s) =>
      let s := s.bump E.ntpRateDrop
      let k := s.bucketNo x
      let b := s.bucketAt k (s.stampTick x.stamp)
      let may : Bool := match b.kod with
        | some t => decide (t + ticksMs (s.n E.ntpKodInterval) ≤ s.stampTick x.stamp)
        | none => true
      if ¬ isNts x ∧ s.flag E.ntpKodEnable ∧ may then
        ((s.setBucket k { b with kod := some (s.stampTick x.stamp) }).bump E.ntpKodSent).ntpSend (ntpOrigin x 3) [] none
      else drop s
/-- The engine takes the request's frame from those of class 5 that wait for it. -/
def State.ntpTakeFrame (s : State) (x : NtpRx) (serve : State → State) : State :=
  s.frameTake x.port (fun f => decide (f.cls = 5 ∧ ntpRxOf f = some x)) fun s => s.ntpStages x serve
/-- NTP_REQUEST (R327 to R330, R337 to R339): a request without an NTS Cookie. -/
def execNtpRequest (t : Nat) (x : NtpRx) (s : State) : Host.Outcome State Fault Refusal :=
  timed t s fun s =>
    if isNts x then s else s.ntpTakeFrame x (fun s => s.ntpSend (ntpOrigin x 0) [] none)
/-- NTS_REQUEST (R331 to R336, R339): a request with an NTS Cookie. -/
def execNtsRequest (t : Nat) (x : NtpRx) (s : State) : Host.Outcome State Fault Refusal :=
  timed t s fun s =>
    if isNts x then s.ntpTakeFrame x (fun s => (s.bump E.ntpNtsRequests).ntsServe x) else s
/-- `NTS_KEY_ID` and `NTS_ROTATE_IN` as they read now (R340). -/
def State.ntsKeyView (s : State) : Nat × Nat :=
  let p := max 1 (s.n E.ntsRotatePeriod)
  ((match s.ntsCurrent with | some (id, _) => id | none => 0),
   if s.n E.ntsKeySource = 0 then p - secOf s.tai % p else 0xFFFFFFFF)
/-- NTS_ROTATION (R334): TAI crosses a multiple of P in DERIVED mode. -/
def execNtsRotation (t : Nat) (s : State) : Host.Outcome State Fault Refusal :=
  timed t s fun s =>
    if s.n E.ntsKeySource = 0 ∧ s.atWhole (s.n E.ntsRotatePeriod * secondUnit) then
      (s.set E.ntsKeyId 0 s.ntsKeyView.1).set E.ntsRotateIn 0 s.ntsKeyView.2
    else s
/-- The provisioned slots' states as they stand are kept before a change (R334). -/
def State.mkKeep (s : State) : State :=
  { s with ntp := { s.ntp with
    past := (s.tai, (List.range 8).map (fun m => s.n E.ntsMkState m)) :: s.ntp.past.take 63 } }
/-- `NTS_MK_CTRL` (R334): 1 makes the slot CURRENT and the current one ACTIVE, 2 retires it. -/
def spMkCtrl : Special where
  entry := E.ntsMkCtrl
  codes c s := match c.v with
    | 1 => if s.n E.ntsMkKey c.i = 0 ∨ s.n E.ntsMkId c.i = 0 then [7] else []
    | 2 => []
    | _ => [7]
  apply c s :=
    let s := s.mkKeep
    if c.v = 1 then
      let s := (List.range 8).foldl (fun s m => if s.n E.ntsMkState m = 2 then s.set E.ntsMkState m 1 else s) s
      s.set E.ntsMkState c.i 2
    else s.set E.ntsMkState c.i 0
/-- NTS_MK_CURRENT. -/
def execNtsMkCurrent (t : Nat) (m : Master) (i : Fin 8) (s : State) : Host.Outcome State Fault Refusal :=
  writeRow spMkCtrl t m i [1] s
/-- NTS_MK_RETIRE. -/
def execNtsMkRetire (t : Nat) (m : Master) (i : Fin 8) (s : State) : Host.Outcome State Fault Refusal :=
  writeRow spMkCtrl t m i [2] s
/-- `NTS_MK_ID` (R334): unique and not 0. -/
def spMkId : Special where
  entry := E.ntsMkId
  codes c s := if c.v = 0 ∨ (List.range 8).any (fun m => decide (m ≠ c.i ∧ s.n E.ntsMkId m = c.v)) then [7] else []
/-- `NTS_MK_KEY` (R341, R476). -/
def spMkKey : Special where
  entry := E.ntsMkKey
  codes c s := s.refCodes { ref := c.v, op := 0, types := [1], classes := [2] } none
/-- `NTS_PARENT_KEY` (R334, R395, R476): its unslotted child may not exceed depth 8. -/
def spParentKey : Special where
  entry := E.ntsParentKey
  codes c s := s.refCodes { ref := c.v, op := 2, types := [1, 3], classes := [2, 3] } none ++
    (if c.v ≠ 0 ∧ 8 ≤ s.depthOf (refSlot c.v) then [7] else [])
/-- `NTP_POLL_MIN` (R340). -/
def spPollMin : Special where
  entry := E.ntpPollMin
  codes c s := if s.int E.ntpPollMax < c.int then [7] else []
/-- `NTP_POLL_MAX` (R340). -/
def spPollMax : Special where
  entry := E.ntpPollMax
  codes c s := if c.int < s.int E.ntpPollMin then [7] else []

/-- The special entries of this chapter. -/
def ntpSpecials : List Special := [spMkCtrl, spMkId, spMkKey, spParentKey, spPollMin, spPollMax]

end Sys2Proof.Machine
end

