-- ==== Sys2Proof/Machine/Tap.lean ====
section
/-! DEFINITION. Bramble: capture ports, inline pairs, records, digests, losses and marks (R342 to R358). -/

namespace Sys2Proof.Machine

/-! ### Roles and inline pairs (R342 to R346) -/

/-- Ports `p` and `q` form a pair (R344). -/
def State.paired (s : State) (p q : Nat) : Bool :=
  decide (p ≠ q ∧ p < 16 ∧ q < 16 ∧ s.n E.portRole p = 2 ∧ s.n E.portRole q = 2 ∧ s.n E.portMode p = s.n E.portMode q ∧
    (s.n E.portMode p = 1 ∨ s.n E.portMode p = 2) ∧ s.n E.inlinePeer p = q ∧ s.n E.inlinePeer q = p)
/-- `INLINE_STATE` and `INLINE_LATENCY` of every port follow (R344 to R346, R358). -/
def State.inlineRefresh (s : State) : State :=
  (List.range 16).foldl (fun s p =>
    let q := s.n E.inlinePeer p
    let st := if s.n E.portRole p ≠ 2 ∨ 16 ≤ q then 0
      else if ¬ s.paired p q then 1 else if s.tap.squelched.contains p then 3 else 2
    (s.set E.inlineState p st).set E.inlineLatency p
      (if st ≠ 2 then 0 else if s.n E.portMode p = 1 then 7900000 else 3600000)) s
/-- The port is a member of an ACTIVE pair (R346): squelch of a direction does not end the pair. -/
def State.inPair (s : State) (p : Nat) : Bool := decide (p < 16) && s.paired p (s.n E.inlinePeer p)
/-- `PORT_ROLE` (R342, R346). -/
def spPortRole : Special where
  entry := E.portRole
  codes c s :=
    let p := c.i
    (if c.v ≠ 0 ∧ 16 ≤ p then [7] else []) ++
    (if c.v = 2 ∧ s.n E.portMode p ≠ 1 ∧ s.n E.portMode p ≠ 2 then [7] else []) ++
    (if c.v ≠ 0 ∧ (bitOf (s.n E.ntpPorts) p || (List.range 16).any (fun i => bitOf (s.ptpPorts i) p)) then [7] else []) ++
    (if c.v ≠ 0 ∧ ¬ s.present 1 then [2] else []) ++ (if s.inPair p then [0xA] else [])
  apply c s := (s.set E.portRole c.i c.v).inlineRefresh
/-- `INLINE_PEER` (R344, R346): 0xFF dismantles the pair. -/
def spInlinePeer : Special where
  entry := E.inlinePeer
  codes c _ := if (c.v < 16 ∧ c.v ≠ c.i) ∨ c.v = 0xFF then [] else [7]
  apply c s :=
    let q := s.n E.inlinePeer c.i
    let s := s.set E.inlinePeer c.i c.v
    ({ s with tap := { s.tap with squelched := s.tap.squelched.filter (fun p => p ≠ c.i && p ≠ q) } }).inlineRefresh
/-- INLINE_PEER. -/
def execInlinePeer (t : Nat) (m : Master) (p : Fin 16) (v : Word) (s : State) : Host.Outcome State Fault Refusal :=
  writeRow spInlinePeer t m p [v] s
/-- INLINE_LOCK_LOSS (R346): the receiving port of an ACTIVE pair loses lock, and that direction is squelched. -/
def execInlineLockLoss (t : Nat) (p : Fin 16) (s : State) : Host.Outcome State Fault Refusal :=
  timed t s fun s =>
    if s.n E.inlineState p = 2 then
      let s := { s with tap := { s.tap with squelched := s.tap.squelched ++ [p.val] } }
      (((s.bump E.inlineSquelches p).set E.portLink p 0).set E.portCalState p 0).inlineRefresh
    else s
/-- INLINE_LOCK_RETURN (R346): the direction resumes; its stamps are INVALID until the port has calibrated again. -/
def execInlineLockReturn (t : Nat) (p : Fin 16) (s : State) : Host.Outcome State Fault Refusal :=
  timed t s fun s =>
    if s.n E.inlineState p = 3 then
      let s := { s with tap := { s.tap with squelched := s.tap.squelched.filter (· ≠ p.val) } }
      let s := s.setPort p { s.port p with calFrom := s.now }
      ((s.set E.portLink p 1).set E.portCalState p 1).inlineRefresh
    else s

/-! ### Records and their rings (R347 to R354) -/

/-- The 32 bytes of a FRAME or MARK record (R349). -/
def tapBytes (r : TapRec) : List Byte :=
  t96Bytes r.time ++ be 4 r.bound ++ be 1 r.port ++ be 1 r.flags ++ be 2 r.length ++ padTo 8 r.digest ++ be 4 r.seq
/-- A LOSS record (R349, R350). -/
def tapLossBytes (l : TapLoss) : List Byte :=
  be 4 l.first ++ be 4 l.last ++ zeros 4 ++ be 4 0xFFFFFFFF ++ be 1 l.port ++ be 1 0x40 ++ be 2 0 ++ be 8 l.count ++ be 4 0
/-- `TAP_LOSS_PENDING` of a port follows. -/
def State.lossRefresh (s : State) (p : Nat) : State :=
  s.set E.tapLossPending p (((s.tap.losses.filter (fun l => decide (l.port = p))).map (·.count)).foldl (· + ·) 0)
/-- The pending loss of a world's ring that is written first: the lowest port's. -/
def State.nextLoss (s : State) (w : Nat) : Option TapLoss :=
  (List.range 16).findSome? (fun p => s.tap.losses.find? (fun l => decide (l.port = p ∧ l.world = w)))
/-- Pending LOSS records take the free slots of a world's RUNNING ring, lowest port first (R354). -/
def State.tapFlush (s : State) (w : Nat) : Nat → State
  | 0 => s
  | fuel + 1 =>
    match s.nextLoss w with
    | some l =>
      if s.ringRoom (8 * w + 4) then
        let s := { s with tap := { s.tap with losses := s.tap.losses.erase l } }
        ((s.ringWrite (8 * w + 4) (tapLossBytes l)).lossRefresh l.port).tapFlush w fuel
      else s
    | none => s
/-- A record is lost (R354): counted, and the port's pending run extended. -/
def State.tapLose (s : State) (r : TapRec) : State :=
  let s := (s.bump E.tapLost r.port).bump E.ringLost (8 * r.world + 4)
  let mine (l : TapLoss) := decide (l.port = r.port ∧ l.world = r.world)
  let l : TapLoss := match s.tap.losses.find? mine with
    | some l => { l with last := r.seq, count := l.count + 1 }
    | none => ⟨r.port, r.world, r.seq, r.seq, 1⟩
  ({ s with tap := { s.tap with losses := s.tap.losses.filter (fun l => !mine l) ++ [l] } }).lossRefresh r.port
/-- A record reaches its ring (R353, R354). -/
def State.tapPut (s : State) (r : TapRec) : State :=
  let s := s.tapFlush r.world 17
  if s.tap.losses.any (fun l => decide (l.port = r.port ∧ l.world = r.world)) ∨ ¬ s.ringRoom (8 * r.world + 4) then s.tapLose r
  else s.ringWrite (8 * r.world + 4) (tapBytes r)
/-- Records that no digest holds back, each port's in SEQ order (R353): those to write, those to keep. -/
def releasable : List TapRec → List Nat → List TapRec × List TapRec
  | [], _ => ([], [])
  | r :: rest, held =>
    if r.msg.isSome ∨ held.contains r.port then
      let (a, b) := releasable rest (r.port :: held)
      (a, r :: b)
    else
      let (a, b) := releasable rest held
      (r :: a, b)
/-- Finished records go to their rings. -/
def State.tapRelease (s : State) : State :=
  let (out, keep) := releasable s.tap.records []
  let s := { s with tap := { s.tap with records := keep } }
  out.foldl State.tapPut (s.set E.tapDigestFill 0 (keep.filter (·.msg.isSome)).length)
/-- The next SEQ of a port (R350). -/
def State.tapSeq (s : State) (p : Nat) : Nat × State :=
  let q := s.n E.tapSeqNext p
  (q, s.set E.tapSeqNext p ((q + 1) % 2 ^ 32))
/-- A capture stamp carries INVALID (R348). -/
def State.tapInvalid (s : State) (p : Nat) : Bool := s.stampBad p || s.unbounded
/-- The use of `TAP_DIGEST_KEY` (R351, R352, R476). -/
def State.digestUse (s : State) : KeyUse :=
  { ref := s.n E.tapDigestKey, op := 1, types := [1], classes := [2], lane := 2 }
/-- The mark of slot `i` that its port has come to (R355): its instant in the stamps' terms, after the port's ingress delay, so that a
mark follows every frame stamped before it (log 78). -/
def State.markDue (s : State) (i : Nat) : Option Sched :=
  match s.armed i with
  | some x =>
    let edge := ((x.at_ : Int) + unitsOfPs (s.int E.portRxDelay (s.schedTarget i))).toNat
    if s.schedKind i = 5 ∧ x.delivered ∧ (x.stepped ∨ s.reaches (s.schedIsland i) edge) then some x else none
  | none => none
/-- Its port performs a mark (R355): the MARK record, or a missed instance. -/
def State.markPut (s : State) (i : Nat) (x : Sched) : State :=
  let p := s.schedTarget i
  let w := s.n E.tapWorld p
  if 16 ≤ p ∨ s.n E.portRole p = 0 ∨ w = 0xFF ∨ s.ptpQuiet then s.schedMiss i x
  else
    let bad := s.tapInvalid p
    let bound := if bad then 0xFFFFFFFF else s.emitted (s.portAdd p)
    let s := if bad then s.bump E.tapInvalid p else s
    let flags := 0x80 + ofBool x.stepped + 16 * ofBool (decide (s.stampMode p = 1)) + 32 * ofBool bad
    let (q, s) := s.tapSeq p
    let r : TapRec := { world := w, port := p, time := if x.stepped then s.copy (portIsland p) else x.at_, bound := bound, flags := flags,
                        length := 0, digest := be 8 (s.n E.schedHandle i), seq := q }
    let s := ({ s with tap := { s.tap with records := s.tap.records ++ [r] } }).noteOut bound
    ((s.schedNext i x 2).perfEvent 0x305 p).tapRelease
/-- The marks of a port due in this tick and not after an instant take their SEQ ahead of its frame (R355). -/
def State.marksBefore (s : State) (p : Nat) (stamp : T96) : State :=
  (List.range 256).foldl (fun s i =>
    match s.markDue i with
    | some x => if s.schedTarget i = p ∧ x.at_ ≤ stamp then s.markPut i x else s
    | none => s) s
/-- A frame received on a port of an ACTIVE pair leaves at the peer, bit for bit, after the fixed latency (R344, R345), whatever is
recorded of it. -/
def State.inlinePass (s : State) (p : Nat) (edge : T96) (b : List Byte) : State :=
  if s.n E.inlineState p = 2 then
    s.emit (.frame (s.n E.inlinePeer p) (some (edge + (unitsOfPs (if s.n E.portMode p = 1 then 7900 else 3600)).toNat)) [] b)
  else s
/-- TAP_FRAME (R347, R348, R350 to R352): passed through in a pair; one FRAME record, whose digest is queued, or which is formed without
one. -/
def execTapFrame (t : Nat) (x : TapObs) (s : State) : Host.Outcome State Fault Refusal :=
  timed t s fun s =>
    let p := x.port.val
    let w := s.n E.tapWorld p
    let edge := s.stampAt (portIsland p) x.edge
    let s := s.inlinePass p edge x.bytes
    if s.n E.portRole p = 0 ∨ w = 0xFF ∨ s.ptpQuiet ∨ ¬ s.linkIsUp p ∨ (x.bytes.isEmpty ∧ ¬ x.aborted) then s
    else
      let s := s.marksBefore p (s.rxStamp p edge)
      let bad := s.tapInvalid p
      let fcsBad := !x.aborted && !fcsOk x.bytes
      let s := s.bump E.tapFrames p
      let s := if x.aborted then s.bump E.tapAborted p else if fcsBad then s.bump E.tapFcsBad p else s
      let s := if bad then s.bump E.tapInvalid p else s
      let fill := (s.tap.records.filter (·.msg.isSome)).length
      let keyed := decide (s.keyReason s.digestUse = 0)
      let s := if ¬ keyed then s.bump E.tapKeyFail else if 4096 ≤ fill then s.bump E.tapNoDigest p else s
      let digest := keyed && decide (fill < 4096)
      let bound := if bad then 0xFFFFFFFF else s.emitted (s.portAdd p)
      let flags := ofBool (decide (x.bytes.length < 64)) + 2 * ofBool (!digest) + 4 * ofBool x.aborted +
        8 * ofBool fcsBad + 16 * ofBool (decide (s.stampMode p = 1)) + 32 * ofBool bad
      let (q, s) := s.tapSeq p
      let r : TapRec := { world := w, port := p, time := s.rxStamp p edge, bound := bound, flags := flags,
                          length := min x.bytes.length 65535, seq := q, msg := if digest then some (x.bytes.take 128) else none }
      (({ s with tap := { s.tap with records := s.tap.records ++ [r] } }).noteOut bound).perfEvent 0x305 p |>.tapRelease
/-- TAP_DIGEST_COMPLETE (R351, R352): the oldest queued digest; a key lost before its start leaves the record without one. -/
def execTapDigestComplete (t : Nat) (s : State) : Host.Outcome State Fault Refusal :=
  timed t s fun s =>
    match s.tap.records.find? (·.msg.isSome) with
    | none => s
    | some r =>
      let put (s : State) (r' : TapRec) : State :=
        ({ s with tap := { s.tap with records := s.tap.records.map (fun x => if x = r then r' else x) } }).tapRelease
      match s.useKey s.digestUse with
      | (.key k, s) => put s { r with msg := none, digest := (cmac k (r.msg.getD [])).take 8 }
      | (_, s) => put (s.bump E.tapKeyFail) { r with msg := none, flags := setBit r.flags 1 true }
/-- TAP_LOSS_RECORD (R354): the pending losses of a world's ring take its free slots. -/
def execTapLossRecord (t : Nat) (w : Fin 16) (s : State) : Host.Outcome State Fault Refusal :=
  timed t s fun s => s.tapFlush w 17
/-- `TAP_WORLD` (R354): a port's pending loss stays with the ring it was written for. -/
def spTapWorld : Special where
  entry := E.tapWorld
  codes c _ := if c.v < 15 ∨ c.v = 0xFF then [] else [7]
/-- TAP_WORLD. -/
def execTapWorld (t : Nat) (m : Master) (p : Fin 16) (v : Word) (s : State) : Host.Outcome State Fault Refusal :=
  writeRow spTapWorld t m p [v] s
/-- `TAP_DIGEST_KEY` (R351, R476). -/
def spDigestKey : Special where
  entry := E.tapDigestKey
  codes c s := s.refCodes { s.digestUse with ref := c.v } none
/-- `TAP_DIGEST_RATE` as it reads now (R352). -/
def State.digestRate (s : State) : Nat := 128 * ((List.range 8).filter (fun l => decide (s.n E.laneState l = 2))).length
/-- A mark that has gone by unperformed (R15). -/
def State.markLate (s : State) (i : Nat) (x : Sched) : Bool :=
  s.schedKind i = 5 && x.delivered && !x.stepped &&
    s.passed (s.schedIsland i) ((x.at_ : Int) + unitsOfPs (s.int E.portRxDelay (s.schedTarget i))).toNat
/-- TAP_MARK (R355): a kind 5 action places a MARK record, or is missed. -/
def execTapMark (t : Nat) (slot : Fin 256) (s : State) : Host.Outcome State Fault Refusal :=
  timed t s fun s =>
    match s.markDue slot, s.armed slot with
    | some x, _ => s.markPut slot x
    | none, some x => if s.markLate slot x then s.schedMiss slot x else s
    | none, none => s

/-- The special entries of this chapter. -/
def tapSpecials : List Special := [spPortRole, spInlinePeer, spTapWorld, spDigestKey]

end Sys2Proof.Machine
end

