-- ==== Sys2Proof/Machine/Ports.lean ====
section
/-! DEFINITION. The port commands (R247 to R268) and the transmit ring's frames (R280). -/

namespace Sys2Proof.Machine

/-! ### Settings (R247, R249, R252, R262, R268) -/

/-- The lowest port of the lane group of `n` lanes that port `p` lies in. -/
def groupBase (p n : Nat) : Nat := p / n * n
/-- The codes of a mode (R247, R342, R346). -/
def portModeCodes (c : Ctx) (s : State) : List Nat :=
  let p := c.i
  if 16 ≤ p then (if c.v ≤ 2 then [] else [7])
  else
    let n := modeLanes c.v
    (if 6 < c.v ∨ p % n ≠ 0 then [7] else []) ++
    (if (List.range 16).any (fun q => decide (q ≠ p ∧ groupBase q n = groupBase p n ∧ 1 < n ∧ s.n E.portMode q ≠ 0)) then [7] else []) ++
    (if c.v ≠ 0 ∧ s.groupMember p then [7] else []) ++
    (if s.n E.portRole p = 2 ∧ c.v ≠ 1 ∧ c.v ≠ 2 then [7] else []) ++ (if s.inPair p then [0xA] else [])
/-- A launch frame is gone: its issuer has a missed report, and a sample of it ends (R249, R260). -/
def State.launchGone (s : State) (f : Outgoing) (err : Nat) : State :=
  let s := (s.emit (.missed f.origin.unit f.handle false)).frameDone f err 0
  if f.origin.stamp = 0 then s else s.packetEnd f.origin.port f.origin.stamp 3 6 none none 0xFF s.tai
/-- A port goes down in this tick (R249): held launches are discarded, frames not yet sent are dropped, and their stamp handles
come back as FLUSH entries. -/
def State.portDown (s : State) (p : Nat) : State :=
  let x := s.port p
  let s := (s.setPort p { x with held := [], sending := [], pausedUntil := [] }).portRefresh p
  let s := x.held.foldl (fun s h => s.launchGone h.frame 0x21) s
  let s := x.sending.foldl (fun s f =>
    let s := match f.stamp with
      | some h => s.queueStamp p f.origin h (fun seq => stampEntry 3 p 0 h [] 0xFFFFFFFF seq 0)
      | none => s
    s.frameDone f 0x22 0) s
  ((s.set E.portLink p 0).set E.portCalState p 0).ptpPortDown p
/-- `PORT_MODE` and `MGMT_MODE` (R247, R249, R266). -/
def spPortMode : Special where
  entry := E.portMode
  codes := portModeCodes
  apply c s := ((s.portDown c.i).set E.portMode c.i c.v).inlineRefresh
/-- PORT_MODE. -/
def execPortMode (t : Nat) (m : Master) (p : Fin 18) (v : Word) (s : State) : Host.Outcome State Fault Refusal :=
  writeRow spPortMode t m p [v] s
/-- `PORT_STAMP_MODE` (R252). -/
def spStampMode : Special where
  entry := E.portStampMode
  codes c _ := if 16 ≤ c.i ∧ c.v = 1 then [7] else []
/-- `PORT_FC_MODE` (R262). -/
def spFcMode : Special where
  entry := E.portFcMode
  codes c s := (if c.v = 2 ∧ s.n E.portPfcMask c.i = 0 then [7] else []) ++
    (if c.v ≠ 0 ∧ s.n E.portRole c.i ≠ 0 then [7] else [])
/-- `PORT_PFC_MASK` (R262). -/
def spPfcMask : Special where
  entry := E.portPfcMask
  codes c s := if c.v = 0 ∧ s.n E.portFcMode c.i = 2 then [7] else []
/-- `PORT_RXBUF` (R262): the sum over all ports stays within 8,192 KiB. -/
def spRxbuf : Special where
  entry := E.portRxbuf
  codes c s :=
    let rest := ((List.range 18).filter (· ≠ c.i)).map (fun p => s.n E.portRxbuf p)
    if c.v + rest.foldl (· + ·) 0 ≤ 8192 then [] else [7]
/-- `PORT_RXBUF_USED` (R268): the allocations of ports that are not DISABLED. -/
def State.rxbufUsed (s : State) : Nat :=
  (((List.range 18).filter (fun p => decide (s.n E.portMode p ≠ 0))).map (fun p => s.n E.portRxbuf p)).foldl (· + ·) 0
/-- `PORT_XOFF_PCT` (R262): above the XON value. -/
def spXoffPct : Special where
  entry := E.portXoffPct
  codes c s := if s.n E.portXonPct c.i < c.v then [] else [7]
/-- `PORT_XON_PCT` (R262): below the XOFF value. -/
def spXonPct : Special where
  entry := E.portXonPct
  codes c s := if c.v < s.n E.portXoffPct c.i then [] else [7]
/-- `PORT_HANDLE_FORCE` (R263): every quiet time of the port ends. -/
def spHandleForce : Special where
  entry := E.portHandleForce
  apply c s :=
    let x := s.port c.i
    s.setPort c.i { x with handles := x.handles.map (fun h => if h.2.state = 2 then (h.1, { h.2 with state := 0 }) else h) }
/-- PORT_HANDLE_FORCE. -/
def execPortHandleForce (t : Nat) (m : Master) (p : Fin 18) (s : State) : Host.Outcome State Fault Refusal :=
  writeRow spHandleForce t m p [1] s
/-- `STEER_TARGET` (R84, R85): the change applies from the next tick. -/
def spSteerTarget : Special where
  entry := E.steerTarget
  codes c _ := if c.i = 7 ∧ c.v ≠ 1 ∧ c.v ≠ 3 then [7] else if 14 ≤ c.i ∧ c.v ≠ 3 then [7] else []
  apply c s := (s.steerKeep c.i).setWords E.steerTarget c.i c.words
/-- `STEER_WORLD` (R84, R85). -/
def spSteerWorld : Special where
  entry := E.steerWorld
  apply c s := (s.steerKeep c.i).setWords E.steerWorld c.i c.words

/-! ### Links (R249, R250, R260, R266) -/

/-- LINK_UP (R249, R250, R266): the link is up and calibrates; an SGMII partner of another speed keeps it down. -/
def execLinkUp (t : Nat) (p : Fin 18) (partnerOk : Bool) (s : State) : Host.Outcome State Fault Refusal :=
  timed t s fun s =>
    let mode := s.n E.portMode p
    if mode = 0 ∨ s.linkIsUp p ∨ s.tap.squelched.contains p.val then s
    else if 16 ≤ p.val ∧ mode = 1 ∧ ¬ partnerOk then s.bump E.portLinkRefused p
    else
      let s := s.setPort p { s.port p with calFrom := s.now }
      (s.set E.portLink p 1).set E.portCalState p 1
/-- LINK_DOWN (R260, R316): held launches still to come are missed, and the request epochs of the port's instances advance. -/
def execLinkDown (t : Nat) (p : Fin 18) (s : State) : Host.Outcome State Fault Refusal :=
  timed t s fun s =>
    if s.linkIsUp p then
      let held := (s.port p).held.filter (fun h => decide (s.portCopy p < h.l))
      let s := held.foldl (fun s h => s.launchMiss p h) s
      ((s.set E.portLink p 0).set E.portCalState p 0).ptpPortDown p
    else s
/-- PORT_CAL_DONE (R250). -/
def execPortCalDone (t : Nat) (p : Fin 18) (s : State) : Host.Outcome State Fault Refusal :=
  timed t s fun s => if s.linkIsUp p ∧ s.n E.portCalState p = 1 then s.set E.portCalState p 2 else s
/-- A port recalibrates (R250): the monitor has found a lane position changed. -/
def State.portRecal (s : State) (p : Nat) : State :=
  if s.linkIsUp p ∧ s.n E.portCalState p = 2 then
    ((s.setPort p { s.port p with calFrom := s.now }).set E.portCalState p 1).bump E.portRecals p
  else s

/-! ### Receiving (R253, R254, R84, R85, R262, R322) -/

/-- The steer classes the PTP and NTP/NTS engines serve. -/
def serviceClass (c : Nat) : Bool := [0, 1, 2, 3, 5, 11].contains c
/-- A frame's host copy (R85, R262, R139): into the receive buffer for its world's ring, or dropped; whether it was taken. -/
def State.steerHost (s : State) (f : RxFrame) (world : Nat) : Bool × State :=
  let r := 8 * world
  if ¬ s.ringRuns r then (false, s.bump E.steerDrop f.cls)
  else
    let y := s.ring r
    (true, (((s.setRing r { y with waiting := y.waiting ++ [{ f with held := true }] }).occAdd f.port f.prio f.bytes.length).noteOut
      f.bound))
/-- A frame that the engine is to take counts against the authenticated capacity as well (R322). -/
def State.frameAuth (s : State) (f : RxFrame) : Bool :=
  match ptpRxOf f, ntpRxOf f with
  | some x, _ => (authTlv x).isSome && (match (s.ptpTarget x).1 with | some i => decide (s.n E.ptpAuthMode i ≠ 0) | none => false)
  | none, some x => isNts x
  | none, none => false
/-- A frame the engine's services are to take (R322, R77): dropped and counted in the Quiet state and beyond capacity, else it waits
for its engine. -/
def State.steerService (s : State) (f : RxFrame) : State :=
  if serviceClass f.cls then
    let s := s.sampleCandidate f.port f.cls f.stamp
    if s.ptpQuiet ∨ ¬ s.svcRoom (s.frameAuth f) then
      ((s.bump E.ptpSvcDrop).perfEvent 0x404 0).packetEnd f.port f.stamp 1 1 none none 0xFF s.tai
    else s.frameKeep f
  else if f.cls = 10 then s.frameKeep f
  else s
/-- The reason a received frame is dropped at the port (R254, R262), as the counter it is counted in; `none` where it is taken. -/
def State.rxDrop (s : State) (x : RxObs) : Option Entry :=
  let p := x.port.val
  let len := x.bytes.length
  let limit := s.n E.portMaxFrame p
  if len < 64 then some E.portRxRunt
  else if x.fecBad then some E.portRxFecUncorr
  else if x.pcsErr then some E.portRxPcsErr
  else if len ≤ limit ∧ ¬ fcsOk x.bytes then some E.portRxFcsErr
  else if s.n E.portRxbuf p * 1024 < s.n E.portRxOccupancy p + min limit len then some E.portRxOverflow
  else none
/-- A frame the port takes (R253, R254): counted, cut at the limit, stamped, classified and steered. -/
def State.rxTake (s : State) (x : RxObs) : State :=
  let p := x.port.val
  let limit := s.n E.portMaxFrame p
  let cut := decide (limit < x.bytes.length)
  let s := if cut then s.bump E.portRxTrunc p else s.bump E.portRxFrames p
  let prio := framePriority x.bytes
  let flags := s.stampFlags p + 12 * ofBool cut + 16 * ofBool (csumFails x.bytes) + 32 * ofBool (decide (tagLen x.bytes ≠ 0)) +
    64 * ofBool (s.xoff p (s.fcPrio p prio))
  let f : RxFrame := {
    bytes := x.bytes.take limit, stamp := s.rxStamp p (s.stampAt (portIsland p) x.edge), bound := s.stampBound p, flags := flags,
    port := p, cls := 0, prio := prio, at_ := s.islands.bufNext }
  let f := { f with cls := s.steerClass x.own f }
  let (target, world) := s.steerOf f.cls
  let s := { s with islands := { s.islands with bufNext := (f.at_ + ceilDiv f.bytes.length 8) % bankWords } }
  let (copied, s) := if target = 1 ∨ target = 2 then s.steerHost f world else (false, s)
  if target = 0 ∨ target = 2 then s.steerService { f with held := !copied } else s
/-- PORT_RX_FRAME (R253, R254): a frame received on a service port is checked, stamped, classified and steered. -/
def execPortRxFrame (t : Nat) (x : RxObs) (s : State) : Host.Outcome State Fault Refusal :=
  timed t s fun s =>
    let p := x.port.val
    if ¬ s.linkIsUp p ∨ s.n E.portRole p ≠ 0 then s
    else
      let s := s.perfEvent 0x301 p
      match s.rxDrop x with
      | some e => s.bump e p
      | none => s.rxTake x

/-! ### Flow control (R262, R267) -/

/-- A span of bits on a port's line in ticks, rounded up. -/
def State.bitTicks (s : State) (p n : Nat) : Nat := ceilDiv (n * s.bitFs p) 2000000
/-- PAUSE_RESEND (R262): occupancy stays at or above the XON level half of the pause time after an XOFF. -/
def execPauseResend (t : Nat) (p : Fin 18) (prio : Fin 8) (s : State) : Host.Outcome State Fault Refusal :=
  timed t s fun s =>
    let half := s.bitTicks p (s.n E.portPauseQuanta p * 256)
    if s.n E.portFcMode p ≠ 0 ∧ s.n E.portRole p = 0 ∧ s.xoff p prio ∧ tabGet 0 prio.val (s.port p).xoffAt + half ≤ s.now ∧
        s.rxShare p * s.n E.portXonPct p ≤ s.occOf p prio * 100 then s.sendXoff p prio
    else s
/-- PAUSE_XON (R262): occupancy has fallen to the XON level. -/
def execPauseXon (t : Nat) (p : Fin 18) (prio : Fin 8) (s : State) : Host.Outcome State Fault Refusal :=
  timed t s fun s =>
    if s.n E.portFcMode p ≠ 0 ∧ s.n E.portRole p = 0 ∧ s.xoff p prio ∧ s.occOf p prio * 100 ≤ s.rxShare p * s.n E.portXonPct p then
      (s.sendPause p prio 0).setXoff p prio false
    else s
/-- PAUSE_RECEIVED (R262, R260, R267): honoured on a service port with `PORT_PAUSE_RX`; launches it covers are missed. -/
def execPauseReceived (t : Nat) (p : Fin 18) (prio : Fin 8) (quanta : Nat) (s : State) : Host.Outcome State Fault Refusal :=
  timed t s fun s =>
    if ¬ s.linkIsUp p ∨ s.n E.portRole p ≠ 0 then s
    else
      let s := s.bump E.portPauseRcvd p
      if ¬ s.flag E.portPauseRx p then s
      else
        let x := s.port p
        let k := if s.n E.portFcMode p = 2 then prio.val else 8
        let stop' := s.now + s.bitTicks p (quanta % 65536 * 512)
        let s := s.setPort p { x with pausedUntil := if quanta = 0 then tabErase k x.pausedUntil else tabInsert k stop' x.pausedUntil }
        let hit := (s.port p).held.filter (fun h =>
          decide (quanta ≠ 0 ∧ (k = 8 ∨ h.frame.priority = k) ∧ s.portCopy p < h.l ∧ h.l ≤ s.portCopyAt p stop'))
        hit.foldl (fun s h => s.launchMiss p h) s
/-- PAUSE_EXPIRY (R262): a received pause has run out. -/
def execPauseExpiry (t : Nat) (p : Fin 18) (prio : Fin 8) (s : State) : Host.Outcome State Fault Refusal :=
  timed t s fun s =>
    let x := s.port p
    let k := if s.n E.portFcMode p = 2 then prio.val else 8
    if tabGet 0 k x.pausedUntil ≤ s.now then s.setPort p { x with pausedUntil := tabErase k x.pausedUntil } else s

/-! ### Launching (R256 to R261, R336) -/

/-- A frame rebuilt by its issuer (R261, R314, R336); `none` where it is not sent after all. -/
def State.rebuild (s : State) (f : Outgoing) : Option Outgoing × State :=
  match f.origin.unit with
  | 0 => s.ptpRebuild f
  | 1 => let (f, s) := s.ntpRebuild f; (some f, s)
  | _ => (none, s.frameDone f 0x23 0)
/-- LAUNCH_REQUEST (R257, R260): the oldest frame handed over reaches the port; `slack` takes L to the port's grid. Frames wait
while the port calibrates. -/
def execLaunchRequest (t : Nat) (p : Fin 18) (slack : Nat) (s : State) : Host.Outcome State Fault Refusal :=
  timed t s fun s =>
    let x := s.port p
    match x.arriving with
    | [] => s
    | f :: rest =>
      let took (s : State) : State := s.setPort p { s.port p with arriving := rest }
      if ¬ s.linkIsUp p then (took s).launchGone f 0x22
      else if s.n E.portCalState p ≠ 2 then s
      else if f.origin.unit < 16 ∧ s.stampBad p then
        (if f.origin.unit = 0 then (took s).ptpSuppress f.origin.inst else took s)
      else
        let s := took s
        let (g, s) := if f.stale ∨ s.ntsRevoked f.origin then s.rebuild f else (some f, s)
        match g with
        | none => s
        | some g =>
          match s.holdLaunch p g slack false with
          | some s => s
          | none => s.frameDone g 0x24 0
/-- A launch cannot take place (R260, R250, R262). -/
def State.launchBlocked (s : State) (p : Nat) (h : Launch) : Bool :=
  !s.linkIsUp p || decide (s.n E.portCalState p ≠ 2) || s.paused p h.frame.priority ||
    (decide (s.now = s.pauseEnd p h.frame.priority) && decide (0 < s.now))
/-- A held frame goes out at its instant (R256, R258, R340): the frames held after it stay. -/
def State.launchOut (s : State) (p : Nat) (h : Launch) (rest : List Launch) : State :=
  let o := h.frame.origin
  let s := (s.setPort p { s.port p with held := rest }).portRefresh p
  let s := (s.emit (.frame p (some h.l) o.peer h.bytes)).bump E.portTxFrames p
  let s := s.perfEvent 0x302 p
  let s := if o.unit = 1 then s.bump E.ntpResponses else s
  let s := if o.unit = 1 then
      s.packetEnd o.port o.stamp 0 6 (some (if o.kind = 1 ∨ o.kind = 2 then 4 else 3)) none 0xFF h.l
    else s
  s.frameDone h.frame 0 0
/-- FRAME_LAUNCH (R15, R256, R258): the first held frame's stamp point crosses the ball at L, in the tick in which the port's copy
reaches it, and never later: a launch gone by is missed. -/
def execFrameLaunch (t : Nat) (p : Fin 18) (s : State) : Host.Outcome State Fault Refusal :=
  timed t s fun s =>
    let x := s.port p
    match x.held with
    | [] => s
    | h :: rest =>
      if s.portCopy p < h.l then s
      else if s.launchBlocked p h ∨ s.passed (portIsland p) h.l then s.launchMiss p h
      else s.launchOut p h rest
/-- LAUNCH_MISSED (R260): the work of R258 is late, or the launch cannot take place. -/
def execLaunchMissed (t : Nat) (p : Fin 18) (handle : Nat) (late : Bool) (s : State) : Host.Outcome State Fault Refusal :=
  timed t s fun s =>
    match (s.port p).held.find? (fun h => decide (h.frame.handle = handle)) with
    | none => s
    | some h =>
      if (late ∧ h.l ≤ s.portCopy p + ofNs 64) ∨ s.launchBlocked p h then s.launchMiss p h else s

/-! ### Sending without launch (R255, R258, R263, R280) -/

/-- The frame a port starts next: the oldest of the engine's, else the worlds in turn (R280), of those no pause holds (R262). -/
def State.nextFrame (s : State) (p : Nat) : Option Outgoing :=
  let free := (s.port p).sending.filter (fun f => !s.paused p f.priority)
  match free.find? (fun f => decide (f.origin.unit < 16)) with
  | some f => some f
  | none => (List.range 16).findSome? (fun j =>
      free.find? (fun f => decide (f.origin.unit = 16 + ((s.port p).turn + 1 + j) % 16)))
/-- A frame whose stamp point would cross at `edge` clears every held launch's preamble (R258). -/
def State.clears (s : State) (p : Nat) (f : Outgoing) (edge : T96) : Bool :=
  (s.port p).held.all (fun h => decide (h.clear ≤ edge) ||
    decide (edge + s.bitTime p (8 * wireLen f + 96) + s.bitTime p 64 ≤ h.l))
/-- A frame goes out on a port without launch (R255, R263, R264): sent, counted, and stamped where it asks for a stamp. -/
def State.txSend (s : State) (p : Nat) (edge : T96) (g : Outgoing) (b : List Byte) : State :=
  let b := if g.csum then writeChecksums b else b
  let s := (s.emit (.frame p none g.origin.peer b)).bump E.portTxFrames p
  let s := s.perfEvent 0x302 p
  let bound := s.stampBound p
  let s := match g.stamp with
    | some h =>
      let flags := s.stampFlags p
      let time := t96Bytes (s.txStamp p edge)
      (s.noteOut bound).queueStamp p g.origin h (fun seq => stampEntry 1 p flags h time bound seq (wireLen g))
    | none => s
  s.frameDone g 0 (g.stamp.getD 0)
/-- PORT_TX_FRAME (R255, R263, R264): the next frame's stamp point crosses the ball `edgeFs` after the tick; a stale one is rebuilt. -/
def execPortTxFrame (t : Nat) (p : Fin 18) (edgeFs : Nat) (s : State) : Host.Outcome State Fault Refusal :=
  timed t s fun s =>
    let edge := s.stampAt (portIsland p) edgeFs
    match s.nextFrame p with
    | none => s
    | some f =>
      if ¬ s.linkIsUp p ∨ ¬ s.clears p f edge then s
      else
        let x := s.port p
        let turn := if 16 ≤ f.origin.unit then f.origin.unit - 16 else x.turn
        let s := s.setPort p { x with sending := x.sending.erase f, turn := turn }
        if f.stale && decide (s.holly.safeAt + ticksUs 1 < s.now) then
          match s.ptpRebuild f with
          | (some g, s) => s.txSend p edge g (match g.code with | some c => c.close g.bytes | none => g.bytes)
          | (none, s) => s
        else s.txSend p edge f f.bytes

/-! ### The stamp queue and its handles (R263 to R265) -/

/-- STAMP_QUEUE_DRAIN (R264): the oldest entry goes to its consumer; a stamp-export ring without room holds it back. -/
def execStampQueueDrain (t : Nat) (p : Fin 18) (s : State) : Host.Outcome State Fault Refusal :=
  timed t s fun s =>
    let x := s.port p
    match x.queue with
    | [] => s
    | (o, b) :: rest =>
      let r := 8 * (o.unit - 16) + 2
      if 16 ≤ o.unit ∧ ¬ s.ringRoom r then s
      else
        let s := (s.setPort p { x with queue := rest }).portRefresh p
        let s := if beAt b 0 1 = 2 then s else s.quietHandle p (beAt b 4 4)
        if o.unit = 0 then s.ptpEntry o b else s.ringWrite r b
/-- STAMP_LOSS_ENTRY (R265): the single LOSS entry of a lost run takes the first free entry. -/
def execStampLossEntry (t : Nat) (p : Fin 18) (s : State) : Host.Outcome State Fault Refusal :=
  timed t s fun s => s.lossEntry p
/-- HANDLE_QUIET_EXPIRY (R263). -/
def execHandleQuietExpiry (t : Nat) (p : Fin 18) (index : Fin 4096) (s : State) : Host.Outcome State Fault Refusal :=
  timed t s fun s =>
    let h := tabGet {} index.val (s.port p).handles
    if h.state = 2 ∧ h.quiet ≤ s.now then s.setHandle p index { h with state := 0 } else s

/-! ### Transmit rings (R275, R280) -/

/-- The descriptors of the next frame among those read: up to the first with EOF (R280). -/
def txFrameOf (descs : List DmaDesc) : List DmaDesc :=
  descs.takeWhile (fun d => !d.flag 1) ++ (descs.dropWhile (fun d => !d.flag 1)).take 1
/-- TX_FRAME (R278, R280): the next frame's descriptors have been read up to its EOF or an error; it is handed to its port or refused. -/
def execTxFrame (t : Nat) (w : Fin 16) (ds : List DmaDesc) (s : State) : Host.Outcome State Fault Refusal :=
  timed t s fun s =>
    let r := 8 * w.val + 1
    let descs := txFrameOf ds
    let read := s.txRead r
    let start := s.n E.ringEngineIdx r + read
    match descs with
    | [] => s
    | d :: _ =>
      if ¬ s.ringRuns r ∨ s.ringPosted r < read + descs.length then s
      else
        match txError descs with
        | some (i, e, err) => s.ringError r (start + i) e.user err
        | none =>
          if ¬ descs.any (fun d => d.flag 1) then s else
          let x := s.ring r
          let s := s.setRing r { x with sent := x.sent ++ [{ start := start, users := descs.map DmaDesc.user }] }
          let p := d.field 16 1
          let bytes := descs.flatMap (fun d => (d.data.getD []).take d.len)
          let f : Outgoing := { origin := { unit := 16 + w, inst := start, kind := x.genBase, seq := descs.length, port := p },
                                bytes := bytes, carrier := 4, ins := d.insertions, priority := framePriority bytes, csum := d.flag 4 }
          if s.n E.portRole p ≠ 0 ∨ (¬ s.present 5 ∧ 8 ≤ p ∧ p < 16) then s.frameDone f 0x25 0
          else if ¬ s.linkIsUp p then s.frameDone f 0x22 0
          else if d.flag 3 then s.toLaunch p f
          else (s.toSend p f (d.flag 2)).2

/-- The special entries of this chapter. -/
def portSpecials : List Special :=
  [spPortMode, spStampMode, spFcMode, spPfcMask, spRxbuf, spXoffPct, spXonPct, spHandleForce, spSteerTarget,
   spSteerWorld]

end Sys2Proof.Machine
end

