-- ==== Sys2Proof/Machine/GnssOps.lean ====
section
/-! DEFINITION. Juniper's operations: satellite slots, keep-alive memory, corrections, start kinds, sleep, and the timing
solution of one epoch (R359 to R384). -/

namespace Sys2Proof.Machine

/-- Satellite slot `i`. -/
def State.sat (s : State) (i : Nat) : Option Sat := tabGet none i s.gnss.sats
/-- Sets satellite slot `i`. -/
def State.setSat (s : State) (i : Nat) (x : Option Sat) : State :=
  { s with gnss := { s.gnss with sats := tabPut none i x s.gnss.sats } }
/-- A satellite as a number. -/
def satKey (sys prn : Nat) : Nat := sys * 256 + prn
/-- A PRN lies within its system's range (R363). -/
def prnOk (sys prn : Nat) : Bool :=
  match sys with
  | 0 => decide (1 ≤ prn ∧ prn ≤ 32) | 1 => decide (1 ≤ prn ∧ prn ≤ 36) | 2 => decide (1 ≤ prn ∧ prn ≤ 63)
  | 3 => decide (193 ≤ prn ∧ prn ≤ 202) | _ => false
/-- A system's time against TAI, in s (R363). -/
def sysLag (sys : Nat) : Nat := if sys = 2 then 33 else 19
/-- The GNSS slot sleeps (R381), or the Navigation domain is off. -/
def State.gnssAsleep (s : State) : Bool := decide (s.n E.gnssPowerState = 1) || !s.flag E.gnssEnable
/-- Correlators in use on a band's channels (R365, R86). -/
def State.correlators (s : State) (band : Nat) : Nat :=
  match s.n E.trimActive with
  | 0 => if band = 0 then 9 else 5
  | 3 => 9
  | _ => 5
/-- The multipath fit of a band corrects (R365): nine correlators, `GNSS_MP_CORRECT`, and 1 s of averaging. -/
def State.mpCorrects (s : State) (band since : Nat) : Bool :=
  decide (s.correlators band = 9 ∧ since + ticksS 1 ≤ s.now) && s.flag E.gnssMpCorrect band

/-! ### Keep-alive memory (R380) -/

/-- A record with its CRC. -/
def keptOf (kind key : Nat) (body : List Byte) : Kept := ⟨kind, key, body, crc32c (be 1 kind ++ be 2 key ++ body)⟩
/-- The record's CRC holds. -/
def Kept.ok (k : Kept) : Bool := decide (k = keptOf k.kind k.key k.body)
/-- Records whose CRC fails are discarded at load (R380). -/
def State.keepLoad (s : State) : State := { s with gnss := { s.gnss with keep := s.gnss.keep.filter Kept.ok } }
/-- A record takes the place of those `out` names. -/
def State.keepPut (s : State) (k : Kept) (out : Kept → Bool) : State :=
  { s with gnss := { s.gnss with keep := s.gnss.keep.filter (fun x => !out x) ++ [k] } }
/-- A record replaces the one of its kind and key. -/
def State.keepOne (s : State) (kind key : Nat) (body : List Byte) : State :=
  s.keepPut (keptOf kind key body) (fun x => decide (x.kind = kind ∧ x.key = key))
/-- The body of a kept record. -/
def State.kept (s : State) (kind key : Nat) : Option (List Byte) :=
  (s.gnss.keep.find? (fun x => decide (x.kind = kind ∧ x.key = key))).map (·.body)
/-- The bytes of an ephemeris or almanac. -/
def ephBytes (e : Ephemeris) : List Byte := be 2 e.iod ++ t96Bytes e.ref ++ t96Bytes e.until' ++ e.data
/-- A TIME96 in 12 bytes. -/
def t96At (b : List Byte) (off : Nat) : T96 := ofSec (beAt b off 6) + beAt b (off + 6) 4 * 65536 + beAt b (off + 10) 2
/-- The ephemeris in force for a satellite at `t` (R367, R368): the latest whose reference time has come, else one still to cut
over, within its validity: its IOD. -/
def State.ephemerisAt (s : State) (key : Nat) (t : T96) : Option Nat :=
  let l := s.gnss.keep.filter (fun x => decide (x.kind = 1 ∧ x.key = key ∧ t ≤ t96At x.body 14))
  let past := l.filter (fun x => decide (t96At x.body 2 ≤ t))
  let pick (l : List Kept) (later : Bool) : Option Kept := l.foldl (fun a x =>
    match a with
    | none => some x
    | some y => if decide (t96At y.body 2 < t96At x.body 2) == later then some x else some y) none
  ((pick past true).orElse (fun _ => pick l false)).map (fun x => beAt x.body 0 2)
/-- A decoded ephemeris is kept beside the one in force. -/
def State.keepEphemeris (s : State) (e : Ephemeris) : State :=
  let key := satKey e.sys e.prn
  let cur := s.ephemerisAt key s.tai
  s.keepPut (keptOf 1 key (ephBytes e))
    (fun x => decide (x.kind = 1 ∧ x.key = key ∧ (cur ≠ some (beAt x.body 0 2) ∨ beAt x.body 0 2 = e.iod)))
/-- A signed number from 8 bytes. -/
def int64At (b : List Byte) (off : Nat) : Int := (BitVec.ofNat 64 (beAt b off 8)).toInt
/-- The antenna position in force with its uncertainty in mm (R375); `none` while a survey has to find it. -/
def State.antenna (s : State) : Option (Int × Int × Int × Nat) :=
  match s.n E.gnssPosMode with
  | 1 => some (s.int E.gnssPosX 0, s.int E.gnssPosX 1, s.int E.gnssPosX 2, s.n E.gnssPosUnc)
  | 2 => (s.kept 2 0).map (fun b => (int64At b 0, int64At b 8, int64At b 16, beAt b 24 4))
  | _ => none
/-- P₀ (0) or G₀ (1) of a band (R370). -/
def State.jamBase (s : State) (band which : Nat) : Int :=
  match s.kept 3 band with
  | some b => int64At b (8 * which)
  | none => Config.jamDefault band which

/-! ### Slots (R362, R364) and start kinds (R368) -/

/-- A satellite slot is released. -/
def State.satFree (s : State) (i : Nat) : State :=
  let s := (s.setSat i none).set E.gnssSvId i 0xFFFF
  let s := ((s.set E.gnssSvState i 0).set E.gnssSvCn0 i 0).setInt E.gnssSvElev i 0
  ((s.set E.gnssSvAzim i 0).setInt E.gnssSvResid i 0).set E.gnssSvFlags i 0
/-- `GNSS_SV_STATE` of a satellite: acquiring until a channel tracks, then excluded, used or tracking. -/
def State.satRefresh (s : State) (i : Nat) : State :=
  match s.sat i with
  | none => s.set E.gnssSvState i 0
  | some x => s.set E.gnssSvState i (if x.lost1 ∧ x.lost2 then 1 else if x.exclUntil.isSome then 4 else if x.used then 3 else 2)
/-- The correlator cluster of a slot's channel on a band is out of use (R364, R430, R431). -/
def State.clusterOut (s : State) (b i : Nat) : Bool :=
  let c := 0x510 + 4 * b + i / 16
  s.holly.testing.contains c || s.holly.failed.contains c
/-- Every satellite slot is released. -/
def State.satsFree (s : State) : State := (List.range 64).foldl State.satFree s
/-- Smoothing of the satellites restarts (R362, R374). -/
def State.smoothRestart (s : State) (which : Sat → Bool) : State :=
  { s with gnss := { s.gnss with sats := s.gnss.sats.map (fun p =>
      (p.1, p.2.map (fun x => if which x then { x with n := 0, cmc := [] } else x))) } }
/-- The kind of the next start (R368), with ephemerides valid for `n` satellites. -/
def State.startKind (s : State) (n : Nat) : Nat :=
  if s.flag E.firstLock ∧ 4 ≤ n ∧ s.antenna.isSome then 2 else if 1 ≤ n then 1 else 0
/-- Satellites with a valid ephemeris among all kept. -/
def State.ephemerides (s : State) : Nat :=
  (((s.gnss.keep.filter (fun x => decide (x.kind = 1))).map (·.key)).eraseDups.filter
    (fun k => (s.ephemerisAt k s.tai).isSome)).length
/-- The channels of a band that stayed invalid too long return to acquisition and start hot (R362, R368). -/
def State.coastOut (s : State) (b : Nat) : State :=
  let s := (List.range 64).foldl (fun s i =>
    match s.sat i with
    | some x => (s.setSat i (some (if b = 0 then { x with lost1 := true } else { x with lost2 := true }))).satRefresh i
    | none => s) s
  s.set E.gnssStartKind 0 2
/-- A cluster goes under test (R430): its satellites go on with their other band, or are dropped. -/
def State.clusterTest (s : State) (c : Nat) : State :=
  (List.range 16).foldl (fun s j =>
    let i := 16 * (c % 4) + j
    match s.sat i with
    | some x =>
      let x := if c < 4 then { x with lost1 := true } else { x with lost2 := true }
      if ¬ s.flag E.gnssSingleBand ∨ (x.lost1 ∧ x.lost2) then s.satFree i
      else (s.setSat i (some x)).satRefresh i
    | none => s) s
/-- The trim profile has changed the correlators of a band: its multipath fits restart (R365). -/
def State.gnssTrim (s : State) (was : Nat → Nat) : State :=
  let f (b : Nat) := decide (was b ≠ s.correlators b)
  { s with gnss := { s.gnss with sats := s.gnss.sats.map (fun p => (p.1, p.2.map (fun x =>
      { x with fit1 := if f 0 then s.now else x.fit1, fit2 := if f 1 then s.now else x.fit2 }))) } }

/-! ### Sleep (R381, R382) -/

/-- The GNSS slot has come back to a full dwell of QUALIFIED since a failed cross-check (R382). -/
def State.crossRefresh (s : State) : State :=
  match s.slotOf 1 0 with
  | some n =>
    if ¬ s.gnss.crossOk ∧ s.qualified n ∧ (s.slot n).qualSince + ticksS (s.n E.gnssWakeDwell) ≤ s.now then
      { s with gnss := { s.gnss with crossOk := true } }
    else s
  | none => s
/-- Sleep is asked for (R381), and the selection allows it. -/
def State.sleepAsked (s : State) : Bool :=
  let n := s.n E.hbSelected
  (s.flag E.gnssSleepEnable || decide (s.n E.trimActive = 4)) && decide (n < 32 ∧ s.refKind n ≠ 1) && s.qualified n
/-- Juniper wakes (R382): a hot or warm start, and the dwell. -/
def State.gnssWakes (s : State) : State :=
  let s := { s with gnss := { s.gnss with wakeAt := some s.now } }
  if s.n E.gnssPowerState ≠ 1 then s
  else
    let s := (s.set E.gnssPowerState 0 2).set E.gnssStartKind 0 (max 1 (s.startKind s.ephemerides))
    { s with gnss := { s.gnss with dwell := some (s.now + ticksS (s.n E.gnssWakeDwell)), fresh := true, fixed := false } }

/-! ### Corrections (R378, R379) -/

/-- A signed number of `n` bytes. -/
def intAt (b : List Byte) (off n : Nat) : Int :=
  let v := beAt b off n
  if 2 ^ (8 * n - 1) ≤ v then (v : Int) - 2 ^ (8 * n) else v
/-- Record `k` of a corrections block: its satellite and the correction. -/
def corrRecord (b : List Byte) (k : Nat) : Nat × Correction :=
  let r := b.drop (24 + 32 * k)
  (satKey (beAt r 0 1) (beAt r 1 1),
   ⟨beAt r 2 2, intAt r 4 4, intAt r 8 4, intAt r 12 4, intAt r 16 4, intAt r 20 2, intAt r 22 2, beAt r 24 4,
    t96At b 8 + ofSec (beAt r 28 2)⟩)
/-- The fields of a record are in range (R378). -/
def corrOk (b : List Byte) (k : Nat) : Bool :=
  let r := b.drop (24 + 32 * k)
  prnOk (beAt r 0 1) (beAt r 1 1) && decide (1 ≤ beAt r 28 2 ∧ beAt r 28 2 ≤ 3600 ∧ beAt r 30 2 = 0)
/-- The code of a corrections block (R379): 0 when it is accepted. -/
def State.corrCode (s : State) (b : List Byte) : Nat :=
  let count := beAt b 6 2
  if b.length ≠ 24 + 32 * count then 8
  else if beAt b 0 4 ≠ 0x4A434F52 ∨ beAt b 4 2 ≠ 1 ∨ count = 0 ∨ 64 < count ∨ 10 ^ 9 ≤ beAt b 14 4 ∨
      ¬ (List.range count).all (corrOk b) ∨ t96At b 8 + ofSec 60 < s.tai then 7
  else 0
/-- Entries of the corrections follow (R383). -/
def State.corrRefresh (s : State) : State :=
  let n := s.gnss.corrections.length
  let s := s.set E.gnssCorrSats 0 n
  s.set E.gnssCorrState 0 (if n ≠ 0 then 1 else if s.n E.gnssCorrState = 0 then 0 else 2)
/-- The rate of epochs in force (R366). -/
def State.gnssRate (s : State) : Nat :=
  match s.gnss.ratePend with
  | some (r, sec) => if sec ≤ secOf s.tai then r else s.gnss.rate
  | none => s.gnss.rate
/-- A forward step carries Privet past whole seconds: a rate that waits for one of them takes effect at the first one after it (R477). -/
def State.gnssRateStep (s : State) (from' : T96) : State :=
  match s.gnss.ratePend with
  | some (r, sec) =>
    if secOf from' < sec ∧ sec ≤ secOf s.tai then
      { s with gnss := { s.gnss with ratePend := some (r, secOf s.tai + 1) } }
    else s
  | none => s
/-- The first epoch at or after now (R366). -/
def State.nextEpoch (s : State) : T96 :=
  let u := ofSec 1 / max 1 s.gnssRate
  ceilDiv s.tai u * u
/-- An accepted block (R379): the records whose IOD is the ephemeris's replace the earlier ones of their satellites. -/
def State.corrAccept (s : State) (b : List Byte) : State :=
  let rs := (List.range (beAt b 6 2)).map (corrRecord b)
  let good := rs.filter (fun r => decide (s.ephemerisAt r.1 s.tai = some r.2.iod))
  let s := s.bump E.gnssCorrIgnored 0 (rs.length - good.length)
  let s := good.foldl (fun s r => { s with gnss := { s.gnss with
      corrections := s.gnss.corrections.filter (fun x => decide (x.1 ≠ r.1)) ++ [r] } }) s
  (s.setT96 E.gnssCorrEpoch 0 s.nextEpoch).corrRefresh

/-! ### The solution of an epoch (R366, R372 to R374) -/

/-- A length in 0.1 mm as light time in fs. -/
def fsOfTenthMm (d : Int) : Int := Int.tdiv (d * 10 ^ 11) 299792458
/-- A length in mm as light time in ps, rounded up. -/
def psOfMm (d : Nat) : Nat := ceilDiv (d * 10 ^ 9) 299792458
/-- sin of an angle in 0.1°, in 10⁻¹², by its series. -/
def sin12 (a : Int) : Int :=
  let x := Int.tdiv (a * 1745329251994) (10 ^ 3)
  ((List.range 10).foldl (fun (p : Int × Int) (k : Nat) =>
    (p.1 + p.2, -(Int.tdiv (Int.tdiv (p.2 * x) (10 ^ 12) * x) (10 ^ 12 * ((2 * k + 2) * (2 * k + 3) : Nat))))) (0, x)).1
/-- A channel latches at the epoch (R366): its last valid sample is at most one sample period old. -/
def chanLatches (c : ChannelObs) : Bool := decide (c.age * 81840000 ≤ 10 ^ 15)
/-- The transmit time a channel names at T_e, in fs (R366). -/
def chanCode (c : ChannelObs) : Int := c.sent + c.age + Int.tdiv (c.age * c.rate) (10 ^ 15)
/-- The accumulated carrier phase a channel names at T_e, in fs (R366). -/
def chanPhase (c : ChannelObs) : Int := c.carrier + Int.tdiv (c.age * c.carrierRate) (10 ^ 15)

/-- A usable satellite's measurement: its slot, system, smoothed residual in fs, variance in ps², smoothing count, smoothed
pseudorange and carrier combination, whether it is dual-band, whether multipath and corrections went in, and C/N0. -/
structure Used where
  slot : Nat
  sys : Nat
  resid : Int
  var : Nat
  n : Nat
  smoothed : Int
  carrier : Int
  raw : Int
  dual : Bool
  mp : Bool
  corr : Bool
deriving DecidableEq, Repr

/-- The ionosphere-free combination of R374. -/
def ionoFree (a b : Int) : Int := Int.tdiv (226060 * a - 126060 * b) (10 ^ 5)
/-- The band's channel of a slot measures (R361, R362, R366, R367): latched in a trusted copy of its cluster (R22), not in acquisition,
and no invalid sample, step, start or end of a retard in its integration interval. -/
def State.bandValid (s : State) (i b : Nat) (lost : Bool) (c : Option ChannelObs) : Option ChannelObs :=
  match c with
  | some c =>
    let clear (t : Option Nat) : Bool := match t with | some t => decide (t + c.interval < s.now) | none => true
    if chanLatches c ∧ ¬ lost ∧ ¬ s.unsync (0x510 + 4 * b + i / 16) ∧ (tabGet none b s.gnss.bad).isNone ∧ clear (tabGet none b s.gnss.back) ∧ clear s.gnss.broken then
      some c
    else none
  | none => none
/-- The band's channel is usable (R374): C/N0 at least `GNSS_CN0_MIN`. -/
def State.bandGood (s : State) (i b : Nat) (lost : Bool) (c : Option ChannelObs) : Option ChannelObs :=
  (s.bandValid i b lost c).filter (fun c => decide (s.n E.gnssCn0Min * 100 ≤ c.cn0))
/-- σ_i² of R372 in ps². -/
def varianceOf (o : SatObs) (cn0 n acc : Nat) (mp dual : Bool) : Nat :=
  let sq (x : Nat) := x * x
  let tropo := ceilDiv (psOfMm 120 * 10 ^ 12) (max 1 (sin12 o.elev).toNat)
  Config.codeVariance cn0 n + sq (psOfMm (if mp then 150 else 500)) + sq tropo + sq acc +
    (if dual then 0 else sq (ceilDiv o.iono.natAbs 2000))
/-- The measurement of one satellite at T_e (`te` in fs), where it is usable (R374). -/
def State.satMeasure (s : State) (te : Nat) (teT : T96) (x : Sat) (o : SatObs) : Option Used :=
  let key := satKey x.sys x.prn
  let c1 := s.bandGood o.slot 0 x.lost1 o.band1
  let c2 := s.bandGood o.slot 1 x.lost2 o.band2
  let eph := s.ephemerisAt key teT
  if ¬ o.healthy ∨ x.exclUntil.isSome ∨ o.elev < s.n E.gnssElevMask * 10 ∨ eph.isNone ∨ ¬ bitOf (s.n E.gnssSystems) x.sys ∨
      (c1.isNone ∧ c2.isNone) ∨ (¬ s.flag E.gnssSingleBand ∧ (c1.isNone ∨ c2.isNone)) then none
  else
    let cor := (s.gnss.corrections.find? (fun r => decide (r.1 = key ∧ eph = some r.2.iod))).map (·.2)
    let mp1 := s.mpCorrects 0 x.fit1
    let mp2 := s.mpCorrects 1 x.fit2
    let sent (c : ChannelObs) (mp : Bool) (b : Nat) (bias extra : Int) : Int :=
      (te : Int) - sysLag x.sys * 10 ^ 15 - (chanCode c + (if mp then c.fit else 0)) - s.int E.gnssRfDelay b * 1000 - bias - extra * 10000
    let bias (f : Correction → Int) : Int := match cor with | some k => f k | none => 0
    let p1 := c1.map (fun c => (sent c mp1 0 o.bias1 (bias (·.bias1)), chanPhase c))
    let p2 := c2.map (fun c => (sent c mp2 1 o.bias2 (bias (·.bias2)), chanPhase c))
    let (p, phi, dual) : Int × Int × Bool := match p1, p2 with
      | some a, some b => (ionoFree a.1 b.1, ionoFree a.2 b.2, true)
      | some a, none => (a.1 - o.iono, a.2, false)
      | none, some b => (b.1 - o.iono, b.2, false)
      | none, none => (0, 0, false)
    let slip := [c1, c2].any (fun c => match c with | some c => c.slip | none => false)
    let n : Nat := if slip ∨ x.n = 0 ∨ x.dual ≠ dual then 1 else min (x.n + 1) (max 1 (s.n E.gnssSmooth * s.gnssRate))
    let ps := if n = 1 then p else Int.tdiv (p + ((n : Int) - 1) * (x.smoothed + phi - x.carrier)) n
    let fix : Int := match cor with
      | some k => k.clock * 1000 + Int.tdiv (fsOfTenthMm k.radial * o.radial + fsOfTenthMm k.along * o.along +
          fsOfTenthMm k.cross * o.cross) (10 ^ 9)
      | none => 0
    let cn0 := min ((c1.map (·.cn0)).getD 65535) ((c2.map (·.cn0)).getD 65535)
    let mp := (c1.isNone || mp1) && (c2.isNone || mp2)
    let acc := match cor with | some k => k.accuracy | none => o.accuracy
    some { slot := o.slot, sys := x.sys, resid := ps - o.modelled - fix, var := varianceOf o cn0 n acc mp dual, n := n,
           smoothed := ps, carrier := phi, raw := p, dual := dual, mp := mp, corr := cor.isSome }

/-- The weight of a measurement, 10¹⁸ over its variance. -/
def Used.weight (u : Used) : Int := ((10 ^ 18 / max 1 u.var : Nat) : Int)
/-- The weighted mean of residuals. -/
def meanOf (l : List Used) : Int :=
  Int.tdiv ((l.map (fun u => u.weight * u.resid)).foldl (· + ·) 0) (max 1 ((l.map Used.weight).foldl (· + ·) 0))
/-- The classes of measurements that share an unknown: the systems in use, Galileo with GPS where the broadcast offset joins
them. -/
def classOf (galileo : Bool) (sys : Nat) : Nat := if galileo ∧ sys = 1 then 0 else sys
/-- A least-squares solution: the clock in fs, the clock's weights, the unknowns, and the weighted sum of squares in 10⁻⁶. -/
structure Solution where
  clock : Int
  refs : List Used
  unknowns : Nat
  squares : Nat
  used : List Used
deriving DecidableEq, Repr
/-- Weighted least squares for the clock and one inter-system bias per further system (R374): each further system's bias takes
its own mean, so the clock is the mean of the lowest system in use. -/
def solve (galileo : Option Int) (l : List Used) : Solution :=
  let cls (u : Used) := classOf galileo.isSome u.sys
  let l := l.map (fun u => if galileo.isSome ∧ u.sys = 1 then { u with resid := u.resid - galileo.getD 0 } else u)
  let systems := (List.range 4).filter (fun k => l.any (fun u => cls u == k))
  let ref := systems.headD 0
  let group (k : Nat) := l.filter (fun u => cls u == k)
  let squares := systems.foldl (fun a k =>
    let m := meanOf (group k)
    (group k).foldl (fun a u => a + u.weight * (u.resid - m) * (u.resid - m)) a) (0 : Int)
  ⟨meanOf (group ref), group ref, systems.length, (squares / 10 ^ 18).toNat, l⟩
/-- Redundant measurements of a solution. -/
def Solution.redundant (z : Solution) : Nat := z.used.length - z.unknowns
/-- The fault test of R374. -/
def Solution.passes (z : Solution) (pfa : Nat) : Bool := decide (z.squares ≤ Config.chiSquare z.redundant pfa)
/-- B_sol of R372 at an epoch that does not coast; the clock estimate's weights are positive and sum to 1, so Σ|a_i| is 1. -/
def State.solutionBound (s : State) (z : Solution) (reduced : Bool) : Bound :=
  let k := s.n E.gnssBoundK
  let w := ((z.refs.map Used.weight).foldl (· + ·) 0).toNat
  let kg := ceilSqrt (ceilDiv (k * k * 10 ^ 18) (100 * max 1 w))
  let tpl := if reduced then 0 else Config.protection (z.used.map (fun u => (u.sys, u.var))) (s.n E.gnssPfa)
  let unc : Nat := match s.antenna with | some (_, _, _, u) => u | none => s.n E.gnssPosUnc
  let notch := if (List.range 2).any (fun b => decide (s.n E.gnssNotchActive b ≠ 0)) then s.n E.gnssNotchBias else 0
  boundAdd (boundAdd (boundOf (max kg tpl)) (boundOf (psOfMm unc))) (boundAdd notch (s.n E.gnssUtcUnc))

end Sys2Proof.Machine
end

