-- ==== Sys2Proof/Machine/Gnss.lean ====
section
/-! DEFINITION. Juniper's commands: sample strobes, acquisition, measurement epochs, interference, the solution pulse, sleep
(R359 to R384). -/

namespace Sys2Proof.Machine

/-! ### Configuration (R365, R366, R370, R375, R382) -/

/-- `GNSS_ENABLE` (R383): 0 switches the Navigation domain off. -/
def spGnssEnable : Special where
  entry := E.gnssEnable
  apply c s :=
    let s := s.set E.gnssEnable 0 c.v
    if c.v = 0 then (s.satsFree).set E.gnssState 0 0 else { s with gnss := { s.gnss with fresh := true, fixed := false } }
/-- `GNSS_EPOCH_RATE` (R366): a change applies from the next whole second. -/
def spGnssRate : Special where
  entry := E.gnssEpochRate
  codes c _ := if [1, 2, 4, 5, 10, 20, 25, 50, 100].contains c.v then [] else [7]
  apply c s :=
    let g := s.gnss
    ({ s with gnss := { g with rate := s.gnssRate, ratePend := some (c.v, secOf s.tai + 1) } }).set E.gnssEpochRate 0 c.v
/-- A position setting applies at the next epoch, where smoothing restarts (R375). -/
def State.posWritten (s : State) : State := { s with gnss := { s.gnss with restart := true } }
/-- `GNSS_POS_MODE` (R375): a write of SURVEY starts a survey. -/
def spGnssPosMode : Special where
  entry := E.gnssPosMode
  apply c s := { (s.set E.gnssPosMode 0 c.v).posWritten with gnss := { s.gnss with restart := true, surveyFrom := none } }
/-- `GNSS_POS_X`, `_Y`, `_Z` (R375). -/
def spGnssPos : Special where
  entry := E.gnssPosX
  apply c s := (s.setInt E.gnssPosX c.i c.int).posWritten
/-- `GNSS_EL_SPACING` (R365): not above the very early to very late spacing. -/
def spGnssEl : Special where
  entry := E.gnssElSpacing
  codes c s := if s.n E.gnssVelSpacing c.i < c.v then [7] else []
/-- `GNSS_VEL_SPACING` (R365): at least the early-late spacing. -/
def spGnssVel : Special where
  entry := E.gnssVelSpacing
  codes c s := if c.v < s.n E.gnssElSpacing c.i then [7] else []
/-- `GNSS_JAM_WARN` (R383): not above the alarm. -/
def spJamWarn : Special where
  entry := E.gnssJamWarn
  codes c s := if s.n E.gnssJamAlarm < c.v then [7] else []
/-- `GNSS_JAM_ALARM` (R383): not below WARN. -/
def spJamAlarm : Special where
  entry := E.gnssJamAlarm
  codes c s := if c.v < s.n E.gnssJamWarn then [7] else []
/-- `GNSS_WAKE_DWELL` (R382): at least `HB_QUAL_TIME` + 10 s. -/
def spWakeDwell : Special where
  entry := E.gnssWakeDwell
  codes c s := if c.v < s.n E.hbQualTime + 10 then [7] else []

/-! ### Sample strobes (R361, R362) -/

/-- GNSS_STROBE_FAULT: the activity (0), glitch (1) or rate (2) monitor of a band's strobe fails; its samples are invalid from tick
`since`, the whole 1 ms window where the rate fails. Monitors are off asleep (R381). -/
def execGnssStrobeFault (t : Nat) (b : Fin 2) (monitor : Fin 3) (since : Nat) (s : State) :
    Host.Outcome State Fault Refusal :=
  timed t s fun s =>
    let since := if monitor = 2 then s.now - 500000 else since
    if ¬ s.present 0 ∨ s.gnssAsleep then s
    else
      let s := if (tabGet none b.val s.gnss.bad).isSome then s
        else { s with gnss := { s.gnss with bad := tabPut none b.val (some (min since s.now)) s.gnss.bad } }
      (s.bump E.gnssStbFaults).raise 321 none b
/-- GNSS_COAST_TIMEOUT (R362): the band stayed invalid beyond `GNSS_COAST_MAX`. -/
def execGnssCoastTimeout (t : Nat) (b : Fin 2) (s : State) : Host.Outcome State Fault Refusal :=
  timed t s fun s =>
    match tabGet none b.val s.gnss.bad with
    | some d => if d + ticksMs (s.n E.gnssCoastMax) < s.now then s.coastOut b else s
    | none => s
/-- GNSS_STROBE_RETURN (R362): valid samples return; channels that still coast resume, and their smoothing restarts. -/
def execGnssStrobeReturn (t : Nat) (b : Fin 2) (s : State) : Host.Outcome State Fault Refusal :=
  timed t s fun s =>
    match tabGet none b.val s.gnss.bad with
    | some d =>
      let s := if d + ticksMs (s.n E.gnssCoastMax) < s.now then s.coastOut b else s
      let g := s.gnss
      ({ s with gnss := { g with bad := tabPut none b.val none g.bad, back := tabPut none b.val (some s.now) g.back } }).smoothRestart
        (fun x => !(if b.val = 0 then x.lost1 else x.lost2))
    | none => s

/-- GNSS_ACQUISITION (R364, R368): a visible satellite of an enabled system takes its slot again, or the lowest free one, with
both channels; until the first fix the start kind follows what is visible. -/
def execGnssAcquisition (t : Nat) (sys : Fin 4) (prn : Nat) (elev : Int) (azim : Nat) (s : State) :
    Host.Outcome State Fault Refusal :=
  timed t s fun s =>
    if ¬ s.present 0 ∨ s.gnssAsleep ∨ ¬ s.quietOver ∨ ¬ bitOf (s.n E.gnssSystems) sys ∨ ¬ prnOk sys prn ∨
        elev < (s.n E.gnssElevMask : Int) * 10 - 20 then s
    else
      let mine := (List.range 64).find? (fun i => match s.sat i with | some x => decide (x.sys = sys ∧ x.prn = prn) | none => false)
      let free := (List.range 64).find? (fun i => (s.sat i).isNone)
      match mine.orElse (fun _ => free) with
      | none => s
      | some i =>
        let s := s.setSat i (some { (s.sat i).getD { sys := sys, prn := prn } with
          lost1 := s.clusterOut 0 i, lost2 := s.clusterOut 1 i, n := 0, cmc := [], fit1 := s.now, fit2 := s.now })
        let s := ((s.set E.gnssSvId i (satKey sys prn)).setInt E.gnssSvElev i elev).set E.gnssSvAzim i azim
        let s := s.satRefresh i
        if s.gnss.fixed then s
        else
          let seen := (List.range 64).filter (fun i =>
            match s.sat i with | some x => (s.ephemerisAt (satKey x.sys x.prn) s.tai).isSome | none => false)
          s.set E.gnssStartKind 0 (s.startKind seen.length)

/-! ### Measurement epochs (R366, R367, R371 to R377) -/

/-- TAI − UTC as the navigation data have it: the third reading in a row that disagrees raises event 11. -/
def State.utcDecode (s : State) (o : Int) : State :=
  let run := if o = s.taiUtc then 0 else s.gnss.taiRun + 1
  let s := { s with gnss := { s.gnss with taiRun := run, taiUtc := some o } }
  if run = 3 then s.raise 11 else s
/-- The leap second the navigation data announce, or none, while a GNSS slot is selected. -/
def State.leapDecode (s : State) (leap : Option (Nat × Int)) : State :=
  let n := s.n E.hbSelected
  if n < 32 ∧ s.refKind n = 1 then
    match leap with
    | some (tL, off) => s.leapAnnounced tL off
    | none => s.leapWithdrawn (fun _ => true)
  else s
/-- What has been decoded since the last epoch (R367, R377, R380). -/
def State.epochDecode (s : State) (x : EpochObs) : State :=
  let s := x.ephemerides.foldl State.keepEphemeris s
  let s := x.almanacs.foldl (fun s e => s.keepOne 0 (satKey e.sys e.prn) (ephBytes e)) s
  match x.taiUtc with
  | none => s
  | some o => (s.utcDecode o).leapDecode x.leap
/-- Satellites below `GNSS_ELEV_MASK` − 2° release their slots; the others' places and C/N0 follow (R364). -/
def State.epochSats (s : State) (l : List SatObs) : State :=
  l.foldl (fun s o =>
    let i := o.slot.val
    match s.sat i with
    | none => s
    | some _ =>
      if o.elev < (s.n E.gnssElevMask : Int) * 10 - 20 then s.satFree i
      else
        let cn (c : Option ChannelObs) : Nat := match c with | some c => min (c.cn0 / 100) 255 | none => 0
        let s := (s.setInt E.gnssSvElev i o.elev).set E.gnssSvAzim i o.azim
        let s := s.set E.gnssSvCn0 i (cn o.band2 * 256 + cn o.band1)
        let slip := [o.band1, o.band2].any (fun c => match c with | some c => c.slip | none => false)
        if slip then (s.bump E.gnssSlips).perfEvent 0x502 0 else s) s
/-- The measurements of the usable satellites at T_e. -/
def State.measurements (s : State) (te : Nat) (teT : T96) (l : List SatObs) : List Used :=
  l.filterMap (fun o => match s.sat o.slot with | some x => s.satMeasure te teT x o | none => none)
/-- The fault test with its exclusion (R374): the solution left, the satellite excluded, and whether the fault stays. -/
def State.faultTest (s : State) (galileo : Option Int) (l : List Used) : Solution × Option Nat × Bool :=
  let z := solve galileo l
  let pfa := s.n E.gnssPfa
  if z.redundant = 0 ∨ z.passes pfa then (z, none, false)
  else if z.redundant < 2 then (z, none, true)
  else
    let tries := (l.map (fun u => (u.slot, solve galileo (l.filter (fun v => decide (v.slot ≠ u.slot)))))).filter
      (fun p => p.2.passes pfa)
    match tries.foldl (fun (a : Option (Nat × Solution)) p =>
        match a with | none => some p | some b => if p.2.squares < b.2.squares then some p else some b) none with
    | some (slot, z') => (z', some slot, false)
    | none => (z, none, true)
/-- Carrier tracking goes on without a slip on satellites used last (R374): the mean of what their carriers moved beyond the
model. -/
def State.carrierStep (s : State) (l : List SatObs) : Option Int :=
  let ds := l.filterMap (fun o =>
    match s.sat o.slot with
    | some x =>
      if ¬ x.used then none
      else
        let c1 := s.bandValid o.slot 0 x.lost1 o.band1
        let c2 := s.bandValid o.slot 1 x.lost2 o.band2
        let slip := [c1, c2].any (fun c => match c with | some c => c.slip | none => false)
        let phi : Option Int := match c1, c2 with
          | some a, some b => if x.dual then some (ionoFree (chanPhase a) (chanPhase b)) else some (chanPhase a)
          | some a, none => if x.dual then none else some (chanPhase a)
          | none, some b => if x.dual then none else some (chanPhase b)
          | none, none => none
        if slip then none else phi.map (fun p => (p - x.carrier) - (o.modelled - x.modelled))
    | none => none)
  if ds.isEmpty then none else some (Int.tdiv (ds.foldl (· + ·) 0) ds.length)
/-- The satellites after an epoch's solution: smoothing, histories, residuals and flags. -/
def State.epochUpdate (s : State) (teT : T96) (l : List SatObs) (z : Solution) (galileo : Option Int) : State :=
  let cls (u : Used) := classOf galileo.isSome u.sys
  l.foldl (fun s o =>
    let i := o.slot.val
    match s.sat i with
    | none => s
    | some x =>
      let slip := [o.band1, o.band2].any (fun c => match c with | some c => c.slip | none => false)
      match z.used.find? (fun u => decide (u.slot = i)) with
      | some u =>
        let old := if u.n = 1 then [] else x.cmc.filter (fun p => decide (teT ≤ p.1 + ofSec 10))
        let mean := meanOf (z.used.filter (fun v => cls v == cls u))
        let s := s.setSat i (some { x with
          n := u.n, smoothed := u.smoothed, carrier := u.carrier, modelled := o.modelled, dual := u.dual, used := true
          cmc := (teT, u.raw - u.carrier) :: old })
        let s := s.setInt E.gnssSvResid i (Int.tdiv (u.resid - mean) 1000)
        (s.set E.gnssSvFlags i (ofBool o.band1.isSome + 2 * ofBool o.band2.isSome + 4 * ofBool u.dual + 8 * ofBool u.mp +
          16 * ofBool u.corr + 32 * ofBool slip)).satRefresh i
      | none =>
        let s := s.setSat i (some { x with n := 0, cmc := [], used := false })
        (s.set E.gnssSvFlags i (ofBool o.band1.isSome + 2 * ofBool o.band2.isSome + 32 * ofBool slip)).satRefresh i) s
/-- CN0_UNIFORM (R373). -/
def State.cn0Uniform (s : State) (l : List SatObs) : Bool :=
  let cs := (l.filter (fun o => decide (300 < o.elev))).filterMap (fun o =>
    match o.band1, o.band2 with | some c, _ => some c.cn0 | none, some c => some c.cn0 | none, none => none)
  let n := cs.length
  let sum := cs.foldl (· + ·) 0
  let sq := (cs.map (fun c => c * c)).foldl (· + ·) 0
  decide (6 ≤ n ∧ 5000 * n < sum ∧ n * sq < sum * sum + (s.n E.gnssSpfCn0Sd * n) * (s.n E.gnssSpfCn0Sd * n))
/-- CODE_CARRIER (R373): a used satellite's code minus carrier has moved too fast over 10 s. -/
def State.codeCarrier (s : State) (teT : T96) : Bool :=
  (List.range 64).any (fun i =>
    match s.sat i with
    | some x =>
      match x.cmc.head?, x.cmc.find? (fun p => decide (p.1 + ofSec 10 = teT)) with
      | some a, some b =>
        x.used && decide (s.n E.gnssSpfCcd * 10 * 10 ^ 12 < (a.2 - b.2).natAbs * 299792458)
      | _, _ => false
    | none => false)
/-- TIME_JUMP (R373): the offset departs from the previous one advanced by the slot's frequency estimate. -/
def State.timeJump (s : State) (teT : T96) (offset : Int) (bound : Bound) : Bool :=
  match s.gnss.offsets with
  | [] => false
  | (t0, o0, _) :: _ =>
    let y : Int := match s.slotOf 1 0 with | some n => (s.slot n).y10.getD 0 | none => 0
    let dt : Int := ((teT - t0) * 10 ^ 6 / 65536 : Nat)
    let pred := o0 + Int.tdiv (y * dt) (10 ^ 18)
    !s.gnss.fresh && !s.privet.retarding && decide ((s.n E.gnssSpfJump + bound) * 1000 < (offset - pred).natAbs)
/-- A survey goes on, and completes when it has run long enough with a small enough deviation (R375). -/
def State.surveyStep (s : State) (x : EpochObs) : State :=
  if s.antenna.isSome then { s with gnss := { s.gnss with surveyFrom := none } }
  else
    let start := s.gnss.surveyFrom.getD s.now
    let s := { s with gnss := { s.gnss with surveyFrom := some start } }
    match x.survey with
    | some (px, py, pz, sd) =>
      if start + ticksS (s.n E.gnssSurveyMin) ≤ s.now ∧ sd < s.n E.gnssSurveySigma then
        let b (v : Int) := be 8 (wordOfInt v).toNat
        let s := s.keepOne 2 0 (b px ++ b py ++ b pz ++ be 4 (3 * sd))
        ({ s with gnss := { s.gnss with surveyFrom := none } }).set E.gnssPosMode 0 2
      else s
    | none => s
/-- The level of a solution state (R157). -/
def stateLevel (st : Nat) : Nat := match st with | 2 => 6 | 3 => 4 | 4 => 1 | _ => 0
/-- Hornbeam takes the epoch (R147, R151, R157, R382): the measurement at T_e, its bound and level; an epoch without a solution
counts against ACTIVITY, and only the second one takes the level to 0 (R147: it fails no QL_DNU of its own; log 120); a PHASE failure in the dwell fails the cross-check. -/
def State.epochToSlot (s : State) (te : Nat) (st : Nat) (offset : Option Int) : State :=
  match s.slotOf 1 0 with
  | none => s
  | some n =>
    let x := s.slot n
    if st = 0 then
      let s := s.setSlot n { x with missed := x.missed + 1 }
      if s.silent n then ((s.quality n st (stateLevel st)).setCause n 1 true).settle else s.set E.refQlRx n st
    else
      let s := (s.setSlot n { x with missed := 0, arrival := s.now }).setCause n 1 false
      let old := s.n E.refQl n
      let s := ((s.set E.refQlRx n st).setSlot n { s.slot n with level := stateLevel st }).qlRefresh n
      let was := s.cause n 8
      let s := match offset with
        | some d =>
          let s := s.setSlot n { s.slot n with bref := s.n E.gnssBound }
          let late := (s.privFs - te) * 2000000 * 2 ^ 56 / (max 1 s.privet.incr * 10 ^ 6)
          s.slotMeasure n s.now (s.now * 2000000 - late) te d (decide (s.gnss.badSecond ≠ some (te / 10 ^ 15)))
        | none => s
      let s := if s.gnss.dwell.isSome ∧ ¬ was ∧ s.cause n 8 then
          ({ s with gnss := { s.gnss with crossOk := false } }).raise 325 none n
        else s
      s.settle (decide (s.n E.refQl n ≠ old))
/-- A satellite the fault test excluded stays out for `GNSS_EXCL_HOLD` (R374). -/
def State.exclude (s : State) (i : Nat) : State :=
  let s := s.bump E.gnssExclusions
  s.setSat i ((s.sat i).map (fun (y : Sat) => { y with exclUntil := some (s.now + ticksS (s.n E.gnssExclHold)) }))
/-- What the spoofing tests tripped in this epoch, kept in `GNSS_SPOOF_FLAGS`, with event 323. -/
def State.spoofTrip (s : State) (flags : Nat) : State :=
  let s := if flags = 0 then s
    else ({ s with gnss := { s.gnss with trip := some s.now, spoof := s.gnss.spoof.lor flags } }).raise 323 none flags
  s.set E.gnssSpoofFlags 0 s.gnss.spoof
/-- What an epoch with a clock solution keeps: its clock `c` with its bound, the offset `d` from Privet, the time. -/
def State.epochFix (s : State) (teT : T96) (c : Int × Bound) (d : Int) (st : Nat) (coasts : Bool) : State :=
  let s := (s.setInt E.gnssOffset 0 d).set E.gnssBound 0 c.2
  let solid := if coasts then s.gnss.solid else some (c.2, teT)
  let g := s.gnss
  let offs := (teT, d, s.privet.moved) :: g.offsets.filter (fun p => decide (teT ≤ p.1 + ofSec 2))
  let fixed := g.fixed || decide (st = 2 ∨ st = 3)
  let s := { s with gnss := { g with clock := c.1, solid := solid, fresh := coasts, fixed := fixed, offsets := offs } }
  let s := s.keepOne 4 0 (t96Bytes teT)
  if s.n E.gnssPowerState = 2 ∧ (st = 2 ∨ st = 3) then s.set E.gnssPowerState 0 0 else s
/-- The solution of an epoch (R371 to R375). -/
def State.epochSolve (s : State) (te : Nat) (teT : T96) (x : EpochObs) : State :=
  let s := s.surveyStep x
  let l := x.sats
  let used := s.measurements te teT l
  let (z, out, fault) := s.faultTest x.galileo used
  let s := match out with
    | some i => s.exclude i
    | none => s
  let reduced := decide (z.redundant = 0)
  let step := s.carrierStep l
  let coast : Option (Int × Bound) := match used, step, s.gnss.solid with
    | [], some d, some (b, t0) =>
      if teT ≤ t0 + ofSec 10 then
        some (s.gnss.clock + d, boundAdd b (boundOf (ceilDiv (20 * (teT - t0)) (ofSec 1))))
      else none
    | _, _, _ => none
  let fine : Option Int := match x.carrier with
    | some (c, amb, code) => if s.n E.trimActive = 3 ∧ amb < code then some c else none
    | none => none
  let clock : Option (Int × Bound) := match used with
    | [] => coast
    | _ => some (fine.getD z.clock, s.solutionBound z reduced)
  let shift : Int := match s.gnss.taiUtc with | some o => (s.taiUtc - o) * 10 ^ 15 | none => 0
  let s := if used.isEmpty ∧ coast.isSome then s else s.epochUpdate teT l z x.galileo
  let s := s.set E.gnssSatsUsed 0 z.used.length
  let offset := clock.map (fun c => x.utcFs - c.1 + shift)
  let jump : Bool := match clock, offset with
    | some c, some d => s.timeJump teT d c.2
    | _, _ => false
  let flags := ofBool (s.cn0Uniform l) + 2 * ofBool (s.codeCarrier teT) + 4 * ofBool jump
  let hold := ticksS (s.n E.gnssSpfHold)
  let s := s.spoofTrip flags
  let spoofed : Bool := match s.gnss.trip with | some t => decide (s.now ≤ t + hold) | none => false
  let st : Nat := if (spoofed || fault) = true then 5 else if s.antenna.isNone then 1
    else if clock.isNone ∨ ¬ x.timeKnown then 0 else if used.isEmpty then 4 else if reduced then 3 else 2
  let s := s.set E.gnssState 0 st
  let s := match clock, offset with
    | some c, some d => s.epochFix teT c d st used.isEmpty
    | _, _ => s
  s.epochToSlot te st (if st = 0 then none else offset)
/-- MEASUREMENT_EPOCH (R366, R367): once for each instant n ÷ rate; asleep or off, an epoch without a solution. -/
def execMeasurementEpoch (t : Nat) (x : EpochObs) (s : State) : Host.Outcome State Fault Refusal :=
  timed t s fun s =>
    let unit := secondUnit / max 1 s.gnssRate
    let te56 := s.privet.time / unit * unit
    let teT := te56 / 2 ^ 40
    let seen : Bool := match s.gnss.lastEpoch with | some l => decide (teT ≤ l) | none => false
    if ¬ s.present 0 ∨ ¬ s.quietOver ∨ ¬ s.atWhole unit ∨ seen then s
    else
      let te := te56 * 10 ^ 6 / 2 ^ 56
      let g := s.gnss
      let s := { s with gnss := { g with
        lastEpoch := some teT, rate := s.gnssRate
        ratePend := if s.gnssRate = s.n E.gnssEpochRate then none else g.ratePend } }
      if s.gnssAsleep then (s.set E.gnssState 0 0).epochToSlot te 0 none
      else
        let s := (s.setT96 E.gnssEpochTime 0 teT).perfEvent 0x501 0
        let s := if s.gnss.restart then
            ({ s with gnss := { s.gnss with restart := false } }).smoothRestart (fun _ => true)
          else s
        let s := (s.epochDecode x).epochSats x.sats
        let s := { s with gnss := { s.gnss with
          corrections := s.gnss.corrections.filter (fun r => decide (teT < r.2.until')) } }
        (s.corrRefresh).epochSolve te teT x

/-- EXCLUSION_HOLD_EXPIRY (R374). -/
def execExclusionHoldExpiry (t : Nat) (slot : Fin 64) (s : State) : Host.Outcome State Fault Refusal :=
  timed t s fun s =>
    match s.sat slot with
    | some x =>
      match x.exclUntil with
      | some d => if d ≤ s.now then (s.setSat slot (some { x with exclUntil := none })).satRefresh slot else s
      | none => s
    | none => s
/-- SPF_HOLD_EXPIRY (R373): `GNSS_SPF_HOLD` has passed since the last trip; the source's condition ends. -/
def execSpfHoldExpiry (t : Nat) (s : State) : Host.Outcome State Fault Refusal :=
  timed t s fun s =>
    match s.gnss.trip with
    | some d =>
      if d + ticksS (s.n E.gnssSpfHold) ≤ s.now then
        (({ s with gnss := { s.gnss with trip := none, spoof := 0 } }).set E.gnssSpoofFlags 0 0).deassert 323
      else s
    | none => s

/-! ### Interference (R369, R370) -/

/-- The entries of a band's notches follow. -/
def State.notchRefresh (s : State) (b : Nat) : State :=
  s.set E.gnssNotchActive b (maskOf ((List.range 4).filter (fun k => (tabGet none (4 * b + k) s.gnss.notches).isSome)))
/-- Sets notch `k` of band `b`. -/
def State.setNotch (s : State) (b k : Nat) (x : Option Notch) : State :=
  { s with gnss := { s.gnss with notches := tabPut none (4 * b + k) x s.gnss.notches } }
/-- Notches of a band follow their bins; a bin more than 3 dB below the threshold for 1 s releases its notch. -/
def State.notchesTrack (s : State) (b : Nat) (x : SpectrumObs) : State :=
  (List.range 4).foldl (fun s k =>
    match tabGet none (4 * b + k) s.gnss.notches with
    | none => s
    | some y =>
      match x.bins.find? (fun q => decide (q.1 = y.bin)) with
      | some (_, hz, h) =>
        let s := s.setInt E.gnssNotchFreq (4 * b + k) hz
        if s.n E.gnssNotchThresh * 10 ≤ h + 30 then s.setNotch b k (some { y with low := none })
        else
          let d := y.low.getD s.now
          if d + ticksS 1 ≤ s.now then (s.setNotch b k none).setInt E.gnssNotchFreq (4 * b + k) 0
          else s.setNotch b k (some { y with low := some d })
      | none =>
        let d := y.low.getD s.now
        if d + ticksS 1 ≤ s.now then (s.setNotch b k none).setInt E.gnssNotchFreq (4 * b + k) 0
        else s.setNotch b k (some { y with low := some d })) s
/-- Bins that stand above the threshold in three consecutive spectra take the lowest free notch, or are counted. -/
def State.notchesAssign (s : State) (b : Nat) (x : SpectrumObs) : State :=
  let high := x.bins.filter (fun q => decide (s.n E.gnssNotchThresh * 10 ≤ q.2.2))
  let key (bin : Nat) := b * 65536 + bin
  let old := s.gnss.bins
  let keep := old.filter (fun p => decide (p.1 / 65536 ≠ b))
  let bins := high.foldl (fun (l : Tab Nat) q => tabPut 0 (key q.1) (tabGet 0 (key q.1) old + 1) l) keep
  let s := { s with gnss := { s.gnss with bins := bins } }
  high.foldl (fun s q =>
    let run := tabGet 0 (key q.1) s.gnss.bins
    let mine := (List.range 4).any (fun k =>
      match tabGet none (4 * b + k) s.gnss.notches with | some y => decide (y.bin = q.1) | none => false)
    if run < 3 ∨ mine then s
    else
      match (List.range 4).find? (fun k => (tabGet none (4 * b + k) s.gnss.notches).isNone) with
      | some k => (s.setNotch b k (some { bin := q.1 })).setInt E.gnssNotchFreq (4 * b + k) q.2.1
      | none => if run = 3 then s.bump E.gnssNotchOverflow else s) s
/-- J of a band (R370), in 0.1 dB; an entry of 16 bits holds no negative value. -/
def State.jamOf (s : State) (b : Nat) : Nat :=
  let p := tabGet 0 b s.gnss.power
  let g := tabGet 0 b s.gnss.gain
  let n := ((List.range 4).filter (fun k => (tabGet none (4 * b + k) s.gnss.notches).isSome)).length
  min (max (p - s.jamBase b 0) (s.jamBase b 1 - g) + 30 * n).toNat 65535
/-- The jamming source follows J (R370): NOTE at the warning level, MINOR at the alarm level, ended below the warning level. -/
def State.jamRefresh (s : State) : State :=
  let j := max (s.n E.gnssJamL1) (s.n E.gnssJamL5)
  if s.n E.gnssJamAlarm ≤ j then
    if s.gnss.alarm then s
    else
      let s := { s with gnss := { s.gnss with alarm := true }
                        holly := { s.holly with asserted := s.holly.asserted.filter (· ≠ 322) } }
      s.raise 322 (some 1) j
  else
    let s := { s with gnss := { s.gnss with alarm := false } }
    if s.n E.gnssJamWarn ≤ j then s.raise 322 (some 0) j else s.deassert 322
/-- SPECTRUM (R369, R370): every 10 ms, for one band. -/
def execSpectrum (t : Nat) (b : Fin 2) (x : SpectrumObs) (s : State) : Host.Outcome State Fault Refusal :=
  timed t s fun s =>
    if ¬ s.present 0 ∨ s.gnssAsleep ∨ ¬ s.atWhole (secondUnit / 100) then s
    else
      let g := s.gnss
      let s := { s with gnss := { g with power := tabPut 0 b.val x.power g.power, gain := tabPut 0 b.val x.gain g.gain } }
      let s := ((s.notchesTrack b x).notchesAssign b x).notchRefresh b
      (s.set (if b.val = 0 then E.gnssJamL1 else E.gnssJamL5) 0 (s.jamOf b)).jamRefresh
/-- `GNSS_JAM_CAL` (R370): 1 stores P₀ and G₀ of both bands in keep-alive memory. -/
def spJamCal : Special where
  entry := E.gnssJamCal
  codes c _ := if c.v = 1 then [] else [7]
  apply _ s := (List.range 2).foldl (fun s b =>
    s.keepOne 3 b (be 8 (wordOfInt (tabGet 0 b s.gnss.power)).toNat ++ be 8 (wordOfInt (tabGet 0 b s.gnss.gain)).toNat)) s
/-- GNSS_JAM_CAL. -/
def execGnssJamCal (t : Nat) (m : Master) (s : State) : Host.Outcome State Fault Refusal := writeRow spJamCal t m 0 [1] s

/-! ### The solution pulse (R376) -/

/-- Δ̂ for the second `sec` in fs: the latest offset at least 10 ms before it, advanced by the 10 s frequency estimate. -/
def State.pulseOffset (s : State) (sec : Nat) : Option Int :=
  (s.gnss.offsets.find? (fun p => decide (p.1 + ofNs 10000000 ≤ ofSec sec))).map (fun p =>
    let y : Int := match s.slotOf 1 0 with | some n => (s.slot n).y10.getD 0 | none => 0
    p.2.1 + Int.tdiv (y * ((ofSec sec - p.1) * 10 ^ 6 / 65536 : Nat)) (10 ^ 18))
/-- SOLUTION_PULSE: the pulse of the next second whose instant S − Δ̂ has come in the navigation island's copy is placed with 1 ps resolution. -/
def execSolutionPulse (t : Nat) (s : State) : Host.Outcome State Fault Refusal :=
  timed t s fun s =>
    let st := s.n E.gnssState
    if ¬ s.present 0 ∨ s.gnssAsleep ∨ st = 0 ∨ st = 1 then s
    else
      let here : Nat := s.copy56 (leafFor 0x501) * 10 ^ 6 / 2 ^ 56
      let sec : Nat := here / 10 ^ 15
      let due := [sec, sec + 1].findSome? (fun k =>
        match s.pulseOffset k with
        | some d =>
          let at_ := roundDiv ((k : Int) * 10 ^ 15 - d) 1000
          if s.gnss.pulseSec < k ∧ d.natAbs < 4 * 10 ^ 14 ∧ at_ * 1000 ≤ here then some (k, at_) else none
        | none => none)
      match due with
      | some (k, at_) => { s with gnss := { s.gnss with pulse := some (k, at_), pulseSec := k } }
      | none => s

/-! ### Sleep (R381, R382) -/

/-- GNSS_SLEEP (R381): asked for, the dwell ended, the last cross-check passed, and no wake condition in this tick. -/
def execGnssSleep (t : Nat) (s : State) : Host.Outcome State Fault Refusal :=
  timed t s fun s =>
    let s := s.crossRefresh
    if ¬ s.present 0 ∨ s.gnssAsleep ∨ ¬ s.sleepAsked ∨ s.gnss.dwell.isSome ∨ ¬ s.gnss.crossOk ∨ s.gnss.wakeAt = some s.now then s
    else
      let s := ((s.bump E.gnssSleeps).satsFree).set E.gnssPowerState 0 1
      { s with gnss := { s.gnss with sleepFrom := s.now, bad := [], pulse := none } }
/-- GNSS_WAKE (R382): the selection or the settings no longer allow sleep. -/
def execGnssWake (t : Nat) (s : State) : Host.Outcome State Fault Refusal :=
  timed t s fun s => if s.n E.gnssPowerState = 1 ∧ ¬ s.sleepAsked then s.gnssWakes else s
/-- WAKE_INTERVAL_EXPIRY (R382). -/
def execWakeIntervalExpiry (t : Nat) (s : State) : Host.Outcome State Fault Refusal :=
  timed t s fun s =>
    if s.n E.gnssPowerState = 1 ∧ s.gnss.sleepFrom + ticksS (s.n E.gnssWakeInterval) ≤ s.now then s.gnssWakes else s
/-- `GNSS_WAKE_CMD` (R382): 1 wakes. -/
def spWakeCmd : Special where
  entry := E.gnssWakeCmd
  codes c _ := if c.v = 1 then [] else [7]
  apply _ s := s.gnssWakes
/-- GNSS_WAKE_CMD. -/
def execGnssWakeCmd (t : Nat) (m : Master) (s : State) : Host.Outcome State Fault Refusal := writeRow spWakeCmd t m 0 [1] s
/-- WAKE_DWELL_EXPIRY (R382): sleep may be entered again. -/
def execWakeDwellExpiry (t : Nat) (s : State) : Host.Outcome State Fault Refusal :=
  timed t s fun s =>
    match s.gnss.dwell with
    | some d => if d ≤ s.now then ({ s with gnss := { s.gnss with dwell := none } }).crossRefresh else s
    | none => s

/-- The special entries of this chapter. -/
def gnssSpecials : List Special :=
  [spGnssEnable, spGnssRate, spGnssPosMode, spGnssPos, spGnssEl, spGnssVel, spJamWarn, spJamAlarm, spWakeDwell, spJamCal,
   spWakeCmd]

end Sys2Proof.Machine
end

