-- ==== Sys2Proof/Machine/Attest.lean ====
section
/-! DEFINITION. Attestation records (R138 to R140). -/

namespace Sys2Proof.Machine

/-- The use of `ATTEST_KEY` (R140, R401, R476). -/
def State.attestUse (s : State) : KeyUse :=
  { ref := s.n E.attestKey, op := 3, types := [5], classes := [1], role := 3, lane := 0 }
/-- `ATTEST_KEY` (R140, R476). -/
def spAttestKey : Special where
  entry := E.attestKey
  codes c s := s.refCodes { s.attestUse with ref := c.v } (some 0)
/-- FLAGS of the record in progress (R139); SAFE and the rest gather over the interval. -/
def State.attestFlags (s : State) : Nat :=
  let a := s.bound.attest
  let f := setBit a.flags 0 (decide (a.ootTicks ≠ 0) || s.bound.oot)
  setBit f 1 (bitOf a.flags 1 || decide (a.holdTicks ≠ 0) || s.bound.hold.isSome)
/-- SLOT_STATES of R139: slot 2i in the high nibble of byte i. -/
def State.slotNibbles (s : State) : List Byte :=
  (List.range 16).map (fun i => BitVec.ofNat 8 (s.n E.refState (2 * i) * 16 + s.n E.refState (2 * i + 1)))
/-- Bytes 0 to 155 of the record that ends at `e`, KEY still 0 (R139). -/
def State.attestBytes (s : State) (e : T96) : List Byte :=
  let a := s.bound.attest
  let (seq, chain) : Nat × List Byte := match s.bound.ledger with | x :: _ => (x.seq, x.chain) | [] => (0, zeros 32)
  be 4 0x41545354 ++ be 2 1 ++ be 2 s.attestFlags ++ be 4 s.otp.part.number ++ be 4 0 ++ be 8 (s.n E.ledgerId) ++
  be 4 a.nextSeq ++ be 4 ((a.maxAt - a.start) / ofNs 1000000) ++ t96Bytes a.start ++ t96Bytes e ++
  be 4 a.maxCore ++ be 4 a.maxOut ++ be 4 (s.n E.boundServiceLimit) ++
  be 4 (ceilDiv a.ootTicks 500000000) ++ be 4 (ceilDiv a.holdTicks 500000000) ++
  be 1 (s.n E.hbSelected) ++ be 1 a.switches ++ be 1 (s.n E.lifecycle) ++ be 1 (s.n E.trimActive) ++
  s.slotNibbles ++ be 4 (s.n E.committedRef) ++ be 4 a.misses ++ a.faults.flatMap (be 4) ++ be 4 seq ++ padTo 32 chain
/-- The next record begins at `e` (R138, R139). -/
def State.attestNext (s : State) (e : T96) : State :=
  let a := s.bound.attest
  let conflict := s.disMembers.any (fun m => m.kind == 2)
  let flags := 4 * ofBool conflict + 8 * ofBool s.holly.safe
  let e0 := s.bound.e
  { s with bound := { s.bound with attest :=
      { started := true, start := e, maxCore := e0, maxOut := 0, maxAt := e, since := s.now, flags := flags, firstSeq := s.bound.written,
        nextSeq := a.nextSeq + 1, prev := a.prev, period := s.n E.attestPeriod } } }
/-- ATTEST_BOUNDARY (R138): Privet reaches a whole multiple of `ATTEST_PERIOD` after first lock; the record ends there, and its
ledger entry is written. -/
def execAttestBoundary (t : Nat) (s : State) : Host.Outcome State Fault Refusal :=
  timed t s fun s =>
    let period := s.n E.attestPeriod
    let unit := period * secondUnit
    let e := s.privet.time / unit * unit / 2 ^ 40
    let a := s.bound.attest
    if ¬ s.flag E.firstLock ∨ ¬ a.started ∨ ¬ s.atWhole unit ∨ e ≤ a.start then s
    else
      let s := s.attestAccrue
      let a := s.bound.attest
      let partial' := decide (a.nextSeq = 0 ∨ a.period ≠ period)
      let s := { s with bound := { s.bound with attest := { a with flags := setBit a.flags 5 partial' } } }
      let b := s.attestBytes e
      let s := { s with bound := { s.bound with signing := s.bound.signing ++ [(a.nextSeq, b)] } }
      (s.attestNext e).ledgerNote 19 (a.nextSeq % 16) a.nextSeq
/-- A record is signed, or left unsigned where the key may not be used (R139, R140), stored, and announced (R282). -/
def State.attestSign (s : State) (seq : Nat) (b : List Byte) : State :=
  let (got, s) := s.useKey s.attestUse
  let head (key : Nat) := b.take 12 ++ be 4 key ++ b.drop 16 ++ padTo 32 s.bound.attest.prev
  let (r, s) : List Byte × State := match got with
    | .key m =>
      let h := head (s.resolveRef (s.n E.attestKey))
      (h ++ padTo 64 (ecdsaSign m (sha256 h)), s.perfEvent 0x603 0)
    | _ => (head 0 ++ zeros 64, s.raise 15)
  let s := { s with bound := { s.bound with attest := { s.bound.attest with prev := sha256 r } } }
  let s := (s.setOct E.attestRecord (seq % 16) r).set E.attestSeq 0 seq
  let ev := be 1 0x30 ++ be 1 (seq % 16) ++ zeros 2 ++ be 4 seq ++ zeros 24
  (s.event 0 ev).event 1 ev
/-- ATTEST_SIGNED (R140): the oldest record in signing is done, where it belongs to buffer `i`. -/
def execAttestSigned (t : Nat) (i : Fin 16) (s : State) : Host.Outcome State Fault Refusal :=
  timed t s fun s =>
    match s.bound.signing with
    | (seq, b) :: rest =>
      if seq % 16 = i then ({ s with bound := { s.bound with signing := rest } }).attestSign seq b else s
    | [] => s

/-- The special entries of attestation. -/
def attestSpecials : List Special := [spAttestKey]

end Sys2Proof.Machine
end

