-- ==== Sys2Proof/Machine/Perf.lean ====
section
/-! DEFINITION. The performance monitor's commands and its work at a strobe edge (R435 to R443). -/

namespace Sys2Proof.Machine

/-- An event of a unit the mask marks absent (R436, R439). -/
def State.perfAbsent (s : State) (code unit : Nat) : Bool :=
  let hi (l : List Nat) := l.contains unit
  match code with
  | 0x501 | 0x502 => !s.present 0
  | 0x305 => !s.present 1 || (!s.present 5 && decide (8 ≤ unit ∧ unit < 16))
  | 0x101 | 0x102 => (!s.present 3 && hi [14, 15]) || (!s.present 0 && unit == 24)
  | 0x202 => !s.present 4 && hi [4, 5, 6, 7]
  | 0x301 | 0x302 | 0x303 | 0x304 | 0x380 | 0x381 | 0x382 => !s.present 5 && decide (8 ≤ unit ∧ unit < 16)
  | _ => false
/-- A unit lies in an event's range (R439): 0xFF always does. -/
def perfUnitOk (code unit : Nat) : Bool := decide (unit = 0xFF ∨ unit < (perfUnits code).getD 0)
/-- The ABSENT bit of a counter follows its event and unit. -/
def State.perfRefresh (s : State) (c : Nat) : State :=
  s.set E.perfStatus c (setBit (s.n E.perfStatus c) 2 (s.perfAbsent (s.n E.perfEvent c) (s.n E.perfUnit c)))
/-- The refusal of a setting while its counter runs (R436). -/
def State.perfBusy (s : State) (c : Nat) : List Nat := if s.perfRuns c then [0xA] else []
/-- An event suits a mode (R436). -/
def perfModeOk (code mode : Nat) : Bool :=
  decide (mode = 0) || (mode == 1 && !perfOccupancy code) || (mode == 2 && perfOccupancy code && (perfUnits code).isSome)
/-- `PERF_EVENT` (R436). -/
def spPerfEvent : Special where
  entry := E.perfEvent
  codes c s := s.perfBusy c.i ++
    (if (perfUnits c.v).isSome ∧ perfModeOk c.v (s.n E.perfMode c.i) ∧ perfUnitOk c.v (s.n E.perfUnit c.i) then [] else [7])
  apply c s := (s.set E.perfEvent c.i c.v).perfRefresh c.i
/-- `PERF_MODE` (R436). -/
def spPerfMode : Special where
  entry := E.perfMode
  codes c s := s.perfBusy c.i ++ (if perfModeOk (s.n E.perfEvent c.i) c.v then [] else [7])
/-- `PERF_UNIT` (R436). -/
def spPerfUnit : Special where
  entry := E.perfUnit
  codes c s := s.perfBusy c.i ++ (if perfUnitOk (s.n E.perfEvent c.i) c.v then [] else [7])
  apply c s := (s.set E.perfUnit c.i c.v).perfRefresh c.i
/-- `PERF_THRESH` (R436). -/
def spPerfThresh : Special where
  entry := E.perfThresh
  codes c s := s.perfBusy c.i

/-- `PERF_GLOBAL` (R438): BUSY until the strobe edge at which it acts. -/
def spPerfGlobal : Special where
  entry := E.perfGlobal
  apply c s := ({ s with perf := { s.perf with pend := some (c.v, s.now) } }).set E.perfGlobal 0 1
/-- PERF_START. -/
def execPerfStart (t : Nat) (m : Master) (s : State) : Host.Outcome State Fault Refusal := writeRow spPerfGlobal t m 0 [1] s
/-- PERF_STOP. -/
def execPerfStop (t : Nat) (m : Master) (s : State) : Host.Outcome State Fault Refusal := writeRow spPerfGlobal t m 0 [2] s
/-- PERF_CLEAR. -/
def execPerfClear (t : Nat) (m : Master) (s : State) : Host.Outcome State Fault Refusal := writeRow spPerfGlobal t m 0 [3] s

/-- A counter and its WRAP bit cleared. -/
def State.perfZero (s : State) (c : Nat) : State := (s.set E.perfCount c 0).set E.perfStatus c (setBit (s.n E.perfStatus c) 0 false)
/-- `PERF_CTRL` (R438, R443). -/
def spPerfCtrl : Special where
  entry := E.perfCtrl
  apply c s := s.perfZero c.i
/-- PERF_CTRL. -/
def execPerfCtrl (t : Nat) (m : Master) (c : Fin 128) (s : State) : Host.Outcome State Fault Refusal :=
  writeRow spPerfCtrl t m c [1] s
/-- `PERF_SAMPLE_CTRL` (R441). -/
def spSampleCtrl : Special where
  entry := E.perfSampleCtrl
  apply _ s := (({ s with perf := { s.perf with samples := [], seq := 0 } }).set E.perfSampleFill 0 0).set E.perfSampleLost 0 0
/-- PERF_SAMPLE_CTRL. -/
def execPerfSampleCtrl (t : Nat) (m : Master) (s : State) : Host.Outcome State Fault Refusal := writeRow spSampleCtrl t m 0 [1] s
/-- `PERF_SAMPLE_SEL` (R441): latches a record into the world's window; length 0 at or above the fill. -/
def spSampleSel : Special where
  entry := E.perfSampleSel
  apply c s := (s.set E.perfSampleSel c.i c.v).setOct E.perfSampleRec c.i (s.perf.samples.getD c.v [])
  world15 := true
/-- PERF_SAMPLE_SEL: window 0 is world 0's, 1 world 15's. -/
def execPerfSampleSel (t : Nat) (m : Master) (w : Fin 2) (v : Word) (s : State) : Host.Outcome State Fault Refusal :=
  writeRow spSampleSel t m w [v] s

/-- The events and ticks of a strobe interval handed to one counter (R436 to R438). -/
def State.perfFold (s : State) (c : Nat) : State :=
  if ¬ s.perfRuns c then s
  else
    let code := s.n E.perfEvent c
    let sum (l : List Nat) := l.foldl (· + ·) 0
    let k : Nat := if s.n E.perfMode c = 1 then
        sum ((s.perfUnitsOf c).map (fun u => if s.perfAbsent code u then 0 else tabGet 0 (code * 256 + u) s.perf.events))
      else if s.perfAbsent code (s.n E.perfUnit c) then 0 else tabGet 0 c s.perf.ticks
    let v := s.n E.perfCount c + k
    let s := s.set E.perfCount c (v % 2 ^ 64)
    if 2 ^ 64 ≤ v then s.set E.perfStatus c (setBit (s.n E.perfStatus c) 0 true) else s
/-- Ticks per issue slot (R442): 5, twice that under LEAN and twice on a PKY9612. -/
def State.slotTicks (s : State) : Nat :=
  5 * (if s.n E.trimActive = 4 then 2 else 1) * (if s.present 2 then 1 else 2)
/-- The slots of a strobe interval (R442): no packet waits in the model's pipeline, so a slot with no packet is FRONT_STARVED
(log 42). -/
def State.slotsFold (s : State) : State :=
  let n := (s.now - s.perf.slotsFrom) / s.slotTicks
  let total := s.n E.tdTotal + n
  let ret := s.n E.tdRetired + s.perf.retired
  let waste := s.n E.tdWasted + s.perf.wasted
  let s := (((s.set E.tdTotal 0 total).set E.tdRetired 0 ret).set E.tdWasted 0 waste).set E.tdFront 0 (total - ret - waste)
  { s with perf := { s.perf with retired := 0, wasted := 0, slotsFrom := s.perf.slotsFrom + n * s.slotTicks } }
/-- Every counter that is not OFF. -/
def State.perfOn (s : State) : List Nat := (List.range 128).filter (fun c => decide (s.n E.perfMode c ≠ 0))
/-- The totals of the interval are taken over, and a waiting command at least 16 ticks old acts (R437, R438, R442). -/
def State.perfStrobe (s : State) : State :=
  let cmd : Nat := match s.perf.pend with | some (v, at_) => if at_ + 16 ≤ s.now then v else 0 | none => 0
  let done (s : State) : State := ({ s with perf := { s.perf with pend := none } }).set E.perfGlobal 0 2
  let s := if cmd = 3 then
      let s := s.perfOn.foldl State.perfZero (done s)
      (((s.set E.tdTotal 0 0).set E.tdRetired 0 0).set E.tdWasted 0 0).set E.tdFront 0 0
    else s
  let s := if s.perf.running then
      let s := ((List.range 128).foldl State.perfFold s).slotsFold
      { s with perf := { s.perf with events := [], ticks := [] } }
    else s
  if cmd = 1 then
    let p := s.n E.perfSampleP
    let s := s.perfOn.foldl (fun s c => s.set E.perfStatus c (setBit (s.n E.perfStatus c) 1 true)) (done s)
    let f := s.perf
    let s := { s with perf := { f with
      running := true, events := [], ticks := [], retired := 0, wasted := 0, slotsFrom := s.now, skip := s.drawn (max 1 p) } }
    (s.drew).set E.perfRunning 0 1
  else if cmd = 2 then
    let s := (List.range 128).foldl (fun s c => s.set E.perfStatus c (setBit (s.n E.perfStatus c) 1 false)) (done s)
    ({ s with perf := { s.perf with running := false } }).set E.perfRunning 0 0
  else s

/-- The special entries of this chapter. -/
def perfSpecials : List Special :=
  [spPerfEvent, spPerfMode, spPerfUnit, spPerfThresh, spPerfGlobal, spPerfCtrl, spSampleCtrl, spSampleSel]

end Sys2Proof.Machine
end

