-- ==== Sys2Proof/Machine/Pins.lean ====
section
/-! DEFINITION. Temperatures, JTAG, and the clock output format (R463, R464, R467). -/

namespace Sys2Proof.Machine

/-- TEMP_READING (R463): every 100 ms; an open or shorted diode reads 0x8000_0000. -/
def execTempReading (t : Nat) (die : Int) (diode0 diode1 : Option Int) (s : State) : Host.Outcome State Fault Refusal :=
  timed t s fun s =>
    if ¬ s.atWhole (secondUnit / 10) then s
    else
      let s := (s.setInt E.dieTemp 0 die).corMax E.dieTempMax 0 die.toNat
      let s := s.setInt E.temp0Reading 0 (diode0.getD (-2 ^ 31))
      let s := s.setInt E.temp1Reading 0 (diode1.getD (-2 ^ 31))
      { s with yew := { s.yew with tempTicks := (List.range 3).foldl (fun (l : Tab Nat) k => tabPut 0 k s.now l) s.yew.tempTicks } }

/-- The identification code of R464, by part. -/
def idcodeOf (part : Part) : Nat := 0x2 * 2 ^ 28 + part.number * 2 ^ 12 + 0x2B7 * 2 + 1
/-- The low `n` bits of a number, least significant first. -/
def bitList (v n : Nat) : List Bool := (List.range n).map (bitOf v)
/-- A JTAG instruction acts: the port has a clock of its own, so it acts in reset too. A data register `reg`, nearest TDO
first, is captured and shifted by as many places as bits come in at TDI (IEEE 1149.1). -/
def jtagRow (t ir : Nat) (tdi : List Bool) (s : State) (reg : List Bool) (update : List Bool → Jtag → Jtag) :
    Host.Outcome State Fault Refusal :=
  let s := if s.power.held then s else s.runTo t
  let s := s.emit (.tdo ((reg ++ tdi).take tdi.length))
  .next { s with jtag := update ((reg ++ tdi).drop tdi.length) { s.jtag with instruction := ir, driving := false } }
/-- JTAG_BYPASS: the one-bit bypass register captures 0. -/
def execJtagBypass (t : Nat) (tdi : List Bool) (s : State) : Host.Outcome State Fault Refusal :=
  jtagRow t 0 tdi s [false] (fun _ j => j)
/-- JTAG_IDCODE. -/
def execJtagIdcode (t : Nat) (tdi : List Bool) (s : State) : Host.Outcome State Fault Refusal :=
  jtagRow t 1 tdi s (bitList (idcodeOf s.otp.part) 32) (fun _ j => j)
/-- JTAG_SAMPLE_PRELOAD: the pins are captured; what is shifted in waits in the cells. -/
def execJtagSamplePreload (t : Nat) (pins tdi : List Bool) (s : State) : Host.Outcome State Fault Refusal :=
  jtagRow t 2 tdi s pins (fun r j => { j with cells := r })
/-- JTAG_EXTEST: the cells drive the pins, and the pins are captured. -/
def execJtagExtest (t : Nat) (pins tdi : List Bool) (s : State) : Host.Outcome State Fault Refusal :=
  jtagRow t 3 tdi s pins (fun r j => { j with cells := r, driving := true })

/-- `CLKOUT_FORMAT` (R467). -/
def spClkoutFormat : Special where
  entry := E.clkoutFormat
  codes c s := if s.flag E.clkoutEnable c.i then [0xA] else []

end Sys2Proof.Machine
end

