-- ==== Sys2Proof/Machine/Strobe.lean ====
section
/-! DEFINITION. The epoch strobe's edge: what the leaves latch, and every change that falls due there, in the order of R103
(R16 to R22, R94 to R103, R114, R123, R130 to R135, R205, R438). -/

namespace Sys2Proof.Machine

/-! ### Leaves (R17, R21, R22) -/

/-- A strobe passes at a leaf without a usable named value (R22): a miss, and a SYNC copy coasts. -/
def State.leafMiss (s : State) (n : Nat) : State :=
  let x := s.leaf n
  if x.arrived then s
  else
    let s := (s.setLeaf n { x with misses := x.misses + 1, good := 0 }).bump E.copyMissed n
    if s.n E.copyState n = 1 then s.set E.copyState n 2 else s
/-- The cycle a leaf measures between two edges (R21), in 2⁻⁵⁶ ns: Privet's advance over the island's cycles; as before where it has
counted none. -/
def cycleOf (rate elapsed cycles : Nat) : Nat := if cycles = 0 then rate else elapsed * 65536 / cycles
/-- The edge at one leaf (R21, R116): the copy with its drift is latched, the path's order mark goes out, and a named value that came
before the edge is used. -/
def State.leafEdge (s : State) (x : StrobeObs) (elapsed n : Nat) : State :=
  let o : LeafObs := (x.leaves.find? (fun o => o.leaf.val == n)).getD ⟨0, 0, 0⟩
  let y := s.leaf n
  let copy := s.copy56 n
  let y := { y with
    before := copy, dev := y.dev + o.drift, floor := copy, latched := ((copy : Int) + o.drift).toNat / 2 ^ 40
    cycle := cycleOf (s.n E.copyRate n) elapsed o.cycles, arrived := false, early := none
    mark := if x.unmarked.any (fun k => k.val == n) then y.mark else s.now }
  let early := (s.leaf n).early
  let s := s.setLeaf n y
  match early with
  | some (v, r) => s.nameArrives n v r
  | none => s
/-- The leaves the edge reaches (R16): the fitted and calibrated ones. -/
def State.leavesOn (s : State) : List Nat := (List.range 64).filter s.leafOn
/-- The 136-bit value of an instant in 2⁻⁵⁶ ns as bytes: seconds, nanoseconds, 56 fraction bits (R90, R117). -/
def privetBytes (p : Nat) : List Byte := be 6 (p / (10 ^ 9 * 2 ^ 56)) ++ be 4 (p / 2 ^ 56 % 10 ^ 9) ++ be 7 (p % 2 ^ 56)
/-- The predicted residue of a result of the core arithmetic (R26, R117): 0 Privet's 136-bit value, 1 the core bound, 2 Yew's
integral, 3 the increment, 4 the slew change, 5 the half weight of a retard, 6 the step addition, 7 the UTC difference, 8 the smear
product. -/
def State.predicted (s : State) (k : Nat) : Nat :=
  let p := s.privet
  match k with
  | 0 => residue (privetBytes p.time)
  | 1 => residue (be 4 s.bound.e)
  | 2 => residue (be 8 (wordOfInt s.yew.integ).toNat)
  | 3 => residue (be 8 p.incr)
  | 4 => residue (be 8 (wordOfInt p.slew).toNat)
  | 5 => residue (be 8 (p.incr / 2))
  | 6 => residue (privetBytes ((p.time : Int) + (match p.pendStep with | some (d, _, _) => d * 2 ^ 40 | none => 0)).toNat)
  | 7 => residueDifference (residue (t96Bytes s.tai)) (residue (t96Bytes (ofSec s.taiUtc.toNat))) 0
  | _ => residue (be 8 (wordOfInt (s.smearShift s.tai)).toNat)
/-- The residue a result carries against the predicted one (R26, R30): a mismatch is counted and raised, from the Privet core, the
bound unit or Yew. -/
def State.coreResidue (s : State) (k carried : Nat) : State :=
  if carried = s.predicted k then s else (s.bump E.resErr).raise (if k < 3 then k else 0)

/-! ### Steps and retards (R98 to R104, R114) -/

/-- An armed slot whose command its island holds, carried from `from'` past one or more instances (R114): the last of them
is performed at the step tick, every one before it is counted. -/
def State.schedCarry (s : State) (from' : T96) (i : Nat) (x : Sched) : State :=
  if x.delivered ∧ from' < x.at_ ∧ x.at_ ≤ s.tai then
    let p := ofNs (s.n E.schedPeriod i)
    let n := if p = 0 then 0 else (s.tai - x.at_) / p
    (s.bump E.schedMissed i n).setArmed i (some { x with at_ := x.at_ + n * p, stepped := true })
  else s
/-- The first-lock step starts the first attestation record; any other step marks the one in progress (R138). -/
def State.attestStep (s : State) (first : Bool) : State :=
  let a := s.bound.attest
  if first then { s with bound := { s.bound with attest :=
    { started := true, start := s.tai, maxAt := s.tai, since := s.now, firstSeq := s.bound.written,
      nextSeq := a.nextSeq, prev := a.prev, period := s.n E.attestPeriod
      flags := 8 * ofBool s.holly.safe } } }
  else { s with bound := { s.bound with attest := { a with flags := setBit a.flags 7 true } } }
/-- Each PPSOUT begins, with an edge at least 1 s after the first-lock step (R80); until then it is undriven (log 123). -/
def State.pulsesFirst (s : State) : State :=
  ((List.range 8).foldl (fun s p => s.setPulse p { s.pulse p with notBefore := s.nowPs + 10 ^ 12, squelched := true }) s).ppsRefreshAll
/-- A forward step by `off` in 2⁻¹⁶ ns (R98, R114, R232, R235, R240, R260). -/
def State.stepForward (s : State) (off : Nat) (first : Bool) : State :=
  let from' := s.tai
  let fromPs := s.nowPs
  let d := off * 2 ^ 40
  let p := s.privet
  let s := { s with privet := { p with time := p.time + d, prev := p.time + d, moved := p.moved + d } }
  let s := s.sched.foldl (fun s x => s.schedCarry from' x.1 x.2) s
  let s := s.gnssRateStep from'
  (((s.synthStep d first).pulsesStep fromPs (s.nowPs - fromPs)).launchesStepped off).lanesStepped
/-- A retard of `off` in 2⁻¹⁶ ns starts (R100): slew is suspended, and Privet runs at half its increment. -/
def State.retardStart (s : State) (off : Nat) (first : Bool) : State :=
  let p := s.privet
  let s := { s with privet := { p with
    retard := off * 2 ^ 40, retardFull := off * 2 ^ 40, retarding := true, retardFrom := s.now, slew := 0, slewFrom := s.now, slewDone := 0 } }
  let s := s.lanesStepped
  if first then s.clksRealign.lanesRealign else s
/-- An accepted step takes effect (R98, R100, R135): requester 0 is first lock. -/
def State.stepEdge (s : State) : State :=
  match s.privet.pendStep with
  | some (off, tick, requester) =>
    if tick + 16 ≤ s.now then
      let first := decide (requester = 0)
      let s := { s with privet := { s.privet with pendStep := none } }
      let s := if 0 ≤ off then s.stepForward off.toNat first else s.retardStart off.natAbs first
      let s := s.bump E.privetStepCount
      let s := { s with gnss := { s.gnss with broken := some s.now, restart := true, fresh := true } }
      let s := s.attestStep first
      let s := if first then s.pulsesFirst else s
      { s with bound := { s.bound with
        due := ⟨12, 0, requester, sat32 (Int.tdiv off 65536), s.now - 16⟩ :: s.bound.due } }
    else s
  | none => s
/-- RETARD_END (R100, R232, R241): the full offset has been given up. -/
def execRetardEnd (t : Nat) (s : State) : Host.Outcome State Fault Refusal :=
  timed t s fun s =>
    if s.privet.retarding ∧ s.privet.retard = 0 then
      let gave := s.privet.retardFull
      let s := { s with privet := { s.privet with retarding := false, retardFull := 0 } }
      let s := { s with gnss := { s.gnss with broken := some s.now, restart := true, fresh := true } }
      s.synthStep (-(gave : Int)) false
    else s

/-! ### Increment and slew (R94 to R97) -/

/-- The changes of increment that reached the core 16 ticks ago take effect, the latest of them last (R94). -/
def State.incrEdge (s : State) : State :=
  let p := s.privet
  let ripe := p.pendIncr.filter (fun q => decide (q.2 + 16 ≤ s.now))
  { s with privet := { p with
    incr := (ripe.getLast?.map (·.1)).getD p.incr, pendIncr := p.pendIncr.filter (fun q => !decide (q.2 + 16 ≤ s.now)) } }
/-- The slew rate r of R96 in 10⁻¹⁸. -/
def State.slewRate (s : State) : Int :=
  min ((s.n E.privetSlewLimit : Int) * 10 ^ 6) ((s.n E.privetOutTol : Int) * 10 ^ 6 - s.trueFreq.natAbs)
/-- Whole steps of 2⁻⁵⁶ ns per tick at a slew rate (R96). -/
def slewSteps (r : Int) : Nat := (r * 2 ^ 57 / 10 ^ 18).toNat
/-- Slew requests that have waited 16 ticks join the remainder, and the interval's slew is fixed (R95, R96, R100). -/
def State.slewEdge (s : State) : State :=
  let p := s.privet
  let ripe := p.pendSlew.filter (fun q => decide (q.2 + 16 ≤ s.now))
  let remain := p.remain + (ripe.map (fun q => q.1 * 2 ^ 40)).foldl (· + ·) 0
  let p := { p with remain := remain, pendSlew := p.pendSlew.filter (fun q => !decide (q.2 + 16 ≤ s.now)),
                    slewFrom := s.now, slewDone := 0 }
  let steps := slewSteps s.slewRate
  if p.retarding then { s with privet := { p with slew := 0 } }
  else if remain ≠ 0 ∧ steps = 0 then
    let s' := { s with privet := { p with slew := 0, blocked := true } }
    if s.privet.blocked then s' else s'.raise 9
  else
    let total : Int := min (steps * 512) remain.natAbs
    let s := { s with privet := { p with slew := if remain < 0 then -total else total, blocked := false } }
    if remain ≠ 0 then s.perfEvent 0x002 0 else s

/-! ### The bound (R123, R130, R132, R135) -/

/-- The evaluation for the interval that begins now (R123, R130): E, the target and the terms with their entries. -/
def State.boundEval (s : State) : State :=
  let upto := s.now + 512
  let terms := s.boundTerms upto
  let s := if s.flag E.firstLock ∧ ¬ s.firstPending then
      let b := s.bound
      let target := terms.foldl boundAdd 0
      let r := releaseStep b.e b.target b.release target s.now (ticksS (s.n E.releasePeriod))
      if b.coreHeld then { s with bound := { b with target := target, release := none } }
      else { s with bound := { b with e := r.1, target := target, release := r.2 } }
    else s
  let s := { s with bound := { s.bound with held := none } }
  let s := (s.set E.boundCore 0 s.bound.e).set E.boundTarget 0 s.bound.target
  terms.zipIdx.foldl (fun s p => s.set E.boundTerm p.2 p.1) s
/-- The largest emitted core bound of the attestation interval (R139). -/
def State.attestMax (s : State) : State :=
  let a := s.bound.attest
  if a.started ∧ a.maxCore < s.bound.e then
    { s with bound := { s.bound with attest := { a with maxCore := s.bound.e, maxAt := s.tai } } }
  else s
/-- The terms a bound step is looked for in: without what a retard has still to give up, and B_hold at tick `at_`. -/
def State.stepTerms (s : State) (at_ : Nat) : List Bound :=
  let l := s.boundTerms at_
  let loop := match (s.bound.held.getD (s.parts, s.bound.hold)).2 with
    | some _ => 0
    | none => if s.n E.hbSelected < 32 then boundAdd s.trackAllow (boundOf s.slewPs) else 0
  [l.getD 0 0, l.getD 1 0, loop, l.getD 3 0, l.getD 4 0, l.getD 5 0]
/-- The entry with the largest change: its place and the change. -/
def largest (l : List Int) : Nat × Int :=
  l.zipIdx.foldl (fun a p => if a.2.natAbs < p.1.natAbs then (p.2 + 1, p.1) else a) (0, 0)
/-- Ledger kinds that cover a change of the target (R135). -/
def coversStep (kind : Nat) : Bool := [1, 2, 3, 5, 6, 7, 8, 9, 13, 14, 15].contains kind
/-- Ledger kinds whose event does not itself change E (R135). -/
def keepsBound (kind : Nat) : Bool := [10, 12, 16, 18, 19].contains kind
/-- The slot a bound step is about (R135, log 124): the first open disagreement record's for B_dis, else the selected one. -/
def State.stepSource (s : State) (term : Nat) : Nat :=
  match (if term = 6 then s.disMembers.head? else none) with
  | some m => m.a
  | none => if s.n E.hbSelected < 32 then s.n E.hbSelected else 0xFFFF
/-- The ledger entries due at this edge (R135): `old` is E before it; a bound step where no other kind covers it. -/
def State.ledgerFlush (s : State) (old : Bound) (was now' : List Bound) : State :=
  let ripe := s.bound.due.filter (fun d => decide (d.tick + 16 ≤ s.now))
  let new := s.bound.e
  let s := { s with bound := { s.bound with due := s.bound.due.filter (fun d => !decide (d.tick + 16 ≤ s.now)) } }
  let s := ripe.foldl (fun s d =>
    s.ledgerAdd d.kind d.term d.source (if keepsBound d.kind then new else old) new d.detail (s.copy 0x001)) s
  let diff := (now'.zip was).map (fun p => (p.1 : Int) - p.2)
  let total := diff.foldl (· + ·) 0
  if was.isEmpty ∨ total.natAbs ≤ s.n E.ledgerStepMin ∨ ripe.any (fun d => coversStep d.kind) then s
  else
    let (term, change) := largest diff
    s.ledgerAdd 5 term (s.stepSource term) old new (sat32 change) (s.copy 0x001)
/-- The out-of-tolerance test of every strobe (R132). -/
def State.ootEdge (s : State) : State :=
  let b := s.bound
  if s.ootHolds then
    if b.oot then { s with bound := { b with ootClear := none } }
    else
      let s := { s with bound := { b with oot := true, ootClear := none, ootAt := s.now } }
      s.ootEnter (boundAdd s.bound.e s.aMax) (s.now - 16)
  else if b.oot ∧ b.ootClear.isNone then { s with bound := { b with ootClear := some s.now } }
  else s
/-- SAFE_ENTER (R135, R422), at the first edge 16 ticks after the detection. -/
def State.safeEdge (s : State) : State :=
  match s.bound.pendSafe with
  | some (src, sev, old) =>
    if s.holly.safeAt + 16 ≤ s.now then
      let s := { s with bound := { s.bound with pendSafe := none } }
      s.ledgerAdd 16 0 src (if src ≤ 1 then old else s.bound.e) s.bound.e sev (s.copy 0x001)
    else s
  | none => s
/-- The bound unit's work at the edge. -/
def State.boundEdge (s : State) : State :=
  let old := s.bound.e
  let was := s.bound.lastTerms
  let now' := if s.flag E.firstLock ∧ ¬ s.firstPending then s.stepTerms s.now else []
  let next := if s.flag E.firstLock ∧ ¬ s.firstPending then s.stepTerms (s.now + 512) else []
  let s := ((s.boundEval).attestMax).ootEdge
  let s := { s with bound := { s.bound with lastTerms := next } }
  (s.safeEdge).ledgerFlush old was now'

/-! ### The edge -/

/-- A decided selection takes effect with its ledger entries and terms at this very edge (R123, R167). -/
def State.selectionDue (s : State) : State :=
  let n := s.bound.due.length
  let held := s.bound.held
  let was := s.n E.hbSelected
  let s := s.selectionEdge
  let b := s.bound
  { s with bound := { b with
    due := b.due.take n ++ (b.due.drop n).map (fun (d : DueEntry) => { d with tick := s.now - 16 })
    held := if s.n E.hbSelected = was then held else none } }

/-- The strobe's edge (R16 to R18, R103, R123, R205): counted; the leaves, the changes due in their order, the selection and the
bound; then the counter banks, ports, monitor and pulse islands. -/
def State.strobe (s : State) (x : StrobeObs) : State :=
  let s := s.attestAccrue
  let elapsed := s.privet.time - s.islands.edgeTime
  let s := s.leavesOn.foldl State.leafMiss s
  let s := { s with islands := { s.islands with strobes := s.islands.strobes + 1, strobeAt := some s.now } }
  let s := s.perfEvent 0x001 0
  let s := x.residues.foldl (fun s r => s.coreResidue r.1.val r.2) s
  let s := s.stepEdge.incrEdge.slewEdge
  let s := { s with islands := { s.islands with strobeValue := s.tai, edgeTime := s.privet.time } }
  let s := s.leavesOn.foldl (fun s n => s.leafEdge x elapsed n) s
  let s := s.selectionDue.boundEdge
  let s := (if s.boot.stage6 ∧ s.counters.loadStrobe.isNone then s.banksLoad else s.banksCheck x.banks).ticFlush
  let s := x.moved.foldl (fun s p => s.portRecal p.val) s
  s.perfStrobe.pulseFault
/-- EPOCH_STROBE (R16): one every 512 ticks, landing 16 ticks after its launch (log 5). -/
def execEpochStrobe (t : Nat) (x : StrobeObs) (s : State) : Host.Outcome State Fault Refusal :=
  timed t s fun s => if s.now % 512 = 16 ∧ s.islands.strobeAt ≠ some s.now then s.strobe x else s

end Sys2Proof.Machine
end

