-- ==== Sys2Proof/Machine/Holly.lean ====
section
/-! DEFINITION. Holly's commands: fault events, records, the safe state's causes, maintenance and self-test (R413 to R434). -/

namespace Sys2Proof.Machine

/-! ### Events and conditions (R30, R413 to R421) -/

/-- The counters of R30 that an event of a source also moves. -/
def State.faultCounters (s : State) (src : Nat) : State :=
  if src = 0 ∨ src = 1 ∨ src = 2 ∨ src = 4 ∨ src % 64 = 59 then s.bump E.resErr
  else if src % 64 = 56 then s.bump E.eccCorr
  else if src % 64 = 57 ∨ [256, 257, 320, 384].contains src then s.bump E.eccUncorr
  else s
/-- An item of a FIFO is discarded (R30). -/
def State.discardItem (s : State) (i : Nat) : Fifo → State
  | .stamps p => (s.setPort p { s.port p with queue := (s.port p).queue.eraseIdx i }).portRefresh p
  | .launch p => s.setPort p { s.port p with arriving := (s.port p).arriving.eraseIdx i }
  | .tap => { s with tap := { s.tap with records := s.tap.records.eraseIdx i } }
  | .spiEvents => { s with host := { s.host with spiEvents := s.host.spiEvents.eraseIdx i } }
  | .spiReplies => { s with host := { s.host with spiReplies := s.host.spiReplies.eraseIdx i } }
/-- What a memory error does to what it struck (R27, R30): a corrected word waits for its write-back; a FIFO's item and a record
of navigation memory are discarded. -/
def State.strike (s : State) (src : Nat) : Struck → State
  | .word a w =>
    if src % 64 = 56 then { s with islands := { s.islands with writeBack := (a.val, w) :: s.islands.writeBack } } else s
  | .item f i => if src % 64 = 57 then s.discardItem i f else s
  | .record i => if src = 320 then { s with gnss := { s.gnss with keep := s.gnss.keep.eraseIdx i } } else s
  | .nothing => s
/-- FAULT_EVENT (R413 to R420): the event of a source a unit detects. -/
def execFaultEvent (t : Nat) (src : Fin 512) (severity : Option (Fin 4)) (what : FaultWhat) (world : Nat) (s : State) :
    Host.Outcome State Fault Refusal :=
  timed t s fun s =>
    if ¬ isSource src ∨ s.sourceAbsent src ∨ s.holly.selfFault then s
    else ((s.strike src what.struck).faultCounters src).raise src (severity.map (·.val)) what.detail world
/-- A CONDITION source's condition still holds in its unit. -/
def State.conditionHeld (s : State) (src : Nat) : Bool :=
  if src % 64 = 58 then s.domainStalled (src / 64)
  else if src % 64 = 60 then s.holly.failed.any (fun i => i / 256 = src / 64)
  else match src with
    | 5 | 448 => true
    | 452 => s.holly.asserted.contains 452
    | 12 => s.bound.oot
    | 13 => decide (s.n E.hbConflictSlots ≠ 0)
    | 18 => s.yew.ambiguous
    | 65 => (List.range 26).any (fun c => s.chBit c 3 || s.chBit c 4)
    | 129 => s.unsync 0x204 && (List.range 4).any (fun p => decide (s.n E.ppsState p ≠ 0)) ||
        s.unsync 0x205 && (List.range 4).any (fun p => decide (s.n E.ppsState (4 + p) ≠ 0))
    | 322 => decide (s.n E.gnssJamWarn ≤ max (s.n E.gnssJamL1) (s.n E.gnssJamL5))
    | 323 => s.gnss.trip.isSome
    | 385 => decide (s.n E.vaultState = 2 ∨ s.n E.anchorBootResult = 3)
    | 386 => decide (s.n E.drbgState = 2)
    | _ => false
/-- CONDITION_END (R414, R421): a condition that no longer holds. -/
def execConditionEnd (t : Nat) (src : Fin 512) (s : State) : Host.Outcome State Fault Refusal :=
  timed t s fun s => if isCondition src ∧ ¬ s.conditionHeld src then s.deassert src else s
/-- HANDLING_END (R419 to R421): the merge window of a record is over. -/
def execHandlingEnd (t : Nat) (rec : Fin 256) (s : State) : Host.Outcome State Fault Refusal :=
  timed t s fun s =>
    let x := s.record rec
    if x.state = 1 ∧ x.tick + ticksUs (s.n E.hollyMergeWindow) ≤ s.now ∧ ¬ s.holly.selfFault then
      let s := if x.merged = 0 then s else s.sendRecord rec false
      let s := s.setRecord rec { s.record rec with state := 2 }
      if s.autoClears rec then s.clearRecord rec else s
    else s
/-- PROMOTION_EXPIRY (R416). -/
def execPromotionExpiry (t : Nat) (src : Fin 512) (s : State) : Host.Outcome State Fault Refusal :=
  timed t s fun s => if s.n E.fltState src = 2 ∧ ¬ s.holly.selfFault then s.sourceRefresh src else s

/-- The record a handle names with its current generation (R418). -/
def State.recordOf (s : State) (handle : Nat) : Option Nat :=
  let l := handle / 2 ^ 24
  if l < 256 ∧ (s.record l).state ≠ 0 ∧ (s.record l).gen % 2 ^ 24 = handle % 2 ^ 24 then some l else none
/-- `FLT_CLEAR` (R421); when the safe state ends, selection runs over the slots as R424 leaves them. -/
def spFltClear : Special where
  entry := E.fltClear
  codes c s :=
    match s.recordOf c.v with
    | none => [0xC]
    | some l =>
      let x := s.record l
      if x.state = 3 then []
      else (if x.sources.contains 5 ∨ x.sources.contains 448 then [4] else []) ++
        (if x.sources.any (fun p => isCondition p && s.holly.asserted.contains p) then [0xA] else [])
  apply c s :=
    match s.recordOf c.v with
    | some l =>
      if (s.record l).state = 3 then s
      else
        let s' := s.clearRecord l
        if s.holly.safe ∧ ¬ s'.holly.safe then s'.settle true else s'
    | none => s
  world15 := true
/-- FLT_CLEAR. -/
def execFltClear (t : Nat) (m : Master) (v : Word) (s : State) : Host.Outcome State Fault Refusal := writeRow spFltClear t m 0 [v] s

/-! ### Source settings (R413 to R416, R421) -/

/-- A reserved source's block refuses every write (R413). -/
def reservedSource (i : Nat) : List Nat := if isSource i then [] else [7]
/-- `FLT_SEVERITY` (R414, R415, R421). -/
def spFltSeverity : Special where
  entry := E.fltSeverity
  codes c s := reservedSource c.i ++ (if c.i = 449 then [3] else []) ++
    (if isFixed c.i ∨ (c.v = 3 ∧ s.flag E.fltAutoclear c.i) then [7] else [])
/-- `FLT_N` (R416). -/
def spFltN : Special where
  entry := E.fltN
  codes c _ := reservedSource c.i
  apply c s := (s.set E.fltN c.i c.v).sourceRefresh c.i
/-- `FLT_W` (R416). -/
def spFltW : Special where
  entry := E.fltW
  codes c _ := reservedSource c.i
  apply c s := (s.set E.fltW c.i c.v).sourceRefresh c.i
/-- `FLT_WORLDS` (R417). -/
def spFltWorlds : Special where
  entry := E.fltWorlds
  codes c _ := reservedSource c.i
/-- `FLT_AUTOCLEAR` (R421). -/
def spFltAutoclear : Special where
  entry := E.fltAutoclear
  codes c s := reservedSource c.i ++ (if c.v = 1 ∧ s.sourceSeverity c.i = 3 then [7] else [])
/-- `CHECK_SEVERITY` (R66, R421). -/
def spCheckSeverity : Special where
  entry := E.checkSeverity
  codes c s := if c.v = 3 ∧ s.flag E.fltAutoclear 449 then [7] else []

/-! ### The causes that last (R425 to R427) -/

/-- OSCIN_LOSS (R425): no edge for 200 ns; Privet stops, and the safe state lasts until reset. -/
def execOscinLoss (t : Nat) (s : State) : Host.Outcome State Fault Refusal :=
  timed t s fun s =>
    if s.power.oscin then ({ s with power := { s.power with oscin := false } }).raise 5 else s
/-- HOLLY_SELF (R426): the error drives the safe line directly; records and counters stop. -/
def execHollySelf (t : Nat) (cause : SelfCause) (s : State) : Host.Outcome State Fault Refusal :=
  timed t s fun s =>
    if s.holly.selfFault then s
    else
      let s := match cause with | .secded => s.bump E.eccUncorr | .residue => s.bump E.resErr
      let s := s.enterSafe 448 3
      let s := { s with holly := { s.holly with selfFault := true, asserted := s.holly.asserted ++ [448] } }
      (s.set E.fltState 448 1).set E.hollySelfFault 0 (match cause with | .secded => 1 | .residue => 2)
/-- `MAINT_CTRL` (R427). -/
def spMaintCtrl : Special where
  entry := E.maintCtrl
  codes c s := (if c.v = 1 ∨ c.v = 2 then [] else [7]) ++ (if c.v = 2 ∧ s.n E.bistState = 1 then [0xA] else [])
  apply c s := if c.v = 1 then s.raise 452 else s.deassert 452
  world15 := true
/-- MAINT_ENTER. -/
def execMaintEnter (t : Nat) (m : Master) (s : State) : Host.Outcome State Fault Refusal := writeRow spMaintCtrl t m 0 [1] s
/-- MAINT_LEAVE. -/
def execMaintLeave (t : Nat) (m : Master) (s : State) : Host.Outcome State Fault Refusal := writeRow spMaintCtrl t m 0 [2] s

/-! ### Self-test (R429 to R431, R434) -/

/-- The islands of the variant, in the order of the BIST blocks (R434). -/
def State.islandList (s : State) : List Nat := allIslands.filter s.islandFitted
/-- The BIST block of an island. -/
def State.bistBlock (s : State) (i : Nat) : Nat := (s.islandList.findIdx? (· == i)).getD 255
/-- Tested only in stage 3 (R429): Privet core, bound unit, control island, Holly. -/
def coreIsland (i : Nat) : Bool := [0x000, 0x001, 0x702, 0x703].contains i
/-- The islands a target names (R429); none for a target that names no island. -/
def bistTarget (v : Nat) : List Nat :=
  let x := v % 4096
  if x % 256 = 255 then allIslands.filter (fun i => decide (i / 256 = x / 256)) else allIslands.filter (· == x)
/-- The target is allowed in the current state (R429). -/
def State.bistAllowed (s : State) (v : Nat) : Bool :=
  let x := v % 4096
  let maint := s.holly.asserted.contains 452
  if x % 256 = 255 then maint
  else if coreIsland x then false
  else if 0x610 ≤ x ∧ x < 0x618 then
    let role := s.n E.laneState (x - 0x610)
    maint || decide (role = 0) || (List.range 8).any (fun l => l != x - 0x610 && decide (s.n E.laneState l = role))
  else if 0x510 ≤ x ∧ x < 0x518 then true
  else maint
/-- An island goes under test (R430). -/
def State.testIsland (s : State) (i : Nat) : State :=
  let s := s.set E.bistIslandState (s.bistBlock i) 1
  if 0x610 ≤ i ∧ i < 0x618 then s.set E.laneState (i - 0x610) 3
  else if 0x510 ≤ i ∧ i < 0x518 then s.clusterTest (i - 0x510)
  else s
/-- `FLT_STATE` of a domain's sources follows what is under test (R430). -/
def State.maskRefresh (s : State) (d : Nat) : State :=
  ((List.range 64).filter (fun l => isSource (64 * d + l))).foldl (fun s l => s.sourceRefresh (64 * d + l)) s
/-- What is under test for a target (R429, R430): its fitted islands but the core ones, and the domain's own mark where the target
is a domain. -/
def State.testSet (s : State) (v : Nat) : List Nat :=
  (bistTarget v).filter (fun i => s.islandFitted i && !coreIsland i) ++ (if v % 256 = 255 then [v % 4096] else [])
/-- `BIST_START` (R429, R430). -/
def spBistStart : Special where
  entry := E.bistStart
  codes c s :=
    let l := bistTarget c.v
    (if s.n E.bistState = 1 then [0xA] else []) ++
    (if ¬ l.isEmpty ∧ ¬ l.any s.islandFitted then [2] else []) ++
    (if c.v / 4096 = 0 ∨ 4 ≤ c.v / 4096 ∨ l.isEmpty ∨ ¬ s.bistAllowed c.v then [7] else [])
  apply c s :=
    let s := s.set E.bistStart 0 c.v
    let l := s.testSet c.v
    let s := { s with holly := { s.holly with testing := l, testKind := c.v / 4096 % 4, testFailed := false } }
    ((l.filter (fun i => i % 256 ≠ 255)).foldl State.testIsland s |>.set E.bistState 0 1).maskRefresh (c.v % 4096 / 256)
/-- BIST_START. -/
def execBistStart (t : Nat) (m : Master) (v : Word) (s : State) : Host.Outcome State Fault Refusal := writeRow spBistStart t m 0 [v] s

/-- The signatures of an island are those expected (R431); with no expected memory signature it has no arrays (R434). -/
def State.bistPass (s : State) (i kind sigLogic sigMem : Nat) : Bool :=
  (!bitOf kind 0 || decide (sigLogic = tabGet 0 i s.otp.expectLogic)) &&
  (!bitOf kind 1 || decide (tabGet 0 i s.otp.expectMem = 0 ∨ sigMem = tabGet 0 i s.otp.expectMem))
/-- The signature and result of an island in its block; a failed island stays out of use and asserts its domain's source. -/
def State.bistResult (s : State) (i kind sigLogic sigMem : Nat) : State :=
  let pass := s.bistPass i kind sigLogic sigMem
  let sig := if bitOf kind 1 ∧ tabGet 0 i s.otp.expectMem ≠ 0 then sigMem else sigLogic
  let b := s.bistBlock i
  let s := (s.set E.bistSigHi b (sig / 2 ^ 64)).set E.bistSigLo b (sig % 2 ^ 64)
  let s := s.set E.bistIslandState b (if pass then 2 else 3)
  let rest := s.holly.failed.filter (· ≠ i)
  let s := { s with holly := { s.holly with failed := if pass then rest else rest ++ [i] } }
  if pass then (if rest.any (fun j => j / 256 = i / 256) then s else s.deassert (64 * (i / 256) + 60))
  else s.raise (64 * (i / 256) + 60) none i
/-- What a memory test leaves of the arrays the model holds (R431). -/
def State.arraysZero (s : State) (i : Nat) : State :=
  if 0x402 ≤ i ∧ i < 0x406 then
    let b := i - 0x402
    (s.ptp.clients.filter (fun p => decide (p.1 / 262144 = b))).foldl (fun s p => s.invalidateClient p.1) s
  else if i = 0x406 then
    s.framesDrop (fun _ => true)
  else if i = 0x502 then { s with gnss := { s.gnss with keep := [] } }
  else if i = 0x600 then
    let zero (x : Shares) : Shares := ⟨zeros x.a.length, zeros x.b.length⟩
    ({ s with vault := { s.vault with keys := s.vault.keys.map (fun (p : Nat × Shares) => (p.1, zero p.2)) } }).cacheSet []
  else if i = 0x704 then ({ s with perf := { s.perf with samples := [] } }).set E.perfSampleFill 0 0
  else s
/-- BIST_COMPLETE (R430, R431): one island's test ends; the last one ends the test. -/
def execBistComplete (t island sigLogic sigMem : Nat) (s : State) : Host.Outcome State Fault Refusal :=
  timed t s fun s =>
    if ¬ s.holly.testing.contains island ∨ island % 256 = 255 then s
    else
      let kind := s.holly.testKind
      let rest := s.holly.testing.filter (· ≠ island)
      let left := if rest.all (fun i => i % 256 = 255) then [] else rest
      let pass := s.bistPass island kind sigLogic sigMem
      let s := { s with holly := { s.holly with testing := left, testFailed := s.holly.testFailed || !pass } }
      let s := if bitOf kind 1 then s.arraysZero island else s
      let s := s.maskRefresh (island / 256)
      let s := s.bistResult island kind sigLogic sigMem
      let s := if 0x610 ≤ island ∧ island < 0x618 then
          s.set E.laneState (island - 0x610) (if pass then laneRole (s.n E.trimActive) (island - 0x610) else 0)
        else if 0x510 ≤ island ∧ island < 0x518 ∧ pass then s.set E.gnssStartKind 0 2
        else s
      if left.isEmpty then s.set E.bistState 0 (if s.holly.testFailed then 3 else 2) else s

/-- The special entries of this chapter. -/
def hollySpecials : List Special :=
  [spFltClear, spFltSeverity, spFltN, spFltW, spFltWorlds, spFltAutoclear, spCheckSeverity, spMaintCtrl, spBistStart]

end Sys2Proof.Machine
end

