-- ==== Sys2Proof/Machine/BringOps.lean ====
section
/-! DEFINITION. The writable entries of start-up, lifecycle and trim profiles, and how an image is laid out (R73 to R76, R81,
R82, R86 to R88). -/

namespace Sys2Proof.Machine

/-! ### Lifecycle (R81, R82) -/

/-- An ACTIVE anchor has the role. -/
def State.anchorWith (s : State) (role : Nat) : Bool :=
  (List.range 16).any (fun a => decide (1 ≤ a ∧ s.n E.anchorState a = 1 ∧ s.n E.anchorRole a = role))
/-- The codes of a transition request (R81). -/
def State.transitionCodes (s : State) (to' : Nat) : List Nat :=
  match s.n E.lifecycle, to' with
  | 1, 2 => if s.anchorWith 1 && s.anchorWith 2 then [] else [9]
  | 2, 3 => if s.control.matched then [] else [9]
  | 4, _ => [7]
  | _, 4 => []
  | _, _ => [7]
/-- `LIFECYCLE_REQ` (R81, R82, R478): the fuses take up to 5 ms. -/
def spLifecycleReq : Special where
  entry := E.lifecycleReq
  codes c s := (if c.w = 15 ∧ c.v ≠ 4 then [3] else []) ++ s.transitionCodes c.v ++
    (if s.boot.burning.isSome then [0xA] else [])
  apply c s :=
    let s := s.set E.lifecycleReq 0 c.v
    { s with boot := { s.boot with burning := some (c.v, s.now + ticksMs 5) } }
  world15 := true
/-- LIFECYCLE_REQ. -/
def execLifecycleReq (t : Nat) (m : Master) (v : Word) (s : State) : Host.Outcome State Fault Refusal :=
  writeRow spLifecycleReq t m 0 [v] s
/-- The root, every key it led to and every anchor are gone (R81, R385). -/
def State.zeroise (s : State) : State :=
  let s := { s with otp := { s.otp with root := {} }
                    vault := { s.vault with keys := [], cache := [], running := [], kept := [], shadows := [], commit := none } }
  let s := (s.setAnchors []).cacheSet []
  let s := (s.declared.filter (fun k => decide (s.n E.keyState k = 3))).foldl (fun s k =>
    ((s.set E.keyState k 2).set E.keyKcv k 0).setOct E.keyPubkey k []) s
  let s := (List.range 16).foldl (fun s a => if a = 0 then s else s.shadowEmpty a) s
  s.set E.vaultState 0 3
/-- A lifecycle state takes effect; RETIRED zeroises the root (R81). -/
def State.enterLifecycle (s : State) (l : Nat) : State :=
  let s := ({ s with otp := { s.otp with lifecycle := l }, boot := { s.boot with burning := none } }).set E.lifecycle 0 l
  if l = 4 then s.zeroise else s
/-- LIFECYCLE_BURN_COMPLETE (R82). -/
def execLifecycleBurnComplete (t : Nat) (s : State) : Host.Outcome State Fault Refusal :=
  timed t s fun s =>
    match s.boot.burning with
    | some (l, _) => s.enterLifecycle l
    | none => s

/-- `BOOT_OPTIONS_BURN` (R88): sets OTP bits, which the next OTP load takes into `BOOT_OPTIONS`. -/
def spBootOptionsBurn : Special where
  entry := E.bootOptionsBurn
  codes c s := (if s.n E.lifecycle = 1 ∨ s.n E.lifecycle = 2 then [] else [9]) ++ (if c.v < 4 then [] else [7])
  apply c s := { s with otp := { s.otp with bootOptions := s.otp.bootOptions.lor c.v } }
/-- BOOT_OPTIONS_BURN. -/
def execBootOptionsBurn (t : Nat) (m : Master) (v : Word) (s : State) : Host.Outcome State Fault Refusal :=
  writeRow spBootOptionsBurn t m 0 [v] s

/-! ### Trim profiles (R86, R87) -/

/-- `TRIM_PROFILE`: applied at the first whole second after the write (R87). -/
def spTrimProfile : Special where
  entry := E.trimProfile
  apply c s :=
    let s := s.set E.trimProfile 0 c.v
    { s with boot := { s.boot with trimAt := some s.now } }
/-- TRIM_PROFILE. -/
def execTrimProfile (t : Nat) (m : Master) (v : Word) (s : State) : Host.Outcome State Fault Refusal :=
  writeRow spTrimProfile t m 0 [v] s
/-- The power cap of a profile in W (R86, R453). -/
def powerCapOf (part : Part) (profile : Nat) : Nat :=
  let l := match part with
    | .pky9620 => [42, 44, 46, 42, 28] | .pky9616 => [38, 41, 42, 37, 25] | .pky9612 => [24, 25, 26, 24, 16]
  l.getD profile (l.headD 0)
/-- The lanes take the roles of a profile; a lane under test or failed keeps its state (R86, R430). -/
def State.lanesTrim (s : State) : State :=
  (List.range 8).foldl (fun s l =>
    if s.n E.laneState l = 3 ∨ s.holly.failed.contains (0x610 + l) then s
    else s.set E.laneState l (laneRole (s.n E.trimActive) l)) s
/-- Client slots at or above the new limit are invalidated, their generations advanced, and counted (R87). -/
def State.trimClients (s : State) : State :=
  (s.ptp.clients.filter (fun p => p.2.used && decide (s.clientLimit ≤ p.1))).foldl (fun s p =>
    ((s.cancelGrants p.1).invalidateClient p.1).bump E.trimEvicted) s
/-- A profile comes into force (R87): stamps, lanes, correlators, clients; a ledger entry names old and new (R135). -/
def State.trimChange (s : State) (new : Nat) : State :=
  let old := s.n E.trimActive
  let was (b : Nat) := s.correlators b
  let s := s.termTouch.set E.trimActive 0 new
  let s := (s.lanesTrim.gnssTrim was).trimClients
  let s := (List.range 32).foldl State.termsRefresh s
  s.ledgerDue 15 0 new old
/-- TRIM_APPLY (R87): at the first whole second after the write. -/
def execTrimApply (t : Nat) (s : State) : Host.Outcome State Fault Refusal :=
  timed t s fun s =>
    match s.boot.trimAt with
    | some w =>
      if w < s.now ∧ s.atSecond then
        let s := { s with boot := { s.boot with trimAt := none } }
        if s.n E.trimProfile = s.n E.trimActive then s else s.trimChange (s.n E.trimProfile)
      else s
    | none => s

/-! ### Images (R73 to R76) -/

/-- An entry record of an image: index, subindex, words. -/
structure ImageRecord where
  index : Nat
  sub : Nat
  words : List Word
deriving DecidableEq, Repr

/-- The words that `8 * n` bytes spell, most significant byte first. -/
def wordsOfBytes : Nat → List Byte → List Word
  | 0, _ => []
  | n + 1, b => BitVec.ofNat 64 (beAt b 0 8) :: wordsOfBytes n (b.drop 8)
/-- `n` entry records that take up bytes exactly; `none` where they do not (R75, R76). -/
def parseRecords : Nat → List Byte → Option (List ImageRecord)
  | 0, b => if b.isEmpty then some [] else none
  | n + 1, b =>
    let w := beAt b 3 1
    if w < 1 ∨ 32 < w ∨ b.length < 4 + 8 * w then none
    else
      (parseRecords n (b.drop (4 + 8 * w))).map
        (fun r => ⟨beAt b 0 2, beAt b 2 1, wordsOfBytes w (b.drop 4)⟩ :: r)

/-- MAGIC of an image (R75). -/
def imageMagic (b : List Byte) : Bool := decide (beAt b 0 4 = 0x48534B4F ∧ 40 ≤ b.length)
/-- SERIAL of an image. -/
def imageSerialOf (b : List Byte) : Nat := beAt b 32 4
/-- KEY of an image. -/
def imageKeyOf (b : List Byte) : Nat := beAt b 28 4
/-- The records of an image whose VERSION, COUNT and LENGTH agree with them (check 1 of R76). -/
def imageRecords (b : List Byte) : Option (List ImageRecord) :=
  let count := beAt b 20 4
  let length := beAt b 36 4
  if imageMagic b ∧ beAt b 4 2 = 1 ∧ 1 ≤ count ∧ count ≤ 8192 ∧ 104 ≤ length ∧ length ≤ b.length then
    parseRecords count ((b.take (length - 64)).drop 40)
  else none
/-- The digest and the signature of an image (R75). -/
def imageDigest (b : List Byte) : List Byte := sha256 (b.take (beAt b 36 4 - 64))
/-- SIG of an image. -/
def imageSig (b : List Byte) : List Byte := (b.drop (beAt b 36 4 - 64)).take 64

/-- Bytes 0 to `n - 1` as the SPI target's image chunks give them, later ones over earlier ones (R288). -/
def stagedImage (n : Nat) (chunks : List (Nat × List Byte)) : List Byte :=
  chunks.foldl (fun b c => padTo n (b.take c.1 ++ zeros (c.1 - b.length) ++ c.2 ++ b.drop (c.1 + c.2.length))) (zeros n)
/-- The chunks cover every byte. -/
def stagedWhole (n : Nat) (chunks : List (Nat × List Byte)) : Bool :=
  let m := chunks.foldl (fun b c =>
    let b' := b.take c.1 ++ List.replicate (c.1 - b.length) false ++ List.replicate c.2.length true ++ b.drop (c.1 + c.2.length)
    b'.take n ++ List.replicate (n - b'.length) false) (List.replicate n false)
  m.all id
/-- `IMAGE_LOAD` (R73): over PCIe the engine reads the image by DMA from `IMAGE_HOST_ADDR` over the master's own link, and its
bytes come with IMAGE_APPLY; over the SPI target it takes the bytes staged there; another master has no way to give one. -/
def spImageLoad : Special where
  entry := E.imageLoad
  codes _ s := if s.boot.images.isEmpty then [] else [0xA]
  apply c s :=
    match c.m with
    | .pcie f =>
      let a := s.n E.imageHostAddr
      let s := { s with boot := { s.boot with images := [(3, [])], dma := some (f.val, a, c.v) } }
      (s.emit (.dmaRead f a c.v)).set E.imageLoad 0 1
    | .spit =>
      if stagedWhole c.v s.host.spiImage then
        let s := { s with boot := { s.boot with images := [(3, stagedImage c.v s.host.spiImage)] } }
        s.set E.imageLoad 0 1
      else s.set E.imageLoad 0 3
    | _ => s.set E.imageLoad 0 3
/-- The reads of a host image have brought `dma` (R73): as many octets as were asked for are the image. -/
def State.dmaArrive (s : State) (dma : Option (List Byte)) : State :=
  match dma, s.boot.dma, s.boot.images with
  | some d, some (_, _, n), (3, []) :: rest =>
    if d.length = n then { s with boot := { s.boot with images := (3, d) :: rest, dma := none } } else s
  | _, _, _ => s
/-- IMAGE_LOAD; `dma` is what the reads bring, where the row says so, else IMAGE_APPLY does. -/
def execImageLoad (t : Nat) (m : Master) (v : Word) (dma : Option (List Byte)) (s : State) : Host.Outcome State Fault Refusal :=
  timed t s fun s =>
    let (code, s) := s.write spImageLoad m 0 [v]
    if code = 0 then s.dmaArrive dma else s
/-- Stage 6 begins (R71): the tree's calibration runs (R31). -/
def State.toCalibrate (s : State) : State := (s.set E.bootStage 0 6).set E.treeCalState 0 1
/-- The result an image ends with in `BOOT_RESULT` (R74, R76): the reason of a stage that has stopped the engine for good stays. -/
def State.imageResult (s : State) (r : Nat) : State := if s.n E.bootResult ≤ 5 then s.set E.bootResult 0 r else s

/-- The special entries of this chapter. -/
def bringSpecials : List Special :=
  [spLifecycleReq, spBootOptionsBurn, spTrimProfile, spImageLoad]

end Sys2Proof.Machine
end

