-- ==== Sys2Proof/Machine/Flags.lean ====
section
/-! DEFINITION. The status words and the entries whose words are formed when they are read: views over the state (R32, R38). -/

namespace Sys2Proof.Machine

/-- The edit window is open (R66). -/
def State.editing (s : State) : Bool :=
  match s.control.editUntil with | some u => decide (s.now < u) | none => false
/-- `PRIVET_STATUS` (R118). -/
def State.privetStatus (s : State) : Nat :=
  ofBool (s.flag E.firstLock) + 2 * s.n E.privetMode + 4 * ofBool (decide (s.slewTotal ≠ 0)) + 8 * ofBool s.privet.retarding +
    16 * ofBool s.smearing + 32 * s.leapState + 128 * ofBool s.privet.pendStep.isSome
/-- `WORLD_BOUND` of a world (R67). -/
def State.worldBound (s : State) (w : Nat) : Nat :=
  maskOf ((List.range 8).filter (fun f => decide (s.n E.bindPcie f = w))) + 256 * ofBool (decide (s.n E.bindSpit = w)) +
    512 * maskOf ((List.range 16).filter (fun k => decide (s.n E.irlinWorld k = w ∧ s.n E.irlinKey k ≠ 0)))
/-- `PTP_STATE` of an instance (R294, R324). -/
def State.ptpStateOf (s : State) (i : Nat) : Nat :=
  if ¬ s.flag E.ptpEnable i then 0
  else if ¬ s.quietOver then 1
  else if s.holly.safe then 5
  else if ¬ s.flag E.firstLock then 2
  else if s.bound.oot ∨ s.bound.hold.isSome ∨ s.flag E.hollyDegraded then 4
  else 3
/-- `PTP_ROLE` of an instance (R295). -/
def State.ptpRoleOf (s : State) (i : Nat) : Nat :=
  if s.n E.ptpPortsUpstream i = 0 then 0 else if s.n E.ptpPortsMaster i = 0 then 1 else 2
/-- What a key reference in use finds in its slot: 0 a key, 1 none, 2 a revoked one. -/
def State.keyHealth (s : State) (ref : Nat) : Nat :=
  let k := refSlot ref
  if (16 ≤ k ∧ s.n E.keyState k = 5) ∨ (refGen ref ≠ 0xFFFFF ∧ refGen ref ≠ s.slotGen k) then 2
  else if s.derivable 10 k then 0 else 1
/-- `SA_STATE` (R308): ACTIVE reads as the key's absence or revocation. -/
def State.saStateOf (s : State) (a : Nat) : Nat :=
  let st := s.n E.saState a
  if st = 1 then (match s.keyHealth (s.n E.saKey a) with | 1 => 2 | 2 => 3 | _ => 1) else st
/-- `NTS_MK_STATE` (R334, R341). -/
def State.mkStateOf (s : State) (m : Nat) : Nat :=
  let st := s.n E.ntsMkState m
  if st = 1 ∨ st = 2 then (match s.keyHealth (s.n E.ntsMkKey m) with | 1 => 3 | 2 => 4 | _ => st) else st
/-- The ledger entry at a world's cursor with the cursor it is read at (R137): the oldest one where the cursor names an older,
none beyond the newest. -/
def State.ledgerAt (s : State) (w : Nat) : Option LedgerEntry :=
  let c := max (s.n E.ledgerCursor w) (s.n E.ledgerOldestSeq)
  s.bound.ledger.find? (fun x => x.seq = c)

/-- An entry whose words are formed at the read. -/
structure View where
  entry : Entry
  words : Nat → State → List Word

/-- One word from a number. -/
def word1 (n : Nat) : List Word := [BitVec.ofNat 64 n]
/-- The words of a TIME96. -/
def t96Words (t : T96) : List Word := [t96Lo t, t96Hi t]

/-- The views. -/
def views : List View :=
  [⟨E.partNumber, fun _ s => word1 s.otp.part.number⟩,
   ⟨E.tempGrade, fun _ s => word1 s.otp.grade⟩,
   ⟨E.unitPresent, fun _ s => word1 s.otp.mask⟩,
   ⟨E.leafIsland, fun n s => word1 (if s.leafFitted n then leafIslandOf n else 0xFFFF)⟩,
   ⟨E.powerCap, fun _ s => word1 (powerCapOf s.otp.part (s.n E.trimActive))⟩,
   ⟨E.jtagIdcode, fun _ s => word1 (idcodeOf s.otp.part)⟩,
   ⟨E.commitState, fun _ s => word1 (if s.n E.commitState = 1 then 1 else if s.editing then 4 else s.n E.commitState)⟩,
   ⟨E.worldBound, fun w s => word1 (s.worldBound w)⟩,
   ⟨E.privetSnapshot, fun _ s => t96Words s.tai⟩,
   ⟨E.privetSnapBound, fun _ s => word1 (s.emitted 0)⟩,
   ⟨E.privetSnapStatus, fun _ s => word1 s.privetStatus⟩,
   ⟨E.privetStatus, fun _ s => word1 s.privetStatus⟩,
   ⟨E.privetIncrDelta, fun _ s => [wordOfInt ((s.privet.incr : Int) - 2 ^ 57)]⟩,
   ⟨E.privetIncrNs, fun _ s => word1 (s.privet.incr / 2 ^ 56)⟩,
   ⟨E.privetIncrFrac, fun _ s => word1 (s.privet.incr % 2 ^ 56)⟩,
   ⟨E.privetSlewRemain, fun _ s => [wordOfInt s.slewTotal]⟩,
   ⟨E.privetLeapState, fun _ s => word1 s.leapState⟩,
   ⟨E.boundStatus, fun _ s => word1 s.boundStatus⟩,
   ⟨E.holdElapsed, fun _ s => word1 (match s.bound.hold with | some h => (s.now - h.start) / 500000 | none => 0)⟩,
   ⟨E.ledgerEntry, fun w s => octWords E.ledgerEntry.words (match s.ledgerAt w with | some x => ledgerBytes x | none => [])⟩,
   ⟨E.chPrescale, fun c s => word1 (s.prescale c)⟩,
   ⟨E.chStatus, fun c s => word1 (s.n E.chStatus c / 4 * 4 + ofBool (s.flag E.chEnable c && s.chanFitted c) + 2 * ofBool (s.chanInUse c))⟩,
   ⟨E.portRxbufUsed, fun _ s => word1 s.rxbufUsed⟩,
   ⟨E.portStampActive, fun p s => word1 (s.stampMode p)⟩,
   ⟨E.ptpState, fun i s => word1 (s.ptpStateOf i)⟩,
   ⟨E.ptpRole, fun i s => word1 (s.ptpRoleOf i)⟩,
   ⟨E.saState, fun a s => word1 (s.saStateOf a)⟩,
   ⟨E.ntsKeyId, fun _ s => word1 s.ntsKeyView.1⟩,
   ⟨E.ntsRotateIn, fun _ s => word1 s.ntsKeyView.2⟩,
   ⟨E.ntsMkState, fun m s => word1 (s.mkStateOf m)⟩,
   ⟨E.tapDigestRate, fun _ s => word1 s.digestRate⟩,
   ⟨E.fltSeverity, fun i s => word1 (if isSource i then (if i = 449 ∨ i = 448 then s.sourceSeverity i else s.n E.fltSeverity i) else 0)⟩,
   ⟨E.fltN, fun i s => word1 (if isSource i then s.n E.fltN i else 0)⟩,
   ⟨E.fltW, fun i s => word1 (if isSource i then s.n E.fltW i else 0)⟩,
   ⟨E.fltWorlds, fun i s => word1 (if isSource i then s.n E.fltWorlds i else 0)⟩,
   ⟨E.fltRecHandle, fun l s => word1 (if (s.record l).state = 0 then 0 else s.recordHandle l)⟩,
   ⟨E.fltRecState, fun l s => word1 (match (s.record l).state with | 4 => (if (s.record l).sev = 0 then 3 else 1) | n => n)⟩,
   ⟨E.fltRecHead, fun l s => octWords E.fltRecHead.words
      (if (s.record l).state = 0 then [] else recordBytes (s.record l) (s.recordHandle l) (s.record l).seq (decide ((s.record l).state = 3)))⟩,
   ⟨E.fltRecBitmap, fun l s => octWords E.fltRecBitmap.words (if (s.record l).state = 0 then [] else recordBitmap (s.record l))⟩]

/-- The view of an entry. -/
def viewOf (e : Entry) : Option View := views.find? (fun v => v.entry == e)

/-- The words of an instance as a read finds them for world `w`, before any side effect (R7, R35, R50, R272). -/
def State.live (s : State) (e : Entry) (i w : Nat) : List Word :=
  if s.absentIdx (e.addr i 0).1 ∨ e.cls = .wo ∨ (e.idx = 0x6A00 ∧ 6 ≤ i % 8) then List.replicate e.words 0
  else if e.cls = .cor then [s.corPeek e i w]
  else match viewOf e with
    | some v => v.words i s
    | none => s.words e i

end Sys2Proof.Machine
end

