-- ==== Sys2Proof/WellFormed.lean ====
section
/-! DEFINITION. Which commands an interface or a unit can carry: an access names a target of its master's transport (R37, R287,
R470). Every other command is well formed as its constructor types it. -/

namespace Sys2Proof

/-- A target that a master's transport can carry: a BAR0 offset and size on PCIe, an index:subindex elsewhere. -/
def wfTarget : Master → Target → Bool
  | .pcie _, .bar off size => decide (off < 2 ^ 28 ∧ 1 ≤ size)
  | .pcie _, .obj _ _ => false
  | _, .obj index sub => decide (index < 65536 ∧ sub < 256)
  | _, .bar _ _ => false

/-- A well-formed command. -/
def wellFormed : Instr → Bool
  | .registerWrite _ m a _ => wfTarget m a
  | .corRead _ m a => wfTarget m a
  | .latchRead _ m a => wfTarget m a
  | .stagedWordWrite _ m a _ => wfTarget m a
  | .guardedValueWrite _ f a _ => wfTarget (.pcie f) a
  | .guardedComplementWrite _ f a _ => wfTarget (.pcie f) a
  | .spiRead _ index sub _ => wfTarget .spit (.obj index sub)
  | .spiWrite _ index sub _ _ => wfTarget .spit (.obj index sub)
  | .spiGuarded _ index sub _ _ _ => wfTarget .spit (.obj index sub)
  | _ => true

end Sys2Proof
end

