-- ==== Sys2Proof/Machine/Operands.lean ====
section
/-! DEFINITION. What the operands of an access name: the entry at an index and subindex, the BAR0 windows, and the items of
an Irlin message or an image (R37, R45, R61, R468 to R471). -/

namespace Sys2Proof.Machine

/-- The entry lists of all chapters. -/
def allEntries : List Entry :=
  E.chapterScope ++ E.chapterDomains ++ E.chapterDictionary ++ E.chapterBringup ++ E.chapterPrivet ++ E.chapterBound ++
  E.chapterHornbeam ++ E.chapterYew ++ E.chapterCounters ++ E.chapterSynthesis ++ E.chapterPorts ++ E.chapterHost ++
  E.chapterPtp ++ E.chapterNtp ++ E.chapterTap ++ E.chapterGnss ++ E.chapterKeys ++ E.chapterHolly ++ E.chapterPerf ++
  E.chapterPins

/-- An entry's instance and the word of it. -/
structure Place where
  entry : Entry
  i : Nat
  k : Nat
deriving DecidableEq, Repr

/-- What lies at index:subindex; `none` where nothing is defined (R469). -/
def placeOf (index sub : Nat) : Option Place :=
  allEntries.findSome? (fun e => (e.at? index sub).map (fun p => ⟨e, p.1, p.2⟩))

/-- An access as a BAR0 offset or an index:subindex spells it (R37, R470): the index, the subindex, whether it is the
complement window, and whether size and alignment are right. -/
structure Spot where
  index : Nat
  sub : Nat
  compl : Bool := false
  aligned : Bool := true
deriving DecidableEq, Repr

/-- Decoding of a target (R470). -/
def spotOf : Target → Spot
  | .obj index sub => ⟨index, sub, false, true⟩
  | .bar off size =>
    ⟨bitsOf off 26 11, bitsOf off 10 3, bitOf off 27, decide (off % 8 = 0 ∧ size = 8)⟩

/-- The target is one its master's transport can carry. -/
def targetOk (m : Master) (a : Target) : Bool := wfTarget m a

/-- The forms a write arrives in (R41, R45, R76): a plain write, a guarded one with its complement, the sequencer's. -/
inductive WriteForm where
  | plain
  | guarded (compl : Word)
deriving DecidableEq, Repr

/-- The codes a write's form adds for an entry (R45): GRD by value and complement alone, other classes never so. A PCIe value
for a GRD entry becomes a pair instead, and the sequencer writes directly. -/
def formCodes (m : Master) (e : Entry) (v : Word) : WriteForm → List Nat
  | .plain => if e.cls = .grd ∧ m ≠ .seq then [6] else []
  | .guarded c => (if e.cls = .grd then [] else [6]) ++ (if c = ~~~v then [] else [6])

/-- World `w` may read the index (R52, R53, R137, R435, R478). -/
def mayRead (w index : Nat) : Bool :=
  if 0x28C0 ≤ index ∧ index ≤ 0x28CF then [0, 1, 15].contains w && [0, 1, 15].contains (index - 0x28C0)
  else if 0xD000 ≤ index ∧ index ≤ 0xDFFF then decide (w = 0 ∨ w = 15)
  else true

end Sys2Proof.Machine
end

