-- ==== Sys2Proof/Machine/Access.lean ====
section
/-! DEFINITION. The control island: reads with their latches and shadows, writes with staging and guarded pairs, bindings,
locking, the running check and the commit (R36 to R55, R64 to R67, R474). -/

namespace Sys2Proof.Machine

/-! ### Bindings, locking, the edit window, commits (R47, R54, R62, R65, R66) -/

/-- `BIND_PCIE` (R54, R269, R271): a changed binding resets the function. -/
def spBindPcie : Special where
  entry := E.bindPcie
  codes c s := if c.v < 16 ∧ ¬ s.linkProvided (c.i / 2) then [7] else []
  apply c s := if s.n E.bindPcie c.i = c.v then s else (s.set E.bindPcie c.i c.v).functionReset c.i
/-- BIND_PCIE. -/
def execBindPcie (t : Nat) (m : Master) (i : Fin 8) (v : Word) (s : State) : Host.Outcome State Fault Refusal :=
  writeRow spBindPcie t m i [v] s
/-- `IRLIN_KEY` (R62, R476). -/
def spIrlinKey : Special where
  entry := E.irlinKey
  codes c s :=
    let w := s.n E.irlinWorld c.i
    s.refCodes { s.irlinUse c.i .spi with ref := c.v } (if w < 16 then some w else none)
/-- `IRLIN_WORLD` (R62): the world mask of an anchor the binding names. -/
def spIrlinWorld : Special where
  entry := E.irlinWorld
  codes c s :=
    let k := refSlot (s.n E.irlinKey c.i)
    if c.v < 16 ∧ s.n E.irlinKey c.i ≠ 0 ∧ k < 16 ∧ ¬ bitOf (s.n E.anchorWorldMask k) c.v then [3] else []
/-- `LOCK_CTRL` (R47): 0 unlocks now. -/
def spLockCtrl : Special where
  entry := E.lockCtrl
  apply c s :=
    let s := s.set E.lockCtrl 0 c.v
    if c.v = 0 then { s with control := { s.control with locked := false } } else s
/-- LOCK_CTRL. -/
def execLockCtrl (t : Nat) (m : Master) (v : Word) (s : State) : Host.Outcome State Fault Refusal :=
  writeRow spLockCtrl t m 0 [v] s
/-- A commit is accepted (R65). -/
def State.startCommit (s : State) (c : Commit) : State :=
  ({ s with control := { s.control with commit := some c } }).set E.commitState 0 1
/-- `COMMIT_REF` (R65): locking is requested by `LOCK_CTRL`. -/
def spCommitRef : Special where
  entry := E.commitRef
  codes _ s := if s.control.commit.isSome then [0xA] else []
  apply c s := (s.set E.commitRef 0 c.v).startCommit { ref := c.v, lock := s.flag E.lockCtrl }
/-- COMMIT_REF. -/
def execCommitRef (t : Nat) (m : Master) (v : Word) (s : State) : Host.Outcome State Fault Refusal :=
  writeRow spCommitRef t m 0 [v] s
/-- `EDIT_CTRL` (R66). -/
def spEditCtrl : Special where
  entry := E.editCtrl
  apply c s :=
    { s with control := { s.control with
      editUntil := if c.v = 1 then some (s.now + ticksMs (s.n E.editTimeout)) else none } }
/-- EDIT_OPEN. -/
def execEditOpen (t : Nat) (m : Master) (s : State) : Host.Outcome State Fault Refusal := writeRow spEditCtrl t m 0 [1] s
/-- EDIT_CLOSE. -/
def execEditClose (t : Nat) (m : Master) (s : State) : Host.Outcome State Fault Refusal := writeRow spEditCtrl t m 0 [2] s
/-- EDIT_TIMEOUT_EXPIRY. -/
def execEditTimeoutExpiry (t : Nat) (s : State) : Host.Outcome State Fault Refusal :=
  timed t s fun s => if s.editing then s else { s with control := { s.control with editUntil := none } }

/-- Every entry whose write does more than store. -/
def allSpecials : List Special :=
  privetSpecials ++ boundSpecials ++ hornbeamSpecials ++ yewSpecials ++ counterSpecials ++ synthSpecials ++ portSpecials ++
  hostSpecials ++ ptpSpecials ++ ntpSpecials ++ tapSpecials ++ gnssSpecials ++ vaultSpecials ++ attestSpecials ++
  hollySpecials ++ perfSpecials ++ bringSpecials ++
  [spClkoutFormat, spBindPcie, spIrlinKey, spIrlinWorld, spLockCtrl, spCommitRef, spEditCtrl]
/-- How an entry is written. -/
def specialOf (e : Entry) : Special := (allSpecials.find? (fun x => x.entry == e)).getD (plain e)

/-! ### Reads (R37, R38, R50 to R55, R110, R137) -/

/-- A master's latch holds the word at an address. -/
def State.latched (s : State) (m : Master) (index sub : Nat) : Option Word :=
  match s.control.latch.find? (fun p => p.1 == masterNo m) with
  | some (_, base, ws) => if base ≤ index * 256 + sub then ws[index * 256 + sub - base]? else none
  | none => none
/-- Sets a master's latch. -/
def State.setLatch (s : State) (m : Master) (index sub : Nat) (ws : List Word) : State :=
  { s with control := { s.control with latch := tabInsert (masterNo m) (index * 256 + sub, ws) s.control.latch } }
/-- The reader's cursor moves past the entry it has read (R137). -/
def State.ledgerAdvance (s : State) (w : Nat) : State :=
  match s.ledgerAt w with
  | some x => s.set E.ledgerCursor w (x.seq + 1)
  | none => s
/-- The lowest word of a wide entry is read: the whole entry is latched, `PRIVET_SNAPSHOT` with its bound and status (R38, R110);
a ledger reader's cursor advances. -/
def State.readWide (s : State) (m : Master) (index sub : Nat) (p : Place) (ws : List Word) : State :=
  if p.entry == E.privetSnapshot then
    (s.setLatch m index sub (ws ++ s.live E.privetSnapBound 0 0 ++ s.live E.privetSnapStatus 0 0)).noteOut (s.emitted 0)
  else if p.entry == E.ledgerEntry then (s.setLatch m index sub ws).ledgerAdvance p.i
  else s.setLatch m index sub ws
/-- How a word is read: plainly, by Irlin with PEEK, through the complement window, or as a later word of a block read. -/
inductive ReadForm where
  | plain | peek | compl | run (peek : Bool)
deriving DecidableEq, Repr
/-- The word at a place for world `w`, and what reading it does. -/
def State.readPlace (s : State) (m : Master) (w index sub : Nat) (p : Place) (f : ReadForm) : Word × State :=
  let ws := s.live p.entry p.i w
  let word := ws.getD p.k 0
  let keep := match f with | .peek | .compl | .run true => true | _ => false
  if f = .compl then (~~~word, s)
  else if p.entry.cls = .cor ∧ ¬ s.absentIdx index then
    if keep then (word, s) else s.corRead p.entry p.i w
  else
    match f with
    | .run _ => (word, s)
    | _ =>
      if p.k = 0 ∧ 1 < p.entry.words then (word, s.readWide m index sub p ws)
      else
        match s.latched m index sub with
        | some x => (x, s)
        | none => (word, if p.k = 0 then s else s.bump E.latchMiss w)
/-- The codes a read meets (R53, R55, R469). -/
def State.readCodes (s : State) (w index sub : Nat) : List Nat :=
  (if (placeOf index sub).isNone then [1] else []) ++ (if w = 15 ∧ ¬ s.reach15 then [9] else []) ++
  (if mayRead w index then [] else [3])
/-- A read by a master: its code and word, and the state after (R36, R40, R54). -/
def State.read (s : State) (m : Master) (x : Spot) (f : ReadForm := .plain) : (Nat × Word) × State :=
  let s := s.perfEvent 0x701 0
  match s.worldOf m with
  | none => ((3, 0), match m with | .pcie _ => s.bump E.unboundAccess | _ => s)
  | some w =>
    let code := resolve (s.readCodes w x.index x.sub ++ (if x.aligned then [] else [8]))
    if code ≠ 0 then ((code, 0), s.refusal w code x.index x.sub false)
    else
      match placeOf x.index x.sub with
      | some p => let r := s.readPlace m w x.index x.sub p (if x.compl then .compl else f); ((0, r.1), r.2)
      | none => ((1, 0), s)
/-- A read with its answer to the master. -/
def State.readAnswer (s : State) (m : Master) (x : Spot) : State :=
  let r := s.read m x
  r.2.emit (.answer m r.1.1 r.1.2)

/-! ### Writes (R39, R41 to R45, R63) -/

/-- A master's staged word for an address. -/
def State.stagedWord (s : State) (m : Master) (index sub : Nat) : Option Word :=
  (s.control.staged.find? (fun p => decide (p.1 = masterNo m ∧ p.2.1 = index * 256 + sub))).map (·.2.2)
/-- Words staged from an address on, over what the master has staged there before. -/
def State.stage (s : State) (m : Master) (index sub : Nat) (ws : List Word) : State :=
  let kept := s.control.staged.filter (fun p =>
    !decide (p.1 = masterNo m ∧ index * 256 + sub ≤ p.2.1 ∧ p.2.1 < index * 256 + sub + ws.length))
  { s with control := { s.control with
    staged := kept ++ ws.zipIdx.map (fun p => (masterNo m, index * 256 + sub + p.2, p.1)) } }
/-- An applying write of a master clears its staging (R39). -/
def State.unstage (s : State) (m : Master) : State :=
  { s with control := { s.control with staged := s.control.staged.filter (fun p => !decide (p.1 = masterNo m)) } }
/-- All words of an entry's instance when its first ones are written: staged ones next, current ones else (R39). -/
def State.wholeWords (s : State) (m : Master) (index sub : Nat) (p : Place) (ws : List Word) : List Word :=
  ws ++ ((s.words p.entry p.i).zipIdx.drop ws.length).map (fun q => (s.stagedWord m index (sub + q.2)).getD q.1)

/-- A refused write at an address. -/
def State.writeRefused (s : State) (w code index sub : Nat) (e : Entry) : Nat × State :=
  (code, s.refusal w code index sub (lockable e && s.control.locked))
/-- The value half of a guarded pair (R41, R42): a pair of the same world is discarded; the new one becomes pending. -/
def State.guardValue (s : State) (f w index sub : Nat) (p : Place) (c : Ctx) (v : Word) : Nat × State :=
  let s := s.pairMeets c.m w
  let code := resolve (s.gateCodes (specialOf p.entry) c)
  if code ≠ 0 then s.writeRefused w code index sub p.entry
  else (0, { s with control := { s.control with pair := some ⟨w, f, index, sub, v, s.now⟩ } })
/-- A complement-window write (R42): it completes the pending pair of its world and entry, or is refused with 0x06. -/
def State.guardComplement (s : State) (w index sub : Nat) (p : Place) (c : Ctx) (v : Word) : Nat × State :=
  let s := if s.pairLate then s.pairDiscard else s
  let sp := specialOf p.entry
  match s.control.pair with
  | some q =>
    if q.world = w ∧ q.index = index ∧ q.sub = sub then
      let s := { s with control := { s.control with pair := none } }
      s.write sp c.m p.i [q.value] (if v = ~~~q.value then [] else [6])
    else s.writeRefused w (resolve (s.gateCodes sp c ++ [6])) index sub p.entry
  | none => s.writeRefused w (resolve (s.gateCodes sp c ++ [6])) index sub p.entry
/-- What the words of an access show of their values before they make up the entry (R34). -/
def wordCodes (e : Entry) (ws : List Word) : List Nat :=
  if e.cls = .ro ∨ e.cls = .cor ∨ ws.all (valueOk e) then [] else [7]
/-- The code a complement-window write adds with no pending pair of its world for its entry, or a complement that does not match
(R42). -/
def State.complCodes (s : State) (w index sub : Nat) (v : Word) : List Nat :=
  match s.control.pair with
  | some q => if q.world = w ∧ q.index = index ∧ q.sub = sub ∧ v = ~~~q.value then [] else [6]
  | none => [6]
/-- The words from the lowest one on: the whole entry with what is staged for it; the staging is cleared where it is applied (R39). -/
def State.applyWords (s : State) (m : Master) (index sub : Nat) (p : Place) (ws : List Word) (extra : List Nat) : Nat × State :=
  let r := s.write (specialOf p.entry) m p.i (s.wholeWords m index sub p ws) extra
  if r.1 = 0 ∧ 1 < p.entry.words then (0, r.2.unstage m) else r
/-- A write is the value half of a guarded pair (R41): a plain one of a GRD entry over PCIe. -/
def valueHalf (e : Entry) : Master → WriteForm → Bool
  | .pcie _, .plain => decide (e.cls = .grd)
  | _, _ => false
/-- A write of one or more words from an address on, by a master, in a form: the code and the state after. -/
def State.writeAt (s : State) (m : Master) (x : Spot) (ws : List Word) (form : WriteForm := .plain) : Nat × State :=
  match s.worldOf m, placeOf x.index x.sub with
  | none, _ => (3, match m with | .pcie _ => (s.perfEvent 0x701 0).bump E.unboundAccess | _ => s.perfEvent 0x701 0)
  | some w, none => (1, (s.perfEvent 0x701 0).refusal w 1 x.index x.sub false)
  | some w, some p =>
    let e := p.entry
    let sp := specialOf e
    let v := ws.headD 0
    let c : Ctx := ⟨m, w, p.i, [v]⟩
    let s1 := s.perfEvent 0x701 0
    let half := valueHalf e m form
    let extra := if half then [] else formCodes m e v form
    if !x.aligned || decide (e.words < p.k + ws.length) || decide (ws = []) then
      s1.writeRefused w (resolve (s1.gateCodes sp c ++ wordCodes e ws ++
        (if x.compl then s1.complCodes w x.index x.sub v else extra) ++ [8])) x.index x.sub e
    else if x.compl then s.guardComplement w x.index x.sub p c v
    else if half then
      match m with
      | .pcie f => s1.guardValue f w x.index x.sub p c v
      | _ => (0, s1)
    else if p.k ≠ 0 then
      let code := resolve (s1.gateCodes sp c ++ wordCodes e ws ++ extra)
      if code ≠ 0 then s1.writeRefused w code x.index x.sub e else (0, s1.stage m x.index x.sub ws)
    else s.applyWords m x.index x.sub p ws extra
/-- A one-word write with its answer; PCIe writes are posted (R40). -/
def State.writeAnswer (s : State) (m : Master) (x : Spot) (v : Word) : State :=
  let r := s.writeAt m x [v]
  match m with
  | .pcie _ => r.2
  | _ => r.2.emit (.answer m r.1 0)

/-! ### The rows -/

/-- An access row (R470): a target that the master's transport cannot carry, such as an offset outside BAR0, reaches no unit of the
engine. -/
def accessRow (t : Nat) (m : Master) (a : Target) (s : State) (f : Spot → State → State) : Host.Outcome State Fault Refusal :=
  timed t s fun s => if targetOk m a then f (spotOf a) s else s
/-- REGISTER_WRITE (R35, R63): a plain write at an address. -/
def execRegisterWrite (t : Nat) (m : Master) (a : Target) (v : Word) (s : State) : Host.Outcome State Fault Refusal :=
  accessRow t m a s (fun x s => s.writeAnswer m x v)
/-- COR_READ (R50). -/
def execCorRead (t : Nat) (m : Master) (a : Target) (s : State) : Host.Outcome State Fault Refusal :=
  accessRow t m a s (fun x s => s.readAnswer m x)
/-- LATCH_READ (R38). -/
def execLatchRead (t : Nat) (m : Master) (a : Target) (s : State) : Host.Outcome State Fault Refusal :=
  accessRow t m a s (fun x s => s.readAnswer m x)
/-- STAGED_WORD_WRITE (R39). -/
def execStagedWordWrite (t : Nat) (m : Master) (a : Target) (v : Word) (s : State) : Host.Outcome State Fault Refusal :=
  accessRow t m a s (fun x s => s.writeAnswer m x v)
/-- GUARDED_VALUE_WRITE (R41, R42). -/
def execGuardedValueWrite (t : Nat) (f : Fin 8) (a : Target) (v : Word) (s : State) : Host.Outcome State Fault Refusal :=
  accessRow t (.pcie f) a s (fun x s => s.writeAnswer (.pcie f) x v)
/-- GUARDED_COMPLEMENT_WRITE (R41, R42, R44). -/
def execGuardedComplementWrite (t : Nat) (f : Fin 8) (a : Target) (v : Word) (s : State) :
    Host.Outcome State Fault Refusal :=
  accessRow t (.pcie f) a s (fun x s => s.writeAnswer (.pcie f) x v)
/-- GUARD_DEADLINE_EXPIRY (R42): the deadline tick has passed with no complement. -/
def execGuardDeadlineExpiry (t : Nat) (s : State) : Host.Outcome State Fault Refusal :=
  timed t s fun s => if s.pairLate then s.pairDiscard else s
/-- PRIVET_SNAPSHOT (R110): a read of `PRIVET_SNAPSHOT`. -/
def execPrivetSnapshot (t : Nat) (m : Master) (s : State) : Host.Outcome State Fault Refusal :=
  timed t s fun s => s.readAnswer m ⟨0x2000, 0, false, true⟩
/-- LEDGER_ENTRY_READ (R137): a read of `LEDGER_ENTRY` in the reader block of world `w`. -/
def execLedgerEntryRead (t : Nat) (m : Master) (w : Fin 16) (s : State) : Host.Outcome State Fault Refusal :=
  timed t s fun s => s.readAnswer m ⟨0x28C0 + w, 1, false, true⟩

/-! ### The running check (R64 to R66) -/

/-- The instances of an entry at an index: subindex and instance number. -/
def Entry.atIndex (e : Entry) (index : Nat) : List (Nat × Nat) :=
  (List.range e.arr).filterMap (fun j =>
    (e.at? index (e.sub + j * e.words)).map (fun p => (e.sub + j * e.words, p.1)))
/-- The check-set entries at an index in ascending subindex order. -/
def checkAt (check : List Entry) (index : Nat) : List (Nat × Entry × Nat) :=
  check.foldl (fun t e => (e.atIndex index).foldl (fun t p => tabInsert p.1 (e, p.2) t) t) []
/-- The entry has instances at an index from 256·page on. -/
def Entry.onPage (e : Entry) (page : Nat) : Bool :=
  decide (e.idx / 256 ≤ page ∧ page ≤ (e.addr (e.total - 1) 0).1 / 256)
/-- The bytes a sweep feeds: index, subindex and words of every check-set entry in ascending order, absent units as zero (R64);
`seen` gives the words the sweep found another value in when it reached them. -/
def State.checkBytes (s : State) (seen : List (Nat × Nat × Word)) : List Byte :=
  let check := allEntries.filter (·.check)
  (List.range 0xF0).flatMap (fun page =>
    let near := check.filter (·.onPage page)
    if near.isEmpty then []
    else (List.range 256).flatMap (fun j =>
      let index := 256 * page + j
      (checkAt near index).flatMap (fun x =>
        be 2 index ++ be 1 x.1 ++ (s.live x.2.1 x.2.2 0).zipIdx.flatMap (fun q =>
          be 8 ((seen.find? (fun y => decide (y.1 = index ∧ y.2.1 = x.1 + q.2))).elim q.1 (·.2.2)).toNat))))
/-- The result of a sweep (R64). -/
def State.sweepResult (s : State) (seen : List (Nat × Nat × Word)) : Nat := crc32c (s.checkBytes seen)
/-- PEWTER_SWEEP (R64, R477): at each whole millisecond, skipped while a sweep runs; the first one after a commit decides it. -/
def execPewterSweep (t : Nat) (s : State) : Host.Outcome State Fault Refusal :=
  timed t s fun s =>
    if s.atMilli ∧ s.control.sweep.isNone then
      { s with control := { s.control with
        sweep := some s.now, commit := s.control.commit.map (fun c => { c with sweeping := true }) } }
    else s

/-- The image in hand has failed (R74, R76): the next slot is tried; with none left its reason is reported, and stage 5 ends. -/
def State.imageFailed (s : State) (result : Nat) : State :=
  match s.boot.images with
  | (src, _) :: rest =>
    let s := { s with boot := { s.boot with images := rest, dma := if src = 3 then none else s.boot.dma } }
    let s := if src = 3 then s.set E.imageLoad 0 3 else s
    if ¬ rest.isEmpty then s
    else
      let s := s.imageResult result
      if s.n E.bootStage = 5 then s.toCalibrate else s
  | [] => s
/-- The image in hand has been applied and its commit has matched (R76, R88). -/
def State.imageApplied (s : State) : State :=
  match s.boot.images with
  | (src, b) :: _ =>
    let waits := s.boot.images.any (fun p => p.1 == 3)
    let s := { s with boot := { s.boot with images := [], dma := none } }
    let s := ((s.imageResult 0).set E.imageSerial 0 (imageSerialOf b)).set E.imageSlot 0 src
    let s := if waits then s.set E.imageLoad 0 (if src = 3 then 2 else 3) else s
    if s.n E.bootStage = 5 then s.toCalibrate else s
  | [] => s
/-- A reply goes back the way its message came (R60, R61, R285, R287): a CMD ring's into its buffer. -/
def State.irlinReply (s : State) (k : Nat) (via : Via) (op tag status : Nat) (body : List Byte) : State :=
  match via with
  | .ring w =>
    match s.irlinMessage k via op 1 tag status body with
    | (some b, s) => s.cmdFinish w 0 b
    | (none, s) => s.cmdFinish w 0 []
  | v => s.irlinSend k v op 1 tag status body
/-- A commit is decided by its sweep (R47, R65, R66, R388): state, reference, lock, edit window, the reply of an Irlin COMMIT,
the image it was made for. -/
def State.settleCommit (s : State) (c : Commit) (result : Nat) : State :=
  let ok := decide (result = c.ref)
  let x := s.control
  let s := { s with control := { x with
    commit := none, editUntil := none, matched := x.matched || ok, locked := x.locked || (ok && c.lock) } }
  let s := s.set E.commitState 0 (if ok then 2 else 3)
  let s := if ok then (s.set E.committedRef 0 c.ref).keepRecords else s
  let s := match c.reply with
    | some (k, via, tag) => s.irlinReply k via 5 tag 0 (be 1 (if ok then 2 else 3) ++ zeros 3 ++ be 4 result)
    | none => s
  if c.image then (if ok then s.imageApplied else s.imageFailed 5) else s
/-- A complete sweep that decides nothing is held against `COMMITTED_REF` (R66). -/
def State.checkSweep (s : State) (result : Nat) : State :=
  if s.control.matched ∧ ¬ s.editing ∧ result ≠ s.n E.committedRef then
    let a := s.bound.attest
    (({ s with bound := { s.bound with attest := { a with misses := a.misses + 1 } } }).bump E.checkMismatch).raise 449
  else s
/-- SWEEP_COMPLETE (R64 to R66). -/
def execSweepComplete (t : Nat) (seen : List (Nat × Nat × Word)) (s : State) : Host.Outcome State Fault Refusal :=
  timed t s fun s =>
    if s.control.sweep.isNone then s
    else
      let result := s.sweepResult seen
      let s := { s with control := { s.control with sweep := none } }
      let s := s.set E.runningCheck 0 result
      match s.control.commit with
      | some c => if c.sweeping then s.settleCommit c result else s.checkSweep result
      | none => s.checkSweep result

end Sys2Proof.Machine
end

