-- ==== Sys2Proof/Machine/Irlin.lean ====
section
/-! DEFINITION. Irlin: what is accepted, in which sequence, and its operations (R56 to R62, R474). -/

namespace Sys2Proof.Machine

/-! ### Acceptance (R57 to R60, R62) -/

/-- The KEY field names the key of a binding: the binding's own reference, or the same slot at its generation or
tracking it (R58, R387). -/
def State.irlinNames (s : State) (k : Nat) (key : Nat) : Bool :=
  let r := s.n E.irlinKey k
  decide (r ≠ 0 ∧ s.n E.irlinWorld k < 16 ∧ refSlot r = refSlot key) &&
    (key == r || refGen key == 0xFFFFF || decide (refGen key = s.slotGen (refSlot key)))
/-- The first of the bindings under whose key the MAC is valid (R57, R59): over every byte but the final 16. -/
def State.irlinAuth (s : State) (via : Via) (b : List Byte) : List Nat → Option Nat × State
  | [] => (none, s)
  | k :: ks =>
    if s.irlinNames k (beAt b 4 4) then
      match s.useKey (s.irlinUse k via) with
      | (.key m, s) =>
        if (hmac m (b.take (b.length - 16))).take 16 = b.drop (b.length - 16) then (some k, s)
        else s.irlinAuth via b ks
      | (_, s) => s.irlinAuth via b ks
    else s.irlinAuth via b ks
/-- The window of a binding once a SEQ is accepted (R60): the highest, and a bit for each of the 64 below it that has been seen. -/
def seqWindow (high seen seq : Nat) : Option (Nat × Nat) :=
  if seq = 0 ∨ high = 0xFFFFFFFF then none
  else if high < seq then
    let d := seq - high
    some (seq, if high = 0 ∨ 64 < d then 0 else (seen * 2 ^ d + 2 ^ (d - 1)) % 2 ^ 64)
  else
    let d := high - seq
    if d = 0 ∨ 64 < d ∨ bitOf seen (d - 1) then none else some (high, seen + 2 ^ (d - 1))
/-- The nonce and sequence check of R60; `none` where it fails. -/
def State.irlinSequence (s : State) (k nonce seq : Nat) : Option State :=
  if nonce ≠ s.n E.irlinNonce then none
  else
    match seqWindow (s.n E.irlinSeqHigh k) (tabGet 0 k s.control.seen) seq with
    | some (high, seen) =>
      some (({ s with control := { s.control with seen := tabPut 0 k seen s.control.seen } }).set E.irlinSeqHigh k high)
    | none => none

/-! ### Items (R61) -/

/-- The header of a reply item (R61). -/
def replyItem (index sub words code : Nat) : List Byte := be 2 index ++ be 1 sub ++ be 1 words ++ be 1 code ++ zeros 3
/-- Words as they are carried (R58). -/
def wordBytes (ws : List Word) : List Byte := ws.flatMap (fun w => be 8 w.toNat)
/-- One item of a READ: `n` words from a subindex on, as one access (R36, R61). -/
def State.readItem (s : State) (m : Master) (peek : Bool) (x : Item) : (Nat × List Word) × State :=
  let s := s.perfEvent 0x701 0
  match s.worldOf m with
  | none => ((3, []), s)
  | some w =>
    let p := placeOf x.index x.sub
    let fits : Bool := match p with | some p => decide (p.k + x.words ≤ p.entry.words) | none => true
    let code := resolve (s.readCodes w x.index x.sub ++ (if 1 ≤ x.words ∧ x.words ≤ 32 ∧ fits then [] else [8]))
    if code ≠ 0 then ((code, []), s.refusal w code x.index x.sub false)
    else
      match p with
      | some p =>
        let r := (List.range x.words).foldl (fun (r : List Word × State) j =>
          let y := r.2.readPlace m w x.index (x.sub + j) { p with k := p.k + j } (if peek then .peek else .plain)
          (r.1 ++ [y.1], y.2)) ([], s)
        ((0, r.1), r.2)
      | none => ((1, []), s)
/-- The items of a READ in order, with the reply body. -/
def State.readItems (s : State) (m : Master) (peek : Bool) (items : List Item) : List Byte × State :=
  items.foldl (fun (r : List Byte × State) x =>
    let ((code, ws), s) := r.2.readItem m peek x
    (r.1 ++ replyItem x.index x.sub x.words code ++ (if code = 0 then wordBytes ws else []), s)) ([], s)
/-- The items of a WRITE in order, each on its own, with the reply body. -/
def State.writeItems (s : State) (m : Master) (items : List Item) : List Byte × State :=
  items.foldl (fun (r : List Byte × State) x =>
    let (code, s) := r.2.writeAt m ⟨x.index, x.sub, false, true⟩ x.data
    (r.1 ++ replyItem x.index x.sub x.words code, s)) ([], s)
/-- A BLOCK_READ (R61, R474): its code and words, all of one tick. -/
def State.blockRead (s : State) (m : Master) (peek : Bool) (index sub count : Nat) : (Nat × List Word) × State :=
  let s := s.perfEvent 0x701 0
  match s.worldOf m with
  | none => ((3, []), s)
  | some w =>
    let code := resolve (s.readCodes w index sub ++ (if 1 ≤ count ∧ sub + count ≤ 256 then [] else [8]))
    if code ≠ 0 then ((code, []), s.refusal w code index sub false)
    else
      let r := (List.range count).foldl (fun (r : List Word × State) j =>
        match placeOf index (sub + j) with
        | some p =>
          let f : ReadForm := if j = 0 ∧ p.k = 0 then (if peek then .peek else .plain) else .run peek
          let y := r.2.readPlace m w index (sub + j) p f
          (r.1 ++ [y.1], y.2)
        | none => (r.1 ++ [0], r.2)) ([], s)
      ((0, r.1), r.2)

/-! ### The operations of accepted messages (R61) -/

/-- READ (R51, R61). -/
def State.irlinRead (s : State) (k : Fin 16) (via : Via) (tag : Nat) (peek : Bool) (items : List Item) : State :=
  let (b, s) := s.readItems (.irlin k) peek items
  s.irlinReply k via 1 tag 0 b
/-- WRITE (R61); counts that disagree refuse the message (R59). -/
def State.irlinWrite (s : State) (k : Fin 16) (via : Via) (tag : Nat) (items : List Item) : State :=
  if items.all (fun x => x.data.length == x.words) then
    let (b, s) := s.writeItems (.irlin k) items
    s.irlinReply k via 2 tag 0 b
  else s.irlinReply k via 2 tag 8 []
/-- GUARDED_WRITE (R45, R61): one item with its value and complement. -/
def State.irlinGuardedWrite (s : State) (k : Fin 16) (via : Via) (tag index sub words : Nat) (v c : Word) : State :=
  let (code, s) := s.writeAt (.irlin k) ⟨index, sub, false, decide (words = 1)⟩ [v] (.guarded c)
  s.irlinReply k via 3 tag 0 (replyItem index sub words code)
/-- BLOCK_READ (R61, R474). -/
def State.irlinBlockRead (s : State) (k : Fin 16) (via : Via) (tag : Nat) (peek : Bool) (index sub count : Nat) : State :=
  let ((code, ws), s) := s.blockRead (.irlin k) peek index sub count
  s.irlinReply k via 4 tag 0 (replyItem index sub count code ++ (if code = 0 then wordBytes ws else []))
/-- The codes of a COMMIT (R42, R47, R53, R65): world 0, the complement, LOCK, a commit or a pair that stands in the way. -/
def State.commitCodes (s : State) (w ref compl lock : Nat) : List Nat :=
  (if w = 0 then [] else [3]) ++ (if compl = 0xFFFFFFFF - ref ∧ ref < 2 ^ 32 then [] else [6]) ++
    (if lock < 2 then [] else [7]) ++ (if s.control.commit.isSome ∨ s.control.pair.isSome then [0xA] else [])
/-- COMMIT (R61, R65): its reply is sent when the check completes. -/
def State.irlinCommit (s : State) (k : Fin 16) (via : Via) (tag ref compl lock : Nat) : State :=
  let s := if s.pairLate then s.pairDiscard else s
  match s.worldOf (.irlin k) with
  | none => s.irlinReply k via 5 tag 3 []
  | some w =>
    let code := resolve (s.commitCodes w ref compl lock)
    if code = 0 then
      (s.set E.commitRef 0 ref).startCommit { ref := ref, lock := decide (lock = 1), reply := some (k.val, via, tag) }
    else (s.refusal w code 0x0F01 0 false).irlinReply k via 5 tag code []
/-- The body of a SUBSCRIBE as granted (R61). -/
def subscribeBody (domains minSev duration : Nat) : List Byte :=
  be 8 domains ++ be 1 minSev ++ zeros 3 ++ be 4 duration
/-- SUBSCRIBE (R61): grants, changes or, with duration 0, cancels the session's subscription. -/
def State.irlinSubscribe (s : State) (k : Fin 16) (via : Via) (tag domains minSev duration : Nat) : State :=
  if 3 < minSev then s.irlinReply k via 6 tag 7 []
  else
    let kept := s.control.subs.filter (fun u => !decide (u.key = k.val ∧ u.via = via))
    let subs := if duration = 0 then kept else kept ++ [⟨k.val, via, domains, minSev, s.now + ticksS duration⟩]
    ({ s with control := { s.control with subs := subs } }).irlinReply k via 6 tag 0 (subscribeBody domains minSev duration)
/-- REPORT (R318, R319): one acknowledgement item. -/
def State.irlinReport (s : State) (k : Fin 16) (via : Via) (tag : Nat) (report : List Byte) : State :=
  if report.length ≠ 56 then s.irlinReply k via 7 tag 8 []
  else
    let ((code, handle, interval), s) := s.partnerReport report (256 + k.val) s.now
    s.irlinReply k via 7 tag 0
      (replyItem 0 0 1 code ++ (if code = 0 then be 8 (interval * 2 ^ 32 + handle) else []))
/-- The answer of a DISCOVER (R61). -/
def State.discoverBody (s : State) (k : Nat) : List Byte :=
  be 4 s.otp.part.number ++ be 1 (s.n E.stepping) ++ be 1 s.otp.grade ++ be 1 (s.n E.lifecycle) ++
    be 1 (s.n E.irlinWorld k) ++ be 8 s.otp.mask ++ be 4 (s.n E.irlinNonce)
/-- DISCOVER without RENEW (R60, R61). -/
def State.irlinDiscover (s : State) (k : Fin 16) (via : Via) (tag : Nat) : State :=
  s.irlinReply k via 8 tag 0 (s.discoverBody k)
/-- A new nonce from the DRBG, never 0, which only a DISCOVER carries (R60). -/
def State.renewNonce (s : State) : State := (s.set E.irlinNonce 0 (s.drawn 0xFFFFFFFF + 1)).drew
/-- DISCOVER with RENEW (R60): a new nonce, and the sequence state of every binding cleared; without random output it stands as
a message under an absent key (R408). -/
def State.irlinRenew (s : State) (k : Fin 16) (via : Via) (tag : Nat) : State :=
  if s.n E.drbgState ≠ 1 then s.bump E.irlinDropAuth
  else
    let s := { s with control := { s.control with seen := [], outSeq := [] } }
    let s := (List.range 16).foldl (fun s k => s.set E.irlinSeqHigh k 0) s
    (s.renewNonce).irlinDiscover k via tag

/-! ### Messages (R58, R59, R61) -/

/-- The items of a READ; `none` where they do not make up the body. -/
def parseReads : Nat → List Byte → Option (List Item)
  | _, [] => some []
  | 0, _ => none
  | n + 1, b =>
    if b.length < 4 then none
    else (parseReads n (b.drop 4)).map (fun r => ⟨beAt b 0 2, beAt b 2 1, beAt b 3 1, []⟩ :: r)
/-- The items of a WRITE; `none` where they do not make up the body. -/
def parseWrites : Nat → List Byte → Option (List Item)
  | _, [] => some []
  | 0, _ => none
  | n + 1, b =>
    let w := beAt b 3 1
    if b.length < 4 + 8 * w then none
    else (parseWrites n (b.drop (4 + 8 * w))).map
      (fun r => ⟨beAt b 0 2, beAt b 2 1, w, wordsOfBytes w (b.drop 4)⟩ :: r)
/-- An accepted message's operation on its body (R59, R61). -/
def State.irlinOp (s : State) (k : Fin 16) (via : Via) (op tag : Nat) (peek renew : Bool) (b : List Byte) : State :=
  let refuse (code : Nat) : State := s.irlinReply k via op tag code []
  match op with
  | 1 => match parseReads b.length b with
    | some l => s.irlinRead k via tag peek l
    | none => refuse 8
  | 2 => match parseWrites b.length b with
    | some l => s.irlinWrite k via tag l
    | none => refuse 8
  | 3 =>
    if b.length = 20 then
      s.irlinGuardedWrite k via tag (beAt b 0 2) (beAt b 2 1) (beAt b 3 1) (BitVec.ofNat 64 (beAt b 4 8))
        (BitVec.ofNat 64 (beAt b 12 8))
    else refuse 8
  | 4 => if b.length = 4 then s.irlinBlockRead k via tag peek (beAt b 0 2) (beAt b 2 1) (beAt b 3 1) else refuse 8
  | 5 => if b.length = 12 then s.irlinCommit k via tag (beAt b 0 4) (beAt b 4 4) (beAt b 8 1) else refuse 8
  | 6 => if b.length = 16 then s.irlinSubscribe k via tag (beAt b 0 8) (beAt b 8 1) (beAt b 12 4) else refuse 8
  | 7 => s.irlinReport k via tag b
  | 8 => if b.isEmpty then (if renew then s.irlinRenew k via tag else s.irlinDiscover k via tag) else refuse 8
  | _ => refuse 1
/-- A message under binding `k` whose MAC is valid (R59, R60): every one but a NOTIFY message is answered; what a NOTIFY message asks
for is not performed (log 20), nor is one of another VERSION (log 21). -/
def State.irlinTake (s : State) (k : Fin 16) (via : Via) (b : List Byte) : State :=
  let op := beAt b 1 1
  let flags := beAt b 2 2
  let renew := bitOf flags 3
  let plain := decide (op = 8) && !renew
  let next : Option State := if plain then (if beAt b 8 4 = 0 then some s else none) else s.irlinSequence k (beAt b 8 4) (beAt b 12 4)
  match next with
  | none => s.bump E.irlinDropSeq k
  | some s =>
    let tag := beAt b 16 2
    let length := beAt b 18 2
    if bitOf flags 1 then s
    else if length + 40 ≠ b.length ∨ beAt b 0 1 ≠ 1 then s.irlinReply k via op tag 8 []
    else s.irlinOp k via op tag (bitOf flags 2) renew ((b.drop 24).take length)
/-- An Irlin message as it comes in (R57): its size and MAC, then what R59 to R61 say of it. -/
def State.irlinMessageIn (s : State) (via : Via) (b : List Byte) : State :=
  if b.length < 40 ∨ 8192 < b.length then s.bump E.irlinDropAuth
  else
    match s.irlinAuth via b (List.range 16) with
    | (some k, s) => s.irlinTake ⟨k % 16, Nat.mod_lt _ (by decide)⟩ via b
    | (none, s) => s.bump E.irlinDropAuth

/-! ### The rows -/

/-- IRLIN_DATAGRAM (R56, R57, R84, R85): the engine takes a datagram to the Irlin port from the frames of class 10 that wait for it. -/
def execIrlinDatagram (t port udpPort : Nat) (b : List Byte) (s : State) : Host.Outcome State Fault Refusal :=
  timed t s fun s =>
    s.frameTake port (fun f => decide (f.cls = 10 ∧ (layersOf f.bytes).dport = udpPort ∧ (layersOf f.bytes).body = b)) fun s =>
      if 18 ≤ port ∨ ¬ bitOf (s.n E.irlinPortMask) port then s.bump E.irlinDropAuth
      else s.irlinMessageIn (.udp port) b
/-- IRLIN_READ. -/
def execIrlinRead (t : Nat) (k : Fin 16) (via : Via) (tag : Nat) (peek : Bool) (items : List Item) (s : State) :
    Host.Outcome State Fault Refusal :=
  timed t s fun s => s.irlinRead k via tag peek items
/-- IRLIN_WRITE. -/
def execIrlinWrite (t : Nat) (k : Fin 16) (via : Via) (tag : Nat) (items : List Item) (s : State) :
    Host.Outcome State Fault Refusal :=
  timed t s fun s => s.irlinWrite k via tag items
/-- IRLIN_GUARDED_WRITE. -/
def execIrlinGuardedWrite (t : Nat) (k : Fin 16) (via : Via) (tag index sub words : Nat) (v c : Word) (s : State) :
    Host.Outcome State Fault Refusal :=
  timed t s fun s => s.irlinGuardedWrite k via tag index sub words v c
/-- IRLIN_BLOCK_READ. -/
def execIrlinBlockRead (t : Nat) (k : Fin 16) (via : Via) (tag : Nat) (peek : Bool) (index sub count : Nat) (s : State) :
    Host.Outcome State Fault Refusal :=
  timed t s fun s => s.irlinBlockRead k via tag peek index sub count
/-- IRLIN_COMMIT. -/
def execIrlinCommit (t : Nat) (k : Fin 16) (via : Via) (tag ref compl lock : Nat) (s : State) :
    Host.Outcome State Fault Refusal :=
  timed t s fun s => s.irlinCommit k via tag ref compl lock
/-- IRLIN_SUBSCRIBE. -/
def execIrlinSubscribe (t : Nat) (k : Fin 16) (via : Via) (tag domains minSev duration : Nat) (s : State) :
    Host.Outcome State Fault Refusal :=
  timed t s fun s => s.irlinSubscribe k via tag domains minSev duration
/-- IRLIN_SUBSCRIPTION_EXPIRY: the `n`-th subscription's granted duration is over. -/
def execIrlinSubscriptionExpiry (t n : Nat) (s : State) : Host.Outcome State Fault Refusal :=
  timed t s fun s =>
    match s.control.subs[n]? with
    | some u =>
      if u.expires ≤ s.now then { s with control := { s.control with subs := s.control.subs.eraseIdx n } } else s
    | none => s
/-- IRLIN_REPORT. -/
def execIrlinReport (t : Nat) (k : Fin 16) (via : Via) (tag : Nat) (report : List Byte) (s : State) :
    Host.Outcome State Fault Refusal :=
  timed t s fun s => s.irlinReport k via tag report
/-- IRLIN_DISCOVER. -/
def execIrlinDiscover (t : Nat) (k : Fin 16) (via : Via) (tag : Nat) (s : State) : Host.Outcome State Fault Refusal :=
  timed t s fun s => s.irlinDiscover k via tag
/-- IRLIN_RENEW. -/
def execIrlinRenew (t : Nat) (k : Fin 16) (via : Via) (tag : Nat) (s : State) : Host.Outcome State Fault Refusal :=
  timed t s fun s => s.irlinRenew k via tag

end Sys2Proof.Machine
end

