-- ==== Sys2Proof/Machine/HostCmd.lean ====
section
/-! DEFINITION. The commands of CMD rings and of the SPI target, derivations that complete, and deadlines that resolve
(R116, R285 to R288, R379, R396). -/

namespace Sys2Proof.Machine

/-! ### Host commands (R285, R286, R379) -/

/-- The answer a host command has at once: its code and its reply; `none` where it waits. -/
abbrev HostAnswer := Option (Nat × List Byte)

/-- NTS_MINT (R286, R334, R396, R408, R409). -/
def State.hostMint (s : State) (w : Nat) (d : DmaDesc) : HostAnswer × State :=
  let b := (d.data.getD []).take d.len
  let count := beAt b 2 1
  let code := resolve (
    (if beAt b 0 2 = 15 ∧ 1 ≤ count ∧ count ≤ 8 then [] else [7]) ++
    (if b.length = 68 ∧ 4 + 104 * count ≤ d.bufsz then [] else [8]) ++
    (if s.ntsCurrent.isSome ∧ s.n E.drbgState = 1 then [] else [9]))
  match s.ntsCurrent, code with
  | some (id, m), 0 =>
    let (u, label) := s.ntsUse m id
    match s.useKey u label with
    | (.waits, s) => (none, { s with vault := { s.vault with waiting := s.vault.waiting ++ [.mint w d] } })
    | (.refused _, s) => (some (9, []), s)
    | (.key k, s) =>
      let (cs, s) := s.mint id k ((b.drop 4).take 32) ((b.drop 36).take 32) count
      (some (0, be 4 id ++ cs.flatten), s.bump E.ntpMinted 0 count)
  | _, _ => (some (code, []), s)
/-- The previous master key's identifier (R286, R334): of the last period, or of the slot that was CURRENT before. -/
def State.ntsPrevious (s : State) : Nat :=
  match s.ntsCurrent with
  | none => 0
  | some (id, m) =>
    if s.n E.ntsKeySource = 0 then
      let p := max 1 (s.n E.ntsRotatePeriod)
      if p ≤ secOf s.tai then s.derivedKeyId (secOf s.tai - p) else 0
    else
      let was := s.ntp.past.filterMap (fun q => (List.range 8).find? (fun j => decide (q.2.getD j 0 = 2 ∧ j ≠ m)))
      match was with
      | j :: _ => if s.n E.ntsMkId j = id then 0 else s.n E.ntsMkId j
      | [] => 0
/-- NTS_KEY_STATUS (R286). -/
def State.hostKeyStatus (s : State) : HostAnswer :=
  some (0, be 4 s.ntsKeyView.1 ++ be 4 s.ntsPrevious ++ be 4 s.ntsKeyView.2)
/-- GNSS_CORR (R286, R379). -/
def State.hostCorr (s : State) (d : DmaDesc) : HostAnswer × State :=
  if ¬ s.present 0 then (some (2, []), s)
  else
    let b := (d.data.getD []).take d.len
    let code := s.corrCode b
    if code = 0 then (some (0, t96Bytes s.nextEpoch), s.corrAccept b) else (some (code, []), s)
/-- A command answers in its buffer, or waits. -/
def State.hostAnswer (s : State) (w : Nat) : HostAnswer → State
  | some (code, reply) => s.cmdFinish w code reply
  | none => s
/-- A host command by its code (R286). -/
def State.hostCommand (s : State) (w : Nat) (d : DmaDesc) : State :=
  if ¬ bitOf (s.n E.hostcmdWorlds) w then s.cmdFinish w 3 []
  else
    match d.field 16 1 with
    | 1 => let (a, s) := s.hostMint w d; s.hostAnswer w a
    | 2 => s.hostAnswer w s.hostKeyStatus
    | 3 => let (a, s) := s.hostCorr d; s.hostAnswer w a
    | _ => s.cmdFinish w 1 []
/-- A message on a CMD ring waits for its commit's result. -/
def State.cmdWaits (s : State) (w : Nat) : Bool :=
  match s.control.commit with
  | some c => (match c.reply with | some (_, .ring v, _) => v == w | _ => false)
  | none => false
/-- A good CMD descriptor runs (R285): an Irlin message dropped silently completes with LEN 0. -/
def State.cmdRun (s : State) (w : Nat) (d : DmaDesc) : State :=
  if d.op = 0x20 then
    let s := s.irlinMessageIn (.ring w) ((d.data.getD []).take d.len)
    if s.cmdWaits w then s else s.cmdFinish w 0 []
  else s.hostCommand w d
/-- The next descriptor of a CMD ring (R278, R285, R286). -/
def State.cmdNext (s : State) (w : Nat) (d : DmaDesc) : State := s.cmdStart w d (fun s => s.cmdRun w d)
/-- CMD_IRLIN (R285). -/
def execCmdIrlin (t : Nat) (w : Fin 16) (d : DmaDesc) (s : State) : Host.Outcome State Fault Refusal :=
  timed t s fun s => s.cmdNext w d
/-- NTS_MINT (R286). -/
def execNtsMint (t : Nat) (w : Fin 16) (d : DmaDesc) (s : State) : Host.Outcome State Fault Refusal :=
  timed t s fun s => s.cmdNext w d
/-- NTS_KEY_STATUS (R286). -/
def execNtsKeyStatus (t : Nat) (w : Fin 16) (d : DmaDesc) (s : State) : Host.Outcome State Fault Refusal :=
  timed t s fun s => s.cmdNext w d
/-- GNSS_CORR (R286, R379). -/
def execGnssCorr (t : Nat) (w : Fin 16) (d : DmaDesc) (s : State) : Host.Outcome State Fault Refusal :=
  timed t s fun s => s.cmdNext w d

/-! ### Derivations (R390, R394, R396) -/

/-- A derived key enters the cache, with the check value of its slot (R390, R396). -/
def State.cacheDerived (s : State) (k : Nat) (label : Option (List Byte)) : State :=
  let chain := s.chainOf k
  if s.vault.cache.any (fun c => c.slot = k && c.label = label && c.chain = chain) then s
  else
    let key := s.childKey k label
    let (sh, s) := s.share key
    let s := s.cachePut ⟨k, label, chain, sh⟩
    if label.isNone then s.set E.keyKcv k (kcvOf (s.slotType k) key) else s
/-- A finished derivation (R396): every level from the top down; one whose chain has changed meanwhile is given up. -/
def State.derivationDone (s : State) (d : Derivation) : State :=
  if s.chainOf d.slot = d.chain ∧ s.derivable 10 d.slot then
    let s := (d.chain.reverse.filter (fun p => s.derivedSlot p.1)).foldl (fun s p => s.cacheDerived p.1 none) s
    if d.label.isSome then s.cacheDerived d.slot d.label else s
  else s
/-- A use that waited proceeds (R396). -/
def State.keyResume (s : State) : KeyWait → State
  | .nts x => s.ntsServe x
  | .mint w d => let (a, s) := s.hostMint w d; s.hostAnswer w a
/-- DERIVATION_COMPLETE (R396): the private core ends one derivation at a time, the oldest first. -/
def execDerivationComplete (t : Nat) (s : State) : Host.Outcome State Fault Refusal :=
  timed t s fun s =>
    match s.vault.running with
    | d :: rest =>
      let waits := s.vault.waiting
      let s := { s with vault := { s.vault with running := rest, waiting := [] } }
      waits.foldl State.keyResume (s.derivationDone d)
    | [] => s

/-! ### Deadlines (R115, R116) -/

/-- The start tick and duration of a deadline, as its deadline tick; `none` where nothing waits for it. -/
def State.deadlineTick (s : State) : Deadline → Option Nat
  | .handshake _ _ _ rose => some (rose + s.n E.hsTimeout)
  | .guardPair => s.control.pair.map (fun p => p.tick + 500)
  | .activity n => some ((s.slot n).arrival + s.activityTicks n)
  | .announce i => (s.ptpInst i).parent.map (fun a => a.last + s.announceTicks i)
  | .sync i => some ((s.ptpInst i).lastSync + s.syncTicks i)
  | .grant slot kind => (clientGrant (s.client slot) kind).map (·.expires)
  | .esmc n => some ((s.slot n).lastInfo + ticksS 5)
  | .partner k => some (s.partnerDeadline k)
/-- The islands whose paths can carry the arrival that a deadline waits for (R116). -/
def State.deadlinePaths (s : State) : Deadline → List Nat
  | .handshake _ _ island _ => [island]
  | .guardPair => [0x702]
  | .activity n =>
    match s.refKind n with
    | 1 => [0x501]
    | 2 => s.upPaths (s.refNo n)
    | _ => [0x100 + bankOf (s.refChannel n)]
  | .announce i => s.upPaths i
  | .sync i => s.upPaths i
  | .grant slot _ => [0x400, portIsland (s.client slot).port]
  | .esmc n => [portIsland (s.n E.refEsmcPort n)]
  | .partner k => s.partnerPaths k
/-- What its unit does when a deadline has passed; nothing where the awaited arrival has come or the tick has not. -/
def State.deadlineActs (s : State) : Deadline → State
  | .handshake chan dom island rose => s.stall chan dom island rose (.data [])
  | .guardPair => if s.pairLate then s.pairDiscard else s
  | .activity n => s.activityLost n
  | .announce i => s.announceLost i
  | .sync i => s.syncLost i
  | .grant slot kind => s.grantExpired slot kind
  | .esmc n => s.esmcLost n
  | .partner k => s.partnerAge k
/-- DEADLINE_RESOLVE (R116): the deadline that stands at tick `at_`; the unit acts once the order mark of every path that can carry the arrival is beyond the deadline
tick, or has stopped for `HS_TIMEOUT`. -/
def execDeadlineResolve (t : Nat) (d : Deadline) (at_ : Nat) (s : State) : Host.Outcome State Fault Refusal :=
  timed t s fun s => if s.deadlineTick d = some at_ ∧ s.resolves (s.deadlinePaths d) at_ then s.deadlineActs d else s

/-! ### The SPI target (R287, R288) -/

/-- The CRC of R160 over the bytes of one direction. -/
def spiCrc (b : List Byte) : Nat := crc16 0x1021 0xFFFF b
/-- A response with its CRC. -/
def State.spiRespond (s : State) (b : List Byte) : State := s.emit (.spi (b ++ be 2 (spiCrc b)))
/-- A complete request frame: performed when its CRC is right, else answered with 0x08 and counted (R288); `pad` is what the
response carries after the status. -/
def State.spiFrame (s : State) (request : List Byte) (crc pad : Nat) (f : State → State) : State :=
  if crc = spiCrc request then f s else (s.bump E.spitCrcErr).spiRespond (be 1 8 ++ zeros pad)
/-- A frame row of the SPI target (R287): its index and subindex fit their fields, or it is no frame. -/
def spiRow (t index sub : Nat) (s : State) (f : State → State) : Host.Outcome State Fault Refusal :=
  timed t s fun s => if targetOk .spit (.obj index sub) then f s else s
/-- SPI_READ. -/
def execSpiRead (t index sub crc : Nat) (s : State) : Host.Outcome State Fault Refusal :=
  spiRow t index sub s fun s =>
    s.spiFrame (be 1 1 ++ be 2 index ++ be 1 sub) crc 8 fun s =>
      let r := s.read .spit ⟨index, sub, false, true⟩
      r.2.spiRespond (be 1 r.1.1 ++ be 8 r.1.2.toNat)
/-- SPI_WRITE. -/
def execSpiWrite (t index sub : Nat) (v : Word) (crc : Nat) (s : State) : Host.Outcome State Fault Refusal :=
  spiRow t index sub s fun s =>
    s.spiFrame (be 1 2 ++ be 2 index ++ be 1 sub ++ be 8 v.toNat) crc 0 fun s =>
      let r := s.writeAt .spit ⟨index, sub, false, true⟩ [v]
      r.2.spiRespond (be 1 r.1)
/-- SPI_GUARDED (R45). -/
def execSpiGuarded (t index sub : Nat) (v c : Word) (crc : Nat) (s : State) : Host.Outcome State Fault Refusal :=
  spiRow t index sub s fun s =>
    s.spiFrame (be 1 3 ++ be 2 index ++ be 1 sub ++ be 8 v.toNat ++ be 8 c.toNat) crc 0 fun s =>
      let r := s.writeAt .spit ⟨index, sub, false, true⟩ [v] (.guarded c)
      r.2.spiRespond (be 1 r.1)
/-- SPI_IRLIN: the reply is queued. -/
def execSpiIrlin (t : Nat) (message : List Byte) (crc : Nat) (s : State) : Host.Outcome State Fault Refusal :=
  timed t s fun s =>
    s.spiFrame (be 1 4 ++ be 2 message.length ++ message) crc 0 fun s =>
      (s.irlinMessageIn .spi message).spiRespond (be 1 0)
/-- SPI_IRLIN_POP: length 0 with none queued. -/
def execSpiIrlinPop (t crc : Nat) (s : State) : Host.Outcome State Fault Refusal :=
  timed t s fun s =>
    s.spiFrame (be 1 5) crc 0 fun s =>
      match s.host.spiReplies with
      | b :: rest => ({ s with host := { s.host with spiReplies := rest } }).spiRespond (be 2 b.length ++ b)
      | [] => s.spiRespond (be 2 0)
/-- SPI_IMAGE (R288): a chunk of 1 to 256 bytes in the 4 MiB area. -/
def execSpiImage (t off : Nat) (data : List Byte) (crc : Nat) (s : State) : Host.Outcome State Fault Refusal :=
  timed t s fun s =>
    s.spiFrame (be 1 6 ++ be 4 off ++ be 2 data.length ++ data) crc 0 fun s =>
      if data.length < 1 ∨ 256 < data.length then s.spiRespond (be 1 8)
      else if 4194304 < off + data.length then s.spiRespond (be 1 7)
      else ({ s with host := { s.host with spiImage := s.host.spiImage ++ [(off, data)] } }).spiRespond (be 1 0)
/-- SPI_EVENT_POP (R281, R288): a queue that has lost records takes their loss record when a place is free. -/
def execSpiEventPop (t crc : Nat) (s : State) : Host.Outcome State Fault Refusal :=
  timed t s fun s =>
    s.spiFrame (be 1 7) crc 0 fun s =>
      match s.host.spiEvents with
      | b :: rest =>
        let r := 8 * s.n E.bindSpit + 3
        let s := { s with host := { s.host with spiEvents := rest ++ (s.ring r).losses.take 1 } }
        (s.setRing r ((s.ring r).lossesDone 1)).spiRespond (be 1 1 ++ padTo 32 b)
      | [] => s.spiRespond (be 1 0 ++ zeros 32)
/-- SPI_ABORTED (R288). -/
def execSpiAborted (t : Nat) (s : State) : Host.Outcome State Fault Refusal :=
  timed t s fun s => s.bump E.spitAborted
/-- IRQ_N[`pin`] is driven low (R283, R288): a pending ring, or records and replies that wait for the SPI host. -/
def State.irqLow (s : State) (pin : Nat) : Bool :=
  (List.range 128).any (fun r => decide (s.n E.ringIrqVec r = 0x80 + pin) && s.ringPending r) ||
    (decide (s.n E.spitIrqPin = pin) && !(s.host.spiEvents.isEmpty && s.host.spiReplies.isEmpty))

end Sys2Proof.Machine
end

