-- ==== Sys2Proof/Machine/Bringup.lean ====
section
/-! DEFINITION. Reset and power, the start-up stages, the end of the Quiet state and first lock (R6, R18 to R20, R69 to R80,
R82, R380, R388, R405, R409, R452, R461). -/

namespace Sys2Proof.Machine

/-! ### Reset and power (R69, R70, R452) -/

/-- What survives a reset: OTP, keep-alive memory and the vault's kept records under VDDAO, and over a warm reset the W1 states,
the fuses in force since power-on and the JTAG port; what has been sent, drawn and queued is the model's own. -/
def State.restart (s : State) : State :=
  let warm := s.power.pwrgood
  let kept := if s.n E.drbgState ≠ 0 then some (s.n E.pcieBifur, s.flag E.boxCertMode) else s.boot.kept
  { State.reset with
    otp := s.otp
    control := { State.reset.control with w1 := if warm then s.control.w1 else [] }
    boot := { State.reset.boot with kept := if warm then kept else none }
    gnss := { State.reset.gnss with keep := s.gnss.keep }
    vault := { State.reset.vault with kept := s.vault.kept }
    jtag := if warm then s.jtag else {}
    draws := s.draws
    emits := s.emits
    pending := s.pending }
/-- RESET_RELEASE (R69): RESET_N rises with PWRGOOD high. -/
def execResetRelease (s : State) : Host.Outcome State Fault Refusal :=
  .next (if s.power.held then s.restart else s)
/-- The outputs and serdes stop, and the engine holds itself in reset (R70); a fuse burn that was under way is half done (R82).
`power` says whether PWRGOOD stays high. -/
def State.hold (s : State) (pwrgood : Bool) : State :=
  let otp := match s.boot.burning with
    | some (l, _) => { s.otp with halfBurnt := some l }
    | none => s.otp
  let s := (List.range 8).foldl (fun s p => s.setPulse p { s.pulse p with active := false, trail := none, follow := [] }) s
  let s := (List.range 16).foldl (fun s k =>
    s.setClkout k { s.clkout k with onMdll := false, armed := none, stopped := true }) s
  { s with
    synth := { s.synth with lanes := [] }
    ports := []
    otp := otp
    boot := { s.boot with burning := none }
    power := { s.power with
      pwrgood := s.power.pwrgood && pwrgood, resetN := s.power.resetN && !pwrgood, held := true } }
/-- An engine that is not yet held runs on to `t` first. -/
def State.runHeld (s : State) (t : Nat) : State := if s.power.held then s else s.runTo t
/-- PWRGOOD_FALL (R70). -/
def execPwrgoodFall (t : Nat) (s : State) : Host.Outcome State Fault Refusal := .next ((s.runHeld t).hold false)
/-- RESET_ASSERT (R70): with PWRGOOD high, a warm reset. -/
def execResetAssert (t : Nat) (s : State) : Host.Outcome State Fault Refusal := .next ((s.runHeld t).hold true)
/-- VDDAO_OUT_OF_RANGE (R380, R388, R452): as if PWRGOOD had fallen, and what VDDAO keeps is lost. -/
def execVddaoOutOfRange (t : Nat) (s : State) : Host.Outcome State Fault Refusal :=
  let s := (s.runHeld t).hold false
  .next { s with gnss := { s.gnss with keep := [] }, vault := { s.vault with kept := [] } }

/-! ### Stages 1 and 2 (R4 to R6, R71, R72, R81, R82) -/

/-- The entries that the load takes from OTP or from the variant. -/
def State.loadIdentity (s : State) : State :=
  let o := s.otp
  let (bifur, cert) := s.boot.kept.getD (o.bifur, o.certified)
  let s := (((s.set E.lifecycle 0 o.lifecycle).set E.bootOptions 0 o.bootOptions).set E.pcieBifur 0 bifur).setFlag
    E.boxCertMode 0 cert
  let s := s.set E.anchorCounter 0 o.anchorCounter
  let s := (List.range 18).foldl (fun s p => s.set E.portMacAddr p ((o.macBase + p) % 2 ^ 48)) s
  (List.range 16).foldl (fun s i => s.set E.ptpClockId i (o.euiBase + i)) s
/-- The BIST blocks (R434). -/
def State.loadBist (s : State) : State :=
  let l := s.islandList
  (List.range 256).foldl (fun s b =>
    match l[b]? with
    | none => s.set E.bistIslandId b 0xFFFF
    | some i =>
      let logic := tabGet 0 i s.otp.expectLogic
      let mem := tabGet 0 i s.otp.expectMem
      ((((s.set E.bistIslandId b i).set E.bistExpectLogicHi b (logic / 2 ^ 64)).set E.bistExpectLogicLo b
        (logic % 2 ^ 64)).set E.bistExpectMemHi b (mem / 2 ^ 64)).set E.bistExpectMemLo b (mem % 2 ^ 64)) s
/-- What is drawn at every reset: `LEDGER_ID`, the Irlin nonce, the key of the rate buckets; and the GENESIS entry (R60, R134,
R135, R337). -/
def State.drawReset (s : State) : State :=
  let id := s.drawn (2 ^ 64)
  let s := ((s.set E.ledgerId 0 id).drew).renewNonce
  let s := ({ s with ntp := { s.ntp with hashKey := s.drawn (2 ^ 128) } }).drew
  s.ledgerNote 0 0xFFFF (id / 2 ^ 32)
/-- The stage after root generation (R71). -/
def State.afterRoot (s : State) : State := s.set E.bootStage 0 (if bitOf (s.n E.bootOptions) 0 then 3 else 4)
/-- OTP_LOAD (R6, R71, R82): a half-burnt pair for RETIRED is completed, any other reads as not burnt. -/
def execOtpLoad (t : Nat) (ok : Bool) (s : State) : Host.Outcome State Fault Refusal :=
  timed t s fun s =>
    if s.n E.bootStage ≠ 1 ∨ s.power.otpFail then s
    else if ¬ ok then { s with power := { s.power with otpFail := true } }
    else
      let retire := decide (s.otp.halfBurnt = some 4)
      let s := { s with otp := { s.otp with halfBurnt := none } }
      let s := (s.loadIdentity.set E.drbgState 0 1).keepLoad
      let s := s.loadBist.drawReset
      let s := if retire then s.enterLifecycle 4
        else s.set E.vaultState 0 (if s.n E.lifecycle = 0 then 0 else if s.n E.lifecycle = 4 then 3 else 1)
      if s.n E.lifecycle = 0 then s.set E.bootStage 0 2 else s.afterRoot
/-- ROOT_GEN (R72, R385): the root is kept masked, as two shares. `health` has the results of the start-up tests in order, at most four of which count; `writes` says whether
the region's marker is written. -/
def execRootGen (t : Nat) (health : List Bool) (writes : Bool) (s : State) : Host.Outcome State Fault Refusal :=
  timed t s fun s =>
    if s.n E.bootStage ≠ 2 ∨ s.n E.bootResult = 6 then s
    else if ¬ (health.take 4).any id ∨ 2 ≤ s.otp.rootWritten then s.set E.bootResult 0 6
    else
      let root := s.randomBytes 32
      let region := s.otp.rootWritten + 1
      let (masked, s) := s.drew.share root
      if ¬ writes then ({ s with otp := { s.otp with rootWritten := region } }).set E.bootResult 0 6
      else
        let s := { s with otp := { s.otp with rootWritten := region, rootMarked := region, root := masked } }
        (s.enterLifecycle 1).set E.vaultState 0 1 |>.afterRoot

/-! ### Stages 3 to 5 (R71, R73 to R76, R405, R409, R429 to R431) -/

/-- STAGE_BIST (R71, R430, R431): every fitted island with both kinds; `sigs` has the signatures by island. -/
def execStageBist (t : Nat) (sigs : List (Nat × Nat × Nat)) (s : State) : Host.Outcome State Fault Refusal :=
  timed t s fun s =>
    if s.n E.bootStage ≠ 3 then s
    else
      let of (i : Nat) : Nat × Nat := ((sigs.find? (fun p => p.1 == i)).map (·.2)).getD (0, 0)
      let l := s.islandList
      let s := l.foldl (fun s i => (s.arraysZero i).bistResult i 3 (of i).1 (of i).2) s
      let s := (List.range 8).foldl (fun s x => if s.holly.failed.contains (0x610 + x) then s.set E.laneState x 0 else s) s
      if s.holly.failed.isEmpty then s.set E.bootStage 0 4
      else (s.set E.bootResult 0 7).toCalibrate
/-- The images of the flash in the order they are tried (R74): the higher serial first, slot A when they are equal. -/
def flashImages (a b : List Byte) : List (Nat × List Byte) :=
  let x := if imageMagic a then [(1, a)] else []
  let y := if imageMagic b then [(2, b)] else []
  if imageMagic a ∧ imageMagic b ∧ imageSerialOf a < imageSerialOf b then y ++ x else x ++ y
/-- What the flash holds at an offset, up to a length; nothing where no read answers (R73, R403). -/
def flashPart (x : FlashObs) (off len : Nat) : List Byte :=
  (((x.reads.find? (fun p => p.1 == off)).map (·.2)).getD []).take len
/-- Offset and size of an image slot of the flash (R73): A at 0, B at 0x0040_0000, 4 MiB each. -/
def slotSize : Nat := 0x400000
/-- STAGE_IMAGE_LOAD (R73, R74, R405, R409, R461): the image slots and the two journal records that the anchor counter names. -/
def execStageImageLoad (t : Nat) (x : FlashObs) (s : State) : Host.Outcome State Fault Refusal :=
  timed t s fun s =>
    if s.n E.bootStage ≠ 4 then s
    else
      let s := if s.flag E.boxCertMode then s.selfTests x.failed else s
      let journal (k : Nat) := flashPart x (journalAddr (s.otp.anchorCounter + k)) 4096
      let s := if s.n E.vaultState = 1 then s.journalLoad x.answers (journal 0) (journal 1) else s
      let flash := if x.answers ∧ ¬ bitOf (s.n E.bootOptions) 1 then
        flashImages (flashPart x 0 slotSize) (flashPart x slotSize slotSize) else []
      let images := flash ++ s.boot.images
      let s := { s with boot := { s.boot with images := images } }
      if images.isEmpty then (s.set E.bootResult 0 1).toCalibrate else s.set E.bootStage 0 5
/-- The use of the key that signed an image (R76, R476). -/
def imageUse (b : List Byte) : KeyUse :=
  { ref := imageKeyOf b, op := 4, types := [4], classes := [1], role := 2, lane := 0 }
/-- The records of an image that has passed checks 1 to 3 of R76, or the result it fails with. -/
def State.imageChecks (s : State) (b : List Byte) : Nat × List ImageRecord × State :=
  match imageRecords b with
  | none => (4, [], s)
  | some l =>
    match s.useKey (imageUse b) with
    | (.key k, s) =>
      let s := s.perfEvent 0x603 0
      if ¬ ecdsaVerify k (imageDigest b) (imageSig b) then (2, [], s)
      else if (beAt b 8 4 ≠ 0 ∧ beAt b 8 4 ≠ s.otp.part.number) ∨ beAt b 12 8 ≠ s.otp.mask then (3, [], s)
      else (0, l, s)
    | (_, s) => (2, [], s)
/-- The records written in order, guarded entries directly; the first refused write ends it (R76). -/
def State.writeRecords (s : State) : List ImageRecord → Bool × State
  | [] => (true, s)
  | r :: l =>
    match s.writeAt .seq ⟨r.index, r.sub, false, true⟩ r.words with
    | (0, s) => s.writeRecords l
    | (_, s) => (false, s)
/-- The image in hand is checked, its records are written, and CHECK is committed (R76). -/
def State.imageRun (s : State) (b : List Byte) : State :=
  match s.imageChecks b with
  | (0, l, s) =>
    match s.writeRecords l with
    | (true, s) =>
      let c : Commit := { ref := beAt b 24 4, lock := bitOf (beAt b 6 2) 0, image := true }
      (s.set E.commitRef 0 c.ref).startCommit c
    | (false, s) => s.imageFailed 4
  | (code, _, s) => s.imageFailed code
/-- IMAGE_APPLY (R73, R76): the image in hand, once no commit is in progress and no pair is pending. `dma` is what the read of a
host's image brings, none where it fails; no image comes of one that is not as long as was asked. -/
def execImageApply (x : ApplyObs) (s : State) : Host.Outcome State Fault Refusal :=
  timed x.t s fun s =>
    match s.boot.images with
    | [] => s
    | (src, b) :: rest =>
      if s.n E.bootStage < 5 ∨ s.control.commit.isSome ∨ s.control.pair.isSome then s
      else
        match s.boot.dma with
        | some (_, _, n) =>
          if src ≠ 3 then s.imageRun b
          else
            match x.dma with
            | some d =>
              if d.length = n then ({ s with boot := { s.boot with images := (src, d) :: rest, dma := none } }).imageRun d
              else s.imageFailed 1
            | none => s.imageFailed 1
        | none => s.imageRun b

/-! ### Stages 6 to 9 (R18 to R20, R71, R78 to R80) -/

/-- A leaf's t_fwd as stage 6 measures it (R18); a round trip that is not measured is 0. -/
def State.calForward (s : State) (x : CalObs) (n : Nat) : Int :=
  s.leafForward n (((x.roundTripFs.find? (fun p => p.1.val == n)).map (·.2)).getD 0)
/-- A leaf inside the pad range is calibrated (R18): t_fwd, and the pad in ps. -/
def State.calLeaf (s : State) (x : CalObs) (n : Nat) : State :=
  let fwd := s.calForward x n
  (s.set E.leafFwdDelay n (fwdWord fwd)).setLeaf n { s.leaf n with pad := (padFor fwd).toNat, fwd0 := fwd.toNat }
/-- The tree's calibration (R18, R20): each fitted leaf in range, then FAILED or DONE. -/
def State.calTree (s : State) (x : CalObs) : State :=
  let fitted := (List.range 64).filter s.leafFitted
  let good := fitted.filter (fun n => padInRange (s.calForward x n))
  let s := good.foldl (fun s n => s.calLeaf x n) s
  (s.set E.treeLeaves 0 (maskOf good)).set E.treeCalState 0 (if good.length < fitted.length then 3 else 2)
/-- Both converters of every channel calibrate (R208); one that is not measured counts nothing. -/
def State.calConverters (s : State) (x : CalObs) : State :=
  (List.range 52).foldl (fun s k =>
    let m := ((x.converters.find? (fun p => p.1 == k)).map (·.2)).getD (0, 0)
    s.calibrated (k / 2) (k % 2 == 1) m.1 m.2) s
/-- An MDLL calibrates (R222): 64 DTC steps of 0.4 ps to 0.6 ps, and a VCO that covers 3,200 MHz to 6,400 MHz. -/
def mdllOk (x : CalObs) (m : Nat) : Bool :=
  match x.mdlls.find? (fun p => p.1.val == m) with
  | some (_, c) => decide (c.steps.length = 64 ∧ c.low ≤ 3200000 ∧ 6400000 ≤ c.high) && c.steps.all (fun d => decide (400 ≤ d ∧ d ≤ 600))
  | none => false
/-- The enabled MDLLs begin to acquire once stage 6 has calibrated them (R223). -/
def State.mdllsStart (s : State) : State :=
  (((List.range 4).filter (fun m => s.flag E.mdllEnable m)).foldl (fun s m =>
    if s.n E.mdllState m = 0 then (s.takeReference m).acquire m else s) s).lockEvents
/-- A stage 6 that has failed stays (R18, R71). -/
def State.calFail (s : State) (result : Nat) : State :=
  ({ s with boot := { s.boot with calFailed := true } }).set E.bootResult 0 result
/-- CALIBRATE (R18 to R20, R71, R208, R222): the tree, the converters and all four MDLLs. -/
def execCalibrate (t : Nat) (x : CalObs) (s : State) : Host.Outcome State Fault Refusal :=
  timed t s fun s =>
    if s.n E.bootStage ≠ 6 ∨ s.boot.calFailed then s
    else
      let s := (s.calTree x).calConverters x
      if s.n E.treeCalState = 3 then (s.calFail 8).raise 3
      else if ¬ (List.range 4).all (mdllOk x) then s.calFail 9
      else ({ s.mdllsStart with boot := { s.boot with stage6 := true } }).set E.bootStage 0 7
/-- QUIET_END (R78): a commit has MATCHED since reset and stage 6 has completed. -/
def execQuietEnd (t : Nat) (s : State) : Host.Outcome State Fault Refusal :=
  timed t s fun s =>
    if s.n E.bootStage = 7 ∧ s.boot.stage6 ∧ s.control.matched then
      let s := s.set E.bootStage 0 (if s.flag E.firstLock then 9 else 8)
      let s := s.set E.bootTime 0 (min (s.now / 500) (2 ^ 32 - 1))
      s.outputRefresh.clkQuietEnd.ppsRefreshAll
    else s
/-- FIRST_LOCK (R80, R101, R185): the first moment at which Hornbeam has a selected QUALIFIED slot; a step that would be too
large a retard is deferred. -/
def execFirstLock (t : Nat) (s : State) : Host.Outcome State Fault Refusal :=
  timed t s fun s =>
    let n := s.n E.hbSelected
    if s.flag E.firstLock ∨ 32 ≤ n ∨ ¬ s.qualified n ∨ ¬ s.timeCapable n ∨ ¬ s.measured n ∨ s.privet.pendStep.isSome ∨ s.privet.retarding then s
    else
      let off := unitsOfFs (s.phaseNow n)
      if off < 0 ∧ ofNs (s.n E.privetRetardMax * 10 ^ 6) < off.natAbs then
        if s.privet.initAhead then s else ({ s with privet := { s.privet with initAhead := true } }).raise 10
      else
        let s := (s.acceptStep off 0).set E.firstLock 0 1
        let s := if 8 ≤ s.n E.bootStage then s.set E.bootStage 0 9 else s
        s.trackClear.steerInteg.yewRefresh.outputRefresh

end Sys2Proof.Machine
end

