-- ==== Sys2Proof/Machine/Dispatch.lean ====
section
/-! DEFINITION. One arm per command: each is one call of its meaning. -/

namespace Sys2Proof.Machine

def exec (i : Instr) (s : State) : Host.Outcome State Fault Refusal :=
  match i with
  -- domains, islands and the epoch strobe (R10 to R31)
  | .handshakeTransfer t h => Sys2Proof.Machine.execHandshakeTransfer t h s
  | .hsStall t chan dom island request => Sys2Proof.Machine.execHsStall t chan dom island request s
  | .epochStrobe t x => Sys2Proof.Machine.execEpochStrobe t x s
  | .namedValueArrival t leaf value res => Sys2Proof.Machine.execNamedValueArrival t leaf value res s
  | .copyMissLimitReached t leaf => Sys2Proof.Machine.execCopyMissLimitReached t leaf s
  | .treeRemeasure t leaf roundTripFs => Sys2Proof.Machine.execTreeRemeasure t leaf roundTripFs s
  | .eccWriteback t array word functional => Sys2Proof.Machine.execEccWriteback t array word functional s
  | .scrubRead t bank word ecc => Sys2Proof.Machine.execScrubRead t bank word ecc s
  | .scrubForced t bank word ecc => Sys2Proof.Machine.execScrubForced t bank word ecc s
  -- the object dictionary, Irlin and the worlds (R32 to R67)
  | .registerWrite t m a v => Sys2Proof.Machine.execRegisterWrite t m a v s
  | .corRead t m a => Sys2Proof.Machine.execCorRead t m a s
  | .latchRead t m a => Sys2Proof.Machine.execLatchRead t m a s
  | .stagedWordWrite t m a v => Sys2Proof.Machine.execStagedWordWrite t m a v s
  | .guardedValueWrite t f a v => Sys2Proof.Machine.execGuardedValueWrite t f a v s
  | .guardedComplementWrite t f a v => Sys2Proof.Machine.execGuardedComplementWrite t f a v s
  | .guardDeadlineExpiry t => Sys2Proof.Machine.execGuardDeadlineExpiry t s
  | .lockCtrl t m v => Sys2Proof.Machine.execLockCtrl t m v s
  | .bindPcie t m j v => Sys2Proof.Machine.execBindPcie t m j v s
  | .irlinDatagram t port udpPort bytes => Sys2Proof.Machine.execIrlinDatagram t port udpPort bytes s
  | .irlinRead t k via tag peek items => Sys2Proof.Machine.execIrlinRead t k via tag peek items s
  | .irlinWrite t k via tag items => Sys2Proof.Machine.execIrlinWrite t k via tag items s
  | .irlinGuardedWrite t k via tag index sub words v c => Sys2Proof.Machine.execIrlinGuardedWrite t k via tag index sub words v c s
  | .irlinBlockRead t k via tag peek index sub count => Sys2Proof.Machine.execIrlinBlockRead t k via tag peek index sub count s
  | .irlinCommit t k via tag ref compl lock => Sys2Proof.Machine.execIrlinCommit t k via tag ref compl lock s
  | .irlinSubscribe t k via tag domains minSev duration => Sys2Proof.Machine.execIrlinSubscribe t k via tag domains minSev duration s
  | .irlinSubscriptionExpiry t n => Sys2Proof.Machine.execIrlinSubscriptionExpiry t n s
  | .irlinReport t k via tag report => Sys2Proof.Machine.execIrlinReport t k via tag report s
  | .irlinDiscover t k via tag => Sys2Proof.Machine.execIrlinDiscover t k via tag s
  | .irlinRenew t k via tag => Sys2Proof.Machine.execIrlinRenew t k via tag s
  | .commitRef t m v => Sys2Proof.Machine.execCommitRef t m v s
  | .pewterSweep t => Sys2Proof.Machine.execPewterSweep t s
  | .sweepComplete t seen => Sys2Proof.Machine.execSweepComplete t seen s
  | .editOpen t m => Sys2Proof.Machine.execEditOpen t m s
  | .editClose t m => Sys2Proof.Machine.execEditClose t m s
  | .editTimeoutExpiry t => Sys2Proof.Machine.execEditTimeoutExpiry t s
  -- power-up, lifecycle, images, trim profiles (R68 to R88, R452)
  | .resetRelease => Sys2Proof.Machine.execResetRelease s
  | .pwrgoodFall t => Sys2Proof.Machine.execPwrgoodFall t s
  | .resetAssert t => Sys2Proof.Machine.execResetAssert t s
  | .vddaoOutOfRange t => Sys2Proof.Machine.execVddaoOutOfRange t s
  | .otpLoad t ok => Sys2Proof.Machine.execOtpLoad t ok s
  | .rootGen t health writes => Sys2Proof.Machine.execRootGen t health writes s
  | .stageBist t sigs => Sys2Proof.Machine.execStageBist t sigs s
  | .stageImageLoad t x => Sys2Proof.Machine.execStageImageLoad t x s
  | .imageApply x => Sys2Proof.Machine.execImageApply x s
  | .calibrate t x => Sys2Proof.Machine.execCalibrate t x s
  | .quietEnd t => Sys2Proof.Machine.execQuietEnd t s
  | .imageLoad t m v dma => Sys2Proof.Machine.execImageLoad t m v dma s
  | .firstLock t => Sys2Proof.Machine.execFirstLock t s
  | .lifecycleReq t m v => Sys2Proof.Machine.execLifecycleReq t m v s
  | .lifecycleBurnComplete t => Sys2Proof.Machine.execLifecycleBurnComplete t s
  | .bootOptionsBurn t m v => Sys2Proof.Machine.execBootOptionsBurn t m v s
  | .trimProfile t m v => Sys2Proof.Machine.execTrimProfile t m v s
  | .trimApply t => Sys2Proof.Machine.execTrimApply t s
  -- Privet (R89 to R119)
  | .privetMode t m v => Sys2Proof.Machine.execPrivetMode t m v s
  | .privetIncrNs t m v => Sys2Proof.Machine.execPrivetIncrNs t m v s
  | .privetIncrFrac t m v => Sys2Proof.Machine.execPrivetIncrFrac t m v s
  | .privetSlewCmd t m v => Sys2Proof.Machine.execPrivetSlewCmd t m v s
  | .privetStepCmd t m v => Sys2Proof.Machine.execPrivetStepCmd t m v s
  | .privetStepPermit t m v => Sys2Proof.Machine.execPrivetStepPermit t m v s
  | .permitTimeout t => Sys2Proof.Machine.execPermitTimeout t s
  | .retardEnd t => Sys2Proof.Machine.execRetardEnd t s
  | .privetInitTime t m lo hi => Sys2Proof.Machine.execPrivetInitTime t m lo hi s
  | .leapTai t m j v => Sys2Proof.Machine.execLeapTai t m j v s
  | .leapAnnounce t tL offset => Sys2Proof.Machine.execLeapAnnounce t tL offset s
  | .leapWithdraw t tL => Sys2Proof.Machine.execLeapWithdraw t tL s
  | .leapStateChange t => Sys2Proof.Machine.execLeapStateChange t s
  | .leapDue t j => Sys2Proof.Machine.execLeapDue t j s
  | .privetSnapshot t m => Sys2Proof.Machine.execPrivetSnapshot t m s
  | .schedArm t m slot => Sys2Proof.Machine.execSchedArm t m slot s
  | .schedDisarm t m slot => Sys2Proof.Machine.execSchedDisarm t m slot s
  | .schedEvent t slot => Sys2Proof.Machine.execSchedEvent t slot s
  | .ppsoutSet t slot => Sys2Proof.Machine.execPpsoutSet t slot s
  | .ppsoutClear t slot => Sys2Proof.Machine.execPpsoutClear t slot s
  | .ppsoutPulse t slot => Sys2Proof.Machine.execPpsoutPulse t slot s
  | .tapMark t slot => Sys2Proof.Machine.execTapMark t slot s
  | .deadlineResolve t d e => Sys2Proof.Machine.execDeadlineResolve t d e s
  | .smearWindowEnd t => Sys2Proof.Machine.execSmearWindowEnd t s
  -- the error bound, the ledger and attestation (R120 to R142)
  | .releaseEnd t => Sys2Proof.Machine.execReleaseEnd t s
  | .ootExit t => Sys2Proof.Machine.execOotExit t s
  | .ledgerEntryRead t m w => Sys2Proof.Machine.execLedgerEntryRead t m w s
  | .attestBoundary t => Sys2Proof.Machine.execAttestBoundary t s
  | .attestSigned t j => Sys2Proof.Machine.execAttestSigned t j s
  -- Hornbeam (R143 to R178)
  | .activityTimeout t n => Sys2Proof.Machine.execActivityTimeout t n s
  | .rateCheck t => Sys2Proof.Machine.execRateCheck t s
  | .hornbeamSecond t => Sys2Proof.Machine.execHornbeamSecond t s
  | .refEnable t m n v => Sys2Proof.Machine.execRefEnable t m n v s
  | .refType t m n v => Sys2Proof.Machine.execRefType t m n v s
  | .hbPreferred t m v => Sys2Proof.Machine.execHbPreferred t m v s
  | .qualTimeExpiry t n => Sys2Proof.Machine.execQualTimeExpiry t n s
  | .wtrExpiry t => Sys2Proof.Machine.execWtrExpiry t s
  | .conflictAcceptSlew t m n => Sys2Proof.Machine.execConflictAcceptSlew t m n s
  | .conflictAcceptStep t m n => Sys2Proof.Machine.execConflictAcceptStep t m n s
  | .conflictReject t m n => Sys2Proof.Machine.execConflictReject t m n s
  | .autoAccept t n => Sys2Proof.Machine.execAutoAccept t n s
  | .esmcPdu t port event ssm essm => Sys2Proof.Machine.execEsmcPdu t port event ssm essm s
  | .esmcTimeout t n => Sys2Proof.Machine.execEsmcTimeout t n s
  | .todLine t p bytes low => Sys2Proof.Machine.execTodLine t p bytes low s
  | .todMiss t p => Sys2Proof.Machine.execTodMiss t p s
  -- Yew (R179 to R202)
  | .loopUpdate t res => Sys2Proof.Machine.execLoopUpdate t res s
  | .ensembleUpdate t res => Sys2Proof.Machine.execEnsembleUpdate t res s
  | .modelRefit t m a b d => Sys2Proof.Machine.execModelRefit t m a b d s
  | .ambiguityClose t => Sys2Proof.Machine.execAmbiguityClose t s
  | .ensEnable t m j v => Sys2Proof.Machine.execEnsEnable t m j v s
  | .loopBw t m k v => Sys2Proof.Machine.execLoopBw t m k v s
  | .loopDamp t m k v => Sys2Proof.Machine.execLoopDamp t m k v s
  -- the interval counters (R203 to R219)
  | .channelEdge t x => Sys2Proof.Machine.execChannelEdge t x s
  | .counterWrap t bank => Sys2Proof.Machine.execCounterWrap t bank s
  | .converterCal t c b q h => Sys2Proof.Machine.execConverterCal t c b q h s
  | .converterSwap t c => Sys2Proof.Machine.execConverterSwap t c s
  | .calStale t c => Sys2Proof.Machine.execCalStale t c s
  | .pairTimeout t u => Sys2Proof.Machine.execPairTimeout t u s
  | .pairClear t m u => Sys2Proof.Machine.execPairClear t m u s
  | .channelActivityLoss t c => Sys2Proof.Machine.execChannelActivityLoss t c s
  -- Synthesis: MDLLs, clocks, pulses, Time Lanes (R220 to R246)
  | .mdllEnable t m j v => Sys2Proof.Machine.execMdllEnable t m j v s
  | .mdllMultN t m j v => Sys2Proof.Machine.execMdllMultN t m j v s
  | .mdllMultF t m j v => Sys2Proof.Machine.execMdllMultF t m j v s
  | .mdllWindow t j count x => Sys2Proof.Machine.execMdllWindow t j count x s
  | .mdllAligned t j phaseErr => Sys2Proof.Machine.execMdllAligned t j phaseErr s
  | .mdllReturnHold t j => Sys2Proof.Machine.execMdllReturnHold t j s
  | .bypassSwitch t k => Sys2Proof.Machine.execBypassSwitch t k s
  | .clkoutDiv t m k v => Sys2Proof.Machine.execClkoutDiv t m k v s
  | .clkoutEdgeReport t k edge => Sys2Proof.Machine.execClkoutEdgeReport t k edge s
  | .synRealign t m => Sys2Proof.Machine.execSynRealign t m s
  | .ppsEdge t p => Sys2Proof.Machine.execPpsEdge t p s
  | .tlFrame t => Sys2Proof.Machine.execTlFrame t s
  | .tlUnderrun t l => Sys2Proof.Machine.execTlUnderrun t l s
  | .tlClockLoss t l => Sys2Proof.Machine.execTlClockLoss t l s
  | .tlClockReturn t l => Sys2Proof.Machine.execTlClockReturn t l s
  | .tlRealignEnd t l => Sys2Proof.Machine.execTlRealignEnd t l s
  -- ports, the MAC and port stamping (R247 to R268)
  | .portMode t m p v => Sys2Proof.Machine.execPortMode t m p v s
  | .linkUp t p partnerOk => Sys2Proof.Machine.execLinkUp t p partnerOk s
  | .linkDown t p => Sys2Proof.Machine.execLinkDown t p s
  | .portCalDone t p => Sys2Proof.Machine.execPortCalDone t p s
  | .portRxFrame t x => Sys2Proof.Machine.execPortRxFrame t x s
  | .pauseResend t p prio => Sys2Proof.Machine.execPauseResend t p prio s
  | .pauseXon t p prio => Sys2Proof.Machine.execPauseXon t p prio s
  | .pauseReceived t p prio quanta => Sys2Proof.Machine.execPauseReceived t p prio quanta s
  | .pauseExpiry t p prio => Sys2Proof.Machine.execPauseExpiry t p prio s
  | .launchRequest t p slack => Sys2Proof.Machine.execLaunchRequest t p slack s
  | .frameLaunch t p => Sys2Proof.Machine.execFrameLaunch t p s
  | .launchMissed t p handle late => Sys2Proof.Machine.execLaunchMissed t p handle late s
  | .portTxFrame t p edge => Sys2Proof.Machine.execPortTxFrame t p edge s
  | .stampQueueDrain t p => Sys2Proof.Machine.execStampQueueDrain t p s
  | .stampLossEntry t p => Sys2Proof.Machine.execStampLossEntry t p s
  | .handleQuietExpiry t p index => Sys2Proof.Machine.execHandleQuietExpiry t p index s
  | .portHandleForce t m p => Sys2Proof.Machine.execPortHandleForce t m p s
  -- host links, rings, commands and the SPI target (R269 to R290)
  | .pcieLinkUp t l speed width => Sys2Proof.Machine.execPcieLinkUp t l speed width s
  | .pcieFlr t f => Sys2Proof.Machine.execPcieFlr t f s
  | .pcieLinkDown t l => Sys2Proof.Machine.execPcieLinkDown t l s
  | .busMasterClear t f => Sys2Proof.Machine.execBusMasterClear t f s
  | .ringEnable t m w k => Sys2Proof.Machine.execRingEnable t m w k s
  | .ringHalt t m w k => Sys2Proof.Machine.execRingHalt t m w k s
  | .ringReset t m w k => Sys2Proof.Machine.execRingReset t m w k s
  | .ringResetEndQuiet t m w k => Sys2Proof.Machine.execRingResetEndQuiet t m w k s
  | .ringQuietExpiry t w k => Sys2Proof.Machine.execRingQuietExpiry t w k s
  | .ringDoorbell t m w k v => Sys2Proof.Machine.execRingDoorbell t m w k v s
  | .rxmFrame t w descs => Sys2Proof.Machine.execRxmFrame t w descs s
  | .txFrame t w descs => Sys2Proof.Machine.execTxFrame t w descs s
  | .ringLossRecord t w => Sys2Proof.Machine.execRingLossRecord t w s
  | .ringIrqTimeExpiry t w k => Sys2Proof.Machine.execRingIrqTimeExpiry t w k s
  | .cmdIrlin t w d => Sys2Proof.Machine.execCmdIrlin t w d s
  | .ntsMint t w d => Sys2Proof.Machine.execNtsMint t w d s
  | .ntsKeyStatus t w d => Sys2Proof.Machine.execNtsKeyStatus t w d s
  | .gnssCorr t w d => Sys2Proof.Machine.execGnssCorr t w d s
  | .spiRead t index sub crc => Sys2Proof.Machine.execSpiRead t index sub crc s
  | .spiWrite t index sub v crc => Sys2Proof.Machine.execSpiWrite t index sub v crc s
  | .spiGuarded t index sub v c crc => Sys2Proof.Machine.execSpiGuarded t index sub v c crc s
  | .spiIrlin t message crc => Sys2Proof.Machine.execSpiIrlin t message crc s
  | .spiIrlinPop t crc => Sys2Proof.Machine.execSpiIrlinPop t crc s
  | .spiImage t off data crc => Sys2Proof.Machine.execSpiImage t off data crc s
  | .spiEventPop t crc => Sys2Proof.Machine.execSpiEventPop t crc s
  | .spiAborted t => Sys2Proof.Machine.execSpiAborted t s
  -- PTP, its clients, associations and partners (R291 to R325)
  | .ptpProfile t m j v => Sys2Proof.Machine.execPtpProfile t m j v s
  | .syncInterval t j p client => Sys2Proof.Machine.execSyncInterval t j p client s
  | .announceInterval t j p client => Sys2Proof.Machine.execAnnounceInterval t j p client s
  | .delayReqInterval t j p um => Sys2Proof.Machine.execDelayReqInterval t j p um s
  | .syncReceived t x => Sys2Proof.Machine.execSyncReceived t x s
  | .followUpReceived t x => Sys2Proof.Machine.execFollowUpReceived t x s
  | .delayReqReceived t x => Sys2Proof.Machine.execDelayReqReceived t x s
  | .delayRespReceived t x => Sys2Proof.Machine.execDelayRespReceived t x s
  | .pdelayReqReceived t x => Sys2Proof.Machine.execPdelayReqReceived t x s
  | .pdelayRespReceived t x => Sys2Proof.Machine.execPdelayRespReceived t x s
  | .announceReceived t x => Sys2Proof.Machine.execAnnounceReceived t x s
  | .ptpSecond t j => Sys2Proof.Machine.execPtpSecond t j s
  | .announceTimeout t j => Sys2Proof.Machine.execAnnounceTimeout t j s
  | .syncTimeout t j => Sys2Proof.Machine.execSyncTimeout t j s
  | .respTimeout t j => Sys2Proof.Machine.execRespTimeout t j s
  | .requestUnicastTransmission t x => Sys2Proof.Machine.execRequestUnicastTransmission t x s
  | .cancelUnicastTransmission t x => Sys2Proof.Machine.execCancelUnicastTransmission t x s
  | .grantExpiry t slot kind => Sys2Proof.Machine.execGrantExpiry t slot kind s
  | .clientQuietExpiry t slot => Sys2Proof.Machine.execClientQuietExpiry t slot s
  | .ptpClientForce t m => Sys2Proof.Machine.execPtpClientForce t m s
  | .ptpClientSel t m w v => Sys2Proof.Machine.execPtpClientSel t m w v s
  | .partnerReport t x => Sys2Proof.Machine.execPartnerReport t x s
  | .partnerAgeOut t j => Sys2Proof.Machine.execPartnerAgeOut t j s
  | .partnerQuietExpiry t j => Sys2Proof.Machine.execPartnerQuietExpiry t j s
  | .ptpPartnerForce t m => Sys2Proof.Machine.execPtpPartnerForce t m s
  | .ptpPartnerSel t m w v => Sys2Proof.Machine.execPtpPartnerSel t m w v s
  | .saActivate t m a => Sys2Proof.Machine.execSaActivate t m a s
  | .saFree t m a => Sys2Proof.Machine.execSaFree t m a s
  | .saQuietExpiry t a => Sys2Proof.Machine.execSaQuietExpiry t a s
  -- NTP and NTS (R326 to R341)
  | .ntpRequest t x => Sys2Proof.Machine.execNtpRequest t x s
  | .ntsRequest t x => Sys2Proof.Machine.execNtsRequest t x s
  | .ntsRotation t => Sys2Proof.Machine.execNtsRotation t s
  | .ntsMkCurrent t m j => Sys2Proof.Machine.execNtsMkCurrent t m j s
  | .ntsMkRetire t m j => Sys2Proof.Machine.execNtsMkRetire t m j s
  -- tap and inline capture (R342 to R358)
  | .tapFrame t x => Sys2Proof.Machine.execTapFrame t x s
  | .tapDigestComplete t => Sys2Proof.Machine.execTapDigestComplete t s
  | .tapLossRecord t w => Sys2Proof.Machine.execTapLossRecord t w s
  | .tapWorld t m p v => Sys2Proof.Machine.execTapWorld t m p v s
  | .inlinePeer t m p v => Sys2Proof.Machine.execInlinePeer t m p v s
  | .inlineLockLoss t p => Sys2Proof.Machine.execInlineLockLoss t p s
  | .inlineLockReturn t p => Sys2Proof.Machine.execInlineLockReturn t p s
  -- GNSS (R359 to R384)
  | .gnssStrobeFault t b monitor since => Sys2Proof.Machine.execGnssStrobeFault t b monitor since s
  | .gnssCoastTimeout t b => Sys2Proof.Machine.execGnssCoastTimeout t b s
  | .gnssStrobeReturn t b => Sys2Proof.Machine.execGnssStrobeReturn t b s
  | .gnssAcquisition t sys prn elev azim => Sys2Proof.Machine.execGnssAcquisition t sys prn elev azim s
  | .measurementEpoch t x => Sys2Proof.Machine.execMeasurementEpoch t x s
  | .exclusionHoldExpiry t slot => Sys2Proof.Machine.execExclusionHoldExpiry t slot s
  | .spfHoldExpiry t => Sys2Proof.Machine.execSpfHoldExpiry t s
  | .spectrum t b x => Sys2Proof.Machine.execSpectrum t b x s
  | .gnssJamCal t m => Sys2Proof.Machine.execGnssJamCal t m s
  | .solutionPulse t => Sys2Proof.Machine.execSolutionPulse t s
  | .gnssSleep t => Sys2Proof.Machine.execGnssSleep t s
  | .gnssWake t => Sys2Proof.Machine.execGnssWake t s
  | .wakeIntervalExpiry t => Sys2Proof.Machine.execWakeIntervalExpiry t s
  | .gnssWakeCmd t m => Sys2Proof.Machine.execGnssWakeCmd t m s
  | .wakeDwellExpiry t => Sys2Proof.Machine.execWakeDwellExpiry t s
  -- the key vault (R385 to R412)
  | .keyLoad t m k => Sys2Proof.Machine.execKeyLoad t m k s
  | .keyGenerate t m k => Sys2Proof.Machine.execKeyGenerate t m k s
  | .keyInvalidate t m k => Sys2Proof.Machine.execKeyInvalidate t m k s
  | .keyRevoke t m k => Sys2Proof.Machine.execKeyRevoke t m k s
  | .keyFree t m k => Sys2Proof.Machine.execKeyFree t m k s
  | .keyLoadWrapped t m k wrap => Sys2Proof.Machine.execKeyLoadWrapped t m k wrap s
  | .derivationComplete t => Sys2Proof.Machine.execDerivationComplete t s
  | .vaultSlotQuietExpiry t k => Sys2Proof.Machine.execVaultSlotQuietExpiry t k s
  | .vaultQuietForce t m => Sys2Proof.Machine.execVaultQuietForce t m s
  | .shLoad t m a => Sys2Proof.Machine.execShLoad t m a s
  | .shadowKcvCheck t a => Sys2Proof.Machine.execShadowKcvCheck t a s
  | .shGenerate t m a => Sys2Proof.Machine.execShGenerate t m a s
  | .shRemoval t m a => Sys2Proof.Machine.execShRemoval t m a s
  | .shDiscard t m a => Sys2Proof.Machine.execShDiscard t m a s
  | .anchorCommit t m v => Sys2Proof.Machine.execAnchorCommit t m v s
  | .anchorEraseDone t => Sys2Proof.Machine.execAnchorEraseDone t s
  | .anchorWriteDone t => Sys2Proof.Machine.execAnchorWriteDone t s
  | .anchorMarkDone t => Sys2Proof.Machine.execAnchorMarkDone t s
  | .anchorBurnDone t => Sys2Proof.Machine.execAnchorBurnDone t s
  | .anchorFlashTimeout t readBackFails => Sys2Proof.Machine.execAnchorFlashTimeout t readBackFails s
  | .remaskPass t => Sys2Proof.Machine.execRemaskPass t s
  | .drbgReseed t => Sys2Proof.Machine.execDrbgReseed t s
  | .entropyHealthFail t => Sys2Proof.Machine.execEntropyHealthFail t s
  | .drbgRecover t passed => Sys2Proof.Machine.execDrbgRecover t passed s
  | .selftestCmd t m failed => Sys2Proof.Machine.execSelftestCmd t m failed s
  | .boxCertBurn t m v => Sys2Proof.Machine.execBoxCertBurn t m v s
  -- Holly, the safe state and self-test (R413 to R434)
  | .faultEvent t src severity what world => Sys2Proof.Machine.execFaultEvent t src severity what world s
  | .conditionEnd t src => Sys2Proof.Machine.execConditionEnd t src s
  | .handlingEnd t rec => Sys2Proof.Machine.execHandlingEnd t rec s
  | .promotionExpiry t src => Sys2Proof.Machine.execPromotionExpiry t src s
  | .fltClear t m v => Sys2Proof.Machine.execFltClear t m v s
  | .oscinLoss t => Sys2Proof.Machine.execOscinLoss t s
  | .hollySelf t cause => Sys2Proof.Machine.execHollySelf t cause s
  | .maintEnter t m => Sys2Proof.Machine.execMaintEnter t m s
  | .maintLeave t m => Sys2Proof.Machine.execMaintLeave t m s
  | .bistStart t m v => Sys2Proof.Machine.execBistStart t m v s
  | .bistComplete t island sigLogic sigMem => Sys2Proof.Machine.execBistComplete t island sigLogic sigMem s
  -- performance monitoring (R435 to R443)
  | .perfStart t m => Sys2Proof.Machine.execPerfStart t m s
  | .perfStop t m => Sys2Proof.Machine.execPerfStop t m s
  | .perfClear t m => Sys2Proof.Machine.execPerfClear t m s
  | .perfCtrl t m c => Sys2Proof.Machine.execPerfCtrl t m c s
  | .perfSampleCtrl t m => Sys2Proof.Machine.execPerfSampleCtrl t m s
  | .perfSampleSel t m w v => Sys2Proof.Machine.execPerfSampleSel t m w v s
  -- temperatures and JTAG (R463, R464)
  | .tempReading t die diode0 diode1 => Sys2Proof.Machine.execTempReading t die diode0 diode1 s
  | .jtagBypass t tdi => Sys2Proof.Machine.execJtagBypass t tdi s
  | .jtagIdcode t tdi => Sys2Proof.Machine.execJtagIdcode t tdi s
  | .jtagSamplePreload t pins tdi => Sys2Proof.Machine.execJtagSamplePreload t pins tdi s
  | .jtagExtest t pins tdi => Sys2Proof.Machine.execJtagExtest t pins tdi s

end Sys2Proof.Machine
end

