-- ==== Sys2Proof/Safety.lean ====
section
/-! DEFINITION. The words the claims are stated in: a command at its tick, a write the rules let through, the canonical form of
the dictionary store. -/

namespace Sys2Proof.Machine

/-- The engine is not held in reset, and `u` is the state `s` at the tick of a command that carries tick `t` (log 1): Privet
has run on to it, nothing else has happened. -/
def At (t : Nat) (s u : State) : Prop := s.power.held = false ∧ s.runTo t = u

/-- The state in which the codes of a write are formed: the access is counted by a running performance monitor, and a guarded
write meets the pending pair (R42, R439). -/
def State.met (u : State) (sp : Special) (m : Master) (w : Nat) : State :=
  if sp.entry.cls = .grd then (u.perfEvent 0x701 0).pairMeets m w else u.perfEvent 0x701 0

/-- The marks an accepted write leaves before its effect: a W1 entry is written, a command entry is DONE (R35, R46). -/
def State.marked (u : State) (sp : Special) (i : Nat) : State :=
  let e := sp.entry
  let u := if e.cls = .w1 then { u with control := { u.control with w1 := dictKey e i 0 0 :: u.control.w1 } } else u
  if e.cls = .cmd then u.set e i 2 else u

/-- A write of an entry's instance `i` with `ws` by master `m` is let through: the master acts for world `w`, no code of R63
applies; `v` is the state its effect starts from. -/
def Opens (sp : Special) (m : Master) (w i : Nat) (ws : List Word) (u v : State) : Prop :=
  u.worldOf m = some w ∧ resolve ((u.met sp m w).writeCodes sp ⟨m, w, i, ws⟩) = 0 ∧ (u.met sp m w).marked sp i = v

/-- A write of an entry's instance `i` is refused with `code`; `v` is the state the codes were formed in. -/
def Refuses (sp : Special) (m : Master) (w i : Nat) (ws : List Word) (code : Nat) (u v : State) : Prop :=
  u.worldOf m = some w ∧ u.met sp m w = v ∧ resolve (v.writeCodes sp ⟨m, w, i, ws⟩) = code ∧ code ≠ 0

/-- A frame that carries PTP message `x` waits at its port for the engine, and instance `i` accepts the message; `v` is the state the
message is handled from (R253, R296, R298, R305). -/
def Accepts (x : PtpRx) (i : Nat) (auth : Bool) (u v : State) : Prop :=
  match (u.port x.port).inbox.find? (fun g => decide (ptpRxOf g = some x)) with
  | some f => (u.frameTaken x.port f).ptpReceive x = (some (i, auth), v)
  | none => False

/-- A frame that carries request `x` waits at its port for the NTP engine; `v` is the state once the engine has taken it (R253, R327). -/
def Waits (x : NtpRx) (u v : State) : Prop :=
  match (u.port x.port).inbox.find? (fun f => decide (f.cls = 5 ∧ ntpRxOf f = some x)) with
  | some f => u.frameTaken x.port f = v
  | none => False

/-- The end of a PTP message's handling in `z`, where `v` is the state it was handled from: the packet is counted (R439). -/
def State.heard (z : State) (x : PtpRx) (i : Nat) (v : State) : State :=
  z.packetEnd x.port x.stamp 0 5 none ((v.findClient i x).map (fun k => clientHandle k (v.client k))) 0xFF v.tai

/-- The commands that act while the engine is held in reset (R69, R70, R452, R464): the release, the three that hold it, and
JTAG's, whose port has a clock of its own. -/
def actsInReset : Instr → Bool
  | .resetRelease | .pwrgoodFall _ | .resetAssert _ | .vddaoOutOfRange _ => true
  | .jtagBypass _ _ | .jtagIdcode _ _ | .jtagSamplePreload _ _ _ | .jtagExtest _ _ _ => true
  | _ => false

/-- The access a command is, with its tick and its master (R36). -/
def accessAt : Instr → Option (Nat × Master)
  | .registerWrite t m _ _ => some (t, m)
  | .corRead t m _ => some (t, m)
  | .latchRead t m _ => some (t, m)
  | .stagedWordWrite t m _ _ => some (t, m)
  | .lockCtrl t m _ => some (t, m)
  | .bindPcie t m _ _ => some (t, m)
  | .commitRef t m _ => some (t, m)
  | .editOpen t m => some (t, m)
  | .editClose t m => some (t, m)
  | .imageLoad t m _ _ => some (t, m)
  | .lifecycleReq t m _ => some (t, m)
  | .bootOptionsBurn t m _ => some (t, m)
  | .trimProfile t m _ => some (t, m)
  | .privetMode t m _ => some (t, m)
  | .privetIncrNs t m _ => some (t, m)
  | .privetIncrFrac t m _ => some (t, m)
  | .privetSlewCmd t m _ => some (t, m)
  | .privetStepCmd t m _ => some (t, m)
  | .privetStepPermit t m _ => some (t, m)
  | .privetInitTime t m _ _ => some (t, m)
  | .leapTai t m _ _ => some (t, m)
  | .privetSnapshot t m => some (t, m)
  | .schedArm t m _ => some (t, m)
  | .schedDisarm t m _ => some (t, m)
  | .ledgerEntryRead t m _ => some (t, m)
  | .refEnable t m _ _ => some (t, m)
  | .refType t m _ _ => some (t, m)
  | .hbPreferred t m _ => some (t, m)
  | .conflictAcceptSlew t m _ => some (t, m)
  | .conflictAcceptStep t m _ => some (t, m)
  | .conflictReject t m _ => some (t, m)
  | .ensEnable t m _ _ => some (t, m)
  | .loopBw t m _ _ => some (t, m)
  | .loopDamp t m _ _ => some (t, m)
  | .pairClear t m _ => some (t, m)
  | .mdllEnable t m _ _ => some (t, m)
  | .mdllMultN t m _ _ => some (t, m)
  | .mdllMultF t m _ _ => some (t, m)
  | .clkoutDiv t m _ _ => some (t, m)
  | .synRealign t m => some (t, m)
  | .portMode t m _ _ => some (t, m)
  | .portHandleForce t m _ => some (t, m)
  | .ringEnable t m _ _ => some (t, m)
  | .ringHalt t m _ _ => some (t, m)
  | .ringReset t m _ _ => some (t, m)
  | .ringResetEndQuiet t m _ _ => some (t, m)
  | .ringDoorbell t m _ _ _ => some (t, m)
  | .ptpProfile t m _ _ => some (t, m)
  | .ptpClientForce t m => some (t, m)
  | .ptpClientSel t m _ _ => some (t, m)
  | .ptpPartnerForce t m => some (t, m)
  | .ptpPartnerSel t m _ _ => some (t, m)
  | .saActivate t m _ => some (t, m)
  | .saFree t m _ => some (t, m)
  | .ntsMkCurrent t m _ => some (t, m)
  | .ntsMkRetire t m _ => some (t, m)
  | .tapWorld t m _ _ => some (t, m)
  | .inlinePeer t m _ _ => some (t, m)
  | .gnssJamCal t m => some (t, m)
  | .gnssWakeCmd t m => some (t, m)
  | .keyLoad t m _ => some (t, m)
  | .keyGenerate t m _ => some (t, m)
  | .keyInvalidate t m _ => some (t, m)
  | .keyRevoke t m _ => some (t, m)
  | .keyFree t m _ => some (t, m)
  | .keyLoadWrapped t m _ _ => some (t, m)
  | .vaultQuietForce t m => some (t, m)
  | .shLoad t m _ => some (t, m)
  | .shGenerate t m _ => some (t, m)
  | .shRemoval t m _ => some (t, m)
  | .shDiscard t m _ => some (t, m)
  | .anchorCommit t m _ => some (t, m)
  | .selftestCmd t m _ => some (t, m)
  | .boxCertBurn t m _ => some (t, m)
  | .fltClear t m _ => some (t, m)
  | .maintEnter t m => some (t, m)
  | .maintLeave t m => some (t, m)
  | .bistStart t m _ => some (t, m)
  | .perfStart t m => some (t, m)
  | .perfStop t m => some (t, m)
  | .perfClear t m => some (t, m)
  | .perfCtrl t m _ => some (t, m)
  | .perfSampleCtrl t m => some (t, m)
  | .perfSampleSel t m _ _ => some (t, m)
  | .guardedValueWrite t f _ _ => some (t, .pcie f)
  | .guardedComplementWrite t f _ _ => some (t, .pcie f)
  | .irlinRead t k _ _ _ _ => some (t, .irlin k)
  | .irlinWrite t k _ _ _ => some (t, .irlin k)
  | .irlinGuardedWrite t k _ _ _ _ _ _ _ => some (t, .irlin k)
  | .irlinBlockRead t k _ _ _ _ _ _ => some (t, .irlin k)
  | .irlinCommit t k _ _ _ _ _ => some (t, .irlin k)
  | .spiRead t _ _ _ => some (t, .spit)
  | .spiWrite t _ _ _ _ => some (t, .spit)
  | .spiGuarded t _ _ _ _ _ => some (t, .spit)
  | _ => none
/-- The place of a master in a tick (R36): PCIe link 0 to 3, the SPI target, Irlin, the sequencer. -/
def masterRank : Master → Nat
  | .pcie f => f.val / 2
  | .spit => 4
  | .irlin _ => 5
  | .seq => 6
/-- Accesses that arrive in one tick wait in the order of R36. -/
def accessesOrdered : List Instr → Bool
  | [] => true
  | c :: rest =>
    (match accessAt c with
     | some (t, m) => rest.all (fun d => match accessAt d with
        | some (u, n) => !decide (u = t) || decide (masterRank m ≤ masterRank n)
        | none => true)
     | none => true) && accessesOrdered rest

/-- The dictionary store is in its canonical order: every key is listed once, the keys strictly rising (log 6). -/
def State.stored (s : State) : Prop := tabRising s.dict = true

end Sys2Proof.Machine
end

