-- ==== Sys2Proof/Certificates/Slice0/Obligations.lean ====
section
/-! DEFINITION. The statements for the provers. In each, `u` is the state at the command's tick (`At`), and `v` the state a
write that the rules let through starts its effect from (`Opens`). -/

set_option linter.unusedVariables false

open Sys2Proof Sys2Proof.Machine

/-- Domains, islands and memory protection (R12, R13, R15 to R17, R19, R21, R22, R27, R28, R30): each command of the family, at its
tick and under the conditions the rules give, answers a next state, which is the one stated: nothing else changes. A transfer
delivers the item that its sender holds and ends the request; a value whose residue agrees does no more, one whose residue does not
is counted and what carries it gets the invalid mark; a scheduled action reaches its island, or is missed; a request that stands
past its deadline raises its domain's stall, one that has been acknowledged since does not; a strobe is taken once in its tick; a
named value sent with the strobe corrects its leaf's copy; a copy that has missed its limit becomes UNSYNC; a leaf's pad moves by
at most 1 ps a re-measurement; a corrected word is written back, or scrubbed again where a functional write takes the cycle; a scrub
read is made when it is due and, in a busy bank, when it has been due for 1 µs. -/
def Obligations.DomainCommands : Prop :=
  ∀ (t : Nat) (s u : State), At t s u →
  (∀ (h : Handshake) (rose : Nat) (x : HsItem), (u.channel4 h.chan h.dom).request = some (rose, x) →
    u.delivered h.chan h.dom h.item = x) ∧
  (∀ (h : Handshake), (u.channel4 h.chan h.dom).request = none → u.delivered h.chan h.dom h.item = h.item) ∧
  (∀ (h : Handshake) (v : T96) (r : Byte), u.delivered h.chan h.dom h.item = .time v r → residueOk (t96Bytes v) r = true →
    exec (.handshakeTransfer t h) s = .next (u.acknowledge h.chan h.dom (.time v r) true)) ∧
  (∀ (h : Handshake) (v : Bound) (r : Byte), u.delivered h.chan h.dom h.item = .bound v r → residueOk (be 4 v) r = true →
    exec (.handshakeTransfer t h) s = .next (u.acknowledge h.chan h.dom (.bound v r) true)) ∧
  (∀ (h : Handshake) (b : List Byte), u.delivered h.chan h.dom h.item = .data b →
    exec (.handshakeTransfer t h) s = .next (u.acknowledge h.chan h.dom (.data b) true)) ∧
  (∀ (h : Handshake) (v : T96) (r : Byte), u.delivered h.chan h.dom h.item = .time v r → residueOk (t96Bytes v) r = false →
    exec (.handshakeTransfer t h) s =
      .next ((u.acknowledge h.chan h.dom (.time v r) false).residueRx h.dom h.island (fun f => f.stamp == v))) ∧
  (∀ (h : Handshake) (v : Bound) (r : Byte), u.delivered h.chan h.dom h.item = .bound v r → residueOk (be 4 v) r = false →
    exec (.handshakeTransfer t h) s =
      .next ((u.acknowledge h.chan h.dom (.bound v r) false).residueRx h.dom h.island (fun f => f.bound == v))) ∧
  (∀ (h : Handshake) (slot : Fin 256) (x : Sched) (v : State), u.delivered h.chan h.dom h.item = .sched slot →
    u.acknowledge h.chan h.dom (.sched slot) true = v → v.armed slot = some x →
    exec (.handshakeTransfer t h) s = .next (if x.at_ < v.copy (v.schedIsland slot) + ofNs 64 then v.schedMiss slot x
      else v.setArmed slot (some { x with delivered := true }))) ∧
  (∀ (chan : Nat) (dom : Fin 8) (island rose rose' : Nat) (item x : HsItem),
    (u.channel4 chan dom).request.getD (rose, item) = (rose', x) → rose' + u.n E.hsTimeout < u.now →
    (u.channel4 chan dom).stalled = false → (∀ a, (u.channel4 chan dom).acked = some a → a < rose') →
    exec (.hsStall t chan dom island (rose, item)) s =
      .next ((u.setChannel4 chan dom { u.channel4 chan dom with request := some (rose', x), stalled := true }).raise
        (64 * dom.val + 58) none island)) ∧
  (∀ (chan : Nat) (dom : Fin 8) (island rose a : Nat) (item : HsItem), (u.channel4 chan dom).request = none →
    (u.channel4 chan dom).acked = some a → rose ≤ a → exec (.hsStall t chan dom island (rose, item)) s = .next u) ∧
  (∀ x, u.now % 512 = 16 → u.islands.strobeAt ≠ some u.now → exec (.epochStrobe t x) s = .next (u.strobe x)) ∧
  (∀ x, u.islands.strobeAt = some u.now → exec (.epochStrobe t x) s = .next u) ∧
  (∀ (leaf : Fin 64) (value : T96) (r : Byte), u.leafOn leaf.val = true → 16 ≤ u.now % 512 → (u.leaf leaf).arrived = false →
    value = u.islands.strobeValue → residueOk (t96Bytes value) r = true →
    exec (.namedValueArrival t leaf value r) s = .next (u.nameLeaf leaf value)) ∧
  (∀ (leaf : Fin 64) (value : T96) (r : Byte), u.leafOn leaf.val = true → 16 ≤ u.now % 512 → (u.leaf leaf).arrived = false →
    residueOk (t96Bytes value) r = false →
    exec (.namedValueArrival t leaf value r) s = .next ((u.bump E.resErr).raise 4 none (leafIslandOf leaf))) ∧
  (∀ (leaf : Fin 64), u.leafOn leaf.val = true → u.n E.copyMissLimit ≤ (u.leaf leaf).misses →
    exec (.copyMissLimitReached t leaf) s =
      .next ((u.set E.copyState leaf 0).setLeaf leaf { u.leaf leaf with good := 0 })) ∧
  (∀ (leaf : Fin 64) (rtt : Nat), u.leafOn leaf.val = true → (u.leaf leaf).remeasured < u.islands.strobes / 1024 →
    (u.leafForward leaf rtt - (u.leaf leaf).fwd0).natAbs ≤ u.n E.treeDriftLimit * 1000 →
    exec (.treeRemeasure t leaf rtt) s =
      .next ((u.set E.leafFwdDelay leaf (fwdWord (u.leafForward leaf rtt))).setLeaf leaf { u.leaf leaf with
        pad := ((u.leaf leaf).pad + max (-1) (min 1 (padFor (u.leafForward leaf rtt) - (u.leaf leaf).pad))).toNat
        remeasured := u.islands.strobes / 1024 })) ∧
  (∀ (leaf : Fin 64) (rtt : Nat), u.islands.strobes / 1024 ≤ (u.leaf leaf).remeasured →
    exec (.treeRemeasure t leaf rtt) s = .next u) ∧
  (∀ (array : Fin 8) (word : Nat) (functional : Bool), (array.val, word) ∈ u.islands.writeBack →
    exec (.eccWriteback t array word functional) s = .next { u with islands := { u.islands with
      writeBack := u.islands.writeBack.filter (· ≠ (array.val, word))
      rescrub := if functional = true ∧ array.val < 5 then (array.val, word) :: u.islands.rescrub else u.islands.rescrub } }) ∧
  (∀ (bank : Fin 5) (ecc : Ecc), u.scrubReady bank 0 = true → exec (.scrubRead t bank (u.scrubWord bank) ecc) s = .next (u.scrub bank ecc)) ∧
  (∀ (bank : Fin 5) (ecc : Ecc), u.scrubReady bank 500 = true → exec (.scrubForced t bank (u.scrubWord bank) ecc) s = .next (u.scrub bank ecc)) ∧
  (∀ (bank : Fin 5) (word : Nat) (ecc : Ecc), (u.scrubReady bank 0 = false ∨ word ≠ u.scrubWord bank) → exec (.scrubRead t bank word ecc) s = .next u) ∧
  (∀ (bank word : Nat), u.islands.rescrub.find? (fun p => p.1 == bank) = some (bank, word) →
    u.scrub bank .clean = { u with islands := { u.islands with rescrub := u.islands.rescrub.filter (· ≠ (bank, word)) } }) ∧
  (∀ (bank : Nat), (∀ p ∈ u.islands.rescrub, p.1 ≠ bank) →
    (u.scrub bank .clean).islands.scrubbed = tabPut 0 bank (tabGet 0 bank u.islands.scrubbed + 1) u.islands.scrubbed)

/-- The accesses of the dictionary (R35 to R42, R50): a plain write that is let through has its entry's effect, and a master that
is answered is answered 0; a read of a clear-on-read entry returns the world's shadow and clears it; a read of a wide entry's
lowest word latches the whole entry, and the higher words come from the latch; a higher word's write is staged, and the lowest
word's write applies all of them and clears what its master has staged; a guarded pair is pending after its value, and has its effect at its complement. -/
def Obligations.AccessCommands : Prop :=
  ∀ (t : Nat) (s u : State), At t s u →
  ∀ (m : Master) (a : Target) (x : Spot) (w : Nat) (p : Place), targetOk m a = true → spotOf a = x → x.aligned = true →
    u.worldOf m = some w → placeOf x.index x.sub = some p →
  (∀ (v : Word) (v' : State), x.compl = false → p.entry.words = 1 → p.k = 0 → (p.entry.cls = .grd → m = .seq) →
    Opens (specialOf p.entry) m w p.i [v] u v' →
    exec (.registerWrite t m a v) s = .next (match m with
      | .pcie _ => (specialOf p.entry).apply ⟨m, w, p.i, [v]⟩ v'
      | _ => ((specialOf p.entry).apply ⟨m, w, p.i, [v]⟩ v').emit (.answer m 0 0))) ∧
  (x.compl = false → p.entry.cls = .cor → u.absentIdx x.index = false → u.readCodes w x.index x.sub = [] →
    exec (.corRead t m a) s = .next (((u.perfEvent 0x701 0).corRead p.entry p.i w).2.emit
      (.answer m 0 (u.corRead p.entry p.i w).1))) ∧
  (x.compl = false → p.k = 0 → 1 < p.entry.words → p.entry.cls ≠ .cor → p.entry ≠ E.privetSnapshot →
    p.entry ≠ E.ledgerEntry → u.readCodes w x.index x.sub = [] →
    exec (.latchRead t m a) s = .next (((u.perfEvent 0x701 0).setLatch m x.index x.sub
      ((u.perfEvent 0x701 0).live p.entry p.i w)).emit
        (.answer m 0 (((u.perfEvent 0x701 0).live p.entry p.i w).getD 0 0)))) ∧
  (∀ word, x.compl = false → p.k ≠ 0 → p.entry.cls ≠ .cor → u.readCodes w x.index x.sub = [] →
    u.latched m x.index x.sub = some word →
    exec (.latchRead t m a) s = .next ((u.perfEvent 0x701 0).emit (.answer m 0 word))) ∧
  (∀ (f : Fin 8) (v : Word), m = .pcie f → x.compl = false → p.k ≠ 0 → p.k < p.entry.words → p.entry.cls ≠ .grd →
    resolve ((u.perfEvent 0x701 0).gateCodes (specialOf p.entry) ⟨m, w, p.i, [v]⟩ ++ wordCodes p.entry [v]) = 0 →
    exec (.stagedWordWrite t m a v) s = .next ((u.perfEvent 0x701 0).stage m x.index x.sub [v])) ∧
  (∀ (f : Fin 8) (v : Word) (v' : State), m = .pcie f → x.compl = false → p.k = 0 → 1 < p.entry.words →
    p.entry.cls ≠ .grd → Opens (specialOf p.entry) m w p.i (u.wholeWords m x.index x.sub p [v]) u v' →
    exec (.stagedWordWrite t m a v) s =
      .next (((specialOf p.entry).apply ⟨m, w, p.i, u.wholeWords m x.index x.sub p [v]⟩ v').unstage m)) ∧
  (∀ (f : Fin 8) (v : Word), m = .pcie f → x.compl = false → p.k = 0 → p.entry.words = 1 → p.entry.cls = .grd →
    resolve (((u.perfEvent 0x701 0).pairMeets m w).gateCodes (specialOf p.entry) ⟨m, w, p.i, [v]⟩) = 0 →
    exec (.guardedValueWrite t f a v) s = .next { (u.perfEvent 0x701 0).pairMeets m w with
      control := { ((u.perfEvent 0x701 0).pairMeets m w).control with
        pair := some ⟨w, f, x.index, x.sub, v, ((u.perfEvent 0x701 0).pairMeets m w).now⟩ } }) ∧
  (∀ (f : Fin 8) (q : Pair) (v' : State), m = .pcie f → x.compl = true → p.k = 0 → p.entry.words = 1 →
    u.control.pair = some q → u.now ≤ q.tick + 500 → q.world = w → q.index = x.index → q.sub = x.sub →
    Opens (specialOf p.entry) m w p.i [q.value] { u with control := { u.control with pair := none } } v' →
    exec (.guardedComplementWrite t f a (~~~q.value)) s =
      .next ((specialOf p.entry).apply ⟨m, w, p.i, [q.value]⟩ v'))

/-- A guarded write with a matching complement but an out-of-range value is refused with 0x07; it is counted in `REFUSED`, not in
`GUARD_MISMATCH` (R44): where nothing else stands in the write's way the code is 0x07, the access is recorded for its world, and
no world's shadow of `GUARD_MISMATCH` changes by that. -/
def Obligations.GuardedOutOfRange : Prop :=
  (∀ (u v : State) (sp : Special) (m : Master) (w i : Nat) (value : Word), sp.entry.cls = .grd →
    u.worldOf m = some w → u.met sp m w = v → v.gateCodes sp ⟨m, w, i, [value]⟩ = [] → sp.codes ⟨m, w, i, [value]⟩ v = [] →
    sp.entry.ty ≠ .octstr → sp.entry.ty ≠ .time96 → valueOk sp.entry value = false → Refuses sp m w i [value] 7 u v) ∧
  (∀ (t : Nat) (s u v' : State) (f : Fin 8) (a : Target) (x : Spot) (w : Nat) (p : Place) (q : Pair), At t s u →
    targetOk (.pcie f) a = true → spotOf a = x → x.aligned = true → x.compl = true → u.worldOf (.pcie f) = some w →
    placeOf x.index x.sub = some p → p.k = 0 → p.entry.words = 1 → u.control.pair = some q → u.now ≤ q.tick + 500 →
    q.world = w → q.index = x.index → q.sub = x.sub →
    Refuses (specialOf p.entry) (.pcie f) w p.i [q.value] 7 { u with control := { u.control with pair := none } } v' →
    exec (.guardedComplementWrite t f a (~~~q.value)) s =
      .next ((specialOf p.entry).refused 7 ⟨.pcie f, w, p.i, [q.value]⟩ ((v'.bump E.refused w).set E.lastAbort w
        (((specialOf p.entry).entry.addr p.i 0).1 * 65536 + ((specialOf p.entry).entry.addr p.i 0).2 * 256 + 7)))) ∧
  (∀ (u : State) (w x i w' : Nat), w < 16 → w' < 16 → i < 16 →
    ((u.bump E.refused w).set E.lastAbort w x).shadow E.guardMismatch i w' = u.shadow E.guardMismatch i w')

/-- Pending pairs, locking, bindings, commits, the edit window and the running check (R42, R47, R54, R64 to R66): a pair past its
deadline is discarded with 0x06, which records the refusal for its world and counts a guard mismatch, and before the deadline
nothing happens to it; and what each other command of the family leaves, given that its write is let through or its condition
holds. -/
def Obligations.ControlCommands : Prop :=
  ∀ (t : Nat) (s u : State), At t s u →
  (∀ (q : Pair), u.control.pair = some q → q.tick + 500 < u.now →
    exec (.guardDeadlineExpiry t) s = .next (((((({ u with control := { u.control with pair := none } }).bump
      E.refused q.world).set E.lastAbort q.world (q.index * 65536 + q.sub * 256 + 6))).bump E.guardMismatch q.world).raise
        450 none (q.index * 256 + q.sub) q.world)) ∧
  (∀ (q : Pair), u.control.pair = some q → u.now ≤ q.tick + 500 → exec (.guardDeadlineExpiry t) s = .next u) ∧
  (u.control.pair = none → exec (.guardDeadlineExpiry t) s = .next u) ∧
  (∀ m w x v, Opens spLockCtrl m w 0 [x] u v → x.toNat ≠ 0 →
    exec (.lockCtrl t m x) s = .next (v.set E.lockCtrl 0 x.toNat)) ∧
  (∀ m w x v, Opens spLockCtrl m w 0 [x] u v → x.toNat = 0 →
    exec (.lockCtrl t m x) s = .next { v.set E.lockCtrl 0 0 with control := { v.control with locked := false } }) ∧
  (∀ m w (f : Fin 8) x v, Opens spBindPcie m w f.val [x] u v → v.n E.bindPcie f = x.toNat →
    exec (.bindPcie t m f x) s = .next v) ∧
  (∀ m w (f : Fin 8) x v, Opens spBindPcie m w f.val [x] u v → v.n E.bindPcie f ≠ x.toNat →
    exec (.bindPcie t m f x) s = .next ((v.set E.bindPcie f x.toNat).functionReset f)) ∧
  (∀ m w x v, Opens spCommitRef m w 0 [x] u v →
    exec (.commitRef t m x) s = .next ((({ v with
      control := { v.control with commit := some { ref := x.toNat, lock := (v.set E.commitRef 0 x.toNat).flag E.lockCtrl } } }).set
        E.commitRef 0 x.toNat).set E.commitState 0 1)) ∧
  (∀ m w v, Opens spEditCtrl m w 0 [1] u v →
    exec (.editOpen t m) s = .next { v with control := { v.control with
      editUntil := some (v.now + v.n E.editTimeout * 500000) } }) ∧
  (∀ m w v, Opens spEditCtrl m w 0 [2] u v →
    exec (.editClose t m) s = .next { v with control := { v.control with editUntil := none } }) ∧
  (u.editing = false → exec (.editTimeoutExpiry t) s = .next { u with control := { u.control with editUntil := none } }) ∧
  (u.atMilli = true → u.control.sweep = none → exec (.pewterSweep t) s = .next { u with control := { u.control with
    sweep := some u.now, commit := u.control.commit.map (fun c => { c with sweeping := true }) } }) ∧
  (∀ seen, u.control.sweep.isSome = true → u.control.commit = none →
    exec (.sweepComplete t seen) s = .next ((({ u with control := { u.control with sweep := none } }).set
      E.runningCheck 0 (u.sweepResult seen)).checkSweep (u.sweepResult seen))) ∧
  (∀ seen c, u.control.sweep.isSome = true → u.control.commit = some c → c.sweeping = true →
    exec (.sweepComplete t seen) s = .next ((({ u with control := { u.control with sweep := none } }).set
      E.runningCheck 0 (u.sweepResult seen)).settleCommit c (u.sweepResult seen)))

/-- The operations of accepted Irlin messages (R51, R60, R61): READ and WRITE act on their items in order and answer per item;
a guarded write, a block read, a commit and a subscription act and answer as a whole; a commit that is taken is answered when its
sweep completes; a datagram is taken from its port's waiting frames, and dropped where the port may not carry Irlin; DISCOVER changes nothing but the answer's own sequence number; RENEW clears the sequence state of every
binding and draws a new nonce. -/
def Obligations.IrlinCommands : Prop :=
  ∀ (t : Nat) (s u : State), At t s u → ∀ (k : Fin 16) (via : Via) (tag : Nat),
  (∀ port udp b f v, (u.port port).inbox.find? (fun f => decide (f.cls = 10 ∧ (layersOf f.bytes).dport = udp ∧
      (layersOf f.bytes).body = b)) = some f →
    port < 18 → bitOf ((u.frameTaken port f).n E.irlinPortMask) port = true → 40 ≤ b.length → b.length ≤ 8192 →
    (u.frameTaken port f).irlinAuth (.udp port) b (List.range 16) = (some k.val, v) →
    exec (.irlinDatagram t port udp b) s = .next (v.irlinTake k (.udp port) b)) ∧
  (∀ port udp b f, (u.port port).inbox.find? (fun f => decide (f.cls = 10 ∧ (layersOf f.bytes).dport = udp ∧
      (layersOf f.bytes).body = b)) = some f → bitOf ((u.frameTaken port f).n E.irlinPortMask) port = false →
    exec (.irlinDatagram t port udp b) s = .next ((u.frameTaken port f).bump E.irlinDropAuth)) ∧
  (∀ peek items b v, u.readItems (.irlin k) peek items = (b, v) →
    exec (.irlinRead t k via tag peek items) s = .next (v.irlinReply k via 1 tag 0 b)) ∧
  (∀ items b v, (∀ x ∈ items, x.data.length = x.words) → u.writeItems (.irlin k) items = (b, v) →
    exec (.irlinWrite t k via tag items) s = .next (v.irlinReply k via 2 tag 0 b)) ∧
  (∀ index sub x v, (u.writeAt (.irlin k) ⟨index, sub, false, true⟩ [x] (.guarded (~~~x))) = (0, v) →
    exec (.irlinGuardedWrite t k via tag index sub 1 x (~~~x)) s =
      .next (v.irlinReply k via 3 tag 0 (replyItem index sub 1 0))) ∧
  (∀ peek index sub count ws v, u.blockRead (.irlin k) peek index sub count = ((0, ws), v) →
    exec (.irlinBlockRead t k via tag peek index sub count) s =
      .next (v.irlinReply k via 4 tag 0 (replyItem index sub count 0 ++ wordBytes ws))) ∧
  (∀ ref lock, u.control.pair = none → u.control.commit = none → u.worldOf (.irlin k) = some 0 → ref < 2 ^ 32 → lock < 2 →
    exec (.irlinCommit t k via tag ref (0xFFFFFFFF - ref) lock) s =
      .next ((({ u with control := { u.control with
        commit := some ⟨ref, decide (lock = 1), some (k.val, via, tag), false, false⟩ } }).set E.commitRef 0 ref).set
          E.commitState 0 1)) ∧
  (∀ domains minSev duration subs, minSev ≤ 3 → 0 < duration →
    subs = u.control.subs.filter (fun x => !decide (x.key = k.val ∧ x.via = via)) ++
      [⟨k.val, via, domains, minSev, u.now + duration * 500000000⟩] →
    exec (.irlinSubscribe t k via tag domains minSev duration) s =
      .next (({ u with control := { u.control with subs := subs } }).irlinReply k via 6 tag 0
        (subscribeBody domains minSev duration))) ∧
  (∀ n x, u.control.subs[n]? = some x → x.expires ≤ u.now →
    exec (.irlinSubscriptionExpiry t n) s = .next { u with control := { u.control with
      subs := u.control.subs.eraseIdx n } }) ∧
  (∀ report handle interval v, report.length = 56 → u.partnerReport report (256 + k.val) u.now = ((0, handle, interval), v) →
    exec (.irlinReport t k via tag report) s =
      .next (v.irlinReply k via 7 tag 0 (replyItem 0 0 1 0 ++ be 8 (interval * 2 ^ 32 + handle)))) ∧
  (exec (.irlinDiscover t k via tag) s = .next (u.irlinReply k via 8 tag 0 (u.discoverBody k))) ∧
  (u.n E.drbgState = 1 →
    exec (.irlinRenew t k via tag) s = .next ((((List.range 16).foldl (fun (x : State) j => x.set E.irlinSeqHigh j 0)
      { u with control := { u.control with seen := [], outSeq := [] } }).renewNonce).irlinDiscover k via tag))

/-- Sequence numbers (R60): one that a binding has accepted is never accepted again, and neither is 0 or one more than 64 below
the highest; the highest never falls; one above the highest is accepted while the binding is not exhausted. -/
def Obligations.IrlinSequence : Prop :=
  (∀ high seen seq, high < 2 ^ 32 → seen < 2 ^ 64 → seq < 2 ^ 32 → ∀ h' s', seqWindow high seen seq = some (h', s') →
    seqWindow h' s' seq = none ∧ high ≤ h' ∧ s' < 2 ^ 64) ∧
  (∀ high seen seq seq', high < 2 ^ 32 → seen < 2 ^ 64 → seq < 2 ^ 32 → seq' < 2 ^ 32 → high ≠ 0 →
    seqWindow high seen seq' = none → seq' ≤ high → ∀ h' s', seqWindow high seen seq = some (h', s') →
    seqWindow h' s' seq' = none) ∧
  (∀ high seen, seqWindow high seen 0 = none) ∧
  (∀ high seen seq, seq + 64 < high → seqWindow high seen seq = none) ∧
  (∀ high seen seq, high < seq → high ≠ 0xFFFFFFFF → ∃ s', seqWindow high seen seq = some (seq, s'))

/-- Reset and power (R69, R70, R388, R452): releasing a held engine starts it anew with what each supply keeps; a fall of
PWRGOOD or an assertion of RESET_N stops every pulse and clock output and every lane, loses the ports' frames, leaves a burn that was under way half done and holds the engine;
outside VDDAO's range what VDDAO keeps is lost as well. -/
def Obligations.ResetCommands : Prop :=
  (∀ s : State, s.power.held = true → exec .resetRelease s = .next s.restart) ∧
  (∀ s : State, s.power.pwrgood = false → s.restart = { State.reset with
    otp := s.otp, gnss := { State.reset.gnss with keep := s.gnss.keep },
    vault := { State.reset.vault with kept := s.vault.kept }, draws := s.draws, emits := s.emits, pending := s.pending }) ∧
  (∀ s : State, s.power.pwrgood = true → s.restart.control.w1 = s.control.w1 ∧ s.restart.jtag = s.jtag ∧
    s.restart.otp = s.otp ∧ s.restart.dict = [] ∧ s.restart.privet.time = 0 ∧ s.restart.power.held = false ∧
    s.restart.boot.kept = if s.n E.drbgState ≠ 0 then some (s.n E.pcieBifur, s.flag E.boxCertMode) else s.boot.kept) ∧
  (∀ t (s u : State), At t s u → exec (.pwrgoodFall t) s = .next (u.hold false)) ∧
  (∀ t (s u : State), At t s u → exec (.resetAssert t) s = .next (u.hold true)) ∧
  (∀ t (s u : State), At t s u → exec (.vddaoOutOfRange t) s = .next { u.hold false with
    gnss := { (u.hold false).gnss with keep := [] }, vault := { (u.hold false).vault with kept := [] } }) ∧
  (∀ u : State, (u.hold false).power = { u.power with pwrgood := false, held := true } ∧
    (u.hold true).power = { u.power with resetN := false, held := true }) ∧
  (∀ (u : State) (g : Bool) (l e : Nat), u.boot.burning = some (l, e) →
    (u.hold g).otp = { u.otp with halfBurnt := some l } ∧ (u.hold g).boot.burning = none) ∧
  (∀ (u : State) (g : Bool) (p : Nat), p < 8 → ((u.hold g).pulse p).active = false ∧ ((u.hold g).pulse p).trail = none) ∧
  (∀ (u : State) (g : Bool) (k : Nat), k < 16 → ((u.hold g).clkout k).stopped = true ∧ ((u.hold g).clkout k).onMdll = false) ∧
  (∀ (u : State) (g : Bool), (u.hold g).synth.lanes = [] ∧ (u.hold g).ports = []) ∧
  (∀ (u : State) (g : Bool), (u.hold g).dict = u.dict ∧ (u.hold g).privet = u.privet ∧ (u.hold g).vault = u.vault)

/-- While the engine is held in reset, no command but the release changes it (R70): every well-formed command other than
RESET_RELEASE, the three that hold the engine, and JTAG's (R464) answers the state unchanged. -/
def Obligations.HeldInReset : Prop :=
  ∀ (c : Instr) (s : State), s.power.held = true → wellFormed c = true → actsInReset c = false → exec c s = .next s

/-- The start-up stages (R71, R72, R76, R78, R80): what each stage leaves where it succeeds, and where it stops. -/
def Obligations.StageCommands : Prop :=
  ∀ (t : Nat) (s u : State), At t s u →
  (u.n E.bootStage = 1 → u.power.otpFail = false →
    exec (.otpLoad t false) s = .next { u with power := { u.power with otpFail := true } }) ∧
  (∀ v x, u.n E.bootStage = 1 → u.power.otpFail = false → u.otp.halfBurnt ≠ some 4 →
    (((({ u with otp := { u.otp with halfBurnt := none } }).loadIdentity.set E.drbgState 0 1).keepLoad).loadBist.drawReset) = v →
    v.set E.vaultState 0 (if v.n E.lifecycle = 0 then 0 else if v.n E.lifecycle = 4 then 3 else 1) = x →
    exec (.otpLoad t true) s = .next (if x.n E.lifecycle = 0 then x.set E.bootStage 0 2 else x.afterRoot)) ∧
  (∀ health, u.n E.bootStage = 2 → u.n E.bootResult ≠ 6 → (health.take 4).any id = false →
    exec (.rootGen t health true) s = .next (u.set E.bootResult 0 6)) ∧
  (∀ health root masked v, u.n E.bootStage = 2 → u.n E.bootResult ≠ 6 → (health.take 4).any id = true → u.otp.rootWritten < 2 →
    root = u.randomBytes 32 → u.drew.share root = (masked, v) →
    exec (.rootGen t health true) s = .next (((({ v with otp := { v.otp with
      rootWritten := u.otp.rootWritten + 1, rootMarked := u.otp.rootWritten + 1,
      root := masked } }).enterLifecycle 1).set E.vaultState 0 1).afterRoot)) ∧
  (∀ sigs v, u.n E.bootStage = 3 → u.islandList.foldl (fun (x : State) i =>
      (x.arraysZero i).bistResult i 3 (((sigs.find? (fun p => p.1 == i)).map (·.2)).getD (0, 0)).1
        (((sigs.find? (fun p => p.1 == i)).map (·.2)).getD (0, 0)).2) u = v → v.holly.failed = [] →
    exec (.stageBist t sigs) s = .next (v.set E.bootStage 0 4)) ∧
  (∀ x, u.n E.bootStage = 4 → u.flag E.boxCertMode = false → u.n E.vaultState ≠ 1 → x.answers = false → u.boot.images = [] →
    exec (.stageImageLoad t x) s = .next (((u.set E.bootResult 0 1).set E.bootStage 0 6).set E.treeCalState 0 1)) ∧
  (∀ x a b, u.n E.bootStage = 4 → u.flag E.boxCertMode = false → u.n E.vaultState ≠ 1 → x.answers = true →
    bitOf (u.n E.bootOptions) 1 = false → flashPart x 0 slotSize = a → flashPart x slotSize slotSize = b →
    flashImages a b ++ u.boot.images ≠ [] →
    exec (.stageImageLoad t x) s = .next (({ u with boot := { u.boot with
      images := flashImages a b ++ u.boot.images } }).set E.bootStage 0 5)) ∧
  (∀ b rest l k x v w, u.boot.images = (1, b) :: rest → u.boot.dma = none → 5 ≤ u.n E.bootStage → u.control.commit = none →
    u.control.pair = none → imageRecords b = some l → u.useKey (imageUse b) = (.key k, x) → x.perfEvent 0x603 0 = v →
    ecdsaVerify k (imageDigest b) (imageSig b) = true →
    (beAt b 8 4 = 0 ∨ beAt b 8 4 = v.otp.part.number) → beAt b 12 8 = v.otp.mask → v.writeRecords l = (true, w) →
    exec (.imageApply ⟨t, none⟩) s = .next ((w.set E.commitRef 0 (beAt b 24 4)).startCommit
      { ref := beAt b 24 4, lock := bitOf (beAt b 6 2) 0, image := true })) ∧
  (∀ b rest code l v, u.boot.images = (1, b) :: rest → u.boot.dma = none → 5 ≤ u.n E.bootStage → u.control.commit = none →
    u.control.pair = none → u.imageChecks b = (code, l, v) → code ≠ 0 →
    exec (.imageApply ⟨t, none⟩) s = .next (v.imageFailed code)) ∧
  (∀ f a n d rest, u.boot.images = (3, []) :: rest → u.boot.dma = some (f, a, n) → 5 ≤ u.n E.bootStage → u.control.commit = none →
    u.control.pair = none → d.length = n → exec (.imageApply ⟨t, some d⟩) s =
      .next (({ u with boot := { u.boot with images := (3, d) :: rest, dma := none } }).imageRun d)) ∧
  (∀ f a n rest, u.boot.images = (3, []) :: rest → u.boot.dma = some (f, a, n) → 5 ≤ u.n E.bootStage → u.control.commit = none →
    u.control.pair = none → exec (.imageApply ⟨t, none⟩) s = .next (u.imageFailed 1)) ∧
  (∀ (x : CalObs) v w, u.n E.bootStage = 6 → u.boot.calFailed = false →
    (∀ n < 64, u.leafFitted n = true → padInRange (u.calForward x n) = true) → (∀ m < 4, mdllOk x m = true) →
    ((List.range 64).filter u.leafFitted).foldl (fun (y : State) n => y.calLeaf x n) u = v →
    (((v.set E.treeLeaves 0 (maskOf ((List.range 64).filter u.leafFitted))).set E.treeCalState 0 2).calConverters x) = w →
    w.n E.treeCalState = 2 →
    exec (.calibrate t x) s = .next (({ w.mdllsStart with boot := { w.mdllsStart.boot with stage6 := true } }).set E.bootStage 0 7)) ∧
  (∀ (x : CalObs) n, n < 64 → u.n E.bootStage = 6 → u.boot.calFailed = false → u.leafFitted n = true →
    padInRange (u.calForward x n) = false → ((u.calTree x).calConverters x).n E.treeCalState = 3 →
    exec (.calibrate t x) s = .next ((((u.calTree x).calConverters x).calFail 8).raise 3)) ∧
  (∀ (x : CalObs) m, m < 4 → u.n E.bootStage = 6 → u.boot.calFailed = false → ((u.calTree x).calConverters x).n E.treeCalState = 2 →
    mdllOk x m = false → exec (.calibrate t x) s = .next (((u.calTree x).calConverters x).calFail 9)) ∧
  (∀ (x : CalObs) n, n < 64 → u.leafFitted n = true → padInRange (u.calForward x n) = false →
    (u.calTree x).n E.treeCalState = 3) ∧
  (∀ f : Int, padInRange f = true ↔ 28000000 ≤ f ∧ f ≤ 32000000) ∧
  (u.n E.bootStage = 7 → u.boot.stage6 = true → u.control.matched = true →
    exec (.quietEnd t) s = .next ((((u.set E.bootStage 0 (if u.flag E.firstLock then 9 else 8)).set E.bootTime 0
      (min (u.now / 500) (2 ^ 32 - 1))).outputRefresh).clkQuietEnd.ppsRefreshAll)) ∧
  (u.flag E.firstLock = false → u.n E.hbSelected < 32 → u.qualified (u.n E.hbSelected) = true →
    u.timeCapable (u.n E.hbSelected) = true → u.measured (u.n E.hbSelected) = true → u.privet.pendStep = none →
    u.privet.retarding = false → 0 ≤ unitsOfFs (u.phaseNow (u.n E.hbSelected)) →
    8 ≤ ((u.acceptStep (unitsOfFs (u.phaseNow (u.n E.hbSelected))) 0).set E.firstLock 0 1).n E.bootStage →
    exec (.firstLock t) s = .next (((((u.acceptStep (unitsOfFs (u.phaseNow (u.n E.hbSelected))) 0).set
      E.firstLock 0 1).set E.bootStage 0 9).trackClear.steerInteg.yewRefresh).outputRefresh))

/-- Lifecycle, boot options, host images and trim profiles (R73, R81, R82, R86 to R88). -/
def Obligations.LifecycleCommands : Prop :=
  ∀ (t : Nat) (s u : State), At t s u →
  (∀ m w x v, Opens spLifecycleReq m w 0 [x] u v →
    exec (.lifecycleReq t m x) s = .next { v.set E.lifecycleReq 0 x.toNat with
      boot := { v.boot with burning := some (x.toNat, v.now + 2500000) } }) ∧
  (∀ l e, u.boot.burning = some (l, e) → l ≠ 4 →
    exec (.lifecycleBurnComplete t) s = .next (({ u with
      otp := { u.otp with lifecycle := l }, boot := { u.boot with burning := none } }).set E.lifecycle 0 l)) ∧
  (∀ e, u.boot.burning = some (4, e) →
    exec (.lifecycleBurnComplete t) s = .next ((({ u with
      otp := { u.otp with lifecycle := 4 }, boot := { u.boot with burning := none } }).set E.lifecycle 0 4).zeroise)) ∧
  (∀ m w x v, Opens spBootOptionsBurn m w 0 [x] u v →
    exec (.bootOptionsBurn t m x) s = .next { v with otp := { v.otp with
      bootOptions := v.otp.bootOptions.lor x.toNat } }) ∧
  (∀ (f : Fin 8) w x v, Opens spImageLoad (.pcie f) w 0 [x] u v →
    exec (.imageLoad t (.pcie f) x none) s = .next (((
      { v with boot := { v.boot with images := [(3, [])], dma := some (f.val, v.n E.imageHostAddr, x.toNat) } }).emit
        (.dmaRead f (v.n E.imageHostAddr) x.toNat)).set E.imageLoad 0 1)) ∧
  (∀ (f : Fin 8) w x v y d, Opens spImageLoad (.pcie f) w 0 [x] u v → d.length = x.toNat →
    (({ v with boot := { v.boot with images := [(3, [])], dma := some (f.val, v.n E.imageHostAddr, x.toNat) } }).emit
      (.dmaRead f (v.n E.imageHostAddr) x.toNat)).set E.imageLoad 0 1 = y →
    exec (.imageLoad t (.pcie f) x (some d)) s = .next { y with boot := { y.boot with images := [(3, d)], dma := none } }) ∧
  (∀ w x v, Opens spImageLoad .spit w 0 [x] u v → stagedWhole x.toNat v.host.spiImage = true →
    exec (.imageLoad t .spit x none) s = .next (({ v with boot := { v.boot with
      images := [(3, stagedImage x.toNat v.host.spiImage)] } }).set E.imageLoad 0 1)) ∧
  (∀ m w x v, Opens spTrimProfile m w 0 [x] u v →
    exec (.trimProfile t m x) s = .next { v.set E.trimProfile 0 x.toNat with
      boot := { v.boot with trimAt := some v.now } }) ∧
  (∀ wr, u.boot.trimAt = some wr → wr < u.now → u.atSecond = true → u.n E.trimProfile = u.n E.trimActive →
    exec (.trimApply t) s = .next { u with boot := { u.boot with trimAt := none } }) ∧
  (∀ wr, u.boot.trimAt = some wr → wr < u.now → u.atSecond = true → u.n E.trimProfile ≠ u.n E.trimActive →
    exec (.trimApply t) s = .next (({ u with boot := { u.boot with trimAt := none } }).trimChange (u.n E.trimProfile)))

/-- Privet's writes (R92, R93, R95, R98, R99, R102, R106, R112): the mode, the increment by its two words, a slew, a step and its
permit, the initial time, a leap second, and a schedule slot armed or disarmed. -/
def Obligations.PrivetWrites : Prop :=
  ∀ (t : Nat) (s u : State), At t s u → ∀ (m : Master) (w : Nat),
  (∀ x v, Opens spPrivetMode m w 0 [x] u v → x.toNat = v.n E.privetMode → exec (.privetMode t m x) s = .next v) ∧
  (∀ x v, Opens spPrivetMode m w 0 [x] u v → x.toNat = 1 → v.n E.privetMode ≠ 1 →
    exec (.privetMode t m x) s = .next v.enterManual) ∧
  (∀ x v, Opens spPrivetMode m w 0 [x] u v → x.toNat = 0 → v.n E.privetMode ≠ 0 →
    exec (.privetMode t m x) s = .next v.leaveManual) ∧
  (∀ x v, Opens spIncrNs m w 0 [x] u v →
    exec (.privetIncrNs t m x) s = .next { v with privet := { v.privet with stagedNs := some x.toNat } }) ∧
  (∀ x v, Opens spIncrFrac m w 0 [x] u v →
    exec (.privetIncrFrac t m x) s = .next { v with privet := { v.privet with
      pendIncr := v.privet.pendIncr ++ [(v.incrWith x.toNat, v.now)], stagedNs := none } }) ∧
  (∀ x v, Opens spSlewCmd m w 0 [x] u v →
    exec (.privetSlewCmd t m x) s = .next { v with privet := { v.privet with
      pendSlew := v.privet.pendSlew ++ [(x.toInt, v.now)] } }) ∧
  (∀ x v, Opens spStepCmd m w 0 [x] u v → v.flag E.firstLock = false →
    exec (.privetStepCmd t m x) s = .next { v with privet := { v.privet with
      pendStep := some (x.toInt, v.now, 1) } }) ∧
  (∀ x v, Opens spStepCmd m w 0 [x] u v → v.flag E.firstLock = true →
    exec (.privetStepCmd t m x) s = .next (({ v with privet := { v.privet with
      pendStep := some (x.toInt, v.now, 1), permitUntil := none } }).set E.privetStepPermit 0 0)) ∧
  (∀ x v d, Opens spStepPermit m w 0 [x] u v →
    d = (if x.toNat = 1 then some (v.now + v.n E.privetPermitTimeout * 500000000) else none) →
    exec (.privetStepPermit t m x) s = .next (({ v with privet := { v.privet with permitUntil := d } }).set
      E.privetStepPermit 0 x.toNat)) ∧
  (∀ lo hi v p, Opens spInitTime m w 0 [lo, hi] u v → v.flag E.firstLock = false →
    (v.setWords E.privetInitTime 0 [lo, hi]).flag E.firstLock = false →
    p = some ((t96OfWords lo hi : Int) - (v.setWords E.privetInitTime 0 [lo, hi]).tai,
      (v.setWords E.privetInitTime 0 [lo, hi]).now, 1) →
    exec (.privetInitTime t m lo hi) s = .next { v.setWords E.privetInitTime 0 [lo, hi] with
      privet := { (v.setWords E.privetInitTime 0 [lo, hi]).privet with pendStep := p, initWritten := true } }) ∧
  (∀ (j : Fin 64) x v, Opens spLeapTai m w j [x] u v → x.toNat ≠ 0 →
    exec (.leapTai t m j x) s = .next (v.leapSet j x.toNat (v.int E.leapOffset j) 0)) ∧
  (∀ (j : Fin 64) x v, Opens spLeapTai m w j [x] u v → x.toNat = 0 →
    exec (.leapTai t m j x) s = .next (v.leapFree j)) ∧
  (∀ (i : Fin 256) v v', Opens spSchedArm m w i [1] u v →
    v.set E.schedHandle i (i.val * 2 ^ 24 + (v.n E.schedHandle i + 1) % 2 ^ 24) = v' →
    exec (.schedArm t m i) s = .next ((v'.set E.schedState i 1).setArmed i (some { at_ := v'.t96 E.schedTime i }))) ∧
  (∀ (i : Fin 256) v, Opens spSchedArm m w i [2] u v →
    exec (.schedDisarm t m i) s = .next ((v.set E.schedState i 0).setArmed i none))

/-- Privet's own events (R99 to R101, R105, R107 to R111, R113, R114, R116): a permit that times out, a retard that ends, leap
seconds announced, withdrawn and due, the leap state, a smear's end, the snapshot, and the actions of the schedule slots at
their islands; a deadline resolves
only once it has passed and every path's order mark is beyond it or has stopped for `HS_TIMEOUT`. -/
def Obligations.PrivetEvents : Prop :=
  ∀ (t : Nat) (s u : State), At t s u →
  (∀ d, u.privet.permitUntil = some d → d ≤ u.now →
    exec (.permitTimeout t) s = .next (({ u with privet := { u.privet with permitUntil := none } }).set
      E.privetStepPermit 0 0)) ∧
  (u.privet.retarding = true → u.privet.retard = 0 →
    exec (.retardEnd t) s = .next (({ u with
      privet := { u.privet with retarding := false, retardFull := 0 },
      gnss := { u.gnss with broken := some u.now, restart := true, fresh := true } }).synthStep (-(u.privet.retardFull : Int)) false)) ∧
  (∀ tL off j v, u.n E.privetLeapSource = 0 → u.leapReplace tL off = v →
    v.leaps.any (fun p => decide (p.2.1 = tL ∧ p.2.2 = off)) = false →
    (List.range 64).find? (fun j => decide (v.n E.leapTai j = 0)) = some j → v.leapOk j tL off = true →
    exec (.leapAnnounce t tL off) s = .next (({ v with privet := { v.privet with leapMismatch := none } }).leapSet j tL off 1)) ∧
  (∀ tL off j v, u.n E.privetLeapSource = 0 → u.leapReplace tL off = v →
    v.leaps.any (fun p => decide (p.2.1 = tL ∧ p.2.2 = off)) = false →
    (List.range 64).find? (fun j => decide (v.n E.leapTai j = 0)) = some j → v.leapOk j tL off = false →
    v.privet.leapMismatch ≠ some (tL, off) → exec (.leapAnnounce t tL off) s =
      .next (({ v with privet := { v.privet with leapMismatch := some (tL, off) } }).raise 11)) ∧
  (∀ tL, u.n E.privetLeapSource = 0 →
    exec (.leapWithdraw t tL) s = .next (u.leapWithdrawn (fun x => x == tL))) ∧
  (exec (.leapStateChange t) s = .next (u.set E.privetLeapState 0 u.leapState)) ∧
  (∀ (j : Fin 64) tL tS d, u.n E.leapTai j = tL → tL ≠ 0 → tL ≤ secOf u.tai → u.leaps.all (fun p => decide (tL ≤ p.2.1)) = true →
    u.int E.leapOffset j - u.int E.privetTaiUtc = d →
    max (ofSec tL - ofSec u.smearSettings.2 / 2) (tabGet 0 j u.privet.leapValidAt) = tS →
    exec (.leapDue t j) s = .next ((({ u with privet := { u.privet with
      smearLeap := some (tL, tS, d, u.smearSettings.2), lastLeap := some (tL, d) } }).setInt E.privetTaiUtc 0
        (u.int E.leapOffset j)).leapFree j)) ∧
  (∀ m w v ws, u.worldOf m = some w → u.readCodes w 0x2000 0 = [] → u.perfEvent 0x701 0 = v → v.live E.privetSnapshot 0 w = ws →
    exec (.privetSnapshot t m) s = .next (((v.setLatch m 0x2000 0 (ws ++ v.live E.privetSnapBound 0 0 ++
      v.live E.privetSnapStatus 0 0)).noteOut (v.emitted 0)).emit (.answer m 0 (ws.getD 0 0)))) ∧
  (∀ (i : Fin 256) x, u.schedDue i 1 = some x →
    exec (.schedEvent t i) s = .next ((u.schedPerform i x (u.emitted 0)).noteOut (u.emitted 0))) ∧
  (∀ (i : Fin 256) x, u.schedDue i 1 = none → u.schedLate i 1 = some x → exec (.schedEvent t i) s = .next (u.schedMiss i x)) ∧
  (∀ (i : Fin 256) (kind p at' : Nat) (x : Sched) (v : State), u.schedDue i kind = some x → u.schedTarget i = p →
    psNearest (if x.stepped then u.copy (pulseIsland p) else x.at_) = at' → u.n E.ppsMode p = 2 → (u.pulse p).notBefore ≤ at' →
    (u.setPulse p { u.pulse p with squelched := u.ppsSquelch }).ppsRefresh p = v → v.n E.ppsState p ≠ 0 → v.holly.safe = false →
    (kind = 2 → exec (.ppsoutSet t i) s = .next (((v.ppsPlace p at' (decide (v.n E.ppsPolarity p = 0))).schedPerform i x
      (u.ppsBound p)).pulseFault)) ∧
    (kind = 3 → exec (.ppsoutClear t i) s = .next (((v.ppsPlace p at' (decide (v.n E.ppsPolarity p ≠ 0))).schedPerform i x
      (u.ppsBound p)).pulseFault)) ∧
    (kind = 4 → exec (.ppsoutPulse t i) s = .next (((v.ppsLead p at' (v.n E.ppsWidth p)).schedPerform i x
      (u.ppsBound p)).pulseFault))) ∧
  (∀ (i : Fin 256) (x : Sched) (p q : Nat) (v : State) (r : TapRec), u.markDue i = some x → u.schedTarget i = p → p < 16 →
    u.n E.portRole p ≠ 0 → u.n E.tapWorld p ≠ 0xFF → u.ptpQuiet = false → u.tapInvalid p = false → u.tapSeq p = (q, v) →
    r = ⟨u.n E.tapWorld p, p, if x.stepped then v.copy (portIsland p) else x.at_, u.emitted (u.portAdd p),
      0x80 + ofBool x.stepped + 16 * ofBool (decide (u.stampMode p = 1)), 0, be 8 (v.n E.schedHandle i), q, none⟩ →
    exec (.tapMark t i) s = .next ((((({ v with tap := { v.tap with records := v.tap.records ++ [r] } }).noteOut
      (u.emitted (u.portAdd p))).schedNext i x 2).perfEvent 0x305 p).tapRelease)) ∧
  (∀ d e, u.deadlineTick d = some e → u.resolves (u.deadlinePaths d) e = true →
    exec (.deadlineResolve t d e) s = .next (u.deadlineActs d)) ∧
  (∀ d e, u.deadlineTick d = some e → u.resolves (u.deadlinePaths d) e = false → exec (.deadlineResolve t d e) s = .next u) ∧
  (∀ l e, u.now ≤ e → u.resolves l e = false) ∧
  (∀ l e i, i ∈ l → leafIslandOf (leafFor i) = i → u.leafOn (leafFor i) = true → (u.leaf (leafFor i)).mark ≤ e →
    u.now ≤ (u.leaf (leafFor i)).mark + u.n E.hsTimeout → u.resolves l e = false) ∧
  (∀ tL tS d, u.smear = some (tL, tS, d) → u.smearEnd tL ≤ u.tai →
    exec (.smearWindowEnd t) s = .next { u with privet := { u.privet with smearLeap := none, smearDefer := none } })

/-- The bound unit's events and the ledger's readers (R130, R132, R137 to R140): a release that has met its target ends with its
ledger entry; the engine leaves the out-of-tolerance state after its hold with its entry and the condition's end; a ledger read
answers the entry at the reader's cursor and moves the cursor past it; an attestation record ends at its boundary and is
signed in order. -/
def Obligations.BoundCommands : Prop :=
  ∀ (t : Nat) (s u : State), At t s u →
  (∀ r old, u.bound.release = some r → r.met = some old →
    exec (.releaseEnd t) s = .next (({ u with bound := { u.bound with release := none } }).ledgerAdd 4 0 0xFFFF old
      u.bound.e ((u.now - r.first) / 500000) (u.copy 0x001))) ∧
  (∀ c, u.bound.ootClear = some c → u.bound.oot = true → c + u.n E.ootClearHold * 500000000 ≤ u.now →
    exec (.ootExit t) s = .next ((({ u.attestAccrue with bound := { u.attestAccrue.bound with
      oot := false, ootClear := none } }).ledgerNote 11 0xFFFF ((u.now - u.bound.ootAt) / 500000000)).deassert 12)) ∧
  (∀ m (w : Fin 16) w' v ws, u.worldOf m = some w' → u.readCodes w' (0x28C0 + w.val) 1 = [] → u.perfEvent 0x701 0 = v →
    v.live E.ledgerEntry w w' = ws →
    exec (.ledgerEntryRead t m w) s = .next (((v.setLatch m (0x28C0 + w.val) 1 ws).ledgerAdvance w).emit
      (.answer m 0 (ws.getD 0 0)))) ∧
  (∀ e v, u.flag E.firstLock = true → u.bound.attest.started = true → u.atWhole (u.n E.attestPeriod * secondUnit) = true →
    u.privet.time / (u.n E.attestPeriod * secondUnit) * (u.n E.attestPeriod * secondUnit) / 2 ^ 40 = e →
    u.bound.attest.start < e →
    ({ u.attestAccrue with bound := { u.attestAccrue.bound with attest := { u.attestAccrue.bound.attest with
      flags := setBit u.attestAccrue.bound.attest.flags 5
        (decide (u.attestAccrue.bound.attest.nextSeq = 0 ∨ u.attestAccrue.bound.attest.period ≠ u.n E.attestPeriod)) } } } = v) →
    exec (.attestBoundary t) s = .next ((({ v with bound := { v.bound with
      signing := v.bound.signing ++ [(v.bound.attest.nextSeq, v.attestBytes e)] } }).attestNext e).ledgerNote 19
        (v.bound.attest.nextSeq % 16) v.bound.attest.nextSeq)) ∧
  (∀ (i : Fin 16) seq b rest k v h r w, u.bound.signing = (seq, b) :: rest → seq % 16 = i →
    ({ u with bound := { u.bound with signing := rest } }).useKey
      ({ u with bound := { u.bound with signing := rest } }).attestUse = (.key k, v) →
    b.take 12 ++ be 4 (v.resolveRef (v.n E.attestKey)) ++ b.drop 16 ++ padTo 32 v.bound.attest.prev = h →
    h ++ padTo 64 (ecdsaSign k (sha256 h)) = r → v.perfEvent 0x603 0 = w →
    exec (.attestSigned t i) s = .next ((((({ w with bound := { w.bound with attest := { w.bound.attest with
      prev := sha256 r } } }).setOct E.attestRecord (seq % 16) r).set E.attestSeq 0 seq).event 0
        (be 1 0x30 ++ be 1 (seq % 16) ++ zeros 2 ++ be 4 seq ++ zeros 24)).event 1
          (be 1 0x30 ++ be 1 (seq % 16) ++ zeros 2 ++ be 4 seq ++ zeros 24))) ∧
  (∀ (i : Fin 16) seq b rest, u.bound.signing = (seq, b) :: rest → seq % 16 = i →
    exec (.attestSigned t i) s = .next (({ u with bound := { u.bound with signing := rest } }).attestSign seq b))

/-- Hornbeam's writes (R144, R149, R164 to R166, R173, R174): a slot's type with the type's default limits, its enabling, the preferred
slot, and the three decisions on a conflict: slewed in, stepped in, rejected. -/
def Obligations.HornbeamWrites : Prop :=
  ∀ (t : Nat) (s u : State), At t s u → ∀ (m : Master) (w : Nat),
  (∀ (n : Fin 32) x v, Opens spRefType m w n [x] u v →
    exec (.refType t m n x) s = .next (((((v.set E.refType n x.toNat).set E.refFreqLim1 n (typeLimits x.toNat).1).set
      E.refFreqLim10 n (typeLimits x.toNat).2.1).set E.refFreqLim100 n (typeLimits x.toNat).2.2).termsRefresh n)) ∧
  (∀ (n : Fin 32) x v z, Opens spRefEnable m w n [x] u v → x.toNat = 0 →
    ((((v.set E.refEnable n 0).setCause n 12 false).set E.refState n 0).slotFresh n).termsRefresh n = z →
    exec (.refEnable t m n x) s = .next (z.settle (decide (z.n E.refState n ≠ v.n E.refState n)))) ∧
  (∀ (n : Fin 32) x v z, Opens spRefEnable m w n [x] u v → x.toNat = 1 → v.n E.refState n ≠ 0 →
    (((v.set E.refEnable n 1).setCause n 12 false).set E.refState n 1).termsRefresh n = z →
    exec (.refEnable t m n x) s = .next (z.settle (decide (z.n E.refState n ≠ v.n E.refState n)))) ∧
  (∀ (n : Fin 32) x v z, Opens spRefEnable m w n [x] u v → x.toNat = 2 → v.n E.refState n = 0 →
    ((((v.set E.refEnable n 2).setCause n 12 false).slotFresh n).slotQualify n).termsRefresh n = z →
    exec (.refEnable t m n x) s = .next (z.settle (decide (z.n E.refState n ≠ 0)))) ∧
  (∀ x v, Opens spHbPreferred m w 0 [x] u v →
    exec (.hbPreferred t m x) s = .next (((v.set E.hbPreferred 0 x.toNat).select true).decide'
      ((v.set E.hbPreferred 0 x.toNat).select true).hornbeam.pending)) ∧
  (∀ (n : Fin 32) v z, Opens spConflictCmd m w 0 [BitVec.ofNat 64 (n.val * 256 + 1)] u v → v.coreRelease.closeConflict n 1 = z →
    exec (.conflictAcceptSlew t m n) s = .next (z.decide' (some (n.val, v.now, false)))) ∧
  (∀ (n : Fin 32) v z, Opens spConflictCmd m w 0 [BitVec.ofNat 64 (n.val * 256 + 2)] u v →
    ((v.acceptStep (unitsOfFs (v.phaseNow n)) 1).coreRelease).closeConflict n 2 = z →
    exec (.conflictAcceptStep t m n) s = .next (z.decide' (some (n.val, v.now, true)))) ∧
  (∀ (n : Fin 32) v, Opens spConflictCmd m w 0 [BitVec.ofNat 64 (n.val * 256 + 3)] u v →
    exec (.conflictReject t m n) s = .next ((((v.setCause n 12 true).slotFail n).closeConflict n 3).settle true))

/-- Hornbeam's events (R146, R147, R152, R154, R161 to R166, R170, R175): monitors, the second's work, qualification that has
lasted its time, the wait to restore, auto-acceptance, ESMC and the time-of-day line. -/
def Obligations.HornbeamEvents : Prop :=
  ∀ (t : Nat) (s u : State), At t s u →
  (∀ n : Fin 32, u.n E.refEnable n ≠ 0 → u.silent n = true →
    exec (.activityTimeout t n) s = .next ((u.setCause n 1 true).settle)) ∧
  (∀ n : Fin 32, u.silent n = false → exec (.activityTimeout t n) s = .next u) ∧
  (u.atMilli = true → u.counters.latchAt ≠ some u.now → exec (.rateCheck t) s = .next (((List.range 26).foldl
    (fun (x : State) c => x.rateChannel u.rateWindow c)
      { u with counters := { u.counters with latchAt := some u.now } }).settle)) ∧
  (∀ x v, u.atSecond = true → ((List.range 32).foldl State.slotSecond u).transitions = x →
    ((x.pairsToWatch.foldl (fun (y : State) p => y.pairSecond p.1 p.2) x).disSecond).select = v →
    exec (.hornbeamSecond t) s =
      .next ((List.range 32).foldl State.elapsedSecond ((List.range 32).foldl State.driftSecond v))) ∧
  (∀ n : Fin 32, (u.slot n).passSince + u.n E.hbQualTime * 500000000 ≤ u.now → u.n E.refState n = 2 →
    u.anyFail n = false → u.phaseAllowed n = true →
    exec (.qualTimeExpiry t n) s = .next ((((u.set E.refState n 3).setT96 E.refQualifiedAt n u.tai).set
      E.refQualElapsed n 0).qualifiedNow n |>.settle true)) ∧
  (∀ n : Fin 32, (u.slot n).passSince + u.n E.hbQualTime * 500000000 ≤ u.now → u.n E.refState n = 4 →
    (u.slot n).drifting = false → u.cause n 7 = false → u.cause n 11 = false →
    exec (.qualTimeExpiry t n) s = .next (((((u.set E.refState n 3).setSlot n
      { u.slot n with excursion := 0 }).qualifiedNow n).termsRefresh n).settle true)) ∧
  (exec (.wtrExpiry t) s = .next u.select) ∧
  (∀ (n : Fin 32) lo hi z, u.n E.hbAutoAccept ≠ 0 → u.inHold = true → u.inConflict n = true → u.qualified n = true →
    max (u.slot n).watchFrom (u.slot n).qualSince + 60 * u.n E.hbAutoAccept * 500000000 ≤ u.now →
    (u.slot n).watch = some (lo, hi) → hi - lo ≤ 2000 * (u.n E.brefLive n : Int) → u.slewTooBig n = false →
    u.coreRelease.closeConflict n 4 = z →
    exec (.autoAccept t n) s = .next (z.decide' (some (n.val, u.now, false)))) ∧
  (∀ (n : Fin 32) port ssm essm, port < 16 → (List.range 32).filter (fun k => decide (u.n E.refEnable k ≠ 0 ∧ u.refKind k = 4 ∧
      u.n E.refEsmcPort k = port ∧ port < 16)) = [n.val] →
    exec (.esmcPdu t port false ssm essm) s = .next ((u.setSlot n { u.slot n with lastInfo := u.now }).quality n
      (essm.getD 0xFF % 256 * 256 + ssm % 256) (esmcLevel ssm essm))) ∧
  (∀ n : Fin 32, u.n E.refEnable n ≠ 0 → u.refKind n = 4 → u.n E.refEsmcPort n ≠ 0xFF →
    u.resolves [portIsland (u.n E.refEsmcPort n)] ((u.slot n).lastInfo + 5 * 500000000) = true →
    exec (.esmcTimeout t n) s = .next (u.quality n (u.n E.refQlRx n) 0)) ∧
  (∀ (p : Fin 4) n bytes low, u.slotOf 3 p = some n → u.todOn n = true →
    exec (.todLine t p bytes low) s = .next ((bytes.zipIdx.map (fun b => (b.1, low.contains b.2))).foldl (fun (x : State) b => x.todByte n b) u)) ∧
  (∀ n b, (u.slot n).tod.begun = [] → b ≠ (0x24#8, false) → u.todByte n b = u) ∧
  (∀ n b l v, (u.slot n).tod.begun ++ [b] = l → ((u.slot n).tod.begun ≠ [] ∨ b = (0x24#8, false)) → b.1 ≠ 0x0A → l.length < 73 →
    v = u.setSlot n { u.slot n with tod := { (u.slot n).tod with begun := l } } → u.todByte n b = v) ∧
  (∀ n b l v, (u.slot n).tod.begun ++ [b] = l → (u.slot n).tod.begun ≠ [] → (b.1 = 0x0A ∨ l.length = 73) →
    v = u.setSlot n { u.slot n with tod := { (u.slot n).tod with begun := [] } } → u.todByte n b = v.todLine n l) ∧
  (∀ n l, (l.any (·.2) = true ∨ parseTod (l.map (·.1)) = none) → u.todLine n l = u.bump E.todErrors n) ∧
  (∀ n l x e rest, l.any (·.2) = false → parseTod (l.map (·.1)) = some x → u.n E.todNames n = 1 →
    (u.slot n).tod.edges = e :: rest → e + 5000000 ≤ u.now → u.now ≤ e + 450000000 → u.todLine n l = u.todKeep n x) ∧
  (∀ n l x e rest, l.any (·.2) = false → parseTod (l.map (·.1)) = some x → u.n E.todNames n = 0 →
    (u.slot n).tod.edges = e :: rest → e + 5000000 ≤ u.now →
    u.todLine n l = u.setSlot n { u.slot n with tod := { (u.slot n).tod with
      wait := (u.slot n).tod.wait ++ [(x, u.now)] } }) ∧
  (∀ (p : Fin 4) n, u.slotOf 3 p = some n → u.todOn n = true → u.n E.todMissLimit n ≤ (u.slot n).tod.missed →
    exec (.todMiss t p) s = .next (((u.setSlot n { u.slot n with tod :=
      { (u.slot n).tod with failing := true, run := 0 } }).todRefresh n).settle))

/-- Yew's commands (R181 to R185, R188, R190 to R194): an update at its grid with the integral and
proportional terms of its gains, the ensemble's second, both discarded where the residue of the result does not agree, a model refit, an
ambiguity that has lasted its quiet time, and the loop's and the ensemble's settings with the gains and weights that follow. -/
def Obligations.YewCommands : Prop :=
  ∀ (t : Nat) (s u : State), At t s u →
  (∀ n res, u.n E.hbSelected = n → n < 32 → u.n E.refType n ≠ 3 → u.flag E.firstLock = true → u.atSecond = true →
    exec (.loopUpdate t res) s = .next { (((u.yRefHold n).perfEvent 3 0).loopStep n 1000 res) with
      yew := { ((((u.yRefHold n).perfEvent 3 0).loopStep n 1000 res)).yew with
        began := ((((u.yRefHold n).perfEvent 3 0).loopStep n 1000 res)).now } }) ∧
  (∀ n res, u.n E.hbSelected = n → n < 32 → u.n E.refType n = 3 → u.flag E.firstLock = true → u.atMilli = true →
    exec (.loopUpdate t res) s = .next { (((u.yRefHold n).perfEvent 3 0).loopStep n 1 res) with
      yew := { ((((u.yRefHold n).perfEvent 3 0).loopStep n 1 res)).yew with
        began := ((((u.yRefHold n).perfEvent 3 0).loopStep n 1 res)).now } }) ∧
  (∀ n ms res, u.intervalOffsets n = [] ∨ u.yew.presetAt = some u.now → u.loopStep n ms res = u) ∧
  (∀ n ms l v, u.intervalOffsets n = l → l ≠ [] → u.yew.presetAt ≠ some u.now → u.loopResult l (u.n E.refType n) ms = v →
    u.loopStep n ms (residue (be 8 (wordOfInt v.integ).toNat)) = u.loopTake (u.n E.refType n) v) ∧
  (∀ n ms l v res, u.intervalOffsets n = l → l ≠ [] → u.yew.presetAt ≠ some u.now → u.loopResult l (u.n E.refType n) ms = v →
    residue (be 8 (wordOfInt v.integ).toNat) ≠ res → u.loopStep n ms res = (u.bump E.resErr).raise 2 none 0x003) ∧
  (∀ l k (ms : Nat) x (i : Int), Int.tdiv (l.foldl (· + ·) 0) l.length - Int.tdiv (u.slewAll * 10 ^ 6) (2 ^ 56) = x →
    u.flag E.yewDriftFf = false → u.yew.fine = 0 → u.yew.integ + Int.fdiv (u.n E.loopKi k * x * ms) (10 ^ 15) = i →
    (i + roundDiv (u.n E.loopKp k * x) (10 ^ 9) - u.yRef).natAbs ≤ u.n E.privetOutTol * 10 ^ 6 →
    u.loopResult l k ms = ⟨x, i + roundDiv (u.n E.loopKp k * x) (10 ^ 9), i, Int.fmod (u.n E.loopKi k * x * ms) (10 ^ 15), false⟩) ∧
  (∀ res v, u.atSecond = true → u.ensembleSecond = v → residue (be 8 (wordOfInt v.yew.yOsc).toNat) = res →
    exec (.ensembleUpdate t res) s = .next v.sendIncr) ∧
  (∀ res v, u.atSecond = true → u.ensembleSecond = v → residue (be 8 (wordOfInt v.yew.yOsc).toNat) ≠ res →
    exec (.ensembleUpdate t res) s = .next ((u.bump E.resErr).raise 2 none 0x003)) ∧
  (∀ (j : Fin 5) a b d, (u.member j).probated = true → (u.member j).refit + 3600 * 500000000 ≤ u.now →
    Config.allanFit (u.allan j) = (a, b, d) →
    exec (.modelRefit t j a b d) s = .next ((((u.setMember j { u.member j with d := d, refit := u.now }).set
      E.ensSigmaA j a).set E.ensSigmaB j b).ensembleRefresh)) ∧
  (u.yew.ambiguous = true → u.yew.withinSince + 600 * 500000000 ≤ u.now →
    exec (.ambiguityClose t) s = .next ((((List.range 5).foldl (fun (x : State) j =>
      if x.n E.ensCause j = 4 then x.set E.ensCause j 0 else x)
        { u with yew := { u.yew with ambiguous := false } }).deassert 18).ensembleRefresh)) ∧
  (∀ m w (j : Fin 5) x v, Opens spEnsEnable m w j [x] u v → x.toNat = 0 →
    exec (.ensEnable t m j x) s = .next ((((v.set E.ensEnable j 0).set E.ensState j 0).set E.ensCause j 0).ensembleRefresh)) ∧
  (∀ m w (j : Fin 5) x v, Opens spEnsEnable m w j [x] u v → x.toNat = 1 → (v.set E.ensEnable j 1).n E.ensState j = 0 →
    exec (.ensEnable t m j x) s = .next ((((v.set E.ensEnable j 1).memberStart j).ensembleRefresh))) ∧
  (∀ (j : Nat) v, (u.set E.ensSigmaA j (classA (u.n E.ensClass j))).set E.ensSigmaB j
      (classB ((u.set E.ensSigmaA j (classA (u.n E.ensClass j))).n E.ensClass j)) = v →
    u.memberStart j = ((v.set E.ensState j 1).set E.ensCause j 0).setMember j
      { inputSince := ((v.set E.ensState j 1).set E.ensCause j 0).now,
        edge := (((v.set E.ensState j 1).set E.ensCause j 0).member j).edge,
        inputBad := (((v.set E.ensState j 1).set E.ensCause j 0).member j).inputBad }) ∧
  (∀ m w (k : Fin 4) x v z, Opens spLoopBw m w k [x] u v → v.set E.loopBw k x.toNat = z →
    exec (.loopBw t m k x) s = .next ((z.set E.loopKp k (gainP (z.n E.loopBw k) (z.n E.loopDamp k))).set E.loopKi k
      (gainI ((z.set E.loopKp k (gainP (z.n E.loopBw k) (z.n E.loopDamp k))).n E.loopBw k)
        ((z.set E.loopKp k (gainP (z.n E.loopBw k) (z.n E.loopDamp k))).n E.loopDamp k)))) ∧
  (∀ m w (k : Fin 4) x v, Opens spLoopDamp m w k [x] u v →
    exec (.loopDamp t m k x) s = .next ((v.set E.loopDamp k x.toNat).gains k))

/-- The interval counters (R203, R205, R207, R208, R210, R213): an edge of a stamped polarity is counted, and either counted
only (prescale), missed in the dead time of the one before, or stamped; a bank's counter wraps; a converter is calibrated, the
other one goes live at its strobes, and a calibration grows old; waits of a pair unit end after their time; statistics are
cleared; a channel's loss reaches its consumers. -/
def Obligations.CounterCommands : Prop :=
  ∀ (t : Nat) (s u : State), At t s u →
  (∀ (x : EdgeObs) v, u.flag E.chEnable x.ch = true → u.chanFitted x.ch = true → u.n E.chEdge x.ch = 0 → x.falling = false →
    ((u.set E.chEdges x.ch ((u.n E.chEdges x.ch + 1) % 2 ^ 64)).setChan x.ch { u.chan x.ch with
      phase := ((u.chan x.ch).phase + 1) % u.prescale x.ch, lastEdge := u.now } = v) →
    ((u.chan x.ch).phase % u.prescale x.ch ≠ 0 → exec (.channelEdge t x) s = .next v) ∧
    ((u.chan x.ch).phase % u.prescale x.ch = 0 → (u.chan x.ch).last = none →
      exec (.channelEdge t x) s = .next (v.stampEdge x)) ∧
    (∀ a, (u.chan x.ch).phase % u.prescale x.ch = 0 → (u.chan x.ch).last = some a → a.event + 64000000 ≤ v.eventFs x →
      exec (.channelEdge t x) s = .next (v.stampEdge x)) ∧
    (∀ a, (u.chan x.ch).phase % u.prescale x.ch = 0 → (u.chan x.ch).last = some a → v.eventFs x < a.event + 64000000 →
      exec (.channelEdge t x) s = .next (((v.bump E.chDeadtimeMissed x.ch).perfEvent 0x102 x.ch).setChan x.ch
        { v.chan x.ch with dead := true }))) ∧
  (∀ x : EdgeObs, u.flag E.chEnable x.ch = false → exec (.channelEdge t x) s = .next u) ∧
  (∀ b : Fin 4, wrapTicks ≤ (u.bank b).at_ u.now → b ≠ 0 →
    exec (.counterWrap t b) s = .next (u.setBank b { u.bank b with
      value := (u.bank b).at_ u.now - wrapTicks, tick := u.now, wraps := ((u.bank b).wraps + 1) % 65536 })) ∧
  (wrapTicks ≤ (u.bank 0).at_ u.now →
    exec (.counterWrap t 0) s = .next ((u.setBank 0 { u.bank 0 with
      value := (u.bank 0).at_ u.now - wrapTicks, tick := u.now, wraps := ((u.bank 0).wraps + 1) % 65536 }).set E.ticWraps 0
        (((u.bank 0).wraps + 1) % 65536))) ∧
  (∀ (c : Fin 26) b q h, exec (.converterCal t c b q h) s = .next (u.calibrated c b q h)) ∧
  (∀ (c : Fin 26) n, u.counters.loadStrobe = some n → n < u.islands.strobes → (u.islands.strobes - n) % 1024 = 0 →
    u.chBit c (if u.chBit c 2 then 3 else 4) = false →
    exec (.converterSwap t c) s = .next ((u.setChBit c 2 (!(u.chBit c 2))).staleRefresh c)) ∧
  (∀ c : Fin 26, exec (.calStale t c) s = .next (u.set E.chStatus c (setBit (u.n E.chStatus c) 5
    (decide (u.liveCal c + 50000000 < u.now))))) ∧
  (∀ (j : Fin 16) w, (u.pairUnit j).waits = [(w, none)] → u.resolves [0x100 + bankOf (u.n E.pairB j)] (w.tick + u.n E.pairTimeout j * 500000) = true →
    exec (.pairTimeout t j) s = .next ((u.setPairUnit j { u.pairUnit j with waits := [] }).bump E.pairMissing j)) ∧
  (∀ (j : Fin 16) w b, (u.pairUnit j).waits = [(w, some b)] → u.resolves [0x100 + bankOf (u.n E.pairB j)] (w.tick + u.n E.pairTimeout j * 500000) = true →
    exec (.pairTimeout t j) s = .next ((u.setPairUnit j { u.pairUnit j with waits := [] }).pairResult j w b)) ∧
  (∀ m w (j : Fin 16) v y z, Opens spPairClear m w j [1] u v →
    z = { v.pairUnit j with count := 0, sum := 0, squares := 0, low := 0, high := 0 } →
    y = { v with counters := { v.counters with results := v.counters.results.map (fun (r : TicResult) =>
      if r.kind = 3 ∧ r.source = j.val then { r with raw := false } else r) } } →
    exec (.pairClear t m j) s = .next ((y.setPairUnit j z).setOct E.pairStats j (pairBytes z))) ∧
  (∀ (c : Fin 26) v, memberOf c = none →
    (u.mdllsOn c).foldl (fun (x : State) k =>
      if u.resolves [0x100 + bankOf c] ((u.chan c).lastEdge + ceilDiv (2 * ticksS 1) (max 1 (x.mdll k).refHz)) then x.mdllRefFail k
      else x) u = v →
    (∀ p < 8, v.n E.ppsMode p ≠ 3) → exec (.channelActivityLoss t c) s = .next v) ∧
  (∀ (c : Fin 26) k, memberOf c = some k → (∀ p < 8, (u.memberInputBad k).n E.ppsMode p ≠ 3) →
    u.resolves [0x100 + bankOf c] ((u.chan c).lastEdge + max 1024 (ceilDiv (2 * ticksS 1)
      (max 1 (if k = 0 then u.chNominal c else u.n E.ensNominal k)))) = true →
    exec (.channelActivityLoss t c) s = .next (u.memberInputBad k))

/-- Synthesis' writes (R220, R222, R229, R230, R232): an MDLL enabled or disabled, its ratio staged by N and applied by F, a
divider, and a realignment of every grid output and lane. -/
def Obligations.SynthesisWrites : Prop :=
  ∀ (t : Nat) (s u : State), At t s u → ∀ (m : Master) (w : Nat),
  (∀ (j : Fin 4) x v z, Opens spMdllEnable m w j [x] u v → x.toNat = 1 → v.set E.mdllEnable j 1 = z → z.n E.mdllState j = 0 →
    exec (.mdllEnable t m j x) s = .next ((z.takeReference j).acquire j)) ∧
  (∀ (j : Fin 4) x v z, Opens spMdllEnable m w j [x] u v → x.toNat = 0 → v.set E.mdllEnable j 0 = z → z.n E.mdllState j = 0 →
    exec (.mdllEnable t m j x) s = .next z) ∧
  (∀ (j : Fin 4) x v z, Opens spMdllEnable m w j [x] u v → x.toNat = 0 → v.set E.mdllEnable j 0 = z → z.n E.mdllState j ≠ 0 →
    exec (.mdllEnable t m j x) s = .next (((z.fed j).foldl State.toBypass (z.setMdll j
      { z.mdll j with stopping := true })).mdllSettle j).lockEvents) ∧
  (∀ (j : Fin 4) x v, Opens spMdllMultN m w j [x] u v →
    exec (.mdllMultN t m j x) s = .next (v.setWordAt E.mdllMultN j 0 0 x)) ∧
  (∀ (j : Fin 4) x v z, Opens spMdllMultF m w j [x] u v → v.set E.mdllMultF j x.toNat = z →
    exec (.mdllMultF t m j x) s = .next (let y := z.setMdll j { z.mdll j with retune := some (z.n E.mdllMultN j, x.toNat) }
      (((y.fed j).foldl State.toBypass y).mdllSettle j).lockEvents)) ∧
  (∀ (k : Fin 16) x v, Opens spClkoutDiv m w k [x] u v →
    exec (.clkoutDiv t m k x) s = .next ((v.set E.clkoutDiv k x.toNat).clkChange k)) ∧
  (∀ v, Opens spSynRealign m w 0 [1] u v → exec (.synRealign t m) s = .next v.clksRealign.lanesRealign)

/-- Synthesis' events (R223, R224, R227 to R234, R240, R243): a count window's lock and loss of lock, an aligned MDLL, the return
after a reference's hold, the glitch-free switch, an edge report, a pulse edge, a Time Lane group and the lanes' faults. -/
def Obligations.SynthesisEvents : Prop :=
  ∀ (t : Nat) (s u : State), At t s u →
  (∀ (j : Fin 4) (count lead edge : Nat) (err : Int) (x : Mdll) (v : State), u.n E.mdllState j ≠ 0 → u.n E.mdllState j ≠ 4 →
    u.dtcWindow j lead edge = x → (count : Int) - u.expectCount j (x.wraps - (u.mdll j).wraps) = err →
    u.setInt E.mdllCountErr j (max (-2 ^ 31) (min err (2 ^ 31 - 1))) = v →
    (u.n E.mdllState j = 1 → err.natAbs ≤ 1 → 2 ≤ x.good → x.retune = none → x.stopping = false →
      exec (.mdllWindow t j count ⟨lead, edge⟩) s = .next ((v.setMdll j { x with good := x.good + 1 }).set E.mdllState j 2)) ∧
    (u.n E.mdllState j = 1 → err.natAbs ≤ 1 → x.good < 2 →
      exec (.mdllWindow t j count ⟨lead, edge⟩) s = .next (v.setMdll j { x with good := x.good + 1 })) ∧
    (u.n E.mdllState j = 1 → 1 < err.natAbs →
      exec (.mdllWindow t j count ⟨lead, edge⟩) s = .next (v.setMdll j { x with good := 0 })) ∧
    (u.n E.mdllState j ≠ 1 → err.natAbs ≤ 1 →
      exec (.mdllWindow t j count ⟨lead, edge⟩) s = .next (v.setMdll j { x with good := x.good + 1 })) ∧
    (u.n E.mdllState j ≠ 1 → 4 < err.natAbs →
      exec (.mdllWindow t j count ⟨lead, edge⟩) s = .next ((((v.setMdll j { x with good := 0 }).bump E.mdllLockLosses j).acquire
        j).lockEvents))) ∧
  (∀ (j : Fin 4) (count lead edge : Nat), (u.n E.mdllState j = 0 ∨ u.n E.mdllState j = 4) →
    exec (.mdllWindow t j count ⟨lead, edge⟩) s = .next u) ∧
  (∀ (j : Fin 4) (count : Nat) (n f : Nat), u.ratio j = (n, f) → u.expectCount j 0 =
    roundDiv ((n * 2 ^ 32 + f : Nat) : Int) (2 ^ 16)) ∧
  (∀ (j : Fin 4) (e : Int) v z, u.n E.mdllState j = 2 →
    ((u.set E.mdllState j 3).setInt E.mdllPhaseErr j (max (-2 ^ 31) (min e (2 ^ 31 - 1))) = v) →
    (v.fed j).foldl (fun (x : State) k => if x.mayRun k then x.toMdll k else x) v = z → z.n E.tlMdll ≠ j →
    exec (.mdllAligned t j e) s = .next z) ∧
  (∀ (j : Fin 4) (e : Int) v z, u.n E.mdllState j = 2 →
    ((u.set E.mdllState j 3).setInt E.mdllPhaseErr j (max (-2 ^ 31) (min e (2 ^ 31 - 1))) = v) →
    (v.fed j).foldl (fun (x : State) k => if x.mayRun k then x.toMdll k else x) v = z → z.n E.tlMdll = j →
    exec (.mdllAligned t j e) s = .next z.lanesRealign) ∧
  (∀ j : Fin 4, u.n E.mdllState j = 4 → (u.mdll j).refBad = false →
    (u.mdll j).refOkSince + u.n E.mdllReturnHold j * 500000 ≤ u.now →
    exec (.mdllReturnHold t j) s = .next (u.acquire j)) ∧
  (∀ (k : Fin 16) x v, u.clkout k = x → x.armed = some true → u.perfEvent 0x203 k = v →
    exec (.bypassSwitch t k) s = .next (let y := ((v.setClkout k { x with
      onMdll := true, armed := none, former := 0 }).bump E.synBypassSwitches).clkRefresh k
      y.set E.clkoutStatus k (ofBool (y.onGrid k) * (2 + ofBool (decide (x.shift = 0)))))) ∧
  (∀ (k : Fin 16) x v z, u.clkout k = x → x.armed = some false → u.perfEvent 0x203 k = v →
    (((((v.setClkout k { x with onMdll := false, armed := none }).bump E.synBypassSwitches).clkTake k).mdllSettle x.src).lockEvents)
      = z → exec (.bypassSwitch t k) s = .next (if z.mayRun k then z.toMdll k else z)) ∧
  (∀ (k : Fin 16), (u.clkout k).armed = none → exec (.bypassSwitch t k) s = .next u) ∧
  (∀ (k : Fin 16) edge a b, u.atSecond = true → u.n E.clkoutState k = 4 →
    (if u.onGrid k then u.clkEdge k (u.tai / ofSec 1 * ofSec 1) else u.stampAt (0x200 + (u.clkout k).src) edge) = a →
    (if u.unsync (0x200 + (u.clkout k).src) then 0xFFFFFFFF else u.emitted 25) = b →
    exec (.clkoutEdgeReport t k edge) s = .next ((((u.setT96 E.clkoutEdgeTime k a).set E.clkoutEdgeBound k b).noteOut b).emit
      (.clock k a b))) ∧
  (∀ (p : Fin 8) x, (u.pulse p).trail = none → u.n E.ppsMode p = 1 → u.ppsGrid p = some x →
    exec (.ppsEdge t p) s = .next ((u.ppsLead p x (u.n E.ppsWidth p)).pulseFault)) ∧
  (∀ (p : Fin 8) x v, (u.pulse p).trail = some x → u.inTick p x = true → u.n E.ppsState p ≠ 0 → u.holly.safe = false →
    (u.setPulse p { u.pulse p with trail := none }).ppsPlace p x false = v →
    v.n E.ppsMode p = 0 →
    exec (.ppsEdge t p) s = .next v.pulseFault) ∧
  (exec (.tlFrame t) s = .next ((List.range 8).foldl State.laneSend (u.set E.tlGroupSeq 0 ((u.n E.tlGroupSeq + 1) % 65536)))) ∧
  (∀ l : Fin 8, u.flag E.tlEnable l = true →
    exec (.tlUnderrun t l) s = .next (((u.bump E.tlUnderruns l).laneRealign l).laneRefresh l)) ∧
  (∀ l : Fin 8, u.flag E.tlEnable l = true →
    exec (.tlClockLoss t l) s = .next (((u.bump E.tlClockLosses l).setLane l
      { u.lane l with unlocked := true, realigning := false }).laneRefresh l)) ∧
  (∀ l : Fin 8, (u.lane l).unlocked = true →
    exec (.tlClockReturn t l) s = .next (((u.setLane l { u.lane l with unlocked := false }).laneRealign l).laneRefresh l)) ∧
  (∀ l : Fin 8, (u.lane l).realigning = true → 64 ≤ (u.lane l).sent →
    exec (.tlRealignEnd t l) s = .next ((u.setLane l { u.lane l with realigning := false }).laneRefresh l))

/-- The ports' links and receivers (R247, R249, R250, R253, R254, R260, R262): a mode change takes the port down; a link comes up
and calibrates, is refused for a partner of another speed, or goes down with its held launches; a received frame is taken, or
counted where it is dropped; pause frames are sent again, ended and honoured. -/
def Obligations.PortCommands : Prop :=
  ∀ (t : Nat) (s u : State), At t s u → ∀ p : Fin 18,
  (∀ m w x v, Opens spPortMode m w p [x] u v →
    exec (.portMode t m p x) s = .next (((v.portDown p).set E.portMode p x.toNat).inlineRefresh)) ∧
  (u.n E.portMode p ≠ 0 → u.linkIsUp p = false → u.tap.squelched.contains p.val = false → p.val < 16 →
    exec (.linkUp t p false) s = .next (((u.setPort p { u.port p with calFrom := u.now }).set E.portLink p 1).set
      E.portCalState p 1)) ∧
  (u.n E.portMode p = 1 → u.linkIsUp p = false → u.tap.squelched.contains p.val = false → 16 ≤ p.val →
    exec (.linkUp t p false) s = .next (u.bump E.portLinkRefused p)) ∧
  (∀ v, u.linkIsUp p = true → ((u.port p).held.filter (fun h => decide (u.portCopy p < h.l))).foldl
      (fun (x : State) h => x.launchMiss p h) u = v →
    exec (.linkDown t p) s = .next (((v.set E.portLink p 0).set E.portCalState p 0).ptpPortDown p)) ∧
  (u.linkIsUp p = true → u.n E.portCalState p = 1 → exec (.portCalDone t p) s = .next (u.set E.portCalState p 2)) ∧
  (∀ x : RxObs, x.port = p → u.linkIsUp p = true → u.n E.portRole p = 0 → (u.perfEvent 0x301 p).rxDrop x = none →
    exec (.portRxFrame t x) s = .next ((u.perfEvent 0x301 p).rxTake x)) ∧
  (∀ (x : RxObs) e, x.port = p → u.linkIsUp p = true → u.n E.portRole p = 0 → (u.perfEvent 0x301 p).rxDrop x = some e →
    exec (.portRxFrame t x) s = .next ((u.perfEvent 0x301 p).bump e p)) ∧
  (∀ prio : Fin 8, u.n E.portFcMode p ≠ 0 → u.n E.portRole p = 0 → u.xoff p prio = true →
    tabGet 0 prio.val (u.port p).xoffAt + u.bitTicks p (u.n E.portPauseQuanta p * 256) ≤ u.now →
    u.rxShare p * u.n E.portXonPct p ≤ u.occOf p prio * 100 →
    exec (.pauseResend t p prio) s = .next (u.sendXoff p prio)) ∧
  (∀ prio : Fin 8, u.n E.portFcMode p ≠ 0 → u.n E.portRole p = 0 → u.xoff p prio = true → u.occOf p prio * 100 ≤ u.rxShare p * u.n E.portXonPct p →
    exec (.pauseXon t p prio) s = .next ((u.sendPause p prio 0).setXoff p prio false)) ∧
  (∀ (prio : Fin 8) q, u.linkIsUp p = true → u.n E.portRole p = 0 →
    (u.bump E.portPauseRcvd p).flag E.portPauseRx p = false →
    exec (.pauseReceived t p prio q) s = .next (u.bump E.portPauseRcvd p)) ∧
  (∀ (prio : Fin 8) v, u.linkIsUp p = true → u.n E.portRole p = 0 → u.bump E.portPauseRcvd p = v →
    v.flag E.portPauseRx p = true → v.n E.portFcMode p ≠ 2 →
    exec (.pauseReceived t p prio 0) s = .next (v.setPort p { v.port p with
      pausedUntil := tabErase 8 (v.port p).pausedUntil })) ∧
  (∀ prio : Fin 8, u.n E.portFcMode p = 2 → tabGet 0 prio.val (u.port p).pausedUntil ≤ u.now →
    exec (.pauseExpiry t p prio) s = .next (u.setPort p { u.port p with
      pausedUntil := tabErase prio.val (u.port p).pausedUntil })) ∧
  (∀ prio : Fin 8, u.n E.portFcMode p ≠ 2 → tabGet 0 8 (u.port p).pausedUntil ≤ u.now →
    exec (.pauseExpiry t p prio) s = .next (u.setPort p { u.port p with
      pausedUntil := tabErase 8 (u.port p).pausedUntil }))

/-- Sending and stamping at the ports (R255 to R258, R260, R263 to R265): a frame handed over is held for its launch or fails with
its code; a held frame goes out at its instant on the port's copy and not
before, and one that has gone by or is blocked is missed; a frame without launch goes out; the stamp queue's
oldest entry reaches its consumer; a lost run's entry takes the first free place; a handle's quiet time ends, by itself or by
force. -/
def Obligations.LaunchCommands : Prop :=
  ∀ (t : Nat) (s u : State), At t s u → ∀ p : Fin 18,
  (∀ slack f rest, (u.port p).arriving = f :: rest → u.linkIsUp p = false →
    exec (.launchRequest t p slack) s = .next ((u.setPort p { u.port p with arriving := rest }).launchGone f 0x22)) ∧
  (∀ slack f rest v, (u.port p).arriving = f :: rest → u.linkIsUp p = true → u.n E.portCalState p = 2 →
    (f.origin.unit < 16 → u.stampBad p = false) → f.stale = false →
    (u.setPort p { u.port p with arriving := rest }).ntsRevoked f.origin = false →
    (u.setPort p { u.port p with arriving := rest }).holdLaunch p f slack false = some v →
    exec (.launchRequest t p slack) s = .next v) ∧
  (∀ slack f rest, (u.port p).arriving = f :: rest → u.linkIsUp p = true → u.n E.portCalState p = 2 →
    (f.origin.unit < 16 → u.stampBad p = false) → f.stale = false →
    (u.setPort p { u.port p with arriving := rest }).ntsRevoked f.origin = false →
    (u.setPort p { u.port p with arriving := rest }).holdLaunch p f slack false = none →
    exec (.launchRequest t p slack) s = .next ((u.setPort p { u.port p with arriving := rest }).frameDone f 0x24 0)) ∧
  (∀ h rest, (u.port p).held = h :: rest → h.l ≤ u.portCopy p → u.launchBlocked p h = false → u.passed (portIsland p) h.l = false →
    exec (.frameLaunch t p) s = .next (u.launchOut p h rest)) ∧
  (∀ h rest, (u.port p).held = h :: rest → u.portCopy p < h.l → exec (.frameLaunch t p) s = .next u) ∧
  (∀ h rest, (u.port p).held = h :: rest → h.l ≤ u.portCopy p → u.launchBlocked p h = true ∨ u.passed (portIsland p) h.l = true →
    exec (.frameLaunch t p) s = .next (u.launchMiss p h)) ∧
  (∀ handle late h, (u.port p).held.find? (fun x => decide (x.frame.handle = handle)) = some h →
    (u.launchBlocked p h = true ∨ (late = true ∧ h.l ≤ u.portCopy p + ofNs 64)) →
    exec (.launchMissed t p handle late) s = .next (u.launchMiss p h)) ∧
  (∀ edge e f, u.nextFrame p = some f → u.linkIsUp p = true → u.stampAt (portIsland p) edge = e → u.clears p f e = true → f.stale = false → f.origin.unit < 16 →
    exec (.portTxFrame t p edge) s = .next ((u.setPort p { u.port p with
      sending := (u.port p).sending.erase f, turn := (u.port p).turn }).txSend p e f f.bytes)) ∧
  (∀ edge e f, u.nextFrame p = some f → u.linkIsUp p = true → u.stampAt (portIsland p) edge = e → u.clears p f e = true → f.stale = false → 16 ≤ f.origin.unit →
    exec (.portTxFrame t p edge) s = .next ((u.setPort p { u.port p with
      sending := (u.port p).sending.erase f, turn := f.origin.unit - 16 }).txSend p e f f.bytes)) ∧
  (∀ o b rest v, (u.port p).queue = (o, b) :: rest → o.unit = 0 → beAt b 0 1 ≠ 2 →
    (u.setPort p { u.port p with queue := rest }).portRefresh p = v →
    exec (.stampQueueDrain t p) s = .next ((v.quietHandle p (beAt b 4 4)).ptpEntry o b)) ∧
  (∀ o b rest v, (u.port p).queue = (o, b) :: rest → 16 ≤ o.unit → u.ringRoom (8 * (o.unit - 16) + 2) = true → beAt b 0 1 ≠ 2 →
    (u.setPort p { u.port p with queue := rest }).portRefresh p = v →
    exec (.stampQueueDrain t p) s = .next ((v.quietHandle p (beAt b 4 4)).ringWrite (8 * (o.unit - 16) + 2) b)) ∧
  (∀ o b rest, (u.port p).queue = (o, b) :: rest → 16 ≤ o.unit → u.ringRoom (8 * (o.unit - 16) + 2) = false →
    exec (.stampQueueDrain t p) s = .next u) ∧
  (exec (.stampLossEntry t p) s = .next (u.lossEntry p)) ∧
  (∀ i : Fin 4096, (tabGet {} i.val (u.port p).handles).state = 2 → (tabGet {} i.val (u.port p).handles).quiet ≤ u.now →
    exec (.handleQuietExpiry t p i) s = .next (u.setHandle p i { tabGet {} i.val (u.port p).handles with state := 0 })) ∧
  (∀ m w v, Opens spHandleForce m w p [1] u v →
    exec (.portHandleForce t m p) s = .next (v.setPort p { v.port p with
      handles := (v.port p).handles.map (fun h => if h.2.state = 2 then (h.1, { h.2 with state := 0 }) else h) }))

/-- Links, functions and rings (R270, R271, R273, R274, R277, R279, R281, R283): a link comes up with its speed and width, and goes
down with both its functions reset; a function-level reset is counted; a ring is enabled, halted and reset with its generation
advanced and its quiet time running; a doorbell moves the host's count; a frame is delivered into posted buffers; a pending loss
record and a pending interrupt are sent. -/
def Obligations.HostCommands : Prop :=
  ∀ (t : Nat) (s u : State), At t s u →
  (∀ (l : Fin 4) speed width, u.linkProvided l = true → 1 ≤ speed → speed ≤ 5 → [1, 2, 4, 8, 16].contains width = true →
    width ≤ u.linkLanes →
    exec (.pcieLinkUp t l speed width) s = .next (((u.set E.pcieLinkState l 1).set E.pcieLinkSpeed l speed).set
      E.pcieLinkWidth l width)) ∧
  (∀ l : Fin 4, exec (.pcieLinkDown t l) s = .next (((((u.set E.pcieLinkState l 0).set E.pcieLinkSpeed l 0).set
    E.pcieLinkWidth l 0).functionReset (2 * l)).functionReset (2 * l + 1))) ∧
  (∀ f : Fin 8, exec (.pcieFlr t f) s = .next ((u.bump E.pcieFlrCount (f / 2)).functionReset f)) ∧
  (∀ f : Fin 8, exec (.busMasterClear t f) s = .next (u.functionReset f)) ∧
  (∀ (w : Fin 16) (k : Fin 8) r, 8 * w.val + k.val = r →
    (∀ m x v, Opens spRingCtrl m x r [1] u v → exec (.ringEnable t m w k) s = .next (v.set E.ringState r 1)) ∧
    (∀ m x v, Opens spRingCtrl m x r [2] u v → v.n E.ringState r = 1 →
      exec (.ringHalt t m w k) s = .next (v.set E.ringState r 2)) ∧
    (∀ m x v, Opens spRingCtrl m x r [2] u v → v.n E.ringState r ≠ 1 → exec (.ringHalt t m w k) s = .next v) ∧
    (∀ m x v y q, Opens spRingCtrl m x r [3] u v → q = v.now + v.n E.ringQuiet r * 500 →
      y = v.setRing r { v.ring r with
        genBase := (v.ring r).genBase + 1, quietUntil := q, ages := [], signalled := false, sent := [] } →
      exec (.ringReset t m w k) s = .next (((y.set E.ringDoorbell r 0).set E.ringEngineIdx r 0).set
        E.ringState r (if v.n E.ringQuiet r = 0 then 0 else 3))) ∧
    (∀ m x v y q, Opens spRingCtrl m x r [4] u v → q = v.now + v.n E.ringQuiet r * 500 →
      y = v.setRing r { v.ring r with
        genBase := (v.ring r).genBase + 1, quietUntil := q, ages := [], signalled := false, sent := [] } →
      exec (.ringResetEndQuiet t m w k) s = .next (((y.set E.ringDoorbell r 0).set E.ringEngineIdx r 0).set
        E.ringState r 0)) ∧
    (u.n E.ringState r = 3 → (u.ring r).quietUntil ≤ u.now →
      exec (.ringQuietExpiry t w k) s = .next (u.set E.ringState r 0)) ∧
    (∀ m x d v, Opens spDoorbell m x r [d] u v → exec (.ringDoorbell t m w k d) s = .next (v.doorbell r d.toNat)) ∧
    (exec (.ringIrqTimeExpiry t w k) s = .next (u.ringSignal r))) ∧
  (∀ w : Fin 16, exec (.ringLossRecord t w) s = .next (u.ringFlushLoss (8 * w.val + 3))) ∧
  (∀ (w : Fin 16) descs f rest v bufs e, (u.ring (8 * w.val)).waiting = f :: rest →
    (u.setRing (8 * w.val) { u.ring (8 * w.val) with waiting := rest }).occSub f.port f.prio f.bytes.length = v →
    v.ringRuns (8 * w.val) = true → v.ringPosted (8 * w.val) ≠ 0 →
    fillBuffers f.bytes ((List.range (v.ringPosted (8 * w.val))).map (fun i => descs.getD i ⟨[], none⟩)) 0 = (some bufs, e) →
    exec (.rxmFrame t w descs) s = .next (v.rxmWrite (8 * w.val) f bufs)) ∧
  (∀ (w : Fin 16) (d : DmaDesc) rest (r start : Nat) (v : State) (f : Outgoing), r = 8 * w.val + 1 →
    start = u.n E.ringEngineIdx r + u.txRead r → u.ringRuns r = true → u.txRead r + (rest.length + 1) ≤ u.ringPosted r →
    txError (d :: rest) = none →
    u.setRing r { u.ring r with sent := (u.ring r).sent ++ [{ start := start, users := (d :: rest).map DmaDesc.user }] } = v →
    f.bytes = (d :: rest).flatMap (fun d => (d.data.getD []).take d.len) →
    f = { origin := { unit := 16 + w, inst := start, kind := (u.ring r).genBase, seq := rest.length + 1, port := d.field 16 1 }, bytes := f.bytes, carrier := 4, ins := d.insertions, priority := framePriority f.bytes, csum := d.flag 4 } →
    v.n E.portRole (d.field 16 1) = 0 → (v.present 5 = true ∨ d.field 16 1 < 8 ∨ 16 ≤ d.field 16 1) →
    v.linkIsUp (d.field 16 1) = true →
    (d.flag 3 = true → exec (.txFrame t w (d :: rest)) s = .next (v.toLaunch (d.field 16 1) f)) ∧
    (d.flag 3 = false → exec (.txFrame t w (d :: rest)) s = .next (v.toSend (d.field 16 1) f (d.flag 2)).2))

/-- Host commands (R275, R278, R285, R286): the next good descriptor of a running CMD ring is read and its command run, whichever
row names it; where a ring does not run, has nothing posted or is busy nothing is read. -/
def Obligations.HostRingCommands : Prop :=
  ∀ (t : Nat) (s u : State), At t s u → ∀ (w : Fin 16) (d : DmaDesc) (v x : State),
    u.ringRuns (8 * w.val + 5) = true → u.ringPosted (8 * w.val + 5) ≠ 0 → u.cmdBusy w = false → cmdError d = none →
    { u with host := { u.host with cmd := u.host.cmd ++ [(w.val, d, (u.ring (8 * w.val + 5)).genBase)] } } = v →
    (d.op = 0x20 → v.irlinMessageIn (.ring w) ((d.data.getD []).take d.len) = x →
      exec (.cmdIrlin t w d) s = .next (if x.cmdWaits w then x else x.cmdFinish w 0 [])) ∧
    (d.op = 0x21 → bitOf (v.n E.hostcmdWorlds) w = true → d.field 16 1 = 1 →
      exec (.ntsMint t w d) s = .next ((v.hostMint w d).2.hostAnswer w (v.hostMint w d).1)) ∧
    (d.op = 0x21 → bitOf (v.n E.hostcmdWorlds) w = true → d.field 16 1 = 2 →
      exec (.ntsKeyStatus t w d) s = .next (v.cmdFinish w 0 (be 4 v.ntsKeyView.1 ++ be 4 v.ntsPrevious ++
        be 4 v.ntsKeyView.2))) ∧
    (d.op = 0x21 → bitOf (v.n E.hostcmdWorlds) w = true → d.field 16 1 = 3 →
      exec (.gnssCorr t w d) s = .next ((v.hostCorr d).2.hostAnswer w (v.hostCorr d).1)) ∧
    (d.op = 0x21 → bitOf (v.n E.hostcmdWorlds) w = false →
      exec (.gnssCorr t w d) s = .next (v.cmdFinish w 3 []) ∧ exec (.ntsMint t w d) s = .next (v.cmdFinish w 3 []) ∧
      exec (.ntsKeyStatus t w d) s = .next (v.cmdFinish w 3 []))

/-- The SPI target (R287, R288): a frame with a wrong CRC is answered 0x08 and counted; a right one is performed and its status
answered; replies and event records leave their queues in order; image chunks are staged; an aborted transaction is counted. -/
def Obligations.SpiCommands : Prop :=
  ∀ (t : Nat) (s u : State), At t s u →
  (∀ index sub crc code word v, index < 65536 → sub < 256 → crc = spiCrc (be 1 1 ++ be 2 index ++ be 1 sub) →
    u.read .spit ⟨index, sub, false, true⟩ .plain = ((code, word), v) →
    exec (.spiRead t index sub crc) s = .next (v.spiRespond (be 1 code ++ be 8 word.toNat))) ∧
  (∀ index sub x crc code v, index < 65536 → sub < 256 →
    crc = spiCrc (be 1 2 ++ be 2 index ++ be 1 sub ++ be 8 x.toNat) →
    u.writeAt .spit ⟨index, sub, false, true⟩ [x] .plain = (code, v) →
    exec (.spiWrite t index sub x crc) s = .next (v.spiRespond (be 1 code))) ∧
  (∀ index sub x c crc code v, index < 65536 → sub < 256 →
    crc = spiCrc (be 1 3 ++ be 2 index ++ be 1 sub ++ be 8 x.toNat ++ be 8 c.toNat) →
    u.writeAt .spit ⟨index, sub, false, true⟩ [x] (.guarded c) = (code, v) →
    exec (.spiGuarded t index sub x c crc) s = .next (v.spiRespond (be 1 code))) ∧
  (∀ b crc, crc = spiCrc (be 1 4 ++ be 2 b.length ++ b) →
    exec (.spiIrlin t b crc) s = .next ((u.irlinMessageIn .spi b).spiRespond [0])) ∧
  (∀ crc b rest, crc = spiCrc [5] → u.host.spiReplies = b :: rest →
    exec (.spiIrlinPop t crc) s = .next (({ u with host := { u.host with spiReplies := rest } }).spiRespond
      (be 2 b.length ++ b))) ∧
  (∀ crc, crc = spiCrc [5] → u.host.spiReplies = [] → exec (.spiIrlinPop t crc) s = .next (u.spiRespond [0, 0])) ∧
  (∀ off data crc, crc = spiCrc (be 1 6 ++ be 4 off ++ be 2 data.length ++ data) → 1 ≤ data.length → data.length ≤ 256 →
    off + data.length ≤ 4194304 →
    exec (.spiImage t off data crc) s = .next (({ u with host := { u.host with
      spiImage := u.host.spiImage ++ [(off, data)] } }).spiRespond [0])) ∧
  (∀ crc b rest r v, crc = spiCrc [7] → u.host.spiEvents = b :: rest → r = 8 * u.n E.bindSpit + 3 →
    { u with host := { u.host with spiEvents := rest ++ (u.ring r).losses.take 1 } } = v →
    exec (.spiEventPop t crc) s = .next ((v.setRing r ((v.ring r).lossesDone 1)).spiRespond (be 1 1 ++ padTo 32 b))) ∧
  (∀ crc, crc = spiCrc [7] → u.host.spiEvents = [] →
    exec (.spiEventPop t crc) s = .next (u.spiRespond (be 1 0 ++ zeros 32))) ∧
  (exec (.spiAborted t) s = .next (u.bump E.spitAborted)) ∧
  (∀ crc, crc ≠ spiCrc [7] → exec (.spiEventPop t crc) s = .next ((u.bump E.spitCrcErr).spiRespond [8]))

/-- PTP settings, sending and deadlines (R293, R294, R298, R300, R302, R311 to R316): a profile loads its intervals, domain and
grant limits; a one-step Sync goes to launch and a two-step one asks for a stamp; an unsynchronized copy or a bad stamp
suppresses; a Delay_Req opens an exchange that expires; a second's kept exchanges end with a measurement; deadlines lose the
parent. -/
def Obligations.PtpTimers : Prop :=
  ∀ (t : Nat) (s u : State), At t s u → ∀ i : Fin 16,
  (∀ m w x v a y d, Opens spPtpProfile m w i [x] u v → profileLogs x.toNat = (a, y, d) →
    exec (.ptpProfile t m i x) s = .next ((((((((((v.set E.ptpProfile i x.toNat).set E.ptpDomain i
      (match x.toNat with | 2 => 24 | 3 => 44 | _ => 0)).set E.ptpUnicast i (if x.toNat = 3 then 1 else 0)).setInt
      E.ptpLogAnnounce i a).setInt E.ptpLogSync i y).setInt E.ptpLogMinDelay i d).set E.ptpGrantMin i 60).set
      E.ptpGrantMax i 1000).setInt E.ptpMinLogSync i (-7)).setInt E.ptpMinLogAnnounce i (-3) |>.setInt E.ptpMinLogDelay i (-7))) ∧
  (∀ (p : Fin 18) q c c' v y dst, u.ptpMaster i p = true → u.ptpQuiet = false → u.noTime = false →
    u.sendTo i p 0 c = (some c', v) → v.flag E.ptpTwoStep i = false → v.stampBad p = false → v.sendSeq i p 0 c' = (q, dst, y) →
    exec (.syncInterval t i p c) s =
      .next (y.ptpLaunch { unit := 0, inst := i, kind := 0, client := c'.map (fun k => clientHandle k (y.client k)), seq := q, peer := dst, port := p })) ∧
  (∀ (p : Fin 18) q c c' v y dst, u.ptpMaster i p = true → u.ptpQuiet = false → u.noTime = false →
    u.sendTo i p 0 c = (some c', v) → v.flag E.ptpTwoStep i = true → v.sendSeq i p 0 c' = (q, dst, y) →
    exec (.syncInterval t i p c) s =
      .next (y.ptpSend { unit := 0, inst := i, kind := 1, client := c'.map (fun k => clientHandle k (y.client k)), seq := q, peer := dst, port := p } true)) ∧
  (∀ (p : Fin 18) c c' v, u.ptpMaster i p = true → u.ptpQuiet = false → u.noTime = false →
    u.sendTo i p 0 c = (some c', v) → v.flag E.ptpTwoStep i = false → v.stampBad p = true →
    exec (.syncInterval t i p c) s = .next (v.ptpSuppress i)) ∧
  (∀ (p : Fin 18) c, u.noTime = true → exec (.syncInterval t i p c) s = .next u) ∧
  (∀ (p : Fin 18) q c c' v y dst, u.ptpMaster i p = true → u.ptpQuiet = false → u.sendTo i p 0xB c = (some c', v) →
    v.unsync 0x400 = false → v.sendSeq i p 0xB c' = (q, dst, y) →
    exec (.announceInterval t i p c) s =
      .next (y.ptpSend { unit := 0, inst := i, kind := 6, client := c'.map (fun k => clientHandle k (y.client k)), seq := q, peer := dst, port := p })) ∧
  (∀ (p : Fin 18) c c' v, u.ptpMaster i p = true → u.ptpQuiet = false → u.sendTo i p 0xB c = (some c', v) →
    v.unsync 0x400 = true → exec (.announceInterval t i p c) s = .next (v.ptpSuppress i)) ∧
  (∀ (p : Fin 18) (v y : State) a k, u.ptpUp i p = true → u.ptpQuiet = false → u.flag E.ptpUnicast i = false →
    (u.ptpInst i).parent = some a → a.port = p.val → u.nextReq i 65536 = v → k = (if u.ptpP2p i then 2 else 1) →
    v.setPtpInst i { v.ptpInst i with exchanges := (v.ptpInst i).exchanges ++ [{ kind := k, epoch := v.n E.ptpReqEpoch i, seq := (v.ptpInst i).lastReq, port := p, expires := v.now + ticksMs (v.n E.ptpRespTimeout) }] } = y →
    exec (.delayReqInterval t i p none) s = .next (y.ptpSend { unit := 0, inst := i, kind := 6 + k, client := none, seq := (v.ptpInst i).lastReq, port := p, peer := ptpDest (y.n E.ptpTransport i) (y.ptpGroup i (u.ptpP2p i)) true 0 } true)) ∧
  (u.atSecond = true → u.keptExchanges i = [] → exec (.ptpSecond t i) s = .next u) ∧
  (∀ kept o rt bo b f x y z, u.atSecond = true → u.keptExchanges i = kept → kept.getLast? = some (o, rt, bo) →
    u.exchangeBound i kept = (b, f) → u.ptpInst i = x →
    u.setPtpInst i { x with done := [], tlvBound := if f then x.tlvSeen else none } = y →
    (y.setInt E.ptpOffset i o).setInt E.ptpMeanDelay i (Int.tdiv rt 2) = z →
    (z.ptpSlot i = none → exec (.ptpSecond t i) s = .next z) ∧
    (∀ n v, z.ptpSlot i = some n → (z.setSlot n { z.slot n with bref := b, arrival := z.now }).termsRefresh n = v →
      exec (.ptpSecond t i) s = .next
        (kept.foldl (fun (s : State) e => s.slotMeasure n (s.now - 1) (s.now * 2000000) s.privFs (-e.1) true) v).settle)) ∧
  (∀ a, (u.ptpInst i).parent = some a → u.resolves (u.upPaths i) (a.last + u.announceTicks i) = true →
    exec (.announceTimeout t i) s = .next ((u.parentLost i).chooseParent i)) ∧
  (∀ a, (u.ptpInst i).parent = some a → u.resolves (u.upPaths i) (a.last + u.announceTicks i) = false → exec (.announceTimeout t i) s = .next u) ∧
  ((u.ptpInst i).parent.isSome = true → (u.ptpInst i).lost = false →
    u.resolves (u.upPaths i) ((u.ptpInst i).lastSync + u.syncTicks i) = true → exec (.syncTimeout t i) s = .next (u.parentLost i)) ∧
  (u.resolves (u.upPaths i) ((u.ptpInst i).lastSync + u.syncTicks i) = false → exec (.syncTimeout t i) s = .next u) ∧
  (∀ x, u.ptpInst i = x → exec (.respTimeout t i) s = .next
    (u.setPtpInst i { x with exchanges := x.exchanges.filter (fun e => !u.resolves (u.upPaths i) e.expires) }))

/-- PTP messages received from upstream and requests (R155, R295, R296, R298, R299, R316): a one-step Sync completes a pair, a
two-step one waits for its Follow_Up; an unmatched Follow_Up or response is counted; an Announce is heard and the parent chosen
again; a Delay_Req is answered with its ingress stamp, a Pdelay_Req in two steps. -/
def Obligations.PtpMessages : Prop :=
  ∀ (t : Nat) (s u : State), At t s u → ∀ (x : PtpRx) (i : Nat) (auth : Bool) (v : State) (a : Nat), Accepts x i auth u v →
  v.stampTick x.stamp = a →
  (∀ y z, x.kind = 0 → v.fromParent i x = true → (v.ptpInst i).lastSyncSeq = none → (v.tlvNote i x auth).syncLate i a = y →
    y.setPtpInst i { y.ptpInst i with lastSyncSeq := some x.seq, lastSync := a } = z →
    (x.flag 9 = false → exec (.syncReceived t x) s =
      .next ((z.pairDone i x.time (x.stamp : Int) x.corr (z.tlvBoundOf i x auth)).heard x i v)) ∧
    (∀ e : Exchange, x.flag 9 = true → e = { kind := 0, epoch := z.n E.ptpSyncEpoch i, seq := x.seq, t2 := some (x.stamp : Int), corr := x.corr, bound := z.tlvBoundOf i x auth, expires := a + ticksMs (z.n E.ptpRespTimeout) } →
      exec (.syncReceived t x) s =
        .next ((z.setPtpInst i { z.ptpInst i with exchanges := (z.ptpInst i).exchanges ++ [e] }).heard x i v))) ∧
  (x.kind = 0 → v.fromParent i x = false → exec (.syncReceived t x) s = .next (v.heard x i v)) ∧
  (∀ e y, x.kind = 8 → v.fromParent i x = true → v.exchangeFor i 0 x.seq a = some e →
    (v.setPtpInst i { v.ptpInst i with exchanges := (v.ptpInst i).exchanges.erase e }).tlvNote i x auth = y →
    exec (.followUpReceived t x) s = .next ((y.pairDone i x.time (e.t2.getD 0) (e.corr + x.corr)
      ((y.tlvBoundOf i x auth).orElse (fun _ => e.bound))).heard x i v)) ∧
  (x.kind = 8 → v.fromParent i x = true → v.exchangeFor i 0 x.seq a = none →
    exec (.followUpReceived t x) s = .next ((v.bump E.ptpUnmatched i).heard x i v)) ∧
  (∀ e, x.kind = 9 → v.fromParent i x = true → v.answersUs i x = true → v.exchangeFor i 1 x.seq a = some e →
    exec (.delayRespReceived t x) s = .next (((v.tlvNote i x auth).exchangeSet i e { e with
      t4 := some x.time, corr := x.corr, bound := v.tlvBoundOf i x auth }).heard x i v)) ∧
  (x.kind = 9 → v.fromParent i x = true → v.answersUs i x = true → v.exchangeFor i 1 x.seq a = none →
    exec (.delayRespReceived t x) s = .next ((v.bump E.ptpUnmatched i).heard x i v)) ∧
  (∀ e, v.ptpP2p i = true → v.ptpUp i x.port = true → v.answersUs i x = true → v.exchangeFor i 2 x.seq a = some e →
    e.port = x.port.val →
    (x.kind = 3 → exec (.pdelayRespReceived t x) s = .next ((v.exchangeSet i e { e with
      t2 := some x.time, t4 := some (x.stamp : Int), corr := e.corr + x.corr }).heard x i v)) ∧
    (x.kind = 0xA → exec (.pdelayRespReceived t x) s = .next ((v.exchangeSet i e { e with
      t3 := some x.time, corr := e.corr + x.corr }).heard x i v))) ∧
  (∀ b w y l, x.kind = 0xB → v.ptpUp i x.port = true → announceSet x a = b → v.announceLate i b = w →
    l = (w.ptpInst i).heard.filter (fun c => !decide (c.port = b.port ∧ c.portId = b.portId)) ++ [b] →
    (w.setPtpInst i { w.ptpInst i with heard := l }).chooseParent i = y →
    ((y.ptpInst i).parent ≠ some b → exec (.announceReceived t x) s = .next (y.heard x i v)) ∧
    (∀ n z, (y.ptpInst i).parent = some b → y.ptpSlot i = some n → y.quality n (b.accuracy * 256 + b.cls) (announceLevel b) = z →
      exec (.announceReceived t x) s = .next ((if z.n E.hbSelected = n then z.announceLeap b else z).heard x i v))) ∧
  (x.kind = 1 → v.ptpMaster i x.port = true → v.ptpP2p i = false → x.unicast = true → v.findClient i x = none →
    exec (.delayReqReceived t x) s = .next ((v.bump E.ptpRxDrop i).heard x i v)) ∧
  (x.kind = 1 → v.ptpMaster i x.port = true → v.ptpP2p i = false → x.unicast = false → v.noTime = false → v.flag E.ptpUnicast i = false →
    exec (.delayReqReceived t x) s = .next ((v.ptpSend { unit := 0, inst := i, kind := 3, client := none, seq := x.seq, port := x.port, peer := ptpDest x.transport (v.ptpGroup i false) false x.vlan, req := replyReq x, stamp := x.stamp, bound := x.bound }).heard x i v)) ∧
  (∀ k g, x.kind = 1 → v.ptpMaster i x.port = true → v.ptpP2p i = false → x.unicast = true → v.findClient i x = some k →
    (v.client k).delay = some g → a ≤ g.expires → v.noTime = false →
    exec (.delayReqReceived t x) s = .next ((v.ptpSend { unit := 0, inst := i, kind := 3, client := some (clientHandle k (v.client k)), seq := x.seq, port := x.port, peer := ptpDest x.transport x.addr false x.vlan, req := replyReq x, stamp := x.stamp, bound := x.bound }).heard x i v)) ∧
  (x.kind = 2 → v.ptpP2p i = true → x.unicast = false → v.noTime = false →
    exec (.pdelayReqReceived t x) s = .next ((v.ptpSend { unit := 0, inst := i, kind := 4, seq := x.seq, port := x.port, peer := ptpDest x.transport (v.ptpGroup i true) true x.vlan, req := replyReq x, stamp := x.stamp, bound := x.bound } true).heard x i v)) ∧
  (x.kind = 2 → v.ptpP2p i = true → x.unicast = true → exec (.pdelayReqReceived t x) s = .next ((v.bump E.ptpRxDrop i).heard x i v))

/-- Unicast clients, partners and associations (R300 to R305, R317 to R321): each grant request of a message is answered; a
cancelled grant ends and is acknowledged; a grant past its end expires; a freed client slot and a freed partner slot stay quiet
until their time or a force; a partner that has not reported in time is dropped with a ledger entry; an association is activated
with a new handle and freed with its window. -/
def Obligations.ClientCommands : Prop :=
  ∀ (t : Nat) (s u : State), At t s u →
  (∀ x i auth v, x.kind = 0xC → Accepts x i auth u v → v.ptpMaster i x.port = true → v.flag E.ptpUnicast i = true →
    exec (.requestUnicastTransmission t x) s = .next ((((tlvsOf x).filter (fun p => decide (p.1 = 4))).foldl
      (fun (y : State) p => y.requestGrant i x auth (beAt p.2.2 0 1 / 16) ((BitVec.ofNat 8 (beAt p.2.2 1 1)).toInt)
        (beAt p.2.2 2 4)) v).heard x i v)) ∧
  (∀ x i auth v p kind k, x.kind = 0xC → Accepts x i auth u v → v.ptpMaster i x.port = true → v.flag E.ptpUnicast i = true →
    (tlvsOf x).filter (fun p => decide (p.1 = 6)) = [p] → kind = beAt p.2.2 0 1 / 16 → v.findClient i x = some k →
    (clientGrant (v.client k) kind).isSome = true →
    exec (.cancelUnicastTransmission t x) s = .next (((v.endGrant k kind).signal i x.port x.addr x.vlan x.src
      (be 2 7 ++ be 2 2 ++ be 1 (kind * 16) ++ be 1 0) none).heard x i v)) ∧
  (∀ slot kind g, clientGrant (u.client slot) kind = some g →
    u.resolves [0x400, portIsland (u.client slot).port] g.expires = true →
    exec (.grantExpiry t slot kind) s = .next (u.endGrant slot kind)) ∧
  (∀ slot kind g, clientGrant (u.client slot) kind = some g →
    u.resolves [0x400, portIsland (u.client slot).port] g.expires = false →
    exec (.grantExpiry t slot kind) s = .next u) ∧
  (∀ slot, (u.client slot).used = false → (u.client slot).quietUntil ≤ u.now →
    exec (.clientQuietExpiry t slot) s = .next (u.setClient slot { u.client slot with quietUntil := 0 })) ∧
  (∀ m w v, Opens spClientForce m w 0 [1] u v → exec (.ptpClientForce t m) s = .next { v with ptp := { v.ptp with
    clients := v.ptp.clients.map (fun p => (p.1, { p.2 with quietUntil := 0 })) } }) ∧
  (∀ m (w : Fin 16) w' x v, Opens spClientSel m w' w [x] u v → exec (.ptpClientSel t m w x) s =
    .next ((v.set E.ptpClientSel w x.toNat).setOct E.ptpClientRec w (v.clientRecord x.toNat))) ∧
  (∀ x i auth y r status handle interval v, x.kind = 0xC → Accepts x i auth u y → orgTlv x 2 = some r →
    y.flag E.ptpPartnerAccept i = true → (y.flag E.ptpPartnerAuth = true → auth = true) → 56 ≤ r.length →
    y.partnerReport (r.take 56) x.port (y.stampTick x.stamp) = ((status, handle, interval), v) →
    exec (.partnerReport t x) s = .next ((v.signal i x.port x.addr x.vlan x.src (be 2 3 ++ be 2 14 ++ be 3 0xAA473E ++
      be 3 3 ++ be 4 handle ++ be 1 status ++ be 1 0 ++ be 2 interval) none).packetEnd x.port x.stamp 0 5 (some 5)
        ((y.findClient i x).map (fun k => clientHandle k (y.client k))) 0xFF y.tai)) ∧
  (∀ k : Fin 4096, (u.partner k).active = true → u.resolves (u.partnerPaths k) (u.partnerDeadline k) = true → ∀ v,
    u.setPartner k { gen := (u.partner k).gen + 1, quietUntil := u.now + ticksS (u.n E.ptpPartnerQuiet) } = v →
    exec (.partnerAgeOut t k) s = .next (v.partnerRefresh.partnerLedger k 1 (u.partner k).bound)) ∧
  (∀ k : Fin 4096, (u.partner k).active = false → (u.partner k).quietUntil ≤ u.now →
    exec (.partnerQuietExpiry t k) s = .next (u.setPartner k { u.partner k with quietUntil := 0 })) ∧
  (∀ m w v, Opens spPartnerForce m w 0 [1] u v → exec (.ptpPartnerForce t m) s = .next { v with ptp := { v.ptp with
    partners := v.ptp.partners.map (fun p => (p.1, { p.2 with quietUntil := 0 })) } }) ∧
  (∀ m (w : Fin 16) w' x v, Opens spPartnerSel m w' w [x] u v → exec (.ptpPartnerSel t m w x) s =
    .next ((v.set E.ptpPartnerSel w x.toNat).setOct E.ptpPartnerRec w (v.partnerRecord x.toNat))) ∧
  (∀ m w (a : Fin 1024) v g, Opens spSaCtrl m w a [1] u v → g = (tabGet 0 a.val v.ptp.saGen + 1) % 2 ^ 22 →
    exec (.saActivate t m a) s = .next ((({ v with ptp := { v.ptp with saGen := tabPut 0 a.val g v.ptp.saGen } }).set
      E.saHandle a (a.val * 2 ^ 22 + g)).set E.saState a 1)) ∧
  (∀ m w (a : Fin 1024) v q y, Opens spSaCtrl m w a [2] u v → v.n E.saState a = 1 → q = ticksS (v.n E.ptpSaQuiet) →
    { v with ptp := { v.ptp with saQuiet := tabPut 0 a.val (v.now + q) v.ptp.saQuiet, saWindow := v.ptp.saWindow.filter (fun w => decide (w.1 ≠ a.val)) } } = y →
    exec (.saFree t m a) s = .next (y.set E.saState a (if q = 0 then 0 else 4))) ∧
  (∀ a : Fin 1024, u.n E.saState a = 4 → tabGet 0 a.val u.ptp.saQuiet ≤ u.now →
    exec (.saQuietExpiry t a) s = .next (u.set E.saState a 0))

/-- NTP and NTS (R327, R328, R332, R334 to R339): a good request within its limit is counted, charged and answered; a malformed
one is dropped and counted; one over its limit is dropped, or answered RATE; a cookie whose key is not accepted gets an NTS NAK;
an accepted cookie that opens is answered with minted cookies under the current key; provisioned keys rotate. -/
def Obligations.NtpCommands : Prop :=
  ∀ (t : Nat) (s u : State), At t s u →
  (∀ (x : NtpRx) g v, Waits x u g → g.ptpQuiet = false → g.ntpTakes x = true → ntpMalformed x = false → isNts x = false →
    g.n E.ntpAuthMode ≠ 1 → ((g.bump E.ntpRequests).svcPacket false true).charge x = (true, v) →
    exec (.ntpRequest t x) s = .next (v.ntpSend (ntpOrigin x 0) [] none)) ∧
  (∀ (x : NtpRx) g, Waits x u g → g.ptpQuiet = false → g.ntpTakes x = true → ntpMalformed x = true → isNts x = false → ∀ v,
    g.bump E.ntpMalformed = v →
    exec (.ntpRequest t x) s = .next (v.packetEnd x.port x.stamp 2 1 none none 0xFF v.tai)) ∧
  (∀ (x : NtpRx) g, Waits x u g → g.ptpQuiet = false → g.ntpTakes x = true → ntpMalformed x = false → isNts x = false →
    g.n E.ntpAuthMode = 1 → ∀ v, g.bump E.ntpPlainRefused = v →
    exec (.ntpRequest t x) s = .next (v.packetEnd x.port x.stamp 2 1 none none 0xFF v.tai)) ∧
  (∀ (x : NtpRx) g v y, Waits x u g → g.ptpQuiet = false → g.ntpTakes x = true → ntpMalformed x = false → isNts x = false →
    g.n E.ntpAuthMode ≠ 1 → ((g.bump E.ntpRequests).svcPacket false true).charge x = (false, v) → v.bump E.ntpRateDrop = y →
    y.flag E.ntpKodEnable = false →
    exec (.ntpRequest t x) s = .next (y.packetEnd x.port x.stamp 2 1 none none 0xFF y.tai)) ∧
  (∀ (x : NtpRx) g v y b, Waits x u g → g.ptpQuiet = false → g.ntpTakes x = true → ntpMalformed x = false → isNts x = false →
    g.n E.ntpAuthMode ≠ 1 → ((g.bump E.ntpRequests).svcPacket false true).charge x = (false, v) → v.bump E.ntpRateDrop = y →
    y.flag E.ntpKodEnable = true → y.bucketAt (y.bucketNo x) (y.stampTick x.stamp) = b → b.kod = none →
    exec (.ntpRequest t x) s = .next (((y.setBucket (y.bucketNo x) { b with kod := some (y.stampTick x.stamp) }).bump
      E.ntpKodSent).ntpSend (ntpOrigin x 3) [] none)) ∧
  (∀ (x : NtpRx) g v y l off cookie, Waits x u g → g.ptpQuiet = false → g.ntpTakes x = true → ntpMalformed x = false → isNts x = true →
    ((g.bump E.ntpRequests).svcPacket true true).charge x = (true, v) → v.bump E.ntpNtsRequests = y →
    ntpExts x = some l → (fieldsOf l 0x204).head? = some off → (x.payload.drop (off.2.1 + 4)).take 104 = cookie →
    y.ntsAccepted (beAt cookie 0 4) x.stamp = none →
    exec (.ntsRequest t x) s = .next ((y.bump E.ntpNak).ntpSend (ntpOrigin x 2) (uniqueId x.payload) none)) ∧
  (∀ (x : NtpRx) g v, Waits x u g → g.ptpQuiet = false → g.ntpTakes x = true → ntpMalformed x = false → isNts x = true →
    ((g.bump E.ntpRequests).svcPacket true true).charge x = (true, v) →
    exec (.ntsRequest t x) s = .next ((v.bump E.ntpNtsRequests).ntsServe x)) ∧
  (∀ (x : NtpRx) l off ao cookie keyId slot k use label z id m use' label' z' master, ntpExts x = some l →
    (fieldsOf l 0x204).head? = some off → (fieldsOf l 0x404).head? = some ao →
    (x.payload.drop (off.2.1 + 4)).take 104 = cookie → beAt cookie 0 4 = keyId →
    u.ntsAccepted keyId x.stamp = some slot → u.ntsUse slot keyId = (use, label) → u.useKey use label = (.key k, z) →
    z.n E.drbgState = 1 → z.ntsCurrent = some (id, m) → z.ntsUse m id = (use', label') →
    z.useKey use' label' = (.key master, z') →
    u.ntsServe x = match openCookie k cookie with
      | none => z.ntsNak x
      | some (c2s, s2c) => if authOk x.payload ao.2.1 c2s then ntsAnswer x keyId (refSlot use.ref) s2c (z'.mint id master c2s s2c (cookieCount x l)) else z.ntsNak x) ∧
  (∀ (x : NtpRx) keyId slot s2c cs (v : State) uid o, uniqueId x.payload = uid →
    o = { ntpOrigin x 1 with inst := keyId, seq := v.slotGen slot, client := some slot } →
    ntsAnswer x keyId slot s2c (cs, v) = (v.drew.bump E.ntpMinted 0 cs.length).ntpSend o uid (some { kind := 3, key := s2c, at_ := 48 + uid.length, nonce := v.randomBytes 16, plain := cs.flatMap (fun c => be 2 0x204 ++ be 2 108 ++ c) })) ∧
  (u.n E.ntsKeySource = 0 → u.atWhole (u.n E.ntsRotatePeriod * secondUnit) = true →
    exec (.ntsRotation t) s = .next ((u.set E.ntsKeyId 0 u.ntsKeyView.1).set E.ntsRotateIn 0 u.ntsKeyView.2)) ∧
  (∀ m w (i : Fin 8) v y, Opens spMkCtrl m w i [1] u v → v.mkKeep = y →
    exec (.ntsMkCurrent t m i) s = .next (((List.range 8).foldl
      (fun (s : State) m => if s.n E.ntsMkState m = 2 then s.set E.ntsMkState m 1 else s) y).set E.ntsMkState i 2)) ∧
  (∀ m w (i : Fin 8) v, Opens spMkCtrl m w i [2] u v → exec (.ntsMkRetire t m i) s = .next (v.mkKeep.set E.ntsMkState i 0))

/-- Capture and inline pairs (R342, R344 to R355): a frame received on a port of an ACTIVE pair leaves at the peer after the fixed latency,
recorded or not; a captured frame takes the port's next SEQ, after the marks due before it, and one record; with a usable
key and room its digest is queued, without one it is counted and marked; a completed digest is the first 8 bytes of the CMAC; a
full queue's record is counted; pending losses take free slots; a pair is made and dismantled; a lost lock squelches its
direction, and its return lets it go on with calibration anew. -/
def Obligations.TapCommands : Prop :=
  ∀ (t : Nat) (s u : State), At t s u →
  (∀ (x : TapObs) p w e a, p = x.port.val → w = u.n E.tapWorld p → u.stampAt (portIsland p) x.edge = e →
    u.inlinePass p e x.bytes = a →
    (w = 0xFF → exec (.tapFrame t x) s = .next a) ∧
    (∀ b bad y fill bound flags q z, a.n E.portRole p ≠ 0 → w ≠ 0xFF → a.ptpQuiet = false → a.linkIsUp p = true →
      x.bytes ≠ [] → x.aborted = false → fcsOk x.bytes = true → a.marksBefore p (a.rxStamp p e) = b → b.tapInvalid p = bad →
      (if bad then (b.bump E.tapFrames p).bump E.tapInvalid p else b.bump E.tapFrames p) = y →
      y.keyReason y.digestUse = 0 → fill = (y.tap.records.filter (·.msg.isSome)).length → fill < 4096 →
      bound = (if bad then 0xFFFFFFFF else y.emitted (y.portAdd p)) →
      flags = ofBool (decide (x.bytes.length < 64)) + 16 * ofBool (decide (y.stampMode p = 1)) + 32 * ofBool bad →
      y.tapSeq p = (q, z) → ∀ r : TapRec,
      r = { world := w, port := p, time := z.rxStamp p e, bound := bound, flags := flags, length := min x.bytes.length 65535, seq := q, msg := some (x.bytes.take 128) } →
      exec (.tapFrame t x) s = .next (((({ z with tap := { z.tap with records := z.tap.records ++ [r] } }).noteOut bound).perfEvent
        0x305 p).tapRelease)) ∧
    (∀ b y y' bound flags q z, a.n E.portRole p ≠ 0 → w ≠ 0xFF → a.ptpQuiet = false → a.linkIsUp p = true →
      x.bytes ≠ [] → x.aborted = false → fcsOk x.bytes = true → a.marksBefore p (a.rxStamp p e) = b → b.tapInvalid p = false →
      b.bump E.tapFrames p = y → y.keyReason y.digestUse ≠ 0 → y.bump E.tapKeyFail = y' →
      bound = y'.emitted (y'.portAdd p) →
      flags = ofBool (decide (x.bytes.length < 64)) + 2 + 16 * ofBool (decide (y'.stampMode p = 1)) →
      y'.tapSeq p = (q, z) → ∀ r : TapRec,
      r = { world := w, port := p, time := z.rxStamp p e, bound := bound, flags := flags, length := min x.bytes.length 65535, seq := q, msg := none } →
      exec (.tapFrame t x) s = .next (((({ z with tap := { z.tap with records := z.tap.records ++ [r] } }).noteOut bound).perfEvent
        0x305 p).tapRelease))) ∧
  (∀ p e b, u.n E.inlineState p = 2 →
    u.inlinePass p e b = u.emit (.frame (u.n E.inlinePeer p) (some (e + (unitsOfPs (if u.n E.portMode p = 1 then 7900 else 3600)).toNat)) [] b)) ∧
  (∀ r k v r', u.tap.records.find? (·.msg.isSome) = some r → u.useKey u.digestUse = (.key k, v) →
    r' = { r with msg := none, digest := (cmac k (r.msg.getD [])).take 8 } →
    exec (.tapDigestComplete t) s = .next ({ v with tap := { v.tap with
      records := v.tap.records.map (fun x => if x = r then r' else x) } }).tapRelease) ∧
  (∀ r c v y r', u.tap.records.find? (·.msg.isSome) = some r → u.useKey u.digestUse = (.refused c, v) →
    r' = { r with msg := none, flags := setBit r.flags 1 true } → v.bump E.tapKeyFail = y →
    exec (.tapDigestComplete t) s = .next ({ y with tap := { y.tap with
      records := y.tap.records.map (fun x => if x = r then r' else x) } }).tapRelease) ∧
  (∀ w : Fin 16, exec (.tapLossRecord t w) s = .next (u.tapFlush w 17)) ∧
  (∀ (w : Fin 16) l fuel, u.nextLoss w = some l → u.ringRoom (8 * w + 4) = true → ∀ v,
    { u with tap := { u.tap with losses := u.tap.losses.erase l } } = v →
    u.tapFlush w (fuel + 1) = ((v.ringWrite (8 * w + 4) (tapLossBytes l)).lossRefresh l.port).tapFlush w fuel) ∧
  (∀ m w (p : Fin 16) x v, Opens spTapWorld m w p [x] u v → exec (.tapWorld t m p x) s = .next (v.set E.tapWorld p x.toNat)) ∧
  (∀ m w (p : Fin 16) x v y, Opens spInlinePeer m w p [x] u v → v.set E.inlinePeer p x.toNat = y →
    exec (.inlinePeer t m p x) s = .next ({ y with tap := { y.tap with
      squelched := y.tap.squelched.filter (fun q => q ≠ p.val && q ≠ v.n E.inlinePeer p) } }).inlineRefresh) ∧
  (∀ (p : Fin 16) v, u.n E.inlineState p = 2 → { u with tap := { u.tap with squelched := u.tap.squelched ++ [p.val] } } = v →
    exec (.inlineLockLoss t p) s =
      .next (((v.bump E.inlineSquelches p).set E.portLink p 0).set E.portCalState p 0).inlineRefresh) ∧
  (∀ (p : Fin 16) v, u.n E.inlineState p = 3 →
    { u with tap := { u.tap with squelched := u.tap.squelched.filter (· ≠ p.val) } } = v →
    exec (.inlineLockReturn t p) s = .next ((((v.setPort p { v.port p with calFrom := v.now }).set E.portLink p 1).set
      E.portCalState p 1)).inlineRefresh)

/-- Juniper's strobes, satellites and epochs (R361, R362, R364, R366, R368, R373, R374): a failed strobe makes its band's samples
invalid from its tick; a band that coasts too long loses its channels; returned samples restart smoothing; a satellite takes its
slot; an epoch is taken once at its instant, decoded and solved; an exclusion and a spoofing hold end. -/
def Obligations.GnssEpochs : Prop :=
  ∀ (t : Nat) (s u : State), At t s u →
  (∀ (b : Fin 2) mon since d, u.present 0 = true → u.gnssAsleep = false → tabGet none b.val u.gnss.bad = none →
    d = (if mon = 2 then u.now - 500000 else since) → ∀ v,
    { u with gnss := { u.gnss with bad := tabPut none b.val (some (min d u.now)) u.gnss.bad } } = v →
    exec (.gnssStrobeFault t b mon since) s = .next ((v.bump E.gnssStbFaults).raise 321 none b)) ∧
  (∀ (b : Fin 2) mon since d, u.present 0 = true → u.gnssAsleep = false → tabGet none b.val u.gnss.bad = some d →
    exec (.gnssStrobeFault t b mon since) s = .next ((u.bump E.gnssStbFaults).raise 321 none b)) ∧
  (∀ (b : Fin 2) d, tabGet none b.val u.gnss.bad = some d → d + ticksMs (u.n E.gnssCoastMax) < u.now →
    exec (.gnssCoastTimeout t b) s = .next (u.coastOut b)) ∧
  (∀ (b : Fin 2) d, tabGet none b.val u.gnss.bad = some d → u.now ≤ d + ticksMs (u.n E.gnssCoastMax) →
    exec (.gnssCoastTimeout t b) s = .next u) ∧
  (∀ (b : Fin 2) d v, tabGet none b.val u.gnss.bad = some d → u.now ≤ d + ticksMs (u.n E.gnssCoastMax) →
    { u with gnss := { u.gnss with bad := tabPut none b.val none u.gnss.bad, back := tabPut none b.val (some u.now) u.gnss.back } } = v →
    exec (.gnssStrobeReturn t b) s = .next (v.smoothRestart (fun x => !(if b.val = 0 then x.lost1 else x.lost2)))) ∧
  (∀ (b : Fin 2) d w v, tabGet none b.val u.gnss.bad = some d → d + ticksMs (u.n E.gnssCoastMax) < u.now → u.coastOut b = w →
    { w with gnss := { w.gnss with bad := tabPut none b.val none w.gnss.bad, back := tabPut none b.val (some w.now) w.gnss.back } } = v →
    exec (.gnssStrobeReturn t b) s = .next (v.smoothRestart (fun x => !(if b.val = 0 then x.lost1 else x.lost2)))) ∧
  (∀ (sys : Fin 4) prn elev azim i v w, u.present 0 = true → u.gnssAsleep = false → u.quietOver = true →
    bitOf (u.n E.gnssSystems) sys = true → prnOk sys prn = true → (u.n E.gnssElevMask : Int) * 10 - 20 ≤ elev →
    (List.range 64).find? (fun i =>
      match u.sat i with | some x => decide (x.sys = sys ∧ x.prn = prn) | none => false) = none →
    (List.range 64).find? (fun i => (u.sat i).isNone) = some i →
    u.setSat i (some { sys := sys, prn := prn, lost1 := u.clusterOut 0 i, lost2 := u.clusterOut 1 i, n := 0, cmc := [], fit1 := u.now, fit2 := u.now }) = v →
    (((v.set E.gnssSvId i (satKey sys prn)).setInt E.gnssSvElev i elev).set E.gnssSvAzim i azim).satRefresh i = w →
    w.gnss.fixed = true → exec (.gnssAcquisition t sys prn elev azim) s = .next w) ∧
  (∀ (x : EpochObs) unit te v w y z, unit = secondUnit / max 1 u.gnssRate → te = u.privet.time / unit * unit →
    u.present 0 = true → u.quietOver = true → u.atWhole unit = true → u.gnss.lastEpoch = none → u.gnssAsleep = false →
    { u with gnss := { u.gnss with lastEpoch := some (te / 2 ^ 40), rate := u.gnssRate, ratePend := if u.gnssRate = u.n E.gnssEpochRate then none else u.gnss.ratePend } } = v →
    (v.setT96 E.gnssEpochTime 0 (te / 2 ^ 40)).perfEvent 0x501 0 = w → w.gnss.restart = false →
    (w.epochDecode x).epochSats x.sats = y →
    { y with gnss := { y.gnss with corrections := y.gnss.corrections.filter (fun r => decide (te / 2 ^ 40 < r.2.until')) } } = z →
    exec (.measurementEpoch t x) s = .next (z.corrRefresh.epochSolve (te * 10 ^ 6 / 2 ^ 56) (te / 2 ^ 40) x)) ∧
  (∀ (x : EpochObs) l, u.gnss.lastEpoch = some l →
    u.privet.time / (secondUnit / max 1 u.gnssRate) * (secondUnit / max 1 u.gnssRate) / 2 ^ 40 ≤ l →
    exec (.measurementEpoch t x) s = .next u) ∧
  (∀ (slot : Fin 64) x d, u.sat slot = some x → x.exclUntil = some d → d ≤ u.now →
    exec (.exclusionHoldExpiry t slot) s = .next ((u.setSat slot (some { x with exclUntil := none })).satRefresh slot)) ∧
  (∀ d v, u.gnss.trip = some d → d + ticksS (u.n E.gnssSpfHold) ≤ u.now →
    { u with gnss := { u.gnss with trip := none, spoof := 0 } } = v →
    exec (.spfHoldExpiry t) s = .next ((v.set E.gnssSpoofFlags 0 0).deassert 323))

/-- Juniper's interference, pulse and sleep (R369, R370, R376, R381, R382): every 10 ms a band's spectrum moves its notches and its
jamming level; a calibration keeps both bands' power and gain; the pulse of a due second is placed; sleep is entered when asked
for, with no dwell and a passed cross-check, and left when no longer asked for, after the wake interval, or by command. -/
def Obligations.GnssCommands : Prop :=
  ∀ (t : Nat) (s u : State), At t s u →
  (∀ (b : Fin 2) (x : SpectrumObs) v y, u.present 0 = true → u.gnssAsleep = false → u.atWhole (secondUnit / 100) = true →
    { u with gnss := { u.gnss with power := tabPut 0 b.val x.power u.gnss.power, gain := tabPut 0 b.val x.gain u.gnss.gain } } = v →
    ((v.notchesTrack b x).notchesAssign b x).notchRefresh b = y →
    exec (.spectrum t b x) s =
      .next (y.set (if b.val = 0 then E.gnssJamL1 else E.gnssJamL5) 0 (y.jamOf b)).jamRefresh) ∧
  (∀ (b : Fin 2) (x : SpectrumObs), u.atWhole (secondUnit / 100) = false → exec (.spectrum t b x) s = .next u) ∧
  (∀ m w v y, Opens spJamCal m w 0 [1] u v →
    v.keepOne 3 0 (be 8 (wordOfInt (tabGet 0 0 v.gnss.power)).toNat ++ be 8 (wordOfInt (tabGet 0 0 v.gnss.gain)).toNat) = y →
    exec (.gnssJamCal t m) s = .next (y.keepOne 3 1
      (be 8 (wordOfInt (tabGet 0 1 y.gnss.power)).toNat ++ be 8 (wordOfInt (tabGet 0 1 y.gnss.gain)).toNat))) ∧
  (∀ here k d p, u.copy56 (leafFor 0x501) * 10 ^ 6 / 2 ^ 56 = here →
    ((k = here / 10 ^ 15 ∧ u.gnss.pulseSec < k) ∨ (k = here / 10 ^ 15 + 1 ∧ u.gnss.pulseSec + 1 = k)) →
    u.present 0 = true → u.gnssAsleep = false → 2 ≤ u.n E.gnssState → u.pulseOffset k = some d → d.natAbs < 4 * 10 ^ 14 →
    p = roundDiv ((k : Int) * 10 ^ 15 - d) 1000 → p * 1000 ≤ here →
    exec (.solutionPulse t) s = .next { u with gnss := { u.gnss with pulse := some (k, p), pulseSec := k } }) ∧
  (u.n E.gnssState ≤ 1 → exec (.solutionPulse t) s = .next u) ∧
  (∀ v y, u.crossRefresh = v → v.present 0 = true → v.gnssAsleep = false → v.sleepAsked = true → v.gnss.dwell = none →
    v.gnss.crossOk = true → v.gnss.wakeAt ≠ some v.now → ((v.bump E.gnssSleeps).satsFree).set E.gnssPowerState 0 1 = y →
    exec (.gnssSleep t) s = .next { y with gnss := { y.gnss with sleepFrom := y.now, bad := [], pulse := none } }) ∧
  (u.n E.gnssPowerState = 1 → u.sleepAsked = false → exec (.gnssWake t) s = .next u.gnssWakes) ∧
  (u.n E.gnssPowerState ≠ 1 → exec (.gnssWake t) s = .next u) ∧
  (u.n E.gnssPowerState = 1 → u.gnss.sleepFrom + ticksS (u.n E.gnssWakeInterval) ≤ u.now →
    exec (.wakeIntervalExpiry t) s = .next u.gnssWakes) ∧
  (∀ m w v, Opens spWakeCmd m w 0 [1] u v → exec (.gnssWakeCmd t m) s = .next v.gnssWakes) ∧
  (∀ d, u.gnss.dwell = some d → d ≤ u.now →
    exec (.wakeDwellExpiry t) s = .next ({ u with gnss := { u.gnss with dwell := none } }).crossRefresh)

/-- The vault's key slots (R387, R396, R397, R399, R400): a load puts the material's shares, check value and a new generation in
place; a generated key comes from the DRBG, and fails while it is not READY; an invalidation advances the slot and its
descendants; a revoked and a freed slot lose their material and revoke their descendants, a freed one quietly; quiet time ends by
itself or by force; a finished derivation serves the uses that waited. -/
def Obligations.KeyCommands : Prop :=
  ∀ (t : Nat) (s u : State), At t s u →
  (∀ (m : Master) (w : Nat) (k : Fin 4080) (slot : Nat), slot = k.val + 16 →
    (∀ v, Opens spKeyCtrl m w slot [1] u v →
      exec (.keyLoad t m k) s = .next (v.loadKey slot (v.oct E.keyMaterial slot))) ∧
    (∀ v, Opens spKeyCtrl m w slot [2] u v → v.n E.drbgState = 1 →
      exec (.keyGenerate t m k) s = .next (v.drew.loadKey slot (v.newKey (v.n E.keyType slot)))) ∧
    (∀ v, Opens spKeyCtrl m w slot [2] u v → v.n E.drbgState ≠ 1 →
      exec (.keyGenerate t m k) s = .next (v.set E.keyCtrl slot 3)) ∧
    (∀ v, Opens spKeyCtrl m w slot [3] u v → exec (.keyInvalidate t m k) s =
      .next (((slot :: v.descendants slot).foldl State.advanceGen v).cachePurge)) ∧
    (∀ v, Opens spKeyCtrl m w slot [4] u v → exec (.keyRevoke t m k) s = .next (v.dropKey slot 5)) ∧
    (∀ v y, Opens spKeyCtrl m w slot [5] u v → v.dropKey slot 1 = y → exec (.keyFree t m k) s = .next
      { y with vault := { y.vault with quietUntil := tabPut 0 slot (y.now + ticksMs (y.n E.vaultSlotQuiet)) y.vault.quietUntil } }) ∧
    (∀ (wrap : Fin 4096) c v y (bad : Nat → State), c = ⟨m, w, slot, [BitVec.ofNat 64 (wrap.val * 65536 + 6)]⟩ →
      u.worldOf m = some w → u.met spKeyCtrl m w = v → v.gateCodes spKeyCtrl c = [] →
      (v.n E.keyState slot = 1 ∨ v.n E.keyState slot = 2) → v.n E.keyClass slot = 1 →
      tabGet 0 slot v.vault.quietUntil ≤ v.now → 2 ≤ v.n E.lifecycle → v.n E.keyType slot ≠ 0 →
      privateType (v.n E.keyType slot) = false → v.keyReason (wrapUse c) = 0 → v.marked spKeyCtrl slot = y →
      (∀ code, bad code = v.refusal w code (E.keyCtrl.addr slot 0).1 (E.keyCtrl.addr slot 0).2 false) →
      exec (.keyLoadWrapped t m k wrap) s = .next (match kwpUnwrap (v.slotKey wrap) (v.oct E.keyMaterial slot) with
        | some key =>
          if key.length = typeLength (v.n E.keyType slot) then (y.useKey (wrapUse c)).2.loadKey slot key else bad 8
        | none => bad 7)) ∧
    (tabGet 0 slot u.vault.quietUntil ≤ u.now → exec (.vaultSlotQuietExpiry t k) s =
      .next { u with vault := { u.vault with quietUntil := tabErase slot u.vault.quietUntil } })) ∧
  (∀ m w v, Opens spVaultQuietForce m w 0 [1] u v → exec (.vaultQuietForce t m) s =
    .next { v with vault := { v.vault with quietUntil := [] } }) ∧
  (∀ d rest v, u.vault.running = d :: rest → { u with vault := { u.vault with running := rest, waiting := [] } } = v →
    exec (.derivationComplete t) s = .next (u.vault.waiting.foldl State.keyResume (v.derivationDone d))) ∧
  (u.vault.running = [] → exec (.derivationComplete t) s = .next u) ∧
  (∀ (y : State) k key a b z, y.n E.keyType k = a → privateType a = false → y.setKey k key = b →
    (((b.set E.keyKcv k (kcvOf a key)).set E.keyState k 3).setOct E.keyPubkey k []).setOct E.keyMaterial k [] = z →
    y.loadKey k key = z.advanceTree k) ∧
  (∀ (y : State) ty, (ty = 5 → y.newKey ty = be 32 (1 + y.drawn (p256.n - 1))) ∧ (ty = 7 → y.newKey ty = be 48 (1 + y.drawn (p384.n - 1))) ∧
    (ty ≠ 5 → ty ≠ 7 → y.newKey ty = y.randomBytes (typeLength ty)))

/-- The vault's shadows and anchors (R401 to R403): a shadow is loaded or generated, checked against its expected value, marked
for removal or discarded; a commit opens with the next record, and goes on step by step: erased, written and read back, marked,
whereupon its anchors take effect and the shadows are EMPTY, burned; a failed read-back or a silent flash ends it. -/
def Obligations.AnchorCommands : Prop :=
  ∀ (t : Nat) (s u : State), At t s u →
  (∀ (m : Master) (w : Nat) (k : Fin 15) (a : Nat), a = k.val + 1 →
    (∀ v, Opens spShCtrl m w a [1] u v → exec (.shLoad t m k) s =
      .next (((v.shadowKey a (v.oct E.shMaterial a)).setOct E.shMaterial a []).set E.shState a 1)) ∧
    (∀ v key, Opens spShCtrl m w a [2] u v → v.n E.drbgState = 1 → v.newKey (v.n E.shType a) = key →
      exec (.shGenerate t m k) s =
        .next (((v.drew.shadowKey a key).setOct E.shPubkey a (ecdsaPublic key)).set E.shState a 2)) ∧
    (∀ v, Opens spShCtrl m w a [2] u v → v.n E.drbgState ≠ 1 →
      exec (.shGenerate t m k) s = .next (v.set E.shCtrl a 3)) ∧
    (∀ v, Opens spShCtrl m w a [3] u v → exec (.shRemoval t m k) s = .next (v.set E.shState a 4)) ∧
    (∀ v y, Opens spShCtrl m w a [4] u v →
      (((v.set E.shState a 0).set E.shKcv a 0).setOct E.shPubkey a []).setOct E.shMaterial a [] = y →
      exec (.shDiscard t m k) s = .next { y with vault := { y.vault with shadows := tabErase a y.vault.shadows } }) ∧
    (u.n E.shState a = 1 → u.n E.shKcv a = u.n E.shKcvExpect a → exec (.shadowKcvCheck t k) s = .next (u.set E.shState a 2)) ∧
    (u.n E.shState a = 1 → u.n E.shKcv a ≠ u.n E.shKcvExpect a →
      exec (.shadowKcvCheck t k) s = .next ((u.set E.shState a 3).bump E.anchorKcvFail)) ∧
    (u.n E.shState a ≠ 1 → exec (.shadowKcvCheck t k) s = .next u)) ∧
  (∀ m w x v y, Opens spAnchorCommit m w 0 [x] u v →
    { v with vault := { v.vault with commit := some ⟨v.n E.anchorCounter + 1, v.nextAnchors, v.now⟩ } } = y →
    exec (.anchorCommit t m x) s = .next ((y.set E.anchorCommit 0 x.toNat).set E.anchorCommitState 0 1)) ∧
  (∀ (c : AnchorCommit) v y, u.vault.commit = some c →
    { u with vault := { u.vault with commit := some { c with since := u.now } } } = v →
    (u.n E.anchorCommitState = 1 → v.set E.anchorCommitState 0 2 = y → exec (.anchorEraseDone t) s =
      .next (y.emit (.flash (journalAddr c.seq) (y.journalBytes c.seq c.anchors)))) ∧
    (u.n E.anchorCommitState = 2 → v.set E.anchorCommitState 0 3 = y → exec (.anchorWriteDone t) s =
      .next (y.emit (.flash (journalAddr c.seq + 4080) (journalMarker c.seq (y.journalBytes c.seq c.anchors))))) ∧
    (u.n E.anchorCommitState = 3 → v.set E.anchorCommitState 0 4 = y → exec (.anchorMarkDone t) s =
      .next ((List.range 16).foldl (fun (x : State) a => if a = 0 then x else x.shadowEmpty a) (y.setAnchors c.anchors))) ∧
    (∀ z, u.n E.anchorCommitState = 4 → v.set E.anchorCommitState 0 5 = y →
      { y with otp := { y.otp with anchorCounter := c.seq }, vault := { y.vault with commit := none } } = z →
      exec (.anchorBurnDone t) s = .next ((z.set E.anchorCounter 0 c.seq).set E.anchorSeq 0 c.seq)) ∧
    (∀ fails : Bool, u.n E.anchorCommitState ≤ 3 → (fails = true ∨ c.since + ticksS 1 < u.now) →
      exec (.anchorFlashTimeout t fails) s =
        .next (({ u with vault := { u.vault with commit := none } }).set E.anchorCommitState 0 6))) ∧
  (u.vault.commit = none → exec (.anchorEraseDone t) s = .next u ∧ exec (.anchorWriteDone t) s = .next u ∧
    exec (.anchorMarkDone t) s = .next u ∧ exec (.anchorBurnDone t) s = .next u ∧
    ∀ fails, exec (.anchorFlashTimeout t fails) s = .next u)

/-- Re-masking, the DRBG and the self-tests (R406, R408, R409): at each whole millisecond with the DRBG READY every share pair
is refreshed and the pass counted; a reseed starts the request count afresh; a failed health test puts the DRBG in ERROR and 1,024
samples in a row that pass take it back; failed self-tests put the vault in ERROR; the certificate is burned. -/
def Obligations.VaultCommands : Prop :=
  ∀ (t : Nat) (s u : State), At t s u →
  (∀ k a b c d e, u.n E.drbgState = 1 → u.atMilli = true → u.remaskTab u.vault.keys = (k, a) →
    a.remaskTab a.vault.shadows = (b, c) →
    c.vault.cache.foldr (fun (x : Cached) (r : List Cached × State) => ({ x with key := x.key.remask (r.2.randomBytes (max x.key.a.length x.key.b.length)) } :: r.1, r.2.drew)) ([], c) = (d, e) →
    ∀ y, { e with vault := { e.vault with keys := k, shadows := b, cache := d } } = y →
    exec (.remaskPass t) s = .next (y.set E.remaskPasses 0 (y.n E.remaskPasses + 1))) ∧
  (u.n E.drbgState ≠ 1 → exec (.remaskPass t) s = .next u) ∧
  (u.n E.drbgState = 1 → (u.atSecond = true ∨ u.vault.requests + 2 ^ 20 ≤ u.draws) →
    exec (.drbgReseed t) s = .next { u with vault := { u.vault with requests := u.draws } }) ∧
  (exec (.entropyHealthFail t) s = .next (((u.set E.drbgState 0 2).bump E.entropyFails).raise 386)) ∧
  (∀ passed v, u.n E.drbgState = 2 → 1024 ≤ passed → u.set E.drbgState 0 1 = v →
    exec (.drbgRecover t passed) s = .next (({ v with vault := { v.vault with requests := v.draws } }).deassert 386)) ∧
  (∀ passed, passed < 1024 → exec (.drbgRecover t passed) s = .next u) ∧
  (∀ m w v failed, Opens spSelftest m w 0 [1] u v → failed ≠ 0 → exec (.selftestCmd t m failed) s =
    .next (((v.set E.selftestResult 0 failed).set E.vaultState 0 2).raise 385 (some 3))) ∧
  (∀ m w v, Opens spSelftest m w 0 [1] u v → exec (.selftestCmd t m 0) s = .next (v.set E.selftestResult 0 0)) ∧
  (∀ m w x v, Opens spCertBurn m w 0 [x] u v → exec (.boxCertBurn t m x) s =
    .next { v with otp := { v.otp with certified := true } })

/-- Faults and the safe state's causes (R413 to R427): an event of a present source is counted and raised, the item
or record that a memory error struck discarded and a corrected word written back; an ended condition is
deasserted, one that holds is not; a handled record is sent again if events merged into it, and clears itself where its sources
allow; a cleared record is gone, and selection runs where the safe state ends with it; the loss of the oscillator and a fault of
Holly itself enter the safe state; maintenance is entered and left. -/
def Obligations.FaultCommands : Prop :=
  ∀ (t : Nat) (s u : State), At t s u →
  (∀ (src : Fin 512) sev detail world struck, isSource src = true → u.sourceAbsent src = false → u.holly.selfFault = false →
    exec (.faultEvent t src sev ⟨detail, struck⟩ world) s =
      .next (((u.strike src struck).faultCounters src).raise src (sev.map (·.val)) detail world)) ∧
  (∀ (y : State) src, y.strike src .nothing = y ∧
    (∀ f i, src % 64 = 57 → y.strike src (.item f i) = y.discardItem i f) ∧
    (∀ i, src = 320 → y.strike src (.record i) = { y with gnss := { y.gnss with keep := y.gnss.keep.eraseIdx i } }) ∧
    (∀ a w, src % 64 = 56 → y.strike src (.word a w) = { y with islands := { y.islands with writeBack := (a.val, w) :: y.islands.writeBack } })) ∧
  (∀ (src : Fin 512), isCondition src = true → u.conditionHeld src = false →
    exec (.conditionEnd t src) s = .next (u.deassert src)) ∧
  (∀ (src : Fin 512), u.conditionHeld src = true → exec (.conditionEnd t src) s = .next u) ∧
  (∀ (rec : Fin 256) v y, (u.record rec).state = 1 → (u.record rec).tick + ticksUs (u.n E.hollyMergeWindow) ≤ u.now →
    u.holly.selfFault = false → (if (u.record rec).merged = 0 then u else u.sendRecord rec false) = v →
    v.setRecord rec { v.record rec with state := 2 } = y →
    exec (.handlingEnd t rec) s = .next (if y.autoClears rec then y.clearRecord rec else y)) ∧
  (∀ (src : Fin 512), u.n E.fltState src = 2 → u.holly.selfFault = false →
    exec (.promotionExpiry t src) s = .next (u.sourceRefresh src)) ∧
  (∀ m w x v l, Opens spFltClear m w 0 [x] u v → v.recordOf x.toNat = some l → (v.record l).state ≠ 3 →
    exec (.fltClear t m x) s = .next (if v.holly.safe = true ∧ (v.clearRecord l).holly.safe = false
      then (v.clearRecord l).settle true else v.clearRecord l)) ∧
  (∀ v, u.power.oscin = true → { u with power := { u.power with oscin := false } } = v →
    exec (.oscinLoss t) s = .next (v.raise 5)) ∧
  (u.power.oscin = false → exec (.oscinLoss t) s = .next u) ∧
  (∀ v y, u.holly.selfFault = false → (u.bump E.eccUncorr).enterSafe 448 3 = v →
    { v with holly := { v.holly with selfFault := true, asserted := v.holly.asserted ++ [448] } } = y →
    exec (.hollySelf t .secded) s = .next ((y.set E.fltState 448 1).set E.hollySelfFault 0 1)) ∧
  (∀ v y, u.holly.selfFault = false → (u.bump E.resErr).enterSafe 448 3 = v →
    { v with holly := { v.holly with selfFault := true, asserted := v.holly.asserted ++ [448] } } = y →
    exec (.hollySelf t .residue) s = .next ((y.set E.fltState 448 1).set E.hollySelfFault 0 2)) ∧
  (∀ m w v, Opens spMaintCtrl m w 0 [1] u v → exec (.maintEnter t m) s = .next (v.raise 452)) ∧
  (∀ m w v, Opens spMaintCtrl m w 0 [2] u v → exec (.maintLeave t m) s = .next (v.deassert 452))

/-- The self-test (R429 to R431): the islands of the target go under test, and their domain's sources are masked where the target
is a domain, none of them a core island; an island's test ends with its signatures and its result, and the last one ends the test with PASS or FAIL. -/
def Obligations.BistCommands : Prop :=
  ∀ (t : Nat) (s u : State), At t s u →
  (∀ m w x v l y z, Opens spBistStart m w 0 [x] u v → v.set E.bistStart 0 x.toNat = y → y.testSet x.toNat = l →
    { y with holly := { y.holly with testing := l, testKind := x.toNat / 4096 % 4, testFailed := false } } = z →
    exec (.bistStart t m x) s = .next ((((l.filter (fun i => i % 256 ≠ 255)).foldl State.testIsland z).set E.bistState 0
      1).maskRefresh (x.toNat % 4096 / 256))) ∧
  (∀ (y : State) x i, i % 256 ≠ 255 →
    (i ∈ y.testSet x ↔ i ∈ bistTarget x ∧ y.islandFitted i = true ∧ coreIsland i = false)) ∧
  (∀ island a b, u.holly.testing.contains island = false → exec (.bistComplete t island a b) s = .next u) ∧
  (∀ island a b kind v y pass rest, u.holly.testing.contains island = true → island % 256 ≠ 255 →
    u.holly.testing.filter (· ≠ island) = rest → u.holly.testKind = kind → u.bistPass island kind a b = pass → island < 0x510 →
    ((if bitOf kind 1 then v.arraysZero island else v).maskRefresh (island / 256)).bistResult island kind a b = y →
    (rest.all (fun i => i % 256 = 255) = true →
      { u with holly := { u.holly with testing := [], testFailed := u.holly.testFailed || !pass } } = v →
      exec (.bistComplete t island a b) s = .next (y.set E.bistState 0 (if y.holly.testFailed then 3 else 2))) ∧
    (rest.all (fun i => i % 256 = 255) = false →
      { u with holly := { u.holly with testing := rest, testFailed := u.holly.testFailed || !pass } } = v →
      exec (.bistComplete t island a b) s = .next y))

/-- The performance monitor, temperatures and JTAG (R438, R441, R443, R463, R464): a global command waits BUSY for the strobe; a
counter's clear zeroes it and its WRAP bit; the samples are dropped and restarted, and one is latched into its world's window; a
reading every 100 ms moves the temperatures and their maximum; each JTAG instruction captures its register, shifts it out and
keeps what it is for, in reset too. -/
def Obligations.PerfCommands : Prop :=
  ∀ (t : Nat) (s u : State), At t s u →
  (∀ m w v y, Opens spPerfGlobal m w 0 [1] u v → { v with perf := { v.perf with pend := some (1, v.now) } } = y →
    exec (.perfStart t m) s = .next (y.set E.perfGlobal 0 1)) ∧
  (∀ m w v y, Opens spPerfGlobal m w 0 [2] u v → { v with perf := { v.perf with pend := some (2, v.now) } } = y →
    exec (.perfStop t m) s = .next (y.set E.perfGlobal 0 1)) ∧
  (∀ m w v y, Opens spPerfGlobal m w 0 [3] u v → { v with perf := { v.perf with pend := some (3, v.now) } } = y →
    exec (.perfClear t m) s = .next (y.set E.perfGlobal 0 1)) ∧
  (∀ m w (c : Fin 128) v, Opens spPerfCtrl m w c [1] u v → exec (.perfCtrl t m c) s =
    .next ((v.set E.perfCount c 0).set E.perfStatus c (setBit (v.n E.perfStatus c) 0 false))) ∧
  (∀ m w v y, Opens spSampleCtrl m w 0 [1] u v → { v with perf := { v.perf with samples := [], seq := 0 } } = y →
    exec (.perfSampleCtrl t m) s = .next ((y.set E.perfSampleFill 0 0).set E.perfSampleLost 0 0)) ∧
  (∀ m w (k : Fin 2) x v, Opens spSampleSel m w k [x] u v → exec (.perfSampleSel t m k x) s =
    .next ((v.set E.perfSampleSel k x.toNat).setOct E.perfSampleRec k ((v.set E.perfSampleSel k x.toNat).perf.samples.getD x.toNat []))) ∧
  (∀ die d0 d1 v l, u.atWhole (secondUnit / 10) = true → l = tabPut 0 2 v.now (tabPut 0 1 v.now (tabPut 0 0 v.now v.yew.tempTicks)) →
    ((((u.setInt E.dieTemp 0 die).corMax E.dieTempMax 0 die.toNat).setInt E.temp0Reading 0 (d0.getD (-2 ^ 31))).setInt
      E.temp1Reading 0 (d1.getD (-2 ^ 31))) = v →
    exec (.tempReading t die d0 d1) s = .next { v with yew := { v.yew with tempTicks := l } }) ∧
  (∀ die d0 d1, u.atWhole (secondUnit / 10) = false → exec (.tempReading t die d0 d1) s = .next u)

/-- JTAG (R464): its port has a clock of its own, so each instruction acts whether or not the engine is in reset; the register it
names is captured and shifted out as far as bits come in at TDI; SAMPLE/PRELOAD and EXTEST keep what was shifted in, and EXTEST
drives the pins. -/
def Obligations.JtagCommands : Prop :=
  ∀ (t : Nat) (s u : State), (if s.power.held then s else s.runTo t) = u → ∀ tdi pins : List Bool,
  (∀ v, u.emit (.tdo (([false] ++ tdi).take tdi.length)) = v → exec (.jtagBypass t tdi) s =
    .next { v with jtag := { v.jtag with instruction := 0, driving := false } }) ∧
  (∀ v, u.emit (.tdo ((bitList (0x20000000 + s.otp.part.number * 4096 + 0x56F) 32 ++ tdi).take tdi.length)) = v →
    exec (.jtagIdcode t tdi) s = .next { v with jtag := { v.jtag with instruction := 1, driving := false } }) ∧
  (∀ v, u.emit (.tdo ((pins ++ tdi).take tdi.length)) = v → exec (.jtagSamplePreload t pins tdi) s =
    .next { v with jtag := { v.jtag with instruction := 2, driving := false, cells := (pins ++ tdi).drop tdi.length } }) ∧
  (∀ v, u.emit (.tdo ((pins ++ tdi).take tdi.length)) = v → exec (.jtagExtest t pins tdi) s =
    .next { v with jtag := { v.jtag with instruction := 3, driving := true, cells := (pins ++ tdi).drop tdi.length } })

/-- A step takes the command at the front of the queue and is its exec on the state with the queue's rest; on an empty queue one
tick passes (log 2). -/
def Obligations.StepRunsCommand : Prop :=
  (∀ (c : Instr) (rest : List Instr) (s : State), s.pending = c :: rest → step s = exec c { s with pending := rest }) ∧
  (∀ s : State, s.pending = [] → step s = .next s.tick)

/-- What reset leaves (R32, R69, R90, R125): tick 0, Privet at zero, stage 1, every word of every entry at its default, no command
waiting, every emitted bound unbounded; and what the part is reads from its OTP in every state, reset included (R4, R6). -/
def Obligations.ResetState : Prop :=
  State.reset.now = 0 ∧ State.reset.privet.time = 0 ∧ State.reset.n E.bootStage = 1 ∧ State.reset.pending = [] ∧
  State.reset.power.held = false ∧
  (∀ (e : Entry) (i k w : Nat), State.reset.wordAt e i k w = entryDefault e i k) ∧
  (∀ add, State.reset.emitted add = 0xFFFFFFFF) ∧
  (∀ (s : State) (w : Nat), s.live E.partNumber 0 w = [BitVec.ofNat 64 s.otp.part.number] ∧
    s.live E.tempGrade 0 w = [BitVec.ofNat 64 s.otp.grade] ∧ s.live E.unitPresent 0 w = [BitVec.ofNat 64 s.otp.mask])

/-- The dictionary store of the machine after reset is in its canonical order (log 6). -/
def Obligations.ResetStored : Prop := State.reset.stored

/-- THE STORE STAYS CANONICAL: whatever command is at the front of the queue, and on an empty queue, a step that answers a next
state keeps the dictionary store in its canonical order, every key listed once and the keys strictly rising (log 6). With this a
word just written reads as written in every state a run reaches (`WordsHold`). -/
def Obligations.StepKeepsStore : Prop :=
  ∀ s s' : State, s.stored → step s = .next s' → s'.stored

/-- Every command completes, in every state and with every operand: its row has an effect, or its condition does not hold and nothing
changes; it never stops the machine. And no command touches the queue: what waits behind it waits still when it has acted (log 2). -/
def Obligations.ExecKeepsQueue : Prop :=
  ∀ (c : Instr) (s : State), ∃ s' : State, exec c s = .next s' ∧ s'.pending = s.pending

/-- The words of the dictionary (R32, R33, log 6): in a canonical store a word just set reads as set, every other word reads as
before, and the store stays canonical; a TIME96 of 48 bits of seconds reads back from its two words. -/
def Obligations.WordsHold : Prop :=
  (∀ (s : State) (e : Entry) (i k w : Nat) (v : Word), s.stored →
    (s.setWordAt e i k w v).stored ∧ (s.setWordAt e i k w v).wordAt e i k w = v ∧
    (∀ (e' : Entry) (i' k' w' : Nat), dictKey e' i' k' w' ≠ dictKey e i k w →
      (s.setWordAt e i k w v).wordAt e' i' k' w' = s.wordAt e' i' k' w')) ∧
  (∀ (s : State) (e : Entry) (i : Nat) (t : T96), s.stored → t < 2 ^ 48 * (10 ^ 9 * 65536) → (s.setT96 e i t).t96 e i = t)

/-- Clear-on-read shadows (R50): an event counts in every world's shadow and saturates; a read returns the reading world's shadow,
clears it, and changes no other word; an event of the read's own tick is not returned by it and stays for the next read. -/
def Obligations.CorShadows : Prop :=
  ∀ (s : State) (e : Entry) (i w : Nat), s.stored → w < 16 →
  (∀ k, (s.bump e i k).shadow e i w = min (s.shadow e i w + k) (tyMax e.ty)) ∧
  (s.corTick = [] → (s.corRead e i w).1 = s.wordAt e i 0 w ∧ (s.corRead e i w).2.shadow e i w = 0 ∧
    (∀ (e' : Entry) (i' k' w' : Nat), dictKey e' i' k' w' ≠ dictKey e i 0 w →
      (s.corRead e i w).2.wordAt e' i' k' w' = s.wordAt e' i' k' w')) ∧
  (∀ k, s.corTick = [] → ((s.bump e i k).corRead e i w).1 = s.wordAt e i 0 w ∧
    ((s.bump e i k).corRead e i w).2.shadow e i w = min k (tyMax e.ty))

/-- A write by a world that may not write the entry is refused with 0x03; so is a read that the world may not make; a read of a WO
entry is not refused and returns 0 (R53), where no code of R63 comes before it. -/
def Obligations.WorldDenied : Prop :=
  (∀ (u v : State) (sp : Special) (m : Master) (w i : Nat) (ws : List Word), u.worldOf m = some w → u.met sp m w = v →
    v.mayWrite w sp.entry i = false → (sp.world15 = false ∨ w ≠ 15) →
    (v.writeCodes sp ⟨m, w, i, ws⟩).contains 1 = false → (v.writeCodes sp ⟨m, w, i, ws⟩).contains 2 = false →
    u.write sp m i ws = (3, sp.refused 3 ⟨m, w, i, ws⟩ ((v.bump E.refused w).set E.lastAbort w
      ((sp.entry.addr i 0).1 * 65536 + (sp.entry.addr i 0).2 * 256 + 3)))) ∧
  (∀ (u : State) (m : Master) (x : Spot) (f : ReadForm) (w : Nat) (p : Place), u.worldOf m = some w →
    placeOf x.index x.sub = some p → mayRead w x.index = false → (u.read m x f).1 = (3, 0)) ∧
  (∀ (u : State) (m : Master) (x : Spot) (w : Nat) (p : Place), u.worldOf m = some w → placeOf x.index x.sub = some p →
    p.entry.cls = .wo → p.k < p.entry.words → x.aligned = true → x.compl = false → u.readCodes w x.index x.sub = [] →
    u.latched m x.index x.sub = none → (u.read m x).1 = (0, 0))

/-- Refusals (R40, R47, R48, R63): a code other than 0x04 to 0x06 is counted in `REFUSED` and named in `LAST_ABORT`, and that is
all; a write to a lockable entry while the set is locked carries 0x04 whatever the master, and is then a violation with its Holly
event; a guard mismatch is counted with its event. -/
def Obligations.RefusedWrites : Prop :=
  ∀ (u v : State) (sp : Special) (m : Master) (w i : Nat) (ws : List Word) (code : Nat) (a : Nat × Nat) (y : State) (l : List Nat),
  u.worldOf m = some w → u.met sp m w = v → sp.refused = (fun _ _ s => s) → sp.entry.addr i 0 = a →
  v.writeCodes sp ⟨m, w, i, ws⟩ = l → (v.bump E.refused w).set E.lastAbort w (a.1 * 65536 + a.2 * 256 + code) = y →
  (resolve l = code → (code ≠ 0 ∧ code ≠ 4 ∧ code ≠ 5 ∧ code ≠ 6) → u.write sp m i ws = (code, y)) ∧
  (code = 6 → resolve (l ++ [6]) = 6 →
    u.write sp m i ws [6] = (6, (y.bump E.guardMismatch w).raise 450 none (a.1 * 256 + a.2) w)) ∧
  (resolve l = code → code = 5 → u.write sp m i ws = (5, (y.bump E.violations w).raise 451 none (a.1 * 256 + a.2) w)) ∧
  (resolve l = code → code = 4 → lockable sp.entry = true → v.control.locked = true →
    u.write sp m i ws = (4, (y.bump E.violations w).raise 451 none (a.1 * 256 + a.2) w)) ∧
  (lockable sp.entry = true → v.control.locked = true → l.contains 4 = true ∧ resolve l ≤ 4 ∧ resolve l ≠ 0)

/-- Which code is reported (R63): 0x01 before all, then 0x02, then the lowest of those that apply; 0x00 where none does. -/
def Obligations.LowestCode : Prop :=
  ∀ l : List Nat,
  (1 ∈ l → resolve l = 1) ∧
  (1 ∉ l → 2 ∈ l → resolve l = 2) ∧
  (1 ∉ l → 2 ∉ l → (∃ c ∈ l, c ≠ 0) → resolve l ∈ l ∧ resolve l ≠ 0 ∧ ∀ c ∈ l, c ≠ 0 → resolve l ≤ c) ∧
  ((∀ c ∈ l, c = 0) → resolve l = 0)

/-- A write that its entry does no more than store (R34, R35): let through, a one-word entry reads as written, every other word
reads as before, and of the rest only the performance monitor may have counted the access. -/
def Obligations.PlainWrites : Prop :=
  ∀ (u v : State) (e : Entry) (m : Master) (w i : Nat) (x : Word), u.stored → e.cls = .rw → e.words = 1 →
  Opens (plain e) m w i [x] u v → ∀ s', u.write (plain e) m i [x] = (0, s') →
  s'.word e i = x ∧
  (∀ (e' : Entry) (i' k' w' : Nat), dictKey e' i' k' w' ≠ dictKey e i 0 0 → s'.wordAt e' i' k' w' = u.wordAt e' i' k' w') ∧
  (∃ perf, s' = { u with dict := s'.dict, perf := perf })

/-- Values outside an entry's layout or range (R34): a word with a bit outside the type's layout, a BOOL other than 0 or 1, a value
in none of the ranges the entry states, each carries 0x07. -/
def Obligations.ValueRange : Prop :=
  ∀ (e : Entry) (v : Word), e.ty ≠ .octstr → e.ty ≠ .time96 →
  (e.ty ≠ .i32 → e.ty ≠ .i64 → 2 ^ tyBits e.ty ≤ v.toNat → valueCodes e [v] = [7]) ∧
  (e.ty = .i32 → (v.toInt < -2 ^ 31 ∨ 2 ^ 31 ≤ v.toInt) → valueCodes e [v] = [7]) ∧
  (e.ty = .bool → v ≠ 0 → v ≠ 1 → valueCodes e [v] = [7]) ∧
  (e.ty ≠ .i32 → e.ty ≠ .i64 → e.vals ≠ [] → (∀ r ∈ e.vals, (v.toNat : Int) < r.1 ∨ r.2 < (v.toNat : Int)) →
    valueCodes e [v] = [7]) ∧
  (e.ty ≠ .i32 → e.ty ≠ .i64 → v.toNat < 2 ^ tyBits e.ty →
    (e.vals = [] ∨ ∃ r ∈ e.vals, r.1 ≤ (v.toNat : Int) ∧ (v.toNat : Int) ≤ r.2) → valueCodes e [v] = [])

/-- A BAR0 offset decodes as follows (R470): bit 27 selects the window, bits 26 to 11 are the index, bits 10 to 3 the subindex;
bits 2 to 0 other than 0 are refused with 0x08 where no lower code applies; offsets at 0x1000_0000 and above lie outside BAR0 and
reach no unit of the engine. -/
def Obligations.Bar0Offsets : Prop :=
  (∀ (off index sub : Nat) (compl : Bool), index < 2 ^ 16 → sub < 2 ^ 8 →
    off = (if compl then 2 ^ 27 else 0) + index * 2 ^ 11 + sub * 2 ^ 3 → spotOf (.bar off 8) = ⟨index, sub, compl, true⟩) ∧
  (∀ off size : Nat, off % 8 ≠ 0 → (spotOf (.bar off size)).aligned = false) ∧
  (∀ (u : State) (m : Master) (x : Spot) (w : Nat), u.worldOf m = some w → x.aligned = false →
    u.readCodes w x.index x.sub = [] → (u.read m x).1 = (8, 0)) ∧
  (∀ (u : State) (m : Master) (x : Spot) (w : Nat) (p : Place) (v : Word), u.worldOf m = some w → x.aligned = false →
    placeOf x.index x.sub = some p → x.compl = false → wordCodes p.entry [v] = [] →
    (valueHalf p.entry m .plain = true ∨ formCodes m p.entry v .plain = []) →
    (u.perfEvent 0x701 0).gateCodes (specialOf p.entry) ⟨m, w, p.i, [v]⟩ = [] → (u.writeAt m x [v]).1 = 8) ∧
  (∀ (t : Nat) (s u : State) (f : Fin 8) (off size : Nat) (v : Word), At t s u → 0x10000000 ≤ off →
    exec (.registerWrite t (.pcie f) (.bar off size) v) s = .next u ∧
    exec (.latchRead t (.pcie f) (.bar off size)) s = .next u)

/-- Bound arithmetic (R121): sums saturate at 0xFFFF_FFFE, an operand of 0xFFFF_FFFF makes the result 0xFFFF_FFFF; so a sum of any
number of terms is exact below saturation, unbounded where a term is, and never below any of its terms. -/
def Obligations.BoundSums : Prop :=
  (∀ a b : Bound, (0xFFFFFFFF ≤ a ∨ 0xFFFFFFFF ≤ b) → boundAdd a b = 0xFFFFFFFF) ∧
  (∀ a b : Bound, a < 0xFFFFFFFF → b < 0xFFFFFFFF → boundAdd a b = min (a + b) 0xFFFFFFFE) ∧
  (∀ l : List Bound, (∃ x ∈ l, 0xFFFFFFFF ≤ x) → l.foldl boundAdd 0 = 0xFFFFFFFF) ∧
  (∀ l : List Bound, (∀ x ∈ l, x < 0xFFFFFFFF) → l.foldl boundAdd 0 = min l.sum 0xFFFFFFFE) ∧
  (∀ (s : State) (upto : Nat), ∀ x ∈ s.boundTerms upto, x ≤ 0xFFFFFFFF → x ≤ s.boundTarget upto)

/-- Residues (R25, R26): the residue formed byte by byte is the value modulo 255, canonical in 0 to 254; a received 0xFF never agrees;
a single flipped bit anywhere in the value is a mismatch; the residues predicted from the operands are those of a TIME96 sum and
difference, of a product and of a BOUND32 sum. -/
def Obligations.Residues : Prop :=
  (∀ l : List Byte, residue l = ofBe l % 255) ∧
  (∀ l : List Byte, residueOk l 0xFF = false) ∧
  (∀ (l : List Byte) (i : Nat) (b : Fin 8) (x : Byte) (r : Byte), l[i]? = some x → residueOk l r = true →
    residueOk (l.set i (x ^^^ (1#8 <<< b.val))) r = false) ∧
  (∀ a b : T96, a + b < 2 ^ 48 * (10 ^ 9 * 65536) → residue (t96Bytes (a + b)) =
    residueSum (residue (t96Bytes a)) (residue (t96Bytes b))
      (ofBool (decide (10 ^ 9 * 65536 ≤ a % (10 ^ 9 * 65536) + b % (10 ^ 9 * 65536))))) ∧
  (∀ a b : T96, b ≤ a → a < 2 ^ 48 * (10 ^ 9 * 65536) → residue (t96Bytes (a - b)) =
    residueDifference (residue (t96Bytes a)) (residue (t96Bytes b))
      (ofBool (decide (a % (10 ^ 9 * 65536) < b % (10 ^ 9 * 65536))))) ∧
  (∀ m n k x y : Nat, x < 256 ^ m → y < 256 ^ n → x * y < 256 ^ k →
    residue (be k (x * y)) = residueProduct (residue (be m x)) (residue (be n y))) ∧
  (∀ a b : Bound, a < 0xFFFFFFFF → b < 0xFFFFFFFF → residue (be 4 (boundAdd a b)) =
    residueBoundSum (residue (be 4 a)) (residue (be 4 b)) (decide (0xFFFFFFFE < a + b)))

/-- The release (R130): a release line falls from E₀ to B₀ and never rises; the emitted core bound is never below the target; with
no release in force and the target at or above E it is the target; it leaves 0xFFFF_FFFF by 0xFFFF_FFFE. -/
def Obligations.ReleaseLine : Prop :=
  (∀ (r : Release) (a b : Nat), r.b0 ≤ r.e0 → 0 < r.period → r.t0 ≤ a → a ≤ b →
    releaseLine r b ≤ releaseLine r a ∧ r.b0 ≤ releaseLine r b ∧ releaseLine r a ≤ r.e0) ∧
  (∀ (e prev : Bound) (r : Option Release) (target : Bound) (now period : Nat), target ≤ 0xFFFFFFFF → e ≤ 0xFFFFFFFF →
    target ≤ (releaseStep e prev r target now period).1) ∧
  (∀ (e prev target : Bound) (now period : Nat), e ≤ target → e < 0xFFFFFFFF → target < 0xFFFFFFFF →
    releaseStep e prev none target now period = (target, none)) ∧
  (∀ (prev target : Bound) (now period : Nat), target < 0xFFFFFFFF →
    ∃ r, releaseStep 0xFFFFFFFF prev none target now period = (0xFFFFFFFE, some r) ∧ r.e0 = 0xFFFFFFFE ∧ r.b0 = target ∧
      r.t0 = now ∧ r.period = period)

/-- What an output emits (R24, R124, R125): before first lock, in the safe state, and while E is held after a core mismatch, every
emitted bound is 0xFFFF_FFFF; otherwise it is E with the output's addition, 100 ps in FINE and 800 ps in BULK at a port. -/
def Obligations.EmittedBound : Prop :=
  ∀ (s : State) (add : Nat),
  (s.flag E.firstLock = false → s.emitted add = 0xFFFFFFFF) ∧
  (s.holly.safe = true → s.emitted add = 0xFFFFFFFF) ∧
  (s.bound.coreHeld = true → s.emitted add = 0xFFFFFFFF) ∧
  (s.flag E.firstLock = true → s.holly.safe = false → s.bound.coreHeld = false → s.emitted add = boundAdd s.bound.e add) ∧
  (∀ p, s.stampMode p = 0 → s.portAdd p = 100) ∧ (∀ p, s.stampMode p = 1 → s.portAdd p = 800)

/-- The ledger's chain (R134): every entry added is numbered on from the last, carries what it was given, and its CHAIN is the
SHA-256 of its predecessor's CHAIN and its own 32 bytes, zeros before the first; a chained ledger stays chained. -/
def Obligations.LedgerChained : Prop :=
  (∀ x : LedgerEntry, (ledgerHead x).length = 32) ∧
  (∀ (s s' : State) (kind term source : Nat) (old new : Bound) (detail : Nat) (time : T96),
    s.ledgerAdd kind term source old new detail time = s' →
    (∃ x, s'.bound.ledger = x :: s.bound.ledger.take 16383 ∧ x.seq = s.bound.written % 2 ^ 32 ∧ x.kind = kind ∧ x.term = term ∧
      x.time = time ∧ x.old = old ∧ x.new = new ∧
      x.chain = sha256 ((match s.bound.ledger with | [] => List.replicate 32 0#8 | y :: _ => y.chain) ++ ledgerHead x)) ∧
    ((∀ i x y, s.bound.ledger[i]? = some x → s.bound.ledger[i + 1]? = some y →
        x.chain = sha256 (y.chain ++ ledgerHead x)) →
      ∀ i x y, s'.bound.ledger[i]? = some x → s'.bound.ledger[i + 1]? = some y →
        x.chain = sha256 (y.chain ++ ledgerHead x)))

/-- The ledger wraps: when it is full, each new entry overwrites the oldest one, `LEDGER_OVERWRITTEN` is incremented in every
world's shadow, and `LEDGER_BASE_CHAIN` then holds the CHAIN of the entry immediately before the oldest one retained (R136). -/
def Obligations.LedgerWraps : Prop :=
  ∀ (s s' : State) (kind term source : Nat) (old new : Bound) (detail : Nat) (time : T96) (rest : List LedgerEntry)
    (g : LedgerEntry), s.stored → s.bound.ledger = rest ++ [g] → rest.length = 16383 → g.chain.length = 32 →
    s.ledgerAdd kind term source old new detail time = s' →
    (∃ x, s'.bound.ledger = x :: rest) ∧
    (∀ w, w < 16 → s'.shadow E.ledgerOverwritten 0 w =
      min (s.shadow E.ledgerOverwritten 0 w + 1) (tyMax E.ledgerOverwritten.ty)) ∧
    s'.oct E.ledgerBaseChain 0 = g.chain

/-- clockAccuracy is the first code of R156 whose limit is at or above E + A; a bound above 2.5 ms up to 0xFFFF_FFFD gives 0x2B;
0xFFFF_FFFE and 0xFFFF_FFFF give 0xFE (R312). -/
def Obligations.ClockAccuracy : Prop :=
  (∀ b : Bound, b ≤ 2500000000 → 0x17 ≤ accuracyCode b ∧ accuracyCode b ≤ 0x2A ∧ b * 10 ≤ accuracyTenths (accuracyCode b) ∧
    ∀ c, 0x17 ≤ c → c < accuracyCode b → accuracyTenths c < b * 10) ∧
  (∀ b : Bound, 2500000000 < b → b ≤ 0xFFFFFFFD → accuracyCode b = 0x2B) ∧
  accuracyCode 0xFFFFFFFE = 0xFE ∧ accuracyCode 0xFFFFFFFF = 0xFE ∧
  (∀ (s : State) (i p : Nat), s.holly.safe = false → s.noTime = false → s.flag E.firstLock = true → s.bound.coreHeld = false →
    (s.announceRow i p).2.1 = accuracyCode (boundAdd s.bound.e (if s.stampMode p = 1 then 800 else 100)))

/-- Privet's running (R91, R96, R100): on from tick to tick the run is one run, however it is cut; outside a retard and without
slew each tick adds exactly the increment; a slew of less than half the increment a tick leaves the time strictly increasing, in
a retard as well. -/
def Obligations.PrivetRuns : Prop :=
  (∀ (p : Privet) (now a b : Nat), p.slewFrom ≤ now → 1 ≤ b →
    0 ≤ ((p.time + a * p.incr : Nat) : Int) - (min p.retard (a * (p.incr - p.incr / 2)) : Nat) +
      ((if p.retarding then p.slewDone else slewAfter p.slew (now + a - p.slewFrom)) - p.slewDone) →
    privetRun (privetRun p now a) (now + a) b = privetRun p now (a + b)) ∧
  (∀ (p : Privet) (now n : Nat), p.retard = 0 → p.slew = 0 → p.slewDone = 0 →
    (privetRun p now n).time = p.time + n * p.incr) ∧
  (∀ (p : Privet) (now n : Nat), p.slewFrom ≤ now → 1 ≤ n → p.slewDone = slewAfter p.slew (now - p.slewFrom) →
    p.slew.natAbs / 512 + 1 < p.incr / 2 → p.time < (privetRun p now n).time)

/-- Re-masking keeps the keys (R406): a fresh value combined into both shares changes neither what they hold nor, over a whole
pass, any slot's or shadow's key. -/
def Obligations.RemaskKeeps : Prop :=
  (∀ (x : Shares) (v : List Byte), x.a.length = x.b.length → x.a.length ≤ v.length → (x.remask v).key = x.key) ∧
  (∀ (s : State) (tab : Tab Shares), (∀ p ∈ tab, p.2.a.length = p.2.b.length) →
    (s.remaskTab tab).1.map (fun p => (p.1, p.2.key)) = tab.map (fun p => (p.1, p.2.key))) ∧
  (∀ key mask : List Byte, key.length = mask.length → (shareWith key mask).key = key)
end

