-- ==== Sys2Proof/Laws/State.lean ====
section
/-! SUPPORT. What the plain updates of the state leave unchanged: one lemma per field per update, each true by unfolding. -/

namespace Sys2Proof.Machine

variable (s : State)

@[simp] theorem State.setWordAt_now (e : Entry) (i k w : Nat) (v : Word) : (s.setWordAt e i k w v).now = s.now := rfl
@[simp] theorem State.setWordAt_corTick (e : Entry) (i k w : Nat) (v : Word) : (s.setWordAt e i k w v).corTick = s.corTick := rfl
@[simp] theorem State.setWordAt_islands (e : Entry) (i k w : Nat) (v : Word) : (s.setWordAt e i k w v).islands = s.islands := rfl
@[simp] theorem State.setWordAt_control (e : Entry) (i k w : Nat) (v : Word) : (s.setWordAt e i k w v).control = s.control := rfl
@[simp] theorem State.setWordAt_otp (e : Entry) (i k w : Nat) (v : Word) : (s.setWordAt e i k w v).otp = s.otp := rfl
@[simp] theorem State.setWordAt_boot (e : Entry) (i k w : Nat) (v : Word) : (s.setWordAt e i k w v).boot = s.boot := rfl
@[simp] theorem State.setWordAt_power (e : Entry) (i k w : Nat) (v : Word) : (s.setWordAt e i k w v).power = s.power := rfl
@[simp] theorem State.setWordAt_privet (e : Entry) (i k w : Nat) (v : Word) : (s.setWordAt e i k w v).privet = s.privet := rfl
@[simp] theorem State.setWordAt_sched (e : Entry) (i k w : Nat) (v : Word) : (s.setWordAt e i k w v).sched = s.sched := rfl
@[simp] theorem State.setWordAt_bound (e : Entry) (i k w : Nat) (v : Word) : (s.setWordAt e i k w v).bound = s.bound := rfl
@[simp] theorem State.setWordAt_hornbeam (e : Entry) (i k w : Nat) (v : Word) : (s.setWordAt e i k w v).hornbeam = s.hornbeam := rfl
@[simp] theorem State.setWordAt_yew (e : Entry) (i k w : Nat) (v : Word) : (s.setWordAt e i k w v).yew = s.yew := rfl
@[simp] theorem State.setWordAt_counters (e : Entry) (i k w : Nat) (v : Word) : (s.setWordAt e i k w v).counters = s.counters := rfl
@[simp] theorem State.setWordAt_synth (e : Entry) (i k w : Nat) (v : Word) : (s.setWordAt e i k w v).synth = s.synth := rfl
@[simp] theorem State.setWordAt_ports (e : Entry) (i k w : Nat) (v : Word) : (s.setWordAt e i k w v).ports = s.ports := rfl
@[simp] theorem State.setWordAt_host (e : Entry) (i k w : Nat) (v : Word) : (s.setWordAt e i k w v).host = s.host := rfl
@[simp] theorem State.setWordAt_ptp (e : Entry) (i k w : Nat) (v : Word) : (s.setWordAt e i k w v).ptp = s.ptp := rfl
@[simp] theorem State.setWordAt_ntp (e : Entry) (i k w : Nat) (v : Word) : (s.setWordAt e i k w v).ntp = s.ntp := rfl
@[simp] theorem State.setWordAt_tap (e : Entry) (i k w : Nat) (v : Word) : (s.setWordAt e i k w v).tap = s.tap := rfl
@[simp] theorem State.setWordAt_gnss (e : Entry) (i k w : Nat) (v : Word) : (s.setWordAt e i k w v).gnss = s.gnss := rfl
@[simp] theorem State.setWordAt_vault (e : Entry) (i k w : Nat) (v : Word) : (s.setWordAt e i k w v).vault = s.vault := rfl
@[simp] theorem State.setWordAt_holly (e : Entry) (i k w : Nat) (v : Word) : (s.setWordAt e i k w v).holly = s.holly := rfl
@[simp] theorem State.setWordAt_perf (e : Entry) (i k w : Nat) (v : Word) : (s.setWordAt e i k w v).perf = s.perf := rfl
@[simp] theorem State.setWordAt_jtag (e : Entry) (i k w : Nat) (v : Word) : (s.setWordAt e i k w v).jtag = s.jtag := rfl
@[simp] theorem State.setWordAt_draws (e : Entry) (i k w : Nat) (v : Word) : (s.setWordAt e i k w v).draws = s.draws := rfl
@[simp] theorem State.setWordAt_emits (e : Entry) (i k w : Nat) (v : Word) : (s.setWordAt e i k w v).emits = s.emits := rfl
@[simp] theorem State.setWordAt_pending (e : Entry) (i k w : Nat) (v : Word) : (s.setWordAt e i k w v).pending = s.pending := rfl

@[simp] theorem State.set_now (e : Entry) (i v : Nat) : (s.set e i v).now = s.now := rfl
@[simp] theorem State.set_corTick (e : Entry) (i v : Nat) : (s.set e i v).corTick = s.corTick := rfl
@[simp] theorem State.set_islands (e : Entry) (i v : Nat) : (s.set e i v).islands = s.islands := rfl
@[simp] theorem State.set_control (e : Entry) (i v : Nat) : (s.set e i v).control = s.control := rfl
@[simp] theorem State.set_otp (e : Entry) (i v : Nat) : (s.set e i v).otp = s.otp := rfl
@[simp] theorem State.set_boot (e : Entry) (i v : Nat) : (s.set e i v).boot = s.boot := rfl
@[simp] theorem State.set_power (e : Entry) (i v : Nat) : (s.set e i v).power = s.power := rfl
@[simp] theorem State.set_privet (e : Entry) (i v : Nat) : (s.set e i v).privet = s.privet := rfl
@[simp] theorem State.set_sched (e : Entry) (i v : Nat) : (s.set e i v).sched = s.sched := rfl
@[simp] theorem State.set_bound (e : Entry) (i v : Nat) : (s.set e i v).bound = s.bound := rfl
@[simp] theorem State.set_hornbeam (e : Entry) (i v : Nat) : (s.set e i v).hornbeam = s.hornbeam := rfl
@[simp] theorem State.set_yew (e : Entry) (i v : Nat) : (s.set e i v).yew = s.yew := rfl
@[simp] theorem State.set_counters (e : Entry) (i v : Nat) : (s.set e i v).counters = s.counters := rfl
@[simp] theorem State.set_synth (e : Entry) (i v : Nat) : (s.set e i v).synth = s.synth := rfl
@[simp] theorem State.set_ports (e : Entry) (i v : Nat) : (s.set e i v).ports = s.ports := rfl
@[simp] theorem State.set_host (e : Entry) (i v : Nat) : (s.set e i v).host = s.host := rfl
@[simp] theorem State.set_ptp (e : Entry) (i v : Nat) : (s.set e i v).ptp = s.ptp := rfl
@[simp] theorem State.set_ntp (e : Entry) (i v : Nat) : (s.set e i v).ntp = s.ntp := rfl
@[simp] theorem State.set_tap (e : Entry) (i v : Nat) : (s.set e i v).tap = s.tap := rfl
@[simp] theorem State.set_gnss (e : Entry) (i v : Nat) : (s.set e i v).gnss = s.gnss := rfl
@[simp] theorem State.set_vault (e : Entry) (i v : Nat) : (s.set e i v).vault = s.vault := rfl
@[simp] theorem State.set_holly (e : Entry) (i v : Nat) : (s.set e i v).holly = s.holly := rfl
@[simp] theorem State.set_perf (e : Entry) (i v : Nat) : (s.set e i v).perf = s.perf := rfl
@[simp] theorem State.set_jtag (e : Entry) (i v : Nat) : (s.set e i v).jtag = s.jtag := rfl
@[simp] theorem State.set_draws (e : Entry) (i v : Nat) : (s.set e i v).draws = s.draws := rfl
@[simp] theorem State.set_emits (e : Entry) (i v : Nat) : (s.set e i v).emits = s.emits := rfl
@[simp] theorem State.set_pending (e : Entry) (i v : Nat) : (s.set e i v).pending = s.pending := rfl

@[simp] theorem State.setInt_now (e : Entry) (i : Nat) (v : Int) : (s.setInt e i v).now = s.now := rfl
@[simp] theorem State.setInt_corTick (e : Entry) (i : Nat) (v : Int) : (s.setInt e i v).corTick = s.corTick := rfl
@[simp] theorem State.setInt_islands (e : Entry) (i : Nat) (v : Int) : (s.setInt e i v).islands = s.islands := rfl
@[simp] theorem State.setInt_control (e : Entry) (i : Nat) (v : Int) : (s.setInt e i v).control = s.control := rfl
@[simp] theorem State.setInt_otp (e : Entry) (i : Nat) (v : Int) : (s.setInt e i v).otp = s.otp := rfl
@[simp] theorem State.setInt_boot (e : Entry) (i : Nat) (v : Int) : (s.setInt e i v).boot = s.boot := rfl
@[simp] theorem State.setInt_power (e : Entry) (i : Nat) (v : Int) : (s.setInt e i v).power = s.power := rfl
@[simp] theorem State.setInt_privet (e : Entry) (i : Nat) (v : Int) : (s.setInt e i v).privet = s.privet := rfl
@[simp] theorem State.setInt_sched (e : Entry) (i : Nat) (v : Int) : (s.setInt e i v).sched = s.sched := rfl
@[simp] theorem State.setInt_bound (e : Entry) (i : Nat) (v : Int) : (s.setInt e i v).bound = s.bound := rfl
@[simp] theorem State.setInt_hornbeam (e : Entry) (i : Nat) (v : Int) : (s.setInt e i v).hornbeam = s.hornbeam := rfl
@[simp] theorem State.setInt_yew (e : Entry) (i : Nat) (v : Int) : (s.setInt e i v).yew = s.yew := rfl
@[simp] theorem State.setInt_counters (e : Entry) (i : Nat) (v : Int) : (s.setInt e i v).counters = s.counters := rfl
@[simp] theorem State.setInt_synth (e : Entry) (i : Nat) (v : Int) : (s.setInt e i v).synth = s.synth := rfl
@[simp] theorem State.setInt_ports (e : Entry) (i : Nat) (v : Int) : (s.setInt e i v).ports = s.ports := rfl
@[simp] theorem State.setInt_host (e : Entry) (i : Nat) (v : Int) : (s.setInt e i v).host = s.host := rfl
@[simp] theorem State.setInt_ptp (e : Entry) (i : Nat) (v : Int) : (s.setInt e i v).ptp = s.ptp := rfl
@[simp] theorem State.setInt_ntp (e : Entry) (i : Nat) (v : Int) : (s.setInt e i v).ntp = s.ntp := rfl
@[simp] theorem State.setInt_tap (e : Entry) (i : Nat) (v : Int) : (s.setInt e i v).tap = s.tap := rfl
@[simp] theorem State.setInt_gnss (e : Entry) (i : Nat) (v : Int) : (s.setInt e i v).gnss = s.gnss := rfl
@[simp] theorem State.setInt_vault (e : Entry) (i : Nat) (v : Int) : (s.setInt e i v).vault = s.vault := rfl
@[simp] theorem State.setInt_holly (e : Entry) (i : Nat) (v : Int) : (s.setInt e i v).holly = s.holly := rfl
@[simp] theorem State.setInt_perf (e : Entry) (i : Nat) (v : Int) : (s.setInt e i v).perf = s.perf := rfl
@[simp] theorem State.setInt_jtag (e : Entry) (i : Nat) (v : Int) : (s.setInt e i v).jtag = s.jtag := rfl
@[simp] theorem State.setInt_draws (e : Entry) (i : Nat) (v : Int) : (s.setInt e i v).draws = s.draws := rfl
@[simp] theorem State.setInt_emits (e : Entry) (i : Nat) (v : Int) : (s.setInt e i v).emits = s.emits := rfl
@[simp] theorem State.setInt_pending (e : Entry) (i : Nat) (v : Int) : (s.setInt e i v).pending = s.pending := rfl

@[simp] theorem State.setFlag_now (e : Entry) (i : Nat) (v : Bool) : (s.setFlag e i v).now = s.now := rfl
@[simp] theorem State.setFlag_corTick (e : Entry) (i : Nat) (v : Bool) : (s.setFlag e i v).corTick = s.corTick := rfl
@[simp] theorem State.setFlag_islands (e : Entry) (i : Nat) (v : Bool) : (s.setFlag e i v).islands = s.islands := rfl
@[simp] theorem State.setFlag_control (e : Entry) (i : Nat) (v : Bool) : (s.setFlag e i v).control = s.control := rfl
@[simp] theorem State.setFlag_otp (e : Entry) (i : Nat) (v : Bool) : (s.setFlag e i v).otp = s.otp := rfl
@[simp] theorem State.setFlag_boot (e : Entry) (i : Nat) (v : Bool) : (s.setFlag e i v).boot = s.boot := rfl
@[simp] theorem State.setFlag_power (e : Entry) (i : Nat) (v : Bool) : (s.setFlag e i v).power = s.power := rfl
@[simp] theorem State.setFlag_privet (e : Entry) (i : Nat) (v : Bool) : (s.setFlag e i v).privet = s.privet := rfl
@[simp] theorem State.setFlag_sched (e : Entry) (i : Nat) (v : Bool) : (s.setFlag e i v).sched = s.sched := rfl
@[simp] theorem State.setFlag_bound (e : Entry) (i : Nat) (v : Bool) : (s.setFlag e i v).bound = s.bound := rfl
@[simp] theorem State.setFlag_hornbeam (e : Entry) (i : Nat) (v : Bool) : (s.setFlag e i v).hornbeam = s.hornbeam := rfl
@[simp] theorem State.setFlag_yew (e : Entry) (i : Nat) (v : Bool) : (s.setFlag e i v).yew = s.yew := rfl
@[simp] theorem State.setFlag_counters (e : Entry) (i : Nat) (v : Bool) : (s.setFlag e i v).counters = s.counters := rfl
@[simp] theorem State.setFlag_synth (e : Entry) (i : Nat) (v : Bool) : (s.setFlag e i v).synth = s.synth := rfl
@[simp] theorem State.setFlag_ports (e : Entry) (i : Nat) (v : Bool) : (s.setFlag e i v).ports = s.ports := rfl
@[simp] theorem State.setFlag_host (e : Entry) (i : Nat) (v : Bool) : (s.setFlag e i v).host = s.host := rfl
@[simp] theorem State.setFlag_ptp (e : Entry) (i : Nat) (v : Bool) : (s.setFlag e i v).ptp = s.ptp := rfl
@[simp] theorem State.setFlag_ntp (e : Entry) (i : Nat) (v : Bool) : (s.setFlag e i v).ntp = s.ntp := rfl
@[simp] theorem State.setFlag_tap (e : Entry) (i : Nat) (v : Bool) : (s.setFlag e i v).tap = s.tap := rfl
@[simp] theorem State.setFlag_gnss (e : Entry) (i : Nat) (v : Bool) : (s.setFlag e i v).gnss = s.gnss := rfl
@[simp] theorem State.setFlag_vault (e : Entry) (i : Nat) (v : Bool) : (s.setFlag e i v).vault = s.vault := rfl
@[simp] theorem State.setFlag_holly (e : Entry) (i : Nat) (v : Bool) : (s.setFlag e i v).holly = s.holly := rfl
@[simp] theorem State.setFlag_perf (e : Entry) (i : Nat) (v : Bool) : (s.setFlag e i v).perf = s.perf := rfl
@[simp] theorem State.setFlag_jtag (e : Entry) (i : Nat) (v : Bool) : (s.setFlag e i v).jtag = s.jtag := rfl
@[simp] theorem State.setFlag_draws (e : Entry) (i : Nat) (v : Bool) : (s.setFlag e i v).draws = s.draws := rfl
@[simp] theorem State.setFlag_emits (e : Entry) (i : Nat) (v : Bool) : (s.setFlag e i v).emits = s.emits := rfl
@[simp] theorem State.setFlag_pending (e : Entry) (i : Nat) (v : Bool) : (s.setFlag e i v).pending = s.pending := rfl

@[simp] theorem State.setT96_now (e : Entry) (i : Nat) (v : T96) : (s.setT96 e i v).now = s.now := rfl
@[simp] theorem State.setT96_corTick (e : Entry) (i : Nat) (v : T96) : (s.setT96 e i v).corTick = s.corTick := rfl
@[simp] theorem State.setT96_islands (e : Entry) (i : Nat) (v : T96) : (s.setT96 e i v).islands = s.islands := rfl
@[simp] theorem State.setT96_control (e : Entry) (i : Nat) (v : T96) : (s.setT96 e i v).control = s.control := rfl
@[simp] theorem State.setT96_otp (e : Entry) (i : Nat) (v : T96) : (s.setT96 e i v).otp = s.otp := rfl
@[simp] theorem State.setT96_boot (e : Entry) (i : Nat) (v : T96) : (s.setT96 e i v).boot = s.boot := rfl
@[simp] theorem State.setT96_power (e : Entry) (i : Nat) (v : T96) : (s.setT96 e i v).power = s.power := rfl
@[simp] theorem State.setT96_privet (e : Entry) (i : Nat) (v : T96) : (s.setT96 e i v).privet = s.privet := rfl
@[simp] theorem State.setT96_sched (e : Entry) (i : Nat) (v : T96) : (s.setT96 e i v).sched = s.sched := rfl
@[simp] theorem State.setT96_bound (e : Entry) (i : Nat) (v : T96) : (s.setT96 e i v).bound = s.bound := rfl
@[simp] theorem State.setT96_hornbeam (e : Entry) (i : Nat) (v : T96) : (s.setT96 e i v).hornbeam = s.hornbeam := rfl
@[simp] theorem State.setT96_yew (e : Entry) (i : Nat) (v : T96) : (s.setT96 e i v).yew = s.yew := rfl
@[simp] theorem State.setT96_counters (e : Entry) (i : Nat) (v : T96) : (s.setT96 e i v).counters = s.counters := rfl
@[simp] theorem State.setT96_synth (e : Entry) (i : Nat) (v : T96) : (s.setT96 e i v).synth = s.synth := rfl
@[simp] theorem State.setT96_ports (e : Entry) (i : Nat) (v : T96) : (s.setT96 e i v).ports = s.ports := rfl
@[simp] theorem State.setT96_host (e : Entry) (i : Nat) (v : T96) : (s.setT96 e i v).host = s.host := rfl
@[simp] theorem State.setT96_ptp (e : Entry) (i : Nat) (v : T96) : (s.setT96 e i v).ptp = s.ptp := rfl
@[simp] theorem State.setT96_ntp (e : Entry) (i : Nat) (v : T96) : (s.setT96 e i v).ntp = s.ntp := rfl
@[simp] theorem State.setT96_tap (e : Entry) (i : Nat) (v : T96) : (s.setT96 e i v).tap = s.tap := rfl
@[simp] theorem State.setT96_gnss (e : Entry) (i : Nat) (v : T96) : (s.setT96 e i v).gnss = s.gnss := rfl
@[simp] theorem State.setT96_vault (e : Entry) (i : Nat) (v : T96) : (s.setT96 e i v).vault = s.vault := rfl
@[simp] theorem State.setT96_holly (e : Entry) (i : Nat) (v : T96) : (s.setT96 e i v).holly = s.holly := rfl
@[simp] theorem State.setT96_perf (e : Entry) (i : Nat) (v : T96) : (s.setT96 e i v).perf = s.perf := rfl
@[simp] theorem State.setT96_jtag (e : Entry) (i : Nat) (v : T96) : (s.setT96 e i v).jtag = s.jtag := rfl
@[simp] theorem State.setT96_draws (e : Entry) (i : Nat) (v : T96) : (s.setT96 e i v).draws = s.draws := rfl
@[simp] theorem State.setT96_emits (e : Entry) (i : Nat) (v : T96) : (s.setT96 e i v).emits = s.emits := rfl
@[simp] theorem State.setT96_pending (e : Entry) (i : Nat) (v : T96) : (s.setT96 e i v).pending = s.pending := rfl

@[simp] theorem State.drew_now : (s.drew).now = s.now := rfl
@[simp] theorem State.drew_dict : (s.drew).dict = s.dict := rfl
@[simp] theorem State.drew_corTick : (s.drew).corTick = s.corTick := rfl
@[simp] theorem State.drew_islands : (s.drew).islands = s.islands := rfl
@[simp] theorem State.drew_control : (s.drew).control = s.control := rfl
@[simp] theorem State.drew_otp : (s.drew).otp = s.otp := rfl
@[simp] theorem State.drew_boot : (s.drew).boot = s.boot := rfl
@[simp] theorem State.drew_power : (s.drew).power = s.power := rfl
@[simp] theorem State.drew_privet : (s.drew).privet = s.privet := rfl
@[simp] theorem State.drew_sched : (s.drew).sched = s.sched := rfl
@[simp] theorem State.drew_bound : (s.drew).bound = s.bound := rfl
@[simp] theorem State.drew_hornbeam : (s.drew).hornbeam = s.hornbeam := rfl
@[simp] theorem State.drew_yew : (s.drew).yew = s.yew := rfl
@[simp] theorem State.drew_counters : (s.drew).counters = s.counters := rfl
@[simp] theorem State.drew_synth : (s.drew).synth = s.synth := rfl
@[simp] theorem State.drew_ports : (s.drew).ports = s.ports := rfl
@[simp] theorem State.drew_host : (s.drew).host = s.host := rfl
@[simp] theorem State.drew_ptp : (s.drew).ptp = s.ptp := rfl
@[simp] theorem State.drew_ntp : (s.drew).ntp = s.ntp := rfl
@[simp] theorem State.drew_tap : (s.drew).tap = s.tap := rfl
@[simp] theorem State.drew_gnss : (s.drew).gnss = s.gnss := rfl
@[simp] theorem State.drew_vault : (s.drew).vault = s.vault := rfl
@[simp] theorem State.drew_holly : (s.drew).holly = s.holly := rfl
@[simp] theorem State.drew_perf : (s.drew).perf = s.perf := rfl
@[simp] theorem State.drew_jtag : (s.drew).jtag = s.jtag := rfl
@[simp] theorem State.drew_emits : (s.drew).emits = s.emits := rfl
@[simp] theorem State.drew_pending : (s.drew).pending = s.pending := rfl

@[simp] theorem State.setArmed_now (i : Nat) (x : Option Sched) : (s.setArmed i x).now = s.now := rfl
@[simp] theorem State.setArmed_dict (i : Nat) (x : Option Sched) : (s.setArmed i x).dict = s.dict := rfl
@[simp] theorem State.setArmed_corTick (i : Nat) (x : Option Sched) : (s.setArmed i x).corTick = s.corTick := rfl
@[simp] theorem State.setArmed_islands (i : Nat) (x : Option Sched) : (s.setArmed i x).islands = s.islands := rfl
@[simp] theorem State.setArmed_control (i : Nat) (x : Option Sched) : (s.setArmed i x).control = s.control := rfl
@[simp] theorem State.setArmed_otp (i : Nat) (x : Option Sched) : (s.setArmed i x).otp = s.otp := rfl
@[simp] theorem State.setArmed_boot (i : Nat) (x : Option Sched) : (s.setArmed i x).boot = s.boot := rfl
@[simp] theorem State.setArmed_power (i : Nat) (x : Option Sched) : (s.setArmed i x).power = s.power := rfl
@[simp] theorem State.setArmed_privet (i : Nat) (x : Option Sched) : (s.setArmed i x).privet = s.privet := rfl
@[simp] theorem State.setArmed_bound (i : Nat) (x : Option Sched) : (s.setArmed i x).bound = s.bound := rfl
@[simp] theorem State.setArmed_hornbeam (i : Nat) (x : Option Sched) : (s.setArmed i x).hornbeam = s.hornbeam := rfl
@[simp] theorem State.setArmed_yew (i : Nat) (x : Option Sched) : (s.setArmed i x).yew = s.yew := rfl
@[simp] theorem State.setArmed_counters (i : Nat) (x : Option Sched) : (s.setArmed i x).counters = s.counters := rfl
@[simp] theorem State.setArmed_synth (i : Nat) (x : Option Sched) : (s.setArmed i x).synth = s.synth := rfl
@[simp] theorem State.setArmed_ports (i : Nat) (x : Option Sched) : (s.setArmed i x).ports = s.ports := rfl
@[simp] theorem State.setArmed_host (i : Nat) (x : Option Sched) : (s.setArmed i x).host = s.host := rfl
@[simp] theorem State.setArmed_ptp (i : Nat) (x : Option Sched) : (s.setArmed i x).ptp = s.ptp := rfl
@[simp] theorem State.setArmed_ntp (i : Nat) (x : Option Sched) : (s.setArmed i x).ntp = s.ntp := rfl
@[simp] theorem State.setArmed_tap (i : Nat) (x : Option Sched) : (s.setArmed i x).tap = s.tap := rfl
@[simp] theorem State.setArmed_gnss (i : Nat) (x : Option Sched) : (s.setArmed i x).gnss = s.gnss := rfl
@[simp] theorem State.setArmed_vault (i : Nat) (x : Option Sched) : (s.setArmed i x).vault = s.vault := rfl
@[simp] theorem State.setArmed_holly (i : Nat) (x : Option Sched) : (s.setArmed i x).holly = s.holly := rfl
@[simp] theorem State.setArmed_perf (i : Nat) (x : Option Sched) : (s.setArmed i x).perf = s.perf := rfl
@[simp] theorem State.setArmed_jtag (i : Nat) (x : Option Sched) : (s.setArmed i x).jtag = s.jtag := rfl
@[simp] theorem State.setArmed_draws (i : Nat) (x : Option Sched) : (s.setArmed i x).draws = s.draws := rfl
@[simp] theorem State.setArmed_emits (i : Nat) (x : Option Sched) : (s.setArmed i x).emits = s.emits := rfl
@[simp] theorem State.setArmed_pending (i : Nat) (x : Option Sched) : (s.setArmed i x).pending = s.pending := rfl

@[simp] theorem State.setLeaf_now (n : Nat) (x : Leaf) : (s.setLeaf n x).now = s.now := rfl
@[simp] theorem State.setLeaf_dict (n : Nat) (x : Leaf) : (s.setLeaf n x).dict = s.dict := rfl
@[simp] theorem State.setLeaf_corTick (n : Nat) (x : Leaf) : (s.setLeaf n x).corTick = s.corTick := rfl
@[simp] theorem State.setLeaf_control (n : Nat) (x : Leaf) : (s.setLeaf n x).control = s.control := rfl
@[simp] theorem State.setLeaf_otp (n : Nat) (x : Leaf) : (s.setLeaf n x).otp = s.otp := rfl
@[simp] theorem State.setLeaf_boot (n : Nat) (x : Leaf) : (s.setLeaf n x).boot = s.boot := rfl
@[simp] theorem State.setLeaf_power (n : Nat) (x : Leaf) : (s.setLeaf n x).power = s.power := rfl
@[simp] theorem State.setLeaf_privet (n : Nat) (x : Leaf) : (s.setLeaf n x).privet = s.privet := rfl
@[simp] theorem State.setLeaf_sched (n : Nat) (x : Leaf) : (s.setLeaf n x).sched = s.sched := rfl
@[simp] theorem State.setLeaf_bound (n : Nat) (x : Leaf) : (s.setLeaf n x).bound = s.bound := rfl
@[simp] theorem State.setLeaf_hornbeam (n : Nat) (x : Leaf) : (s.setLeaf n x).hornbeam = s.hornbeam := rfl
@[simp] theorem State.setLeaf_yew (n : Nat) (x : Leaf) : (s.setLeaf n x).yew = s.yew := rfl
@[simp] theorem State.setLeaf_counters (n : Nat) (x : Leaf) : (s.setLeaf n x).counters = s.counters := rfl
@[simp] theorem State.setLeaf_synth (n : Nat) (x : Leaf) : (s.setLeaf n x).synth = s.synth := rfl
@[simp] theorem State.setLeaf_ports (n : Nat) (x : Leaf) : (s.setLeaf n x).ports = s.ports := rfl
@[simp] theorem State.setLeaf_host (n : Nat) (x : Leaf) : (s.setLeaf n x).host = s.host := rfl
@[simp] theorem State.setLeaf_ptp (n : Nat) (x : Leaf) : (s.setLeaf n x).ptp = s.ptp := rfl
@[simp] theorem State.setLeaf_ntp (n : Nat) (x : Leaf) : (s.setLeaf n x).ntp = s.ntp := rfl
@[simp] theorem State.setLeaf_tap (n : Nat) (x : Leaf) : (s.setLeaf n x).tap = s.tap := rfl
@[simp] theorem State.setLeaf_gnss (n : Nat) (x : Leaf) : (s.setLeaf n x).gnss = s.gnss := rfl
@[simp] theorem State.setLeaf_vault (n : Nat) (x : Leaf) : (s.setLeaf n x).vault = s.vault := rfl
@[simp] theorem State.setLeaf_holly (n : Nat) (x : Leaf) : (s.setLeaf n x).holly = s.holly := rfl
@[simp] theorem State.setLeaf_perf (n : Nat) (x : Leaf) : (s.setLeaf n x).perf = s.perf := rfl
@[simp] theorem State.setLeaf_jtag (n : Nat) (x : Leaf) : (s.setLeaf n x).jtag = s.jtag := rfl
@[simp] theorem State.setLeaf_draws (n : Nat) (x : Leaf) : (s.setLeaf n x).draws = s.draws := rfl
@[simp] theorem State.setLeaf_emits (n : Nat) (x : Leaf) : (s.setLeaf n x).emits = s.emits := rfl
@[simp] theorem State.setLeaf_pending (n : Nat) (x : Leaf) : (s.setLeaf n x).pending = s.pending := rfl

@[simp] theorem State.noteOut_now (b : Bound) : (s.noteOut b).now = s.now := rfl
@[simp] theorem State.noteOut_dict (b : Bound) : (s.noteOut b).dict = s.dict := rfl
@[simp] theorem State.noteOut_corTick (b : Bound) : (s.noteOut b).corTick = s.corTick := rfl
@[simp] theorem State.noteOut_islands (b : Bound) : (s.noteOut b).islands = s.islands := rfl
@[simp] theorem State.noteOut_control (b : Bound) : (s.noteOut b).control = s.control := rfl
@[simp] theorem State.noteOut_otp (b : Bound) : (s.noteOut b).otp = s.otp := rfl
@[simp] theorem State.noteOut_boot (b : Bound) : (s.noteOut b).boot = s.boot := rfl
@[simp] theorem State.noteOut_power (b : Bound) : (s.noteOut b).power = s.power := rfl
@[simp] theorem State.noteOut_privet (b : Bound) : (s.noteOut b).privet = s.privet := rfl
@[simp] theorem State.noteOut_sched (b : Bound) : (s.noteOut b).sched = s.sched := rfl
@[simp] theorem State.noteOut_hornbeam (b : Bound) : (s.noteOut b).hornbeam = s.hornbeam := rfl
@[simp] theorem State.noteOut_yew (b : Bound) : (s.noteOut b).yew = s.yew := rfl
@[simp] theorem State.noteOut_counters (b : Bound) : (s.noteOut b).counters = s.counters := rfl
@[simp] theorem State.noteOut_synth (b : Bound) : (s.noteOut b).synth = s.synth := rfl
@[simp] theorem State.noteOut_ports (b : Bound) : (s.noteOut b).ports = s.ports := rfl
@[simp] theorem State.noteOut_host (b : Bound) : (s.noteOut b).host = s.host := rfl
@[simp] theorem State.noteOut_ptp (b : Bound) : (s.noteOut b).ptp = s.ptp := rfl
@[simp] theorem State.noteOut_ntp (b : Bound) : (s.noteOut b).ntp = s.ntp := rfl
@[simp] theorem State.noteOut_tap (b : Bound) : (s.noteOut b).tap = s.tap := rfl
@[simp] theorem State.noteOut_gnss (b : Bound) : (s.noteOut b).gnss = s.gnss := rfl
@[simp] theorem State.noteOut_vault (b : Bound) : (s.noteOut b).vault = s.vault := rfl
@[simp] theorem State.noteOut_holly (b : Bound) : (s.noteOut b).holly = s.holly := rfl
@[simp] theorem State.noteOut_perf (b : Bound) : (s.noteOut b).perf = s.perf := rfl
@[simp] theorem State.noteOut_jtag (b : Bound) : (s.noteOut b).jtag = s.jtag := rfl
@[simp] theorem State.noteOut_draws (b : Bound) : (s.noteOut b).draws = s.draws := rfl
@[simp] theorem State.noteOut_emits (b : Bound) : (s.noteOut b).emits = s.emits := rfl
@[simp] theorem State.noteOut_pending (b : Bound) : (s.noteOut b).pending = s.pending := rfl

@[simp] theorem State.ledgerDue_now (kind term source detail : Nat) : (s.ledgerDue kind term source detail).now = s.now := rfl
@[simp] theorem State.ledgerDue_dict (kind term source detail : Nat) : (s.ledgerDue kind term source detail).dict = s.dict := rfl
@[simp] theorem State.ledgerDue_corTick (kind term source detail : Nat) : (s.ledgerDue kind term source detail).corTick = s.corTick := rfl
@[simp] theorem State.ledgerDue_islands (kind term source detail : Nat) : (s.ledgerDue kind term source detail).islands = s.islands := rfl
@[simp] theorem State.ledgerDue_control (kind term source detail : Nat) : (s.ledgerDue kind term source detail).control = s.control := rfl
@[simp] theorem State.ledgerDue_otp (kind term source detail : Nat) : (s.ledgerDue kind term source detail).otp = s.otp := rfl
@[simp] theorem State.ledgerDue_boot (kind term source detail : Nat) : (s.ledgerDue kind term source detail).boot = s.boot := rfl
@[simp] theorem State.ledgerDue_power (kind term source detail : Nat) : (s.ledgerDue kind term source detail).power = s.power := rfl
@[simp] theorem State.ledgerDue_privet (kind term source detail : Nat) : (s.ledgerDue kind term source detail).privet = s.privet := rfl
@[simp] theorem State.ledgerDue_sched (kind term source detail : Nat) : (s.ledgerDue kind term source detail).sched = s.sched := rfl
@[simp] theorem State.ledgerDue_hornbeam (kind term source detail : Nat) : (s.ledgerDue kind term source detail).hornbeam = s.hornbeam := rfl
@[simp] theorem State.ledgerDue_yew (kind term source detail : Nat) : (s.ledgerDue kind term source detail).yew = s.yew := rfl
@[simp] theorem State.ledgerDue_counters (kind term source detail : Nat) : (s.ledgerDue kind term source detail).counters = s.counters := rfl
@[simp] theorem State.ledgerDue_synth (kind term source detail : Nat) : (s.ledgerDue kind term source detail).synth = s.synth := rfl
@[simp] theorem State.ledgerDue_ports (kind term source detail : Nat) : (s.ledgerDue kind term source detail).ports = s.ports := rfl
@[simp] theorem State.ledgerDue_host (kind term source detail : Nat) : (s.ledgerDue kind term source detail).host = s.host := rfl
@[simp] theorem State.ledgerDue_ptp (kind term source detail : Nat) : (s.ledgerDue kind term source detail).ptp = s.ptp := rfl
@[simp] theorem State.ledgerDue_ntp (kind term source detail : Nat) : (s.ledgerDue kind term source detail).ntp = s.ntp := rfl
@[simp] theorem State.ledgerDue_tap (kind term source detail : Nat) : (s.ledgerDue kind term source detail).tap = s.tap := rfl
@[simp] theorem State.ledgerDue_gnss (kind term source detail : Nat) : (s.ledgerDue kind term source detail).gnss = s.gnss := rfl
@[simp] theorem State.ledgerDue_vault (kind term source detail : Nat) : (s.ledgerDue kind term source detail).vault = s.vault := rfl
@[simp] theorem State.ledgerDue_holly (kind term source detail : Nat) : (s.ledgerDue kind term source detail).holly = s.holly := rfl
@[simp] theorem State.ledgerDue_perf (kind term source detail : Nat) : (s.ledgerDue kind term source detail).perf = s.perf := rfl
@[simp] theorem State.ledgerDue_jtag (kind term source detail : Nat) : (s.ledgerDue kind term source detail).jtag = s.jtag := rfl
@[simp] theorem State.ledgerDue_draws (kind term source detail : Nat) : (s.ledgerDue kind term source detail).draws = s.draws := rfl
@[simp] theorem State.ledgerDue_emits (kind term source detail : Nat) : (s.ledgerDue kind term source detail).emits = s.emits := rfl
@[simp] theorem State.ledgerDue_pending (kind term source detail : Nat) : (s.ledgerDue kind term source detail).pending = s.pending := rfl

end Sys2Proof.Machine
end

