-- ==== Sys2Proof/Laws/Tab.lean ====
section
/-! SUPPORT. Sparse tables: reading after writing, and the canonical order every operation keeps. -/

namespace Sys2Proof.Machine

variable {α : Type}

/-- Every key of the table is above `lo`, and the keys rise strictly. -/
def tabAbove (lo : Nat) : Tab α → Prop
  | [] => True
  | (j, _) :: r => lo < j ∧ tabAbove j r

theorem tabAbove_mono {lo lo' : Nat} (h : lo' ≤ lo) {t : Tab α} (ht : tabAbove lo t) : tabAbove lo' t := by
  cases t with
  | nil => trivial
  | cons p r => exact ⟨Nat.lt_of_le_of_lt h ht.1, ht.2⟩

theorem tabRising_cons (j : Nat) (u : α) (r : Tab α) : tabRising ((j, u) :: r) = true ↔ tabAbove j r := by
  induction r generalizing j u with
  | nil => simp [tabRising, tabAbove]
  | cons p r ih => simp [tabRising, tabAbove, ih]

theorem tabPut_above [DecidableEq α] (d : α) (k : Nat) (v : α) :
    ∀ {lo : Nat} {t : Tab α}, tabAbove lo t → lo < k → tabAbove lo (tabPut d k v t)
  | lo, [], _, hk => by by_cases hv : v = d <;> simp [tabPut, hv, tabAbove, hk]
  | lo, (j, u) :: r, h, hk => by
    by_cases h1 : j < k
    · simp only [tabPut, h1, if_true]
      exact ⟨h.1, tabPut_above d k v h.2 h1⟩
    · by_cases h2 : j = k
      · subst h2
        by_cases hv : v = d
        · simpa [tabPut, hv] using tabAbove_mono (Nat.le_of_lt h.1) h.2
        · simpa [tabPut, hv] using ⟨h.1, h.2⟩
      · by_cases hv : v = d
        · simpa [tabPut, h1, h2, hv] using h
        · simp only [tabPut, h1, h2, hv, if_false]
          exact ⟨hk, by omega, h.2⟩

/-- A write keeps the canonical order. -/
theorem tabPut_rising [DecidableEq α] (d : α) (k : Nat) (v : α) (t : Tab α) (h : tabRising t = true) :
    tabRising (tabPut d k v t) = true := by
  cases t with
  | nil => by_cases hv : v = d <;> simp [tabPut, hv, tabRising]
  | cons p r =>
    obtain ⟨j, u⟩ := p
    rw [tabRising_cons] at h
    by_cases h1 : j < k
    · simp only [tabPut, h1, if_true, tabRising_cons]
      exact tabPut_above d k v h h1
    · by_cases h2 : j = k
      · subst h2
        by_cases hv : v = d
        · simp only [tabPut, hv, Nat.lt_irrefl, if_false, if_true]
          cases r with
          | nil => rfl
          | cons q r => exact (tabRising_cons ..).2 h.2
        · simp only [tabPut, hv, Nat.lt_irrefl, if_false, if_true, tabRising_cons]
          exact h
      · by_cases hv : v = d
        · simp only [tabPut, h1, h2, hv, if_false, if_true, tabRising_cons]
          exact h
        · simp only [tabPut, h1, h2, hv, if_false, tabRising_cons]
          exact ⟨by omega, h⟩

theorem tabGet_above (d : α) (k : Nat) : ∀ {lo : Nat} {t : Tab α}, tabAbove lo t → k ≤ lo → tabGet d k t = d
  | _, [], _, _ => rfl
  | lo, (j, u) :: r, h, hk => by
    have h1 : ¬ j = k := by have := h.1; omega
    simp only [tabGet, h1, if_false]
    exact tabGet_above d k h.2 (by have := h.1; omega)

/-- A read at the key just written gives the value. -/
theorem tabGet_tabPut_self [DecidableEq α] (d : α) (k : Nat) (v : α) (t : Tab α) (h : tabRising t = true) :
    tabGet d k (tabPut d k v t) = v := by
  induction t with
  | nil => by_cases hv : v = d <;> simp [tabPut, hv, tabGet]
  | cons p r ih =>
    obtain ⟨j, u⟩ := p
    rw [tabRising_cons] at h
    have hr : tabRising r = true := by
      cases r with
      | nil => rfl
      | cons q r => exact (tabRising_cons ..).2 h.2
    by_cases h1 : j < k
    · have h3 : ¬ j = k := by omega
      simp only [tabPut, h1, if_true, tabGet, h3, if_false]
      exact ih hr
    · by_cases h2 : j = k
      · subst h2
        by_cases hv : v = d
        · simp only [tabPut, hv, Nat.lt_irrefl, if_false, if_true]
          exact tabGet_above d j h (Nat.le_refl _)
        · simp [tabPut, hv, tabGet]
      · by_cases hv : v = d
        · simp only [tabPut, h1, h2, hv, if_false, if_true, tabGet]
          exact tabGet_above d k h (by omega)
        · simp [tabPut, h1, h2, hv, tabGet]

/-- A read at another key gives what it gave. -/
theorem tabGet_tabPut_ne [DecidableEq α] (d d' : α) (k k' : Nat) (v : α) (t : Tab α) (h : k' ≠ k) :
    tabGet d' k' (tabPut d k v t) = tabGet d' k' t := by
  have hk : ¬ k = k' := fun e => h e.symm
  induction t with
  | nil => by_cases hv : v = d <;> simp [tabPut, hv, tabGet, hk]
  | cons p r ih =>
    obtain ⟨j, u⟩ := p
    by_cases h1 : j < k
    · simp only [tabPut, h1, if_true, tabGet, ih]
    · by_cases h2 : j = k
      · subst h2
        by_cases hv : v = d <;> simp [tabPut, hv, tabGet, hk]
      · by_cases hv : v = d <;> simp [tabPut, h1, h2, hv, tabGet, hk]

theorem tabErase_above (k : Nat) : ∀ {lo : Nat} {t : Tab α}, tabAbove lo t → tabAbove lo (tabErase k t)
  | _, [], h => h
  | lo, (j, u) :: r, h => by
    by_cases h1 : j = k
    · simp only [tabErase, h1, if_true]
      exact tabErase_above k (tabAbove_mono (Nat.le_of_lt h.1) h.2)
    · simp only [tabErase, h1, if_false]
      exact ⟨h.1, tabErase_above k h.2⟩

/-! ### Dictionary words -/

/-- Setting a word keeps the store in order. -/
theorem State.setWordAt_rising (s : State) (e : Entry) (i k w : Nat) (v : Word) (h : tabRising s.dict = true) :
    tabRising (s.setWordAt e i k w v).dict = true := tabPut_rising _ _ _ _ h

/-- A word just set reads as set. -/
theorem State.wordAt_setWordAt_self (s : State) (e : Entry) (i k w : Nat) (v : Word) (h : tabRising s.dict = true) :
    (s.setWordAt e i k w v).wordAt e i k w = v := tabGet_tabPut_self _ _ _ _ h

/-- Every other word reads as before. -/
theorem State.wordAt_setWordAt_ne (s : State) (e e' : Entry) (i k w i' k' w' : Nat) (v : Word)
    (h : dictKey e' i' k' w' ≠ dictKey e i k w) : (s.setWordAt e i k w v).wordAt e' i' k' w' = s.wordAt e' i' k' w' :=
  tabGet_tabPut_ne _ _ _ _ _ _ h

/-- Setting one entry leaves the value of another. -/
theorem State.n_set_ne (s : State) (e e' : Entry) (i v i' : Nat) (h : dictKey e' i' 0 0 ≠ dictKey e i 0 0) :
    (s.set e i v).n e' i' = s.n e' i' := by
  simp only [State.n, State.word, State.set, State.wordAt_setWordAt_ne _ _ _ _ _ _ _ _ _ _ h]

/-- An entry just set has the value. -/
theorem State.n_set_self (s : State) (e : Entry) (i v : Nat) (h : tabRising s.dict = true) (hv : v < 2 ^ 64) :
    (s.set e i v).n e i = v := by
  simp only [State.n, State.word, State.set, State.wordAt_setWordAt_self _ _ _ _ _ _ h, BitVec.toNat_ofNat]
  exact Nat.mod_eq_of_lt hv

end Sys2Proof.Machine
end

