-- ==== Sys2Proof/Laws/Keeps.lean ====
section
/-! SUPPORT. What every operation keeps: the canonical order of the dictionary store and the queue. One lemma per operation. -/

set_option linter.all false

namespace Sys2Proof.Machine

/-- `s'` keeps what `s` has of the store's order, and its queue. -/
def Keeps (s s' : State) : Prop := (s.stored → s'.stored) ∧ s'.pending = s.pending

theorem Keeps.rfl' (s : State) : Keeps s s := ⟨id, rfl⟩
theorem Keeps.trans {a b c : State} (h : Keeps a b) (k : Keeps b c) : Keeps a c := ⟨fun x => k.1 (h.1 x), k.2.trans h.2⟩
/-- Only the store and the queue count. -/
theorem Keeps.upd {t x : State} (v0 v2 v3 v4 v5 v6 v7 v8 v9 v10 v11 v12 v13 v14 v15 v16 v17 v18 v19 v20 v21 v22 v23 v24 v25 v26) :
    Keeps t ⟨v0, x.dict, v2, v3, v4, v5, v6, v7, v8, v9, v10, v11, v12, v13, v14, v15, v16, v17, v18, v19, v20, v21, v22, v23, v24, v25, v26, x.pending⟩ ↔ Keeps t x := Iff.rfl
theorem Keeps.ite {t a b : State} {c : Prop} [Decidable c] (ha : Keeps t a) (hb : Keeps t b) :
    Keeps t (if c then a else b) := by split <;> assumption
theorem Keeps.ite2 {t : State} {α : Type} {a b : α × State} {c : Prop} [Decidable c] (ha : Keeps t a.2) (hb : Keeps t b.2) :
    Keeps t (if c then a else b).2 := by split <;> assumption
theorem Keeps.foldl {α : Type} {t : State} {f : State → α → State} (hf : ∀ s x, Keeps t s → Keeps t (f s x)) (l : List α) {s : State}
    (h : Keeps t s) : Keeps t (l.foldl f s) := by
  induction l generalizing s with
  | nil => exact h
  | cons x r ih => exact ih (hf s x h)
theorem State.setWordAt_keeps {t s : State} (h : Keeps t s) (e : Entry) (i k w : Nat) (v : Word) :
    Keeps t (s.setWordAt e i k w v) := ⟨fun x => s.setWordAt_rising e i k w v (h.1 x), h.2⟩
theorem Keeps.ite22 {t : State} {α β : Type} {a b : α × β × State} {c : Prop} [Decidable c] (ha : Keeps t a.2.2) (hb : Keeps t b.2.2) :
    Keeps t (if c then a else b).2.2 := by split <;> assumption
theorem Keeps.foldl2 {α β : Type} {t : State} {f : β × State → α → β × State} (hf : ∀ s x, Keeps t s.2 → Keeps t (f s x).2)
    (l : List α) {s : β × State} (h : Keeps t s.2) : Keeps t (l.foldl f s).2 := by
  induction l generalizing s with
  | nil => exact h
  | cons x r ih => exact ih (hf s x h)
theorem Keeps.foldr2 {α β : Type} {t : State} {f : α → β × State → β × State} (hf : ∀ x s, Keeps t s.2 → Keeps t (f x s).2)
    (l : List α) {s : β × State} (h : Keeps t s.2) : Keeps t (l.foldr f s).2 := by
  induction l with
  | nil => exact h
  | cons x r ih => exact hf x _ ih
/-- An entry's own effects keep the store's order and the queue. -/
def Special.Tame (sp : Special) : Prop :=
  (∀ {t s : State} (c : Ctx), Keeps t s → Keeps t (sp.apply c s)) ∧
  (∀ {t s : State} (code : Nat) (c : Ctx), Keeps t s → Keeps t (sp.refused code c s))
theorem Special.tame_nil : ∀ sp ∈ ([] : List Special), sp.Tame := by simp
theorem Special.tame_cons {sp : Special} {l : List Special} (h : sp.Tame) (hl : ∀ x ∈ l, x.Tame) : ∀ x ∈ sp :: l, x.Tame := by
  intro x hx; rcases List.mem_cons.mp hx with rfl | hx
  · exact h
  · exact hl x hx
theorem Special.tame_append {l k : List Special} (h : ∀ x ∈ l, x.Tame) (hk : ∀ x ∈ k, x.Tame) : ∀ x ∈ l ++ k, x.Tame := by
  intro x hx; rcases List.mem_append.mp hx with hx | hx
  · exact h x hx
  · exact hk x hx
theorem State.perfPass_keeps {t s : State} (h : Keeps t s) (a1) :
    Keeps t (State.perfPass s a1) := by
  unfold State.perfPass
  repeat' first
    | with_reducible assumption
    | with_reducible apply Keeps.ite
    | with_reducible refine Keeps.foldl (fun _ _ _ => ?_) _ ?_
    | (extract_lets +onlyGivenNames x; clear_value x)
    | simp only [↓Keeps.upd]
theorem State.setRecord_keeps {t s : State} (h : Keeps t s) (a1 a2) :
    Keeps t (State.setRecord s a1 a2) := by
  unfold State.setRecord
  repeat' first
    | with_reducible assumption
    | (extract_lets +onlyGivenNames x; clear_value x)
    | simp only [↓Keeps.upd]
theorem State.set_keeps {t s : State} (h : Keeps t s) (a1 a2 a3) :
    Keeps t (State.set s a1 a2 a3) := by
  unfold State.set
  repeat' first
    | with_reducible assumption
    | with_reducible refine State.setWordAt_keeps ?_ _ _ _ _ _
theorem State.perfEvent_keeps {t s : State} (h : Keeps t s) (a1 a2 a3) :
    Keeps t (State.perfEvent s a1 a2 a3) := by
  unfold State.perfEvent
  repeat' first
    | with_reducible assumption
    | with_reducible apply Keeps.ite
    | (extract_lets +onlyGivenNames x; clear_value x)
    | simp only [↓Keeps.upd]
theorem State.setRing_keeps {t s : State} (h : Keeps t s) (a1 a2) :
    Keeps t (State.setRing s a1 a2) := by
  unfold State.setRing
  repeat' first
    | with_reducible assumption
    | (extract_lets +onlyGivenNames x; clear_value x)
    | simp only [↓Keeps.upd]
theorem State.emit_keeps {t s : State} (h : Keeps t s) (a1) :
    Keeps t (State.emit s a1) := by
  unfold State.emit
  repeat' first
    | with_reducible assumption
    | with_reducible refine State.perfEvent_keeps ?_ _ _ _
    | (extract_lets +onlyGivenNames x; refine (fun (hx : Keeps t x) => ?_) ?_; clear_value x; rotate_left; subst x)
    | simp only [↓Keeps.upd]
    | split
theorem State.ringSignal_keeps {t s : State} (h : Keeps t s) (a1) :
    Keeps t (State.ringSignal s a1) := by
  unfold State.ringSignal
  repeat' first
    | with_reducible assumption
    | with_reducible apply Keeps.ite
    | with_reducible refine State.setRing_keeps ?_ _ _
    | with_reducible refine State.emit_keeps ?_ _
theorem State.ringAdvance_keeps {t s : State} (h : Keeps t s) (a1 a2) :
    Keeps t (State.ringAdvance s a1 a2) := by
  unfold State.ringAdvance
  repeat' first
    | with_reducible assumption
    | with_reducible refine State.perfEvent_keeps ?_ _ _ _
    | with_reducible refine State.set_keeps ?_ _ _ _
    | with_reducible refine State.setRing_keeps ?_ _ _
    | with_reducible refine State.ringSignal_keeps ?_ _
    | with_reducible refine State.emit_keeps ?_ _
theorem State.ringWrite_keeps {t s : State} (h : Keeps t s) (a1 a2) :
    Keeps t (State.ringWrite s a1 a2) := by
  unfold State.ringWrite
  repeat' first
    | with_reducible assumption
    | with_reducible refine State.ringAdvance_keeps ?_ _ _
    | with_reducible refine State.emit_keeps ?_ _
theorem State.ringFlushLoss_keeps {t s : State} (h : Keeps t s) (a1) :
    Keeps t (State.ringFlushLoss s a1) := by
  unfold State.ringFlushLoss
  repeat' first
    | with_reducible assumption
    | with_reducible apply Keeps.ite
    | with_reducible refine State.ringWrite_keeps ?_ _ _
    | with_reducible refine State.setRing_keeps ?_ _ _
    | with_reducible refine Keeps.foldl (fun _ _ _ => ?_) _ ?_
theorem State.corOne_keeps {t s : State} (h : Keeps t s) (a1 a2 a3 a4) :
    Keeps t (State.corOne s a1 a2 a3 a4) := by
  unfold State.corOne
  repeat' first
    | with_reducible assumption
    | with_reducible refine State.setWordAt_keeps ?_ _ _ _ _ _
    | (extract_lets +onlyGivenNames x; refine (fun (hx : Keeps t x) => ?_) ?_; clear_value x; rotate_left; subst x)
    | (extract_lets +onlyGivenNames x; clear_value x)
    | simp only [↓Keeps.upd]
theorem State.corMap_keeps {t s : State} (h : Keeps t s) (a1 a2 a3) :
    Keeps t (State.corMap s a1 a2 a3) := by
  unfold State.corMap
  repeat' first
    | with_reducible assumption
    | with_reducible refine State.corOne_keeps ?_ _ _ _ _
    | with_reducible refine Keeps.foldl (fun _ _ _ => ?_) _ ?_
theorem State.bump_keeps {t s : State} (h : Keeps t s) (a1 a2 a3) :
    Keeps t (State.bump s a1 a2 a3) := by
  unfold State.bump
  repeat' first
    | with_reducible assumption
    | with_reducible refine State.corMap_keeps ?_ _ _ _
theorem State.ringPut_keeps {t s : State} (h : Keeps t s) (a1 a2) :
    Keeps t (State.ringPut s a1 a2) := by
  unfold State.ringPut
  repeat' first
    | with_reducible assumption
    | with_reducible apply Keeps.ite
    | with_reducible refine State.ringFlushLoss_keeps ?_ _
    | with_reducible refine State.ringWrite_keeps ?_ _ _
    | with_reducible refine State.bump_keeps ?_ _ _ _
    | with_reducible refine State.setRing_keeps ?_ _ _
theorem State.event_keeps {t s : State} (h : Keeps t s) (a1 a2) :
    Keeps t (State.event s a1 a2) := by
  unfold State.event
  repeat' first
    | with_reducible assumption
    | with_reducible apply Keeps.ite
    | with_reducible refine State.ringPut_keeps ?_ _ _
    | with_reducible refine State.bump_keeps ?_ _ _ _
    | with_reducible refine State.setRing_keeps ?_ _ _
    | (extract_lets +onlyGivenNames x; clear_value x)
    | simp only [↓Keeps.upd]
theorem State.keyRefused_keeps {t s : State} (h : Keeps t s) (a1 a2) :
    Keeps t (State.keyRefused s a1 a2) := by
  unfold State.keyRefused
  repeat' first
    | with_reducible assumption
    | with_reducible refine State.set_keeps ?_ _ _ _
    | with_reducible refine State.bump_keeps ?_ _ _ _
    | (extract_lets +onlyGivenNames x; refine (fun (hx : Keeps t x) => ?_) ?_; clear_value x; rotate_left; subst x)
    | split
theorem State.cacheSet_keeps {t s : State} (h : Keeps t s) (a1) :
    Keeps t (State.cacheSet s a1) := by
  unfold State.cacheSet
  repeat' first
    | with_reducible assumption
    | with_reducible refine State.set_keeps ?_ _ _ _
    | (extract_lets +onlyGivenNames x; clear_value x)
    | simp only [↓Keeps.upd]
theorem State.cacheFind_keepsO {t s r : State} {k : Nat} {l : Option (List Byte)} {q : List Byte} (e : s.cacheFind k l = some (q, r))
    (h : Keeps t s) : Keeps t r := by
  unfold State.cacheFind at e
  dsimp only at e
  split at e
  · simp only [Option.some.injEq, Prod.mk.injEq] at e
    obtain ⟨_, rfl⟩ := e
    exact State.cacheSet_keeps h _
  · cases e
theorem State.useKey_keeps {t s : State} (h : Keeps t s) (a1 a2) :
    Keeps t (State.useKey s a1 a2).2 := by
  unfold State.useKey
  repeat' first
    | with_reducible assumption
    | with_reducible apply Keeps.ite
    | with_reducible apply Keeps.ite2
    | with_reducible refine State.keyRefused_keeps ?_ _ _
    | with_reducible refine State.bump_keeps ?_ _ _ _
    | with_reducible refine State.perfEvent_keeps ?_ _ _ _
    | with_reducible refine State.cacheFind_keepsO (by assumption) ?_
    | (extract_lets +onlyGivenNames x; refine (fun (hx : Keeps t x) => ?_) ?_; clear_value x; rotate_left; subst x)
    | (extract_lets +onlyGivenNames x)
    | simp only [↓Keeps.upd]
    | split
theorem State.useKey_keepsE {t s r : State} {q} {a1 a2} (e : State.useKey s a1 a2 = (q, r)) (h : Keeps t s) : Keeps t r := by
  have := State.useKey_keeps h a1 a2; rw [e] at this; exact this
theorem State.irlinMessage_keeps {t s : State} (h : Keeps t s) (a1 a2 a3 a4 a5 a6 a7) :
    Keeps t (State.irlinMessage s a1 a2 a3 a4 a5 a6 a7).2 := by
  unfold State.irlinMessage
  repeat' first
    | with_reducible assumption
    | with_reducible refine State.useKey_keepsE (by assumption) ?_
    | simp only [↓Keeps.upd]
    | split
theorem State.irlinMessage_keepsE {t s r : State} {q} {a1 a2 a3 a4 a5 a6 a7} (e : State.irlinMessage s a1 a2 a3 a4 a5 a6 a7 = (q, r)) (h : Keeps t s) : Keeps t r := by
  have := State.irlinMessage_keeps h a1 a2 a3 a4 a5 a6 a7; rw [e] at this; exact this
theorem State.irlinSend_keeps {t s : State} (h : Keeps t s) (a1 a2 a3 a4 a5 a6 a7) :
    Keeps t (State.irlinSend s a1 a2 a3 a4 a5 a6 a7) := by
  unfold State.irlinSend
  repeat' first
    | with_reducible assumption
    | with_reducible refine State.irlinMessage_keepsE (by assumption) ?_
    | with_reducible refine State.emit_keeps ?_ _
    | simp only [↓Keeps.upd]
    | split
theorem State.sendRecord_keeps {t s : State} (h : Keeps t s) (a1 a2) :
    Keeps t (State.sendRecord s a1 a2) := by
  unfold State.sendRecord
  repeat' first
    | with_reducible assumption
    | with_reducible refine State.setRecord_keeps ?_ _ _
    | with_reducible refine State.set_keeps ?_ _ _ _
    | with_reducible refine State.event_keeps ?_ _ _
    | with_reducible refine State.irlinSend_keeps ?_ _ _ _ _ _ _ _
    | with_reducible refine Keeps.foldl (fun _ _ _ => ?_) _ ?_
theorem State.endTick_keeps {t s : State} (h : Keeps t s) :
    Keeps t (State.endTick s) := by
  unfold State.endTick
  repeat' first
    | with_reducible assumption
    | with_reducible refine State.sendRecord_keeps ?_ _ _
    | with_reducible refine State.setRecord_keeps ?_ _ _
    | with_reducible refine Keeps.foldl (fun _ _ _ => ?_) _ ?_
theorem State.runTo_keeps {t s : State} (h : Keeps t s) (a1) :
    Keeps t (State.runTo s a1) := by
  unfold State.runTo
  repeat' first
    | with_reducible assumption
    | with_reducible apply Keeps.ite
    | with_reducible refine State.perfPass_keeps ?_ _
    | with_reducible refine State.endTick_keeps ?_
    | (extract_lets +onlyGivenNames x; refine (fun (hx : Keeps t x) => ?_) ?_; clear_value x; rotate_left; subst x)
    | simp only [↓Keeps.upd]
theorem State.gnssWakes_keeps {t s : State} (h : Keeps t s) :
    Keeps t (State.gnssWakes s) := by
  unfold State.gnssWakes
  repeat' first
    | with_reducible assumption
    | with_reducible apply Keeps.ite
    | with_reducible refine State.set_keeps ?_ _ _ _
    | (extract_lets +onlyGivenNames x; refine (fun (hx : Keeps t x) => ?_) ?_; clear_value x; rotate_left; subst x)
    | (extract_lets +onlyGivenNames x; clear_value x)
    | (extract_lets +onlyGivenNames x)
    | simp only [↓Keeps.upd]
theorem State.setClkout_keeps {t s : State} (h : Keeps t s) (a1 a2) :
    Keeps t (State.setClkout s a1 a2) := by
  unfold State.setClkout
  repeat' first
    | with_reducible assumption
    | (extract_lets +onlyGivenNames x; clear_value x)
    | simp only [↓Keeps.upd]
theorem State.setMdll_keeps {t s : State} (h : Keeps t s) (a1 a2) :
    Keeps t (State.setMdll s a1 a2) := by
  unfold State.setMdll
  repeat' first
    | with_reducible assumption
    | (extract_lets +onlyGivenNames x; clear_value x)
    | simp only [↓Keeps.upd]
theorem State.setLane_keeps {t s : State} (h : Keeps t s) (a1 a2) :
    Keeps t (State.setLane s a1 a2) := by
  unfold State.setLane
  repeat' first
    | with_reducible assumption
    | (extract_lets +onlyGivenNames x; clear_value x)
    | simp only [↓Keeps.upd]
theorem State.laneRealign_keeps {t s : State} (h : Keeps t s) (a1) :
    Keeps t (State.laneRealign s a1) := by
  unfold State.laneRealign
  repeat' first
    | with_reducible assumption
    | with_reducible refine State.setLane_keeps ?_ _ _
theorem State.lanesRealign_keeps {t s : State} (h : Keeps t s) :
    Keeps t (State.lanesRealign s) := by
  unfold State.lanesRealign
  repeat' first
    | with_reducible assumption
    | with_reducible apply Keeps.ite
    | with_reducible refine State.laneRealign_keeps ?_ _
    | with_reducible refine Keeps.foldl (fun _ _ _ => ?_) _ ?_
theorem State.clkRefresh_keeps {t s : State} (h : Keeps t s) (a1) :
    Keeps t (State.clkRefresh s a1) := by
  unfold State.clkRefresh
  repeat' first
    | with_reducible assumption
    | with_reducible apply Keeps.ite
    | with_reducible refine State.set_keeps ?_ _ _ _
theorem State.toBypass_keeps {t s : State} (h : Keeps t s) (a1) :
    Keeps t (State.toBypass s a1) := by
  unfold State.toBypass
  repeat' first
    | with_reducible assumption
    | with_reducible refine State.clkRefresh_keeps ?_ _
    | with_reducible refine State.setClkout_keeps ?_ _ _
theorem State.clkRealign_keeps {t s : State} (h : Keeps t s) (a1) :
    Keeps t (State.clkRealign s a1) := by
  unfold State.clkRealign
  repeat' first
    | with_reducible assumption
    | with_reducible refine State.toBypass_keeps ?_ _
theorem State.toMdll_keeps {t s : State} (h : Keeps t s) (a1) :
    Keeps t (State.toMdll s a1) := by
  unfold State.toMdll
  repeat' first
    | with_reducible assumption
    | with_reducible refine State.clkRefresh_keeps ?_ _
    | with_reducible refine State.setClkout_keeps ?_ _ _
theorem State.clksRealign_keeps {t s : State} (h : Keeps t s) :
    Keeps t (State.clksRealign s) := by
  unfold State.clksRealign
  repeat' first
    | with_reducible assumption
    | with_reducible apply Keeps.ite
    | with_reducible refine State.clkRealign_keeps ?_ _
    | with_reducible refine State.toMdll_keeps ?_ _
    | with_reducible refine Keeps.foldl (fun _ _ _ => ?_) _ ?_
theorem State.synthStep_keeps {t s : State} (h : Keeps t s) (a1 a2) :
    Keeps t (State.synthStep s a1 a2) := by
  unfold State.synthStep
  repeat' first
    | with_reducible assumption
    | with_reducible apply Keeps.ite
    | with_reducible refine State.setClkout_keeps ?_ _ _
    | with_reducible refine State.set_keeps ?_ _ _ _
    | with_reducible refine State.setMdll_keeps ?_ _ _
    | with_reducible refine State.setLane_keeps ?_ _ _
    | with_reducible refine State.lanesRealign_keeps ?_
    | with_reducible refine State.clksRealign_keeps ?_
    | with_reducible refine Keeps.foldl (fun _ _ _ => ?_) _ ?_
theorem State.setPort_keeps {t s : State} (h : Keeps t s) (a1 a2) :
    Keeps t (State.setPort s a1 a2) := by
  unfold State.setPort
  repeat' first
    | with_reducible assumption
    | simp only [↓Keeps.upd]
theorem State.occRefresh_keeps {t s : State} (h : Keeps t s) (a1) :
    Keeps t (State.occRefresh s a1) := by
  unfold State.occRefresh
  repeat' first
    | with_reducible assumption
    | with_reducible refine State.set_keeps ?_ _ _ _
theorem State.occSub_keeps {t s : State} (h : Keeps t s) (a1 a2 a3) :
    Keeps t (State.occSub s a1 a2 a3) := by
  unfold State.occSub
  repeat' first
    | with_reducible assumption
    | with_reducible refine State.occRefresh_keeps ?_ _
    | with_reducible refine State.setPort_keeps ?_ _ _
theorem State.frameTaken_keeps {t s : State} (h : Keeps t s) (a1 a2) :
    Keeps t (State.frameTaken s a1 a2) := by
  unfold State.frameTaken
  repeat' first
    | with_reducible assumption
    | with_reducible apply Keeps.ite
    | with_reducible refine State.setPort_keeps ?_ _ _
    | with_reducible refine State.occSub_keeps ?_ _ _ _
theorem State.frameTake_keeps {t s : State} (h : Keeps t s) (a1 a2 a3) (hf3 : ∀ x0, Keeps t x0 → Keeps t (a3 x0)) :
    Keeps t (State.frameTake s a1 a2 a3) := by
  unfold State.frameTake
  repeat' first
    | with_reducible assumption
    | with_reducible refine State.frameTaken_keeps ?_ _ _
    | with_reducible refine hf3 _ ?_
    | split
theorem State.irlinAuth_keeps {t s : State} (h : Keeps t s) (a1 a2 a3) :
    Keeps t (State.irlinAuth s a1 a2 a3).2 := by
  induction a3 generalizing s with
  | nil => exact h
  | cons x l ih =>
    unfold State.irlinAuth
    repeat' first
      | with_reducible assumption
      | with_reducible apply Keeps.ite2
      | with_reducible refine State.useKey_keepsE (by assumption) ?_
      | with_reducible refine ih ?_
      | (extract_lets +onlyGivenNames x)
      | split
theorem State.irlinAuth_keepsE {t s r : State} {q} {a1 a2 a3} (e : State.irlinAuth s a1 a2 a3 = (q, r)) (h : Keeps t s) : Keeps t r := by
  have := State.irlinAuth_keeps h a1 a2 a3; rw [e] at this; exact this
theorem State.irlinSequence_keepsO {t s r : State} {k a b : Nat} (e : s.irlinSequence k a b = some r)
    (h : Keeps t s) : Keeps t r := by
  unfold State.irlinSequence at e
  split at e
  · cases e
  · split at e
    · simp only [Option.some.injEq] at e
      subst e
      exact State.set_keeps (by simp only [↓Keeps.upd]; exact h) _ _ _
    · cases e
theorem State.ringComplete_keeps {t s : State} (h : Keeps t s) (a1 a2 a3) :
    Keeps t (State.ringComplete s a1 a2 a3) := by
  unfold State.ringComplete
  repeat' first
    | with_reducible assumption
    | with_reducible refine State.emit_keeps ?_ _
    | with_reducible refine State.setRing_keeps ?_ _ _
theorem State.cmdFinish_keeps {t s : State} (h : Keeps t s) (a1 a2 a3) :
    Keeps t (State.cmdFinish s a1 a2 a3) := by
  unfold State.cmdFinish
  repeat' first
    | with_reducible assumption
    | with_reducible apply Keeps.ite
    | with_reducible refine State.bump_keeps ?_ _ _ _
    | with_reducible refine State.emit_keeps ?_ _
    | with_reducible refine State.ringComplete_keeps ?_ _ _ _
    | with_reducible refine State.ringAdvance_keeps ?_ _ _
    | (extract_lets +onlyGivenNames x; refine (fun (hx : Keeps t x) => ?_) ?_; clear_value x; rotate_left; subst x)
    | (extract_lets +onlyGivenNames x; clear_value x)
    | simp only [↓Keeps.upd]
    | split
theorem State.irlinReply_keeps {t s : State} (h : Keeps t s) (a1 a2 a3 a4 a5 a6) :
    Keeps t (State.irlinReply s a1 a2 a3 a4 a5 a6) := by
  unfold State.irlinReply
  repeat' first
    | with_reducible assumption
    | with_reducible refine State.irlinMessage_keepsE (by assumption) ?_
    | with_reducible refine State.cmdFinish_keeps ?_ _ _ _
    | with_reducible refine State.irlinSend_keeps ?_ _ _ _ _ _ _ _
    | split
theorem State.setT96_keeps {t s : State} (h : Keeps t s) (a1 a2 a3) :
    Keeps t (State.setT96 s a1 a2 a3) := by
  unfold State.setT96
  repeat' first
    | with_reducible assumption
    | with_reducible refine State.setWordAt_keeps ?_ _ _ _ _ _
theorem State.sourceRefresh_keeps {t s : State} (h : Keeps t s) (a1) :
    Keeps t (State.sourceRefresh s a1) := by
  unfold State.sourceRefresh
  repeat' first
    | with_reducible assumption
    | with_reducible refine State.set_keeps ?_ _ _ _
theorem State.mergeRecord_keeps {t s : State} (h : Keeps t s) (a1 a2 a3 a4) :
    Keeps t (State.mergeRecord s a1 a2 a3 a4) := by
  unfold State.mergeRecord
  repeat' first
    | with_reducible assumption
    | with_reducible apply Keeps.ite
    | with_reducible refine State.sendRecord_keeps ?_ _ _
    | with_reducible refine State.setRecord_keeps ?_ _ _
theorem State.openRecord_keeps {t s : State} (h : Keeps t s) (a1 a2 a3 a4 a5 a6) :
    Keeps t (State.openRecord s a1 a2 a3 a4 a5 a6) := by
  unfold State.openRecord
  repeat' first
    | with_reducible assumption
    | with_reducible apply Keeps.ite
    | with_reducible refine State.setRecord_keeps ?_ _ _
    | with_reducible refine State.sendRecord_keeps ?_ _ _
theorem State.setFlag_keeps {t s : State} (h : Keeps t s) (a1 a2 a3) :
    Keeps t (State.setFlag s a1 a2 a3) := by
  unfold State.setFlag
  repeat' first
    | with_reducible assumption
    | with_reducible refine State.set_keeps ?_ _ _ _
theorem State.degradeRefresh_keeps {t s : State} (h : Keeps t s) :
    Keeps t (State.degradeRefresh s) := by
  unfold State.degradeRefresh
  repeat' first
    | with_reducible assumption
    | with_reducible refine State.setFlag_keeps ?_ _ _ _
theorem State.attestAccrue_keeps {t s : State} (h : Keeps t s) :
    Keeps t (State.attestAccrue s) := by
  unfold State.attestAccrue
  repeat' first
    | with_reducible assumption
    | (extract_lets +onlyGivenNames x; clear_value x)
    | simp only [↓Keeps.upd]
theorem State.portRefresh_keeps {t s : State} (h : Keeps t s) (a1) :
    Keeps t (State.portRefresh s a1) := by
  unfold State.portRefresh
  repeat' first
    | with_reducible assumption
    | with_reducible refine State.set_keeps ?_ _ _ _
theorem State.launchesSafe_keeps {t s : State} (h : Keeps t s) :
    Keeps t (State.launchesSafe s) := by
  unfold State.launchesSafe
  repeat' first
    | with_reducible assumption
    | with_reducible refine State.emit_keeps ?_ _
    | with_reducible refine State.portRefresh_keeps ?_ _
    | with_reducible refine State.setPort_keeps ?_ _ _
    | with_reducible refine Keeps.foldl (fun _ _ _ => ?_) _ ?_
theorem State.ppsRefresh_keeps {t s : State} (h : Keeps t s) (a1) :
    Keeps t (State.ppsRefresh s a1) := by
  unfold State.ppsRefresh
  repeat' first
    | with_reducible assumption
    | with_reducible refine State.set_keeps ?_ _ _ _
theorem State.setPulse_keeps {t s : State} (h : Keeps t s) (a1 a2) :
    Keeps t (State.setPulse s a1 a2) := by
  unfold State.setPulse
  repeat' first
    | with_reducible assumption
    | (extract_lets +onlyGivenNames x; clear_value x)
    | simp only [↓Keeps.upd]
theorem State.clkTake_keeps {t s : State} (h : Keeps t s) (a1) :
    Keeps t (State.clkTake s a1) := by
  unfold State.clkTake
  repeat' first
    | with_reducible assumption
    | with_reducible refine State.clkRefresh_keeps ?_ _
    | with_reducible refine State.setClkout_keeps ?_ _ _
theorem State.clkDrop_keeps {t s : State} (h : Keeps t s) (a1) :
    Keeps t (State.clkDrop s a1) := by
  unfold State.clkDrop
  repeat' first
    | with_reducible assumption
    | with_reducible refine State.clkTake_keeps ?_ _
    | with_reducible refine State.setClkout_keeps ?_ _ _
theorem State.vcoRefresh_keeps {t s : State} (h : Keeps t s) (a1) :
    Keeps t (State.vcoRefresh s a1) := by
  unfold State.vcoRefresh
  repeat' first
    | with_reducible assumption
    | with_reducible refine State.set_keeps ?_ _ _ _
theorem State.takeReference_keeps {t s : State} (h : Keeps t s) (a1) :
    Keeps t (State.takeReference s a1) := by
  unfold State.takeReference
  repeat' first
    | with_reducible assumption
    | with_reducible refine State.setMdll_keeps ?_ _ _
theorem State.mdllLeave_keeps {t s : State} (h : Keeps t s) (a1 a2) :
    Keeps t (State.mdllLeave s a1 a2) := by
  unfold State.mdllLeave
  repeat' first
    | with_reducible assumption
    | with_reducible apply Keeps.ite
    | with_reducible refine State.setMdll_keeps ?_ _ _
    | with_reducible refine State.set_keeps ?_ _ _ _
    | with_reducible refine State.vcoRefresh_keeps ?_ _
    | with_reducible refine State.toBypass_keeps ?_ _
    | with_reducible refine Keeps.foldl (fun _ _ _ => ?_) _ ?_
    | (extract_lets +onlyGivenNames x; clear_value x)
    | simp only [↓Keeps.upd]
theorem State.acquire_keeps {t s : State} (h : Keeps t s) (a1) :
    Keeps t (State.acquire s a1) := by
  unfold State.acquire
  repeat' first
    | with_reducible assumption
    | with_reducible refine State.mdllLeave_keeps ?_ _ _
theorem State.mdllSettle_keeps {t s : State} (h : Keeps t s) (a1) :
    Keeps t (State.mdllSettle s a1) := by
  unfold State.mdllSettle
  repeat' first
    | with_reducible assumption
    | with_reducible apply Keeps.ite
    | with_reducible refine State.set_keeps ?_ _ _ _
    | with_reducible refine State.setMdll_keeps ?_ _ _
    | with_reducible refine State.toBypass_keeps ?_ _
    | with_reducible refine State.vcoRefresh_keeps ?_ _
    | with_reducible refine State.takeReference_keeps ?_ _
    | with_reducible refine State.clkRefresh_keeps ?_ _
    | with_reducible refine State.acquire_keeps ?_ _
    | with_reducible refine Keeps.foldl (fun _ _ _ => ?_) _ ?_
    | (extract_lets +onlyGivenNames x; refine (fun (hx : Keeps t x) => ?_) ?_; clear_value x; rotate_left; subst x)
    | (extract_lets +onlyGivenNames x; clear_value x)
    | simp only [↓Keeps.upd]
    | split
theorem State.mdllsSettle_keeps {t s : State} (h : Keeps t s) :
    Keeps t (State.mdllsSettle s) := by
  unfold State.mdllsSettle
  repeat' first
    | with_reducible assumption
    | with_reducible refine State.mdllSettle_keeps ?_ _
    | with_reducible refine Keeps.foldl (fun _ _ _ => ?_) _ ?_
theorem State.synthSafe_keeps {t s : State} (h : Keeps t s) :
    Keeps t (State.synthSafe s) := by
  unfold State.synthSafe
  repeat' first
    | with_reducible assumption
    | with_reducible apply Keeps.ite
    | with_reducible refine State.ppsRefresh_keeps ?_ _
    | with_reducible refine State.setPulse_keeps ?_ _ _
    | with_reducible refine State.clkDrop_keeps ?_ _
    | with_reducible refine State.setClkout_keeps ?_ _ _
    | with_reducible refine State.toBypass_keeps ?_ _
    | with_reducible refine State.mdllsSettle_keeps ?_
    | with_reducible refine Keeps.foldl (fun _ _ _ => ?_) _ ?_
theorem State.outputRefresh_keeps {t s : State} (h : Keeps t s) :
    Keeps t (State.outputRefresh s) := by
  unfold State.outputRefresh
  repeat' first
    | with_reducible assumption
    | with_reducible refine State.set_keeps ?_ _ _ _
theorem State.enterSafe_keeps {t s : State} (h : Keeps t s) (a1 a2) :
    Keeps t (State.enterSafe s a1 a2) := by
  unfold State.enterSafe
  repeat' first
    | with_reducible assumption
    | with_reducible apply Keeps.ite
    | with_reducible refine State.attestAccrue_keeps ?_
    | with_reducible refine State.launchesSafe_keeps ?_
    | with_reducible refine State.synthSafe_keeps ?_
    | with_reducible refine State.outputRefresh_keeps ?_
    | with_reducible refine State.set_keeps ?_ _ _ _
    | (extract_lets +onlyGivenNames x; clear_value x)
    | (extract_lets +onlyGivenNames x)
    | simp only [↓Keeps.upd]
theorem State.raiseOne_keeps {t s : State} (h : Keeps t s) (a1 a2 a3 a4) :
    Keeps t (State.raiseOne s a1 a2 a3 a4) := by
  unfold State.raiseOne
  repeat' first
    | with_reducible assumption
    | with_reducible apply Keeps.ite
    | with_reducible refine State.perfEvent_keeps ?_ _ _ _
    | with_reducible refine State.setT96_keeps ?_ _ _ _
    | with_reducible refine State.bump_keeps ?_ _ _ _
    | with_reducible refine State.sourceRefresh_keeps ?_ _
    | with_reducible refine State.mergeRecord_keeps ?_ _ _ _ _
    | with_reducible refine State.openRecord_keeps ?_ _ _ _ _ _ _
    | with_reducible refine State.degradeRefresh_keeps ?_
    | with_reducible refine State.enterSafe_keeps ?_ _ _
    | (extract_lets +onlyGivenNames x; clear_value x)
    | (extract_lets +onlyGivenNames x)
    | simp only [↓Keeps.upd]
    | split
theorem State.lockEvents_keeps {t s : State} (h : Keeps t s) :
    Keeps t (State.lockEvents s) := by
  unfold State.lockEvents
  repeat' first
    | with_reducible assumption
    | with_reducible refine State.raiseOne_keeps ?_ _ _ _ _
    | with_reducible refine Keeps.foldl (fun _ _ _ => ?_) _ ?_
    | (extract_lets +onlyGivenNames x; clear_value x)
    | simp only [↓Keeps.upd]
theorem State.ootEnter_keeps {t s : State} (h : Keeps t s) (a1 a2) :
    Keeps t (State.ootEnter s a1 a2) := by
  unfold State.ootEnter
  repeat' first
    | with_reducible assumption
    | with_reducible refine State.raiseOne_keeps ?_ _ _ _ _
    | with_reducible refine State.bump_keeps ?_ _ _ _
    | (extract_lets +onlyGivenNames x; clear_value x)
    | simp only [↓Keeps.upd]
theorem State.raise_keeps {t s : State} (h : Keeps t s) (a1 a2 a3 a4) :
    Keeps t (State.raise s a1 a2 a3 a4) := by
  unfold State.raise
  repeat' first
    | with_reducible assumption
    | with_reducible apply Keeps.ite
    | with_reducible refine State.lockEvents_keeps ?_
    | with_reducible refine State.raiseOne_keeps ?_ _ _ _ _
    | with_reducible refine State.ootEnter_keeps ?_ _ _
theorem State.refusal_keeps {t s : State} (h : Keeps t s) (a1 a2 a3 a4 a5) :
    Keeps t (State.refusal s a1 a2 a3 a4 a5) := by
  unfold State.refusal
  repeat' first
    | with_reducible assumption
    | with_reducible apply Keeps.ite
    | with_reducible refine State.set_keeps ?_ _ _ _
    | with_reducible refine State.bump_keeps ?_ _ _ _
    | with_reducible refine State.raise_keeps ?_ _ _ _ _
theorem State.corRead_keeps {t s : State} (h : Keeps t s) (a1 a2 a3) :
    Keeps t (State.corRead s a1 a2 a3).2 := by
  unfold State.corRead
  repeat' first
    | with_reducible assumption
    | with_reducible refine State.setWordAt_keeps ?_ _ _ _ _ _
    | (extract_lets +onlyGivenNames x; clear_value x)
    | simp only [↓Keeps.upd]
    | split
theorem State.corRead_keepsE {t s r : State} {q} {a1 a2 a3} (e : State.corRead s a1 a2 a3 = (q, r)) (h : Keeps t s) : Keeps t r := by
  have := State.corRead_keeps h a1 a2 a3; rw [e] at this; exact this
theorem State.noteOut_keeps {t s : State} (h : Keeps t s) (a1) :
    Keeps t (State.noteOut s a1) := by
  unfold State.noteOut
  repeat' first
    | with_reducible assumption
    | (extract_lets +onlyGivenNames x; clear_value x)
    | simp only [↓Keeps.upd]
theorem State.setLatch_keeps {t s : State} (h : Keeps t s) (a1 a2 a3 a4) :
    Keeps t (State.setLatch s a1 a2 a3 a4) := by
  unfold State.setLatch
  repeat' first
    | with_reducible assumption
    | (extract_lets +onlyGivenNames x; clear_value x)
    | simp only [↓Keeps.upd]
theorem State.ledgerAdvance_keeps {t s : State} (h : Keeps t s) (a1) :
    Keeps t (State.ledgerAdvance s a1) := by
  unfold State.ledgerAdvance
  repeat' first
    | with_reducible assumption
    | with_reducible refine State.set_keeps ?_ _ _ _
    | split
theorem State.readWide_keeps {t s : State} (h : Keeps t s) (a1 a2 a3 a4 a5) :
    Keeps t (State.readWide s a1 a2 a3 a4 a5) := by
  unfold State.readWide
  repeat' first
    | with_reducible assumption
    | with_reducible apply Keeps.ite
    | with_reducible refine State.noteOut_keeps ?_ _
    | with_reducible refine State.setLatch_keeps ?_ _ _ _ _
    | with_reducible refine State.ledgerAdvance_keeps ?_ _
theorem State.readPlace_keeps {t s : State} (h : Keeps t s) (a1 a2 a3 a4 a5 a6) :
    Keeps t (State.readPlace s a1 a2 a3 a4 a5 a6).2 := by
  unfold State.readPlace
  repeat' first
    | with_reducible assumption
    | with_reducible apply Keeps.ite
    | with_reducible apply Keeps.ite2
    | with_reducible refine State.corRead_keeps ?_ _ _ _
    | with_reducible refine State.readWide_keeps ?_ _ _ _ _ _
    | with_reducible refine State.bump_keeps ?_ _ _ _
    | (extract_lets +onlyGivenNames x)
    | split
theorem State.readPlace_keepsE {t s r : State} {q} {a1 a2 a3 a4 a5 a6} (e : State.readPlace s a1 a2 a3 a4 a5 a6 = (q, r)) (h : Keeps t s) : Keeps t r := by
  have := State.readPlace_keeps h a1 a2 a3 a4 a5 a6; rw [e] at this; exact this
theorem State.readItem_keeps {t s : State} (h : Keeps t s) (a1 a2 a3) :
    Keeps t (State.readItem s a1 a2 a3).2 := by
  unfold State.readItem
  repeat' first
    | with_reducible assumption
    | with_reducible apply Keeps.ite2
    | with_reducible refine State.perfEvent_keeps ?_ _ _ _
    | with_reducible refine State.refusal_keeps ?_ _ _ _ _ _
    | with_reducible refine State.readPlace_keeps ?_ _ _ _ _ _ _
    | with_reducible refine Keeps.foldl2 (fun _ _ _ => ?_) _ ?_
    | (extract_lets +onlyGivenNames x; refine (fun (hx : Keeps t x) => ?_) ?_; clear_value x; rotate_left; subst x)
    | (extract_lets +onlyGivenNames x; clear_value x)
    | (extract_lets +onlyGivenNames x)
    | simp only [↓Keeps.upd]
    | split
theorem State.readItem_keepsE {t s r : State} {q} {a1 a2 a3} (e : State.readItem s a1 a2 a3 = (q, r)) (h : Keeps t s) : Keeps t r := by
  have := State.readItem_keeps h a1 a2 a3; rw [e] at this; exact this
theorem State.readItems_keeps {t s : State} (h : Keeps t s) (a1 a2 a3) :
    Keeps t (State.readItems s a1 a2 a3).2 := by
  unfold State.readItems
  repeat' first
    | with_reducible assumption
    | with_reducible refine State.readItem_keeps ?_ _ _ _
    | with_reducible refine Keeps.foldl2 (fun _ _ _ => ?_) _ ?_
theorem State.readItems_keepsE {t s r : State} {q} {a1 a2 a3} (e : State.readItems s a1 a2 a3 = (q, r)) (h : Keeps t s) : Keeps t r := by
  have := State.readItems_keeps h a1 a2 a3; rw [e] at this; exact this
theorem State.irlinRead_keeps {t s : State} (h : Keeps t s) (a1 a2 a3 a4 a5) :
    Keeps t (State.irlinRead s a1 a2 a3 a4 a5) := by
  unfold State.irlinRead
  repeat' first
    | with_reducible assumption
    | with_reducible refine State.readItems_keeps ?_ _ _ _
    | with_reducible refine State.irlinReply_keeps ?_ _ _ _ _ _ _
theorem State.termTouch_keeps {t s : State} (h : Keeps t s) :
    Keeps t (State.termTouch s) := by
  unfold State.termTouch
  repeat' first
    | with_reducible assumption
    | with_reducible apply Keeps.ite
    | (extract_lets +onlyGivenNames x; clear_value x)
    | simp only [↓Keeps.upd]
theorem State.setInt_keeps {t s : State} (h : Keeps t s) (a1 a2 a3) :
    Keeps t (State.setInt s a1 a2 a3) := by
  unfold State.setInt
  repeat' first
    | with_reducible assumption
    | with_reducible refine State.setWordAt_keeps ?_ _ _ _ _ _
theorem State.enterHold_keeps {t s : State} (h : Keeps t s) (a1 a2 a3 a4 a5 a6 a7) :
    Keeps t (State.enterHold s a1 a2 a3 a4 a5 a6 a7) := by
  unfold State.enterHold
  repeat' first
    | with_reducible assumption
    | with_reducible refine State.attestAccrue_keeps ?_
    | with_reducible refine State.set_keeps ?_ _ _ _
    | (extract_lets +onlyGivenNames x; clear_value x)
    | simp only [↓Keeps.upd]
theorem State.holdEnter_keeps {t s : State} (h : Keeps t s) (a1 a2) :
    Keeps t (State.holdEnter s a1 a2) := by
  unfold State.holdEnter
  repeat' first
    | with_reducible assumption
    | with_reducible refine State.set_keeps ?_ _ _ _
    | with_reducible refine State.setInt_keeps ?_ _ _ _
    | with_reducible refine State.enterHold_keeps ?_ _ _ _ _ _ _ _
    | (extract_lets +onlyGivenNames x; clear_value x)
    | simp only [↓Keeps.upd]
theorem State.yewRefresh_keeps {t s : State} (h : Keeps t s) :
    Keeps t (State.yewRefresh s) := by
  unfold State.yewRefresh
  repeat' first
    | with_reducible assumption
    | with_reducible refine State.set_keeps ?_ _ _ _
theorem State.ledgerDue_keeps {t s : State} (h : Keeps t s) (a1 a2 a3 a4) :
    Keeps t (State.ledgerDue s a1 a2 a3 a4) := by
  unfold State.ledgerDue
  repeat' first
    | with_reducible assumption
    | (extract_lets +onlyGivenNames x; clear_value x)
    | simp only [↓Keeps.upd]
theorem State.enterManual_keeps {t s : State} (h : Keeps t s) :
    Keeps t (State.enterManual s) := by
  unfold State.enterManual
  repeat' first
    | with_reducible assumption
    | with_reducible apply Keeps.ite
    | with_reducible refine State.set_keeps ?_ _ _ _
    | with_reducible refine State.termTouch_keeps ?_
    | with_reducible refine State.holdEnter_keeps ?_ _ _
    | with_reducible refine State.yewRefresh_keeps ?_
    | with_reducible refine State.ledgerDue_keeps ?_ _ _ _ _
theorem State.trackRefresh_keeps {t s : State} (h : Keeps t s) :
    Keeps t (State.trackRefresh s) := by
  unfold State.trackRefresh
  repeat' first
    | with_reducible assumption
    | with_reducible refine State.set_keeps ?_ _ _ _
    | with_reducible refine State.termTouch_keeps ?_
theorem State.trackClear_keeps {t s : State} (h : Keeps t s) :
    Keeps t (State.trackClear s) := by
  unfold State.trackClear
  repeat' first
    | with_reducible assumption
    | with_reducible refine State.trackRefresh_keeps ?_
    | (extract_lets +onlyGivenNames x; clear_value x)
    | simp only [↓Keeps.upd]
theorem State.yewReport_keeps {t s : State} (h : Keeps t s) :
    Keeps t (State.yewReport s) := by
  unfold State.yewReport
  repeat' first
    | with_reducible assumption
    | with_reducible refine State.setInt_keeps ?_ _ _ _
theorem State.integNote_keeps {t s : State} (h : Keeps t s) (a1 a2) :
    Keeps t (State.integNote s a1 a2) := by
  unfold State.integNote
  repeat' first
    | with_reducible assumption
    | (extract_lets +onlyGivenNames x; clear_value x)
    | simp only [↓Keeps.upd]
theorem State.manualLaw_keeps {t s : State} (h : Keeps t s) (a1) :
    Keeps t (State.manualLaw s a1) := by
  unfold State.manualLaw
  repeat' first
    | with_reducible assumption
    | with_reducible refine State.setInt_keeps ?_ _ _ _
    | (extract_lets +onlyGivenNames x; clear_value x)
    | simp only [↓Keeps.upd]
theorem State.coreRelease_keeps {t s : State} (h : Keeps t s) :
    Keeps t (State.coreRelease s) := by
  unfold State.coreRelease
  repeat' first
    | with_reducible assumption
    | with_reducible apply Keeps.ite
    | with_reducible refine State.set_keeps ?_ _ _ _
    | (extract_lets +onlyGivenNames x; clear_value x)
    | simp only [↓Keeps.upd]
theorem State.requestSlew_keeps {t s : State} (h : Keeps t s) (a1) :
    Keeps t (State.requestSlew s a1) := by
  unfold State.requestSlew
  repeat' first
    | with_reducible assumption
    | (extract_lets +onlyGivenNames x; clear_value x)
    | simp only [↓Keeps.upd]
theorem State.manualExit_keeps {t s : State} (h : Keeps t s) (a1) :
    Keeps t (State.manualExit s a1) := by
  unfold State.manualExit
  repeat' first
    | with_reducible assumption
    | with_reducible refine State.attestAccrue_keeps ?_
    | with_reducible refine State.coreRelease_keeps ?_
    | with_reducible refine State.yewRefresh_keeps ?_
    | with_reducible refine State.ledgerDue_keeps ?_ _ _ _ _
    | with_reducible refine State.requestSlew_keeps ?_ _
    | (extract_lets +onlyGivenNames x; clear_value x)
    | simp only [↓Keeps.upd]
theorem State.setSlot_keeps {t s : State} (h : Keeps t s) (a1 a2) :
    Keeps t (State.setSlot s a1 a2) := by
  unfold State.setSlot
  repeat' first
    | with_reducible assumption
    | (extract_lets +onlyGivenNames x; clear_value x)
    | simp only [↓Keeps.upd]
theorem State.openDis_keeps {t s : State} (h : Keeps t s) (a1) :
    Keeps t (State.openDis s a1) := by
  unfold State.openDis
  repeat' first
    | with_reducible assumption
    | with_reducible refine State.termTouch_keeps ?_
    | (extract_lets +onlyGivenNames x; refine (fun (hx : Keeps t x) => ?_) ?_; clear_value x; rotate_left; subst x)
    | (extract_lets +onlyGivenNames x; clear_value x)
    | simp only [↓Keeps.upd]
theorem State.disRefresh_keeps {t s : State} (h : Keeps t s) :
    Keeps t (State.disRefresh s) := by
  unfold State.disRefresh
  repeat' first
    | with_reducible assumption
    | with_reducible refine State.set_keeps ?_ _ _ _
    | with_reducible refine State.setT96_keeps ?_ _ _ _
    | with_reducible refine Keeps.foldl (fun _ _ _ => ?_) _ ?_
    | (extract_lets +onlyGivenNames x)
    | simp only [↓Keeps.upd]
    | split
theorem State.setCause_keeps {t s : State} (h : Keeps t s) (a1 a2 a3) :
    Keeps t (State.setCause s a1 a2 a3) := by
  unfold State.setCause
  repeat' first
    | with_reducible assumption
    | with_reducible refine State.set_keeps ?_ _ _ _
theorem State.conflictRefresh_keeps {t s : State} (h : Keeps t s) :
    Keeps t (State.conflictRefresh s) := by
  unfold State.conflictRefresh
  repeat' first
    | with_reducible assumption
    | with_reducible refine State.set_keeps ?_ _ _ _
    | with_reducible refine State.disRefresh_keeps ?_
    | with_reducible refine State.setCause_keeps ?_ _ _ _
    | with_reducible refine Keeps.foldl (fun _ _ _ => ?_) _ ?_
theorem State.openConflict_keeps {t s : State} (h : Keeps t s) (a1) :
    Keeps t (State.openConflict s a1) := by
  unfold State.openConflict
  repeat' first
    | with_reducible assumption
    | with_reducible refine State.setSlot_keeps ?_ _ _
    | with_reducible refine State.openDis_keeps ?_ _
    | with_reducible refine State.raise_keeps ?_ _ _ _ _
    | with_reducible refine State.ledgerDue_keeps ?_ _ _ _ _
    | with_reducible refine State.conflictRefresh_keeps ?_
    | (extract_lets +onlyGivenNames x; clear_value x)
    | simp only [↓Keeps.upd]
theorem State.selectWith_keeps {t s : State} (h : Keeps t s) (a1 a2) :
    Keeps t (State.selectWith s a1 a2) := by
  induction a2 generalizing s with
  | zero => exact h
  | succ n ih =>
    unfold State.selectWith
    repeat' first
      | with_reducible assumption
      | with_reducible apply Keeps.ite
      | with_reducible refine State.openConflict_keeps ?_ _
      | with_reducible refine State.coreRelease_keeps ?_
      | with_reducible refine ih ?_
      | (extract_lets +onlyGivenNames x; clear_value x)
      | simp only [↓Keeps.upd]
theorem State.decide'_keeps {t s : State} (h : Keeps t s) (a1) :
    Keeps t (State.decide' s a1) := by
  unfold State.decide'
  repeat' first
    | with_reducible assumption
    | (extract_lets +onlyGivenNames x; clear_value x)
    | simp only [↓Keeps.upd]
theorem State.tickBase_keeps {t s : State} (h : Keeps t s) :
    Keeps t (State.tickBase s) := by
  unfold State.tickBase
  repeat' first
    | with_reducible assumption
    | with_reducible apply Keeps.ite
    | with_reducible refine State.decide'_keeps ?_ _
    | (extract_lets +onlyGivenNames x; clear_value x)
    | (extract_lets +onlyGivenNames x)
    | simp only [↓Keeps.upd]
    | split
theorem State.select_keeps {t s : State} (h : Keeps t s) (a1) :
    Keeps t (State.select s a1) := by
  unfold State.select
  repeat' first
    | with_reducible assumption
    | with_reducible refine State.selectWith_keeps ?_ _ _
    | with_reducible refine State.tickBase_keeps ?_
theorem State.leaveManual_keeps {t s : State} (h : Keeps t s) :
    Keeps t (State.leaveManual s) := by
  unfold State.leaveManual
  repeat' first
    | with_reducible assumption
    | with_reducible apply Keeps.ite
    | with_reducible refine State.ledgerDue_keeps ?_ _ _ _ _
    | with_reducible refine State.set_keeps ?_ _ _ _
    | with_reducible refine State.termTouch_keeps ?_
    | with_reducible refine State.trackClear_keeps ?_
    | with_reducible refine State.yewReport_keeps ?_
    | with_reducible refine State.integNote_keeps ?_ _ _
    | with_reducible refine State.yewRefresh_keeps ?_
    | with_reducible refine State.manualLaw_keeps ?_ _
    | with_reducible refine State.manualExit_keeps ?_ _
    | with_reducible refine State.select_keeps ?_ _
    | with_reducible refine State.openConflict_keeps ?_ _
    | (extract_lets +onlyGivenNames x; clear_value x)
    | simp only [↓Keeps.upd]
theorem spPrivetMode_tame : Special.Tame (spPrivetMode) := by
  refine ⟨fun {t s} c h => ?_, fun {t s} code c h => ?_⟩ <;> unfold spPrivetMode <;> dsimp -zeta only
  all_goals
    repeat' first
      | with_reducible assumption
      | with_reducible apply Keeps.ite
      | with_reducible refine State.enterManual_keeps ?_
      | with_reducible refine State.leaveManual_keeps ?_
theorem spIncrNs_tame : Special.Tame (spIncrNs) := by
  refine ⟨fun {t s} c h => ?_, fun {t s} code c h => ?_⟩ <;> unfold spIncrNs <;> dsimp -zeta only
  all_goals
    repeat' first
      | with_reducible assumption
      | (extract_lets +onlyGivenNames x; clear_value x)
      | simp only [↓Keeps.upd]
theorem spIncrFrac_tame : Special.Tame (spIncrFrac) := by
  refine ⟨fun {t s} c h => ?_, fun {t s} code c h => ?_⟩ <;> unfold spIncrFrac <;> dsimp -zeta only
  all_goals
    repeat' first
      | with_reducible assumption
      | (extract_lets +onlyGivenNames x; clear_value x)
      | simp only [↓Keeps.upd]
theorem spSlewCmd_tame : Special.Tame (spSlewCmd) := by
  refine ⟨fun {t s} c h => ?_, fun {t s} code c h => ?_⟩ <;> unfold spSlewCmd <;> dsimp -zeta only
  all_goals
    repeat' first
      | with_reducible assumption
      | with_reducible refine State.requestSlew_keeps ?_ _
theorem State.acceptStep_keeps {t s : State} (h : Keeps t s) (a1 a2) :
    Keeps t (State.acceptStep s a1 a2) := by
  unfold State.acceptStep
  repeat' first
    | with_reducible assumption
    | with_reducible apply Keeps.ite
    | with_reducible refine State.set_keeps ?_ _ _ _
    | (extract_lets +onlyGivenNames x)
    | simp only [↓Keeps.upd]
theorem State.stepRefused_keeps {t s : State} (h : Keeps t s) (a1) :
    Keeps t (State.stepRefused s a1) := by
  unfold State.stepRefused
  repeat' first
    | with_reducible assumption
    | with_reducible apply Keeps.ite
    | with_reducible refine State.raise_keeps ?_ _ _ _ _
    | with_reducible refine State.bump_keeps ?_ _ _ _
theorem spStepCmd_tame : Special.Tame (spStepCmd) := by
  refine ⟨fun {t s} c h => ?_, fun {t s} code c h => ?_⟩ <;> unfold spStepCmd <;> dsimp -zeta only
  all_goals
    repeat' first
      | with_reducible assumption
      | with_reducible refine State.acceptStep_keeps ?_ _ _
      | with_reducible refine State.stepRefused_keeps ?_ _
theorem spStepPermit_tame : Special.Tame (spStepPermit) := by
  refine ⟨fun {t s} c h => ?_, fun {t s} code c h => ?_⟩ <;> unfold spStepPermit <;> dsimp -zeta only
  all_goals
    repeat' first
      | with_reducible assumption
      | with_reducible refine State.set_keeps ?_ _ _ _
      | (extract_lets +onlyGivenNames x; clear_value x)
      | simp only [↓Keeps.upd]
theorem State.setWords_keeps {t s : State} (h : Keeps t s) (a1 a2 a3) :
    Keeps t (State.setWords s a1 a2 a3) := by
  unfold State.setWords
  repeat' first
    | with_reducible assumption
    | with_reducible refine State.setWordAt_keeps ?_ _ _ _ _ _
    | with_reducible refine Keeps.foldl (fun _ _ _ => ?_) _ ?_
theorem spInitTime_tame : Special.Tame (spInitTime) := by
  refine ⟨fun {t s} c h => ?_, fun {t s} code c h => ?_⟩ <;> unfold spInitTime <;> dsimp -zeta only
  all_goals
    repeat' first
      | with_reducible assumption
      | with_reducible refine State.acceptStep_keeps ?_ _ _
      | with_reducible refine State.setWords_keeps ?_ _ _ _
      | (extract_lets +onlyGivenNames x; refine (fun (hx : Keeps t x) => ?_) ?_; clear_value x; rotate_left; subst x)
      | (extract_lets +onlyGivenNames x; clear_value x)
      | simp only [↓Keeps.upd]
theorem State.leapRefresh_keeps {t s : State} (h : Keeps t s) :
    Keeps t (State.leapRefresh s) := by
  unfold State.leapRefresh
  repeat' first
    | with_reducible assumption
    | with_reducible refine State.set_keeps ?_ _ _ _
theorem spTaiUtc_tame : Special.Tame (spTaiUtc) := by
  refine ⟨fun {t s} c h => ?_, fun {t s} code c h => ?_⟩ <;> unfold spTaiUtc <;> dsimp -zeta only
  all_goals
    repeat' first
      | with_reducible assumption
      | with_reducible refine State.leapRefresh_keeps ?_
      | with_reducible refine State.setInt_keeps ?_ _ _ _
theorem spLeapNotice_tame : Special.Tame (spLeapNotice) := by
  refine ⟨fun {t s} c h => ?_, fun {t s} code c h => ?_⟩ <;> unfold spLeapNotice <;> dsimp -zeta only
  all_goals
    repeat' first
      | with_reducible assumption
      | with_reducible refine State.leapRefresh_keeps ?_
      | with_reducible refine State.set_keeps ?_ _ _ _
theorem State.leapFree_keeps {t s : State} (h : Keeps t s) (a1) :
    Keeps t (State.leapFree s a1) := by
  unfold State.leapFree
  repeat' first
    | with_reducible assumption
    | with_reducible refine State.set_keeps ?_ _ _ _
    | with_reducible refine State.leapRefresh_keeps ?_
    | (extract_lets +onlyGivenNames x; clear_value x)
    | simp only [↓Keeps.upd]
theorem State.leapSet_keeps {t s : State} (h : Keeps t s) (a1 a2 a3 a4) :
    Keeps t (State.leapSet s a1 a2 a3 a4) := by
  unfold State.leapSet
  repeat' first
    | with_reducible assumption
    | with_reducible refine State.set_keeps ?_ _ _ _
    | with_reducible refine State.setInt_keeps ?_ _ _ _
    | with_reducible refine State.leapRefresh_keeps ?_
    | (extract_lets +onlyGivenNames x; clear_value x)
    | simp only [↓Keeps.upd]
theorem spLeapTai_tame : Special.Tame (spLeapTai) := by
  refine ⟨fun {t s} c h => ?_, fun {t s} code c h => ?_⟩ <;> unfold spLeapTai <;> dsimp -zeta only
  all_goals
    repeat' first
      | with_reducible assumption
      | with_reducible apply Keeps.ite
      | with_reducible refine State.leapFree_keeps ?_ _
      | with_reducible refine State.leapSet_keeps ?_ _ _ _ _
theorem spLeapOffset_tame : Special.Tame (spLeapOffset) := by
  refine ⟨fun {t s} c h => ?_, fun {t s} code c h => ?_⟩ <;> unfold spLeapOffset <;> dsimp -zeta only
  all_goals
    repeat' first
      | with_reducible assumption
      | with_reducible refine State.setWords_keeps ?_ _ _ _
theorem State.smearChange_keeps {t s : State} (h : Keeps t s) :
    Keeps t (State.smearChange s) := by
  unfold State.smearChange
  repeat' first
    | with_reducible assumption
    | with_reducible apply Keeps.ite
    | (extract_lets +onlyGivenNames x; clear_value x)
    | simp only [↓Keeps.upd]
theorem spSmearEnable_tame : Special.Tame (spSmearEnable) := by
  refine ⟨fun {t s} c h => ?_, fun {t s} code c h => ?_⟩ <;> unfold spSmearEnable <;> dsimp -zeta only
  all_goals
    repeat' first
      | with_reducible assumption
      | with_reducible refine State.set_keeps ?_ _ _ _
      | with_reducible refine State.smearChange_keeps ?_
theorem spSmearWindow_tame : Special.Tame (spSmearWindow) := by
  refine ⟨fun {t s} c h => ?_, fun {t s} code c h => ?_⟩ <;> unfold spSmearWindow <;> dsimp -zeta only
  all_goals
    repeat' first
      | with_reducible assumption
      | with_reducible refine State.set_keeps ?_ _ _ _
      | with_reducible refine State.smearChange_keeps ?_
theorem State.setArmed_keeps {t s : State} (h : Keeps t s) (a1 a2) :
    Keeps t (State.setArmed s a1 a2) := by
  unfold State.setArmed
  repeat' first
    | with_reducible assumption
    | simp only [↓Keeps.upd]
theorem spSchedArm_tame : Special.Tame (spSchedArm) := by
  refine ⟨fun {t s} c h => ?_, fun {t s} code c h => ?_⟩ <;> unfold spSchedArm <;> dsimp -zeta only
  all_goals
    repeat' first
      | with_reducible assumption
      | with_reducible apply Keeps.ite
      | with_reducible refine State.set_keeps ?_ _ _ _
      | with_reducible refine State.setArmed_keeps ?_ _ _
theorem privetSpecials_tame : ∀ sp ∈ privetSpecials, Special.Tame sp := by
  unfold privetSpecials
  repeat' first
    | exact Special.tame_nil
    | with_reducible refine Special.tame_cons spPrivetMode_tame ?_
    | with_reducible refine Special.tame_cons spIncrNs_tame ?_
    | with_reducible refine Special.tame_cons spIncrFrac_tame ?_
    | with_reducible refine Special.tame_cons spSlewCmd_tame ?_
    | with_reducible refine Special.tame_cons spStepCmd_tame ?_
    | with_reducible refine Special.tame_cons spStepPermit_tame ?_
    | with_reducible refine Special.tame_cons spInitTime_tame ?_
    | with_reducible refine Special.tame_cons spTaiUtc_tame ?_
    | with_reducible refine Special.tame_cons spLeapNotice_tame ?_
    | with_reducible refine Special.tame_cons spLeapTai_tame ?_
    | with_reducible refine Special.tame_cons spLeapOffset_tame ?_
    | with_reducible refine Special.tame_cons spSmearEnable_tame ?_
    | with_reducible refine Special.tame_cons spSmearWindow_tame ?_
    | with_reducible refine Special.tame_cons spSchedArm_tame ?_
theorem State.termsRefresh_keeps {t s : State} (h : Keeps t s) (a1) :
    Keeps t (State.termsRefresh s a1) := by
  unfold State.termsRefresh
  repeat' first
    | with_reducible assumption
    | with_reducible refine State.termTouch_keeps ?_
    | with_reducible refine State.set_keeps ?_ _ _ _
theorem spBrefConfig_tame : Special.Tame (spBrefConfig) := by
  refine ⟨fun {t s} c h => ?_, fun {t s} code c h => ?_⟩ <;> unfold spBrefConfig <;> dsimp -zeta only
  all_goals
    repeat' first
      | with_reducible assumption
      | with_reducible refine State.termsRefresh_keeps ?_ _
      | with_reducible refine State.set_keeps ?_ _ _ _
      | with_reducible refine State.termTouch_keeps ?_
theorem spBmeasCal_tame : Special.Tame (spBmeasCal) := by
  refine ⟨fun {t s} c h => ?_, fun {t s} code c h => ?_⟩ <;> unfold spBmeasCal <;> dsimp -zeta only
  all_goals
    repeat' first
      | with_reducible assumption
      | with_reducible refine State.termsRefresh_keeps ?_ _
      | with_reducible refine State.set_keeps ?_ _ _ _
      | with_reducible refine State.termTouch_keeps ?_
theorem spBasym_tame : Special.Tame (spBasym) := by
  refine ⟨fun {t s} c h => ?_, fun {t s} code c h => ?_⟩ <;> unfold spBasym <;> dsimp -zeta only
  all_goals
    repeat' first
      | with_reducible assumption
      | with_reducible refine State.set_keeps ?_ _ _ _
      | with_reducible refine State.termTouch_keeps ?_
theorem State.raiseHold_keeps {t s : State} (h : Keeps t s) (a1 a2 a3 a4) :
    Keeps t (State.raiseHold s a1 a2 a3 a4) := by
  unfold State.raiseHold
  repeat' first
    | with_reducible assumption
    | with_reducible refine State.termTouch_keeps ?_
    | (extract_lets +onlyGivenNames x; refine (fun (hx : Keeps t x) => ?_) ?_; clear_value x; rotate_left; subst x)
    | (extract_lets +onlyGivenNames x; clear_value x)
    | simp only [↓Keeps.upd]
    | split
theorem spHoldK_tame : Special.Tame (spHoldK) := by
  refine ⟨fun {t s} c h => ?_, fun {t s} code c h => ?_⟩ <;> unfold spHoldK <;> dsimp -zeta only
  all_goals
    repeat' first
      | with_reducible assumption
      | with_reducible refine State.set_keeps ?_ _ _ _
      | with_reducible refine State.raiseHold_keeps ?_ _ _ _ _
      | (extract_lets +onlyGivenNames x; refine (fun (hx : Keeps t x) => ?_) ?_; clear_value x; rotate_left; subst x)
      | split
theorem spServiceLimit_tame : Special.Tame (spServiceLimit) := by
  refine ⟨fun {t s} c h => ?_, fun {t s} code c h => ?_⟩ <;> unfold spServiceLimit <;> dsimp -zeta only
  all_goals
    repeat' first
      | with_reducible assumption
      | with_reducible apply Keeps.ite
      | with_reducible refine State.ledgerDue_keeps ?_ _ _ _ _
      | with_reducible refine State.set_keeps ?_ _ _ _
theorem boundSpecials_tame : ∀ sp ∈ boundSpecials, Special.Tame sp := by
  unfold boundSpecials
  repeat' first
    | exact Special.tame_nil
    | with_reducible refine Special.tame_cons spBrefConfig_tame ?_
    | with_reducible refine Special.tame_cons spBmeasCal_tame ?_
    | with_reducible refine Special.tame_cons spBasym_tame ?_
    | with_reducible refine Special.tame_cons spHoldK_tame ?_
    | with_reducible refine Special.tame_cons spServiceLimit_tame ?_
theorem spRefSource_tame : Special.Tame (spRefSource) := by
  refine ⟨fun {t s} c h => ?_, fun {t s} code c h => ?_⟩ <;> unfold spRefSource <;> dsimp -zeta only
  all_goals
    repeat' first
      | with_reducible assumption
      | with_reducible refine State.termsRefresh_keeps ?_ _
      | with_reducible refine State.set_keeps ?_ _ _ _
theorem spRefType_tame : Special.Tame (spRefType) := by
  refine ⟨fun {t s} c h => ?_, fun {t s} code c h => ?_⟩ <;> unfold spRefType <;> dsimp -zeta only
  all_goals
    repeat' first
      | with_reducible assumption
      | with_reducible refine State.set_keeps ?_ _ _ _
      | with_reducible refine State.termsRefresh_keeps ?_ _
theorem State.qlRefresh_keeps {t s : State} (h : Keeps t s) (a1) :
    Keeps t (State.qlRefresh s a1) := by
  unfold State.qlRefresh
  repeat' first
    | with_reducible assumption
    | with_reducible refine State.setCause_keeps ?_ _ _ _
    | with_reducible refine State.set_keeps ?_ _ _ _
theorem State.slotFresh_keeps {t s : State} (h : Keeps t s) (a1) :
    Keeps t (State.slotFresh s a1) := by
  unfold State.slotFresh
  repeat' first
    | with_reducible assumption
    | with_reducible refine State.set_keeps ?_ _ _ _
    | with_reducible refine State.setSlot_keeps ?_ _ _
    | with_reducible refine State.qlRefresh_keeps ?_ _
theorem State.slotQualify_keeps {t s : State} (h : Keeps t s) (a1) :
    Keeps t (State.slotQualify s a1) := by
  unfold State.slotQualify
  repeat' first
    | with_reducible assumption
    | with_reducible refine State.setSlot_keeps ?_ _ _
    | with_reducible refine State.set_keeps ?_ _ _ _
theorem State.closeDis_keeps {t s : State} (h : Keeps t s) (a1 a2 a3) :
    Keeps t (State.closeDis s a1 a2 a3) := by
  unfold State.closeDis
  repeat' first
    | with_reducible assumption
    | with_reducible refine State.termTouch_keeps ?_
    | (extract_lets +onlyGivenNames x; refine (fun (hx : Keeps t x) => ?_) ?_; clear_value x; rotate_left; subst x)
    | (extract_lets +onlyGivenNames x; clear_value x)
    | simp only [↓Keeps.upd]
theorem State.slotFail_keeps {t s : State} (h : Keeps t s) (a1) :
    Keeps t (State.slotFail s a1) := by
  unfold State.slotFail
  repeat' first
    | with_reducible assumption
    | with_reducible apply Keeps.ite
    | with_reducible refine State.bump_keeps ?_ _ _ _
    | with_reducible refine State.set_keeps ?_ _ _ _
    | with_reducible refine State.setSlot_keeps ?_ _ _
    | with_reducible refine State.termsRefresh_keeps ?_ _
theorem State.slotStep_keeps {t s : State} (h : Keeps t s) (a1) :
    Keeps t (State.slotStep s a1) := by
  unfold State.slotStep
  repeat' first
    | with_reducible assumption
    | with_reducible apply Keeps.ite
    | with_reducible refine State.slotFail_keeps ?_ _
    | with_reducible refine State.setSlot_keeps ?_ _ _
    | with_reducible refine State.set_keeps ?_ _ _ _
    | with_reducible refine State.slotQualify_keeps ?_ _
    | (extract_lets +onlyGivenNames x; clear_value x)
    | split
theorem State.closePair_keeps {t s : State} (h : Keeps t s) (a1) :
    Keeps t (State.closePair s a1) := by
  unfold State.closePair
  repeat' first
    | with_reducible assumption
    | with_reducible apply Keeps.ite
    | with_reducible refine State.disRefresh_keeps ?_
    | with_reducible refine State.closeDis_keeps ?_ _ _ _
    | with_reducible refine State.ledgerDue_keeps ?_ _ _ _ _
    | with_reducible refine State.slotStep_keeps ?_ _
    | with_reducible refine State.setCause_keeps ?_ _ _ _
    | (extract_lets +onlyGivenNames x; refine (fun (hx : Keeps t x) => ?_) ?_; clear_value x; rotate_left; subst x)
    | (extract_lets +onlyGivenNames x; clear_value x)
    | simp only [↓Keeps.upd]
    | split
theorem State.pairsSettle_keeps {t s : State} (h : Keeps t s) :
    Keeps t (State.pairsSettle s) := by
  unfold State.pairsSettle
  repeat' first
    | with_reducible assumption
    | with_reducible refine State.closePair_keeps ?_ _
    | with_reducible refine Keeps.foldl (fun _ _ _ => ?_) _ ?_
theorem State.transitions_keeps {t s : State} (h : Keeps t s) :
    Keeps t (State.transitions s) := by
  unfold State.transitions
  repeat' first
    | with_reducible assumption
    | with_reducible refine State.pairsSettle_keeps ?_
    | with_reducible refine State.slotStep_keeps ?_ _
    | with_reducible refine Keeps.foldl (fun _ _ _ => ?_) _ ?_
theorem State.settle_keeps {t s : State} (h : Keeps t s) (a1) :
    Keeps t (State.settle s a1) := by
  unfold State.settle
  repeat' first
    | with_reducible assumption
    | with_reducible apply Keeps.ite
    | with_reducible refine State.transitions_keeps ?_
    | with_reducible refine State.select_keeps ?_ _
theorem spRefEnable_tame : Special.Tame (spRefEnable) := by
  refine ⟨fun {t s} c h => ?_, fun {t s} code c h => ?_⟩ <;> unfold spRefEnable <;> dsimp -zeta only
  all_goals
    repeat' first
      | with_reducible assumption
      | with_reducible apply Keeps.ite
      | with_reducible refine State.setCause_keeps ?_ _ _ _
      | with_reducible refine State.set_keeps ?_ _ _ _
      | with_reducible refine State.slotFresh_keeps ?_ _
      | with_reducible refine State.slotQualify_keeps ?_ _
      | with_reducible refine State.settle_keeps ?_ _
      | with_reducible refine State.termsRefresh_keeps ?_ _
      | (extract_lets +onlyGivenNames x)
      | split
theorem State.requality_keeps {t s : State} (h : Keeps t s) (a1) :
    Keeps t (State.requality s a1) := by
  unfold State.requality
  repeat' first
    | with_reducible assumption
    | with_reducible apply Keeps.ite
    | with_reducible refine State.qlRefresh_keeps ?_ _
    | with_reducible refine State.settle_keeps ?_ _
theorem spRefQlSource_tame : Special.Tame (spRefQlSource) := by
  refine ⟨fun {t s} c h => ?_, fun {t s} code c h => ?_⟩ <;> unfold spRefQlSource <;> dsimp -zeta only
  all_goals
    repeat' first
      | with_reducible assumption
      | with_reducible refine State.requality_keeps ?_ _
      | with_reducible refine State.set_keeps ?_ _ _ _
theorem spRefQlConfig_tame : Special.Tame (spRefQlConfig) := by
  refine ⟨fun {t s} c h => ?_, fun {t s} code c h => ?_⟩ <;> unfold spRefQlConfig <;> dsimp -zeta only
  all_goals
    repeat' first
      | with_reducible assumption
      | with_reducible refine State.requality_keeps ?_ _
      | with_reducible refine State.set_keeps ?_ _ _ _
theorem spRefEsmcPort_tame : Special.Tame (spRefEsmcPort) := by
  refine ⟨fun {t s} c h => ?_, fun {t s} code c h => ?_⟩ <;> unfold spRefEsmcPort <;> dsimp -zeta only
  all_goals
    repeat' first
      | with_reducible assumption
      | with_reducible refine State.requality_keeps ?_ _
      | with_reducible refine State.set_keeps ?_ _ _ _
theorem spTodEnable_tame : Special.Tame (spTodEnable) := by
  refine ⟨fun {t s} c h => ?_, fun {t s} code c h => ?_⟩ <;> unfold spTodEnable <;> dsimp -zeta only
  all_goals
    repeat' first
      | with_reducible assumption
      | with_reducible apply Keeps.ite
      | with_reducible refine State.setCause_keeps ?_ _ _ _
      | with_reducible refine State.setSlot_keeps ?_ _ _
      | with_reducible refine State.set_keeps ?_ _ _ _
      | with_reducible refine State.requality_keeps ?_ _
theorem spHbPreferred_tame : Special.Tame (spHbPreferred) := by
  refine ⟨fun {t s} c h => ?_, fun {t s} code c h => ?_⟩ <;> unfold spHbPreferred <;> dsimp -zeta only
  all_goals
    repeat' first
      | with_reducible assumption
      | with_reducible refine State.select_keeps ?_ _
      | with_reducible refine State.set_keeps ?_ _ _ _
      | with_reducible refine State.decide'_keeps ?_ _
theorem State.setOct_keeps {t s : State} (h : Keeps t s) (a1 a2 a3) :
    Keeps t (State.setOct s a1 a2 a3) := by
  unfold State.setOct
  repeat' first
    | with_reducible assumption
    | with_reducible refine State.setWords_keeps ?_ _ _ _
theorem State.ledgerAdd_keeps {t s : State} (h : Keeps t s) (a1 a2 a3 a4 a5 a6 a7) :
    Keeps t (State.ledgerAdd s a1 a2 a3 a4 a5 a6 a7) := by
  unfold State.ledgerAdd
  repeat' first
    | with_reducible assumption
    | with_reducible apply Keeps.ite
    | with_reducible refine State.set_keeps ?_ _ _ _
    | with_reducible refine State.bump_keeps ?_ _ _ _
    | with_reducible refine State.setOct_keeps ?_ _ _ _
    | (extract_lets +onlyGivenNames x; clear_value x)
    | simp only [↓Keeps.upd]
theorem State.ppsRefreshAll_keeps {t s : State} (h : Keeps t s) :
    Keeps t (State.ppsRefreshAll s) := by
  unfold State.ppsRefreshAll
  repeat' first
    | with_reducible assumption
    | with_reducible refine State.ppsRefresh_keeps ?_ _
    | with_reducible refine Keeps.foldl (fun _ _ _ => ?_) _ ?_
theorem State.synthReturn_keeps {t s : State} (h : Keeps t s) :
    Keeps t (State.synthReturn s) := by
  unfold State.synthReturn
  repeat' first
    | with_reducible assumption
    | with_reducible apply Keeps.ite
    | with_reducible refine State.setPulse_keeps ?_ _ _
    | with_reducible refine State.ppsRefreshAll_keeps ?_
    | with_reducible refine State.setClkout_keeps ?_ _ _
    | with_reducible refine State.toMdll_keeps ?_ _
    | with_reducible refine State.clkRefresh_keeps ?_ _
    | with_reducible refine State.laneRealign_keeps ?_ _
    | with_reducible refine Keeps.foldl (fun _ _ _ => ?_) _ ?_
theorem State.requalifyAll_keeps {t s : State} (h : Keeps t s) :
    Keeps t (State.requalifyAll s) := by
  unfold State.requalifyAll
  repeat' first
    | with_reducible assumption
    | with_reducible apply Keeps.ite
    | with_reducible refine State.set_keeps ?_ _ _ _
    | with_reducible refine Keeps.foldl (fun _ _ _ => ?_) _ ?_
    | (extract_lets +onlyGivenNames x; clear_value x)
    | simp only [↓Keeps.upd]
theorem State.leaveSafe_keeps {t s : State} (h : Keeps t s) (a1) :
    Keeps t (State.leaveSafe s a1) := by
  unfold State.leaveSafe
  repeat' first
    | with_reducible assumption
    | with_reducible apply Keeps.ite
    | with_reducible refine State.set_keeps ?_ _ _ _
    | with_reducible refine State.outputRefresh_keeps ?_
    | with_reducible refine State.ledgerAdd_keeps ?_ _ _ _ _ _ _ _
    | with_reducible refine State.synthReturn_keeps ?_
    | with_reducible refine State.requalifyAll_keeps ?_
    | (extract_lets +onlyGivenNames x; clear_value x)
    | simp only [↓Keeps.upd]
theorem State.clearRecord_keeps {t s : State} (h : Keeps t s) (a1) :
    Keeps t (State.clearRecord s a1) := by
  unfold State.clearRecord
  repeat' first
    | with_reducible assumption
    | with_reducible refine State.sendRecord_keeps ?_ _ _
    | with_reducible refine State.setRecord_keeps ?_ _ _
    | with_reducible refine State.leaveSafe_keeps ?_ _
    | with_reducible refine State.degradeRefresh_keeps ?_
theorem State.deassert_keeps {t s : State} (h : Keeps t s) (a1) :
    Keeps t (State.deassert s a1) := by
  unfold State.deassert
  repeat' first
    | with_reducible assumption
    | with_reducible apply Keeps.ite
    | with_reducible refine State.sourceRefresh_keeps ?_ _
    | with_reducible refine State.clearRecord_keeps ?_ _
    | with_reducible refine State.leaveSafe_keeps ?_ _
    | with_reducible refine Keeps.foldl (fun _ _ _ => ?_) _ ?_
    | (extract_lets +onlyGivenNames x; clear_value x)
    | simp only [↓Keeps.upd]
theorem State.closeConflict_keeps {t s : State} (h : Keeps t s) (a1 a2) :
    Keeps t (State.closeConflict s a1 a2) := by
  unfold State.closeConflict
  repeat' first
    | with_reducible assumption
    | with_reducible apply Keeps.ite
    | with_reducible refine State.closeDis_keeps ?_ _ _ _
    | with_reducible refine State.conflictRefresh_keeps ?_
    | with_reducible refine State.setSlot_keeps ?_ _ _
    | with_reducible refine State.ledgerDue_keeps ?_ _ _ _ _
    | with_reducible refine State.deassert_keeps ?_ _
theorem spConflictCmd_tame : Special.Tame (spConflictCmd) := by
  refine ⟨fun {t s} c h => ?_, fun {t s} code c h => ?_⟩ <;> unfold spConflictCmd <;> dsimp -zeta only
  all_goals
    repeat' first
      | with_reducible assumption
      | with_reducible apply Keeps.ite
      | with_reducible refine State.decide'_keeps ?_ _
      | with_reducible refine State.closeConflict_keeps ?_ _ _
      | with_reducible refine State.coreRelease_keeps ?_
      | with_reducible refine State.acceptStep_keeps ?_ _ _
      | with_reducible refine State.slotFail_keeps ?_ _
      | with_reducible refine State.setCause_keeps ?_ _ _ _
      | with_reducible refine State.settle_keeps ?_ _
      | with_reducible refine State.stepRefused_keeps ?_ _
      | (extract_lets +onlyGivenNames x; refine (fun (hx : Keeps t x) => ?_) ?_; clear_value x; rotate_left; subst x)
      | (extract_lets +onlyGivenNames x; clear_value x)
      | split
theorem hornbeamSpecials_tame : ∀ sp ∈ hornbeamSpecials, Special.Tame sp := by
  unfold hornbeamSpecials
  repeat' first
    | exact Special.tame_nil
    | with_reducible refine Special.tame_cons spRefSource_tame ?_
    | with_reducible refine Special.tame_cons spRefType_tame ?_
    | with_reducible refine Special.tame_cons spRefEnable_tame ?_
    | with_reducible refine Special.tame_cons spRefQlSource_tame ?_
    | with_reducible refine Special.tame_cons spRefQlConfig_tame ?_
    | with_reducible refine Special.tame_cons spRefEsmcPort_tame ?_
    | with_reducible refine Special.tame_cons spTodEnable_tame ?_
    | with_reducible refine Special.tame_cons spHbPreferred_tame ?_
    | with_reducible refine Special.tame_cons spConflictCmd_tame ?_
theorem State.gains_keeps {t s : State} (h : Keeps t s) (a1) :
    Keeps t (State.gains s a1) := by
  unfold State.gains
  repeat' first
    | with_reducible assumption
    | with_reducible refine State.set_keeps ?_ _ _ _
theorem spLoopBw_tame : Special.Tame (spLoopBw) := by
  refine ⟨fun {t s} c h => ?_, fun {t s} code c h => ?_⟩ <;> unfold spLoopBw <;> dsimp -zeta only
  all_goals
    repeat' first
      | with_reducible assumption
      | with_reducible refine State.gains_keeps ?_ _
      | with_reducible refine State.set_keeps ?_ _ _ _
theorem spLoopDamp_tame : Special.Tame (spLoopDamp) := by
  refine ⟨fun {t s} c h => ?_, fun {t s} code c h => ?_⟩ <;> unfold spLoopDamp <;> dsimp -zeta only
  all_goals
    repeat' first
      | with_reducible assumption
      | with_reducible refine State.gains_keeps ?_ _
      | with_reducible refine State.set_keeps ?_ _ _ _
theorem spYewTrackWindow_tame : Special.Tame (spYewTrackWindow) := by
  refine ⟨fun {t s} c h => ?_, fun {t s} code c h => ?_⟩ <;> unfold spYewTrackWindow <;> dsimp -zeta only
  all_goals
    repeat' first
      | with_reducible assumption
      | with_reducible refine State.trackRefresh_keeps ?_
      | with_reducible refine State.set_keeps ?_ _ _ _
theorem spYewTrackMargin_tame : Special.Tame (spYewTrackMargin) := by
  refine ⟨fun {t s} c h => ?_, fun {t s} code c h => ?_⟩ <;> unfold spYewTrackMargin <;> dsimp -zeta only
  all_goals
    repeat' first
      | with_reducible assumption
      | with_reducible refine State.trackRefresh_keeps ?_
      | with_reducible refine State.set_keeps ?_ _ _ _
theorem spYewTrackInit_tame : Special.Tame (spYewTrackInit) := by
  refine ⟨fun {t s} c h => ?_, fun {t s} code c h => ?_⟩ <;> unfold spYewTrackInit <;> dsimp -zeta only
  all_goals
    repeat' first
      | with_reducible assumption
      | with_reducible refine State.trackRefresh_keeps ?_
      | with_reducible refine State.set_keeps ?_ _ _ _
theorem State.setMemberState_keeps {t s : State} (h : Keeps t s) (a1 a2 a3) :
    Keeps t (State.setMemberState s a1 a2 a3) := by
  unfold State.setMemberState
  repeat' first
    | with_reducible assumption
    | with_reducible refine State.set_keeps ?_ _ _ _
theorem State.setMember_keeps {t s : State} (h : Keeps t s) (a1 a2) :
    Keeps t (State.setMember s a1 a2) := by
  unfold State.setMember
  repeat' first
    | with_reducible assumption
    | (extract_lets +onlyGivenNames x; clear_value x)
    | simp only [↓Keeps.upd]
theorem State.memberStart_keeps {t s : State} (h : Keeps t s) (a1) :
    Keeps t (State.memberStart s a1) := by
  unfold State.memberStart
  repeat' first
    | with_reducible assumption
    | with_reducible refine State.set_keeps ?_ _ _ _
    | with_reducible refine State.setMember_keeps ?_ _ _
    | with_reducible refine State.setMemberState_keeps ?_ _ _ _
theorem State.weigh_keeps {t s : State} (h : Keeps t s) :
    Keeps t (State.weigh s) := by
  unfold State.weigh
  repeat' first
    | with_reducible assumption
    | with_reducible refine State.set_keeps ?_ _ _ _
    | with_reducible refine Keeps.foldl (fun _ _ _ => ?_) _ ?_
theorem State.rebase_keeps {t s : State} (h : Keeps t s) (a1) :
    Keeps t (State.rebase s a1) := by
  unfold State.rebase
  repeat' first
    | with_reducible assumption
    | (extract_lets +onlyGivenNames x; clear_value x)
    | simp only [↓Keeps.upd]
theorem State.ensembleRefresh_keeps {t s : State} (h : Keeps t s) :
    Keeps t (State.ensembleRefresh s) := by
  unfold State.ensembleRefresh
  repeat' first
    | with_reducible assumption
    | with_reducible apply Keeps.ite
    | with_reducible refine State.weigh_keeps ?_
    | with_reducible refine State.setFlag_keeps ?_ _ _ _
    | with_reducible refine State.rebase_keeps ?_ _
    | with_reducible refine State.set_keeps ?_ _ _ _
    | with_reducible refine State.raiseHold_keeps ?_ _ _ _ _
    | with_reducible refine State.ledgerDue_keeps ?_ _ _ _ _
    | (extract_lets +onlyGivenNames x; refine (fun (hx : Keeps t x) => ?_) ?_; clear_value x; rotate_left; subst x)
    | (extract_lets +onlyGivenNames x; clear_value x)
    | simp only [↓Keeps.upd]
    | split
theorem spEnsEnable_tame : Special.Tame (spEnsEnable) := by
  refine ⟨fun {t s} c h => ?_, fun {t s} code c h => ?_⟩ <;> unfold spEnsEnable <;> dsimp -zeta only
  all_goals
    repeat' first
      | with_reducible assumption
      | with_reducible apply Keeps.ite
      | with_reducible refine State.set_keeps ?_ _ _ _
      | with_reducible refine State.setMemberState_keeps ?_ _ _ _
      | with_reducible refine State.memberStart_keeps ?_ _
      | with_reducible refine State.ensembleRefresh_keeps ?_
theorem spEnsClass_tame : Special.Tame (spEnsClass) := by
  refine ⟨fun {t s} c h => ?_, fun {t s} code c h => ?_⟩ <;> unfold spEnsClass <;> dsimp -zeta only
  all_goals
    repeat' first
      | with_reducible assumption
      | with_reducible apply Keeps.ite
      | with_reducible refine State.set_keeps ?_ _ _ _
      | with_reducible refine State.ensembleRefresh_keeps ?_
theorem spEnsNominal_tame : Special.Tame (spEnsNominal) := by
  refine ⟨fun {t s} c h => ?_, fun {t s} code c h => ?_⟩ <;> unfold spEnsNominal <;> dsimp -zeta only
  all_goals
    repeat' first
      | with_reducible assumption
      | with_reducible refine State.setWords_keeps ?_ _ _ _
theorem spEnsWeightMode_tame : Special.Tame (spEnsWeightMode) := by
  refine ⟨fun {t s} c h => ?_, fun {t s} code c h => ?_⟩ <;> unfold spEnsWeightMode <;> dsimp -zeta only
  all_goals
    repeat' first
      | with_reducible assumption
      | with_reducible refine State.ensembleRefresh_keeps ?_
      | with_reducible refine State.set_keeps ?_ _ _ _
theorem spEnsMinMembers_tame : Special.Tame (spEnsMinMembers) := by
  refine ⟨fun {t s} c h => ?_, fun {t s} code c h => ?_⟩ <;> unfold spEnsMinMembers <;> dsimp -zeta only
  all_goals
    repeat' first
      | with_reducible assumption
      | with_reducible refine State.ensembleRefresh_keeps ?_
      | with_reducible refine State.set_keeps ?_ _ _ _
theorem spEnsWeightMax_tame : Special.Tame (spEnsWeightMax) := by
  refine ⟨fun {t s} c h => ?_, fun {t s} code c h => ?_⟩ <;> unfold spEnsWeightMax <;> dsimp -zeta only
  all_goals
    repeat' first
      | with_reducible assumption
      | with_reducible refine State.ensembleRefresh_keeps ?_
      | with_reducible refine State.set_keeps ?_ _ _ _
theorem spEnsWeightTau_tame : Special.Tame (spEnsWeightTau) := by
  refine ⟨fun {t s} c h => ?_, fun {t s} code c h => ?_⟩ <;> unfold spEnsWeightTau <;> dsimp -zeta only
  all_goals
    repeat' first
      | with_reducible assumption
      | with_reducible refine State.ensembleRefresh_keeps ?_
      | with_reducible refine State.set_keeps ?_ _ _ _
theorem yewSpecials_tame : ∀ sp ∈ yewSpecials, Special.Tame sp := by
  unfold yewSpecials
  repeat' first
    | exact Special.tame_nil
    | with_reducible refine Special.tame_cons spLoopBw_tame ?_
    | with_reducible refine Special.tame_cons spLoopDamp_tame ?_
    | with_reducible refine Special.tame_cons spYewTrackWindow_tame ?_
    | with_reducible refine Special.tame_cons spYewTrackMargin_tame ?_
    | with_reducible refine Special.tame_cons spYewTrackInit_tame ?_
    | with_reducible refine Special.tame_cons spEnsEnable_tame ?_
    | with_reducible refine Special.tame_cons spEnsClass_tame ?_
    | with_reducible refine Special.tame_cons spEnsNominal_tame ?_
    | with_reducible refine Special.tame_cons spEnsWeightMode_tame ?_
    | with_reducible refine Special.tame_cons spEnsMinMembers_tame ?_
    | with_reducible refine Special.tame_cons spEnsWeightMax_tame ?_
    | with_reducible refine Special.tame_cons spEnsWeightTau_tame ?_
theorem spChEnable_tame : Special.Tame (spChEnable) := by
  refine ⟨fun {t s} c h => ?_, fun {t s} code c h => ?_⟩ <;> unfold spChEnable <;> dsimp -zeta only
  all_goals
    repeat' first
      | with_reducible assumption
      | with_reducible refine State.setWords_keeps ?_ _ _ _
theorem spChEdge_tame : Special.Tame (spChEdge) := by
  refine ⟨fun {t s} c h => ?_, fun {t s} code c h => ?_⟩ <;> unfold spChEdge <;> dsimp -zeta only
  all_goals
    repeat' first
      | with_reducible assumption
      | with_reducible refine State.setWords_keeps ?_ _ _ _
theorem State.setPairUnit_keeps {t s : State} (h : Keeps t s) (a1 a2) :
    Keeps t (State.setPairUnit s a1 a2) := by
  unfold State.setPairUnit
  repeat' first
    | with_reducible assumption
    | (extract_lets +onlyGivenNames x; clear_value x)
    | simp only [↓Keeps.upd]
theorem State.pairZero_keeps {t s : State} (h : Keeps t s) (a1) :
    Keeps t (State.pairZero s a1) := by
  unfold State.pairZero
  repeat' first
    | with_reducible assumption
    | with_reducible refine State.setOct_keeps ?_ _ _ _
    | with_reducible refine State.setPairUnit_keeps ?_ _ _
    | (extract_lets +onlyGivenNames x; clear_value x)
    | simp only [↓Keeps.upd]
theorem spPairClear_tame : Special.Tame (spPairClear) := by
  refine ⟨fun {t s} c h => ?_, fun {t s} code c h => ?_⟩ <;> unfold spPairClear <;> dsimp -zeta only
  all_goals
    repeat' first
      | with_reducible assumption
      | with_reducible refine State.pairZero_keeps ?_ _
theorem State.pairReset_keeps {t s : State} (h : Keeps t s) (a1) :
    Keeps t (State.pairReset s a1) := by
  unfold State.pairReset
  repeat' first
    | with_reducible assumption
    | with_reducible refine State.pairZero_keeps ?_ _
    | with_reducible refine State.setPairUnit_keeps ?_ _ _
theorem spPairA_tame : Special.Tame (spPairA) := by
  refine ⟨fun {t s} c h => ?_, fun {t s} code c h => ?_⟩ <;> unfold spPairA <;> dsimp -zeta only
  all_goals
    repeat' first
      | with_reducible assumption
      | with_reducible apply Keeps.ite
      | with_reducible refine State.pairReset_keeps ?_ _
      | with_reducible refine State.set_keeps ?_ _ _ _
theorem spPairB_tame : Special.Tame (spPairB) := by
  refine ⟨fun {t s} c h => ?_, fun {t s} code c h => ?_⟩ <;> unfold spPairB <;> dsimp -zeta only
  all_goals
    repeat' first
      | with_reducible assumption
      | with_reducible apply Keeps.ite
      | with_reducible refine State.pairReset_keeps ?_ _
      | with_reducible refine State.set_keeps ?_ _ _ _
theorem spPairMode_tame : Special.Tame (spPairMode) := by
  refine ⟨fun {t s} c h => ?_, fun {t s} code c h => ?_⟩ <;> unfold spPairMode <;> dsimp -zeta only
  all_goals
    repeat' first
      | with_reducible assumption
      | with_reducible apply Keeps.ite
      | with_reducible refine State.pairReset_keeps ?_ _
      | with_reducible refine State.set_keeps ?_ _ _ _
theorem counterSpecials_tame : ∀ sp ∈ counterSpecials, Special.Tame sp := by
  unfold counterSpecials
  repeat' first
    | exact Special.tame_nil
    | with_reducible refine Special.tame_cons spChEnable_tame ?_
    | with_reducible refine Special.tame_cons spChEdge_tame ?_
    | with_reducible refine Special.tame_cons spPairClear_tame ?_
    | with_reducible refine Special.tame_cons spPairA_tame ?_
    | with_reducible refine Special.tame_cons spPairB_tame ?_
    | with_reducible refine Special.tame_cons spPairMode_tame ?_
theorem spMdllEnable_tame : Special.Tame (spMdllEnable) := by
  refine ⟨fun {t s} c h => ?_, fun {t s} code c h => ?_⟩ <;> unfold spMdllEnable <;> dsimp -zeta only
  all_goals
    repeat' first
      | with_reducible assumption
      | with_reducible apply Keeps.ite
      | with_reducible refine State.set_keeps ?_ _ _ _
      | with_reducible refine State.lockEvents_keeps ?_
      | with_reducible refine State.mdllSettle_keeps ?_ _
      | with_reducible refine State.toBypass_keeps ?_ _
      | with_reducible refine State.setMdll_keeps ?_ _ _
      | with_reducible refine State.acquire_keeps ?_ _
      | with_reducible refine State.takeReference_keeps ?_ _
      | with_reducible refine Keeps.foldl (fun _ _ _ => ?_) _ ?_
theorem spMdllMultN_tame : Special.Tame (spMdllMultN) := by
  refine ⟨fun {t s} c h => ?_, fun {t s} code c h => ?_⟩ <;> unfold spMdllMultN <;> dsimp -zeta only
  all_goals
    repeat' first
      | with_reducible assumption
      | with_reducible refine State.setWords_keeps ?_ _ _ _
theorem spMdllMultF_tame : Special.Tame (spMdllMultF) := by
  refine ⟨fun {t s} c h => ?_, fun {t s} code c h => ?_⟩ <;> unfold spMdllMultF <;> dsimp -zeta only
  all_goals
    repeat' first
      | with_reducible assumption
      | with_reducible refine State.set_keeps ?_ _ _ _
      | with_reducible refine State.setMdll_keeps ?_ _ _
      | with_reducible refine State.lockEvents_keeps ?_
      | with_reducible refine State.mdllSettle_keeps ?_ _
      | with_reducible refine State.toBypass_keeps ?_ _
      | with_reducible refine Keeps.foldl (fun _ _ _ => ?_) _ ?_
theorem State.clkChange_keeps {t s : State} (h : Keeps t s) (a1) :
    Keeps t (State.clkChange s a1) := by
  unfold State.clkChange
  repeat' first
    | with_reducible assumption
    | with_reducible apply Keeps.ite
    | with_reducible refine State.toBypass_keeps ?_ _
    | with_reducible refine State.clkTake_keeps ?_ _
    | with_reducible refine State.setClkout_keeps ?_ _ _
    | with_reducible refine State.toMdll_keeps ?_ _
theorem spClkoutDiv_tame : Special.Tame (spClkoutDiv) := by
  refine ⟨fun {t s} c h => ?_, fun {t s} code c h => ?_⟩ <;> unfold spClkoutDiv <;> dsimp -zeta only
  all_goals
    repeat' first
      | with_reducible assumption
      | with_reducible refine State.clkChange_keeps ?_ _
      | with_reducible refine State.set_keeps ?_ _ _ _
theorem spClkoutSrc_tame : Special.Tame (spClkoutSrc) := by
  refine ⟨fun {t s} c h => ?_, fun {t s} code c h => ?_⟩ <;> unfold spClkoutSrc <;> dsimp -zeta only
  all_goals
    repeat' first
      | with_reducible assumption
      | with_reducible refine State.clkChange_keeps ?_ _
      | with_reducible refine State.set_keeps ?_ _ _ _
theorem spClkoutPhase_tame : Special.Tame (spClkoutPhase) := by
  refine ⟨fun {t s} c h => ?_, fun {t s} code c h => ?_⟩ <;> unfold spClkoutPhase <;> dsimp -zeta only
  all_goals
    repeat' first
      | with_reducible assumption
      | with_reducible refine State.setWords_keeps ?_ _ _ _
theorem spClkoutEnable_tame : Special.Tame (spClkoutEnable) := by
  refine ⟨fun {t s} c h => ?_, fun {t s} code c h => ?_⟩ <;> unfold spClkoutEnable <;> dsimp -zeta only
  all_goals
    repeat' first
      | with_reducible assumption
      | with_reducible apply Keeps.ite
      | with_reducible refine State.set_keeps ?_ _ _ _
      | with_reducible refine State.lockEvents_keeps ?_
      | with_reducible refine State.mdllsSettle_keeps ?_
      | with_reducible refine State.clkDrop_keeps ?_ _
      | with_reducible refine State.clkTake_keeps ?_ _
      | with_reducible refine State.setClkout_keeps ?_ _ _
      | with_reducible refine State.toMdll_keeps ?_ _
theorem spQuietClocks_tame : Special.Tame (spQuietClocks) := by
  refine ⟨fun {t s} c h => ?_, fun {t s} code c h => ?_⟩ <;> unfold spQuietClocks <;> dsimp -zeta only
  all_goals
    repeat' first
      | with_reducible assumption
      | with_reducible apply Keeps.ite
      | with_reducible refine State.set_keeps ?_ _ _ _
      | with_reducible refine State.clkRefresh_keeps ?_ _
      | with_reducible refine State.setClkout_keeps ?_ _ _
      | with_reducible refine Keeps.foldl (fun _ _ _ => ?_) _ ?_
theorem spSynRealign_tame : Special.Tame (spSynRealign) := by
  refine ⟨fun {t s} c h => ?_, fun {t s} code c h => ?_⟩ <;> unfold spSynRealign <;> dsimp -zeta only
  all_goals
    repeat' first
      | with_reducible assumption
      | with_reducible refine State.lanesRealign_keeps ?_
      | with_reducible refine State.clksRealign_keeps ?_
theorem State.pulseFault_keeps {t s : State} (h : Keeps t s) :
    Keeps t (State.pulseFault s) := by
  unfold State.pulseFault
  repeat' first
    | with_reducible assumption
    | with_reducible apply Keeps.ite
    | with_reducible refine State.raise_keeps ?_ _ _ _ _
    | with_reducible refine State.deassert_keeps ?_ _
theorem spPpsMode_tame : Special.Tame (spPpsMode) := by
  refine ⟨fun {t s} c h => ?_, fun {t s} code c h => ?_⟩ <;> unfold spPpsMode <;> dsimp -zeta only
  all_goals
    repeat' first
      | with_reducible assumption
      | with_reducible refine State.setPulse_keeps ?_ _ _
      | with_reducible refine State.set_keeps ?_ _ _ _
      | with_reducible refine State.pulseFault_keeps ?_
      | with_reducible refine State.ppsRefresh_keeps ?_ _
theorem State.ppsChanged_keeps {t s : State} (h : Keeps t s) (a1) :
    Keeps t (State.ppsChanged s a1) := by
  unfold State.ppsChanged
  repeat' first
    | with_reducible assumption
    | with_reducible apply Keeps.ite
    | with_reducible refine State.setPulse_keeps ?_ _ _
theorem spPpsPeriod_tame : Special.Tame (spPpsPeriod) := by
  refine ⟨fun {t s} c h => ?_, fun {t s} code c h => ?_⟩ <;> unfold spPpsPeriod <;> dsimp -zeta only
  all_goals
    repeat' first
      | with_reducible assumption
      | with_reducible refine State.ppsChanged_keeps ?_ _
      | with_reducible refine State.set_keeps ?_ _ _ _
theorem spPpsOffset_tame : Special.Tame (spPpsOffset) := by
  refine ⟨fun {t s} c h => ?_, fun {t s} code c h => ?_⟩ <;> unfold spPpsOffset <;> dsimp -zeta only
  all_goals
    repeat' first
      | with_reducible assumption
      | with_reducible refine State.ppsChanged_keeps ?_ _
      | with_reducible refine State.setInt_keeps ?_ _ _ _
theorem spPpsWidth_tame : Special.Tame (spPpsWidth) := by
  refine ⟨fun {t s} c h => ?_, fun {t s} code c h => ?_⟩ <;> unfold spPpsWidth <;> dsimp -zeta only
  all_goals
    repeat' first
      | with_reducible assumption
      | with_reducible refine State.ppsChanged_keeps ?_ _
      | with_reducible refine State.set_keeps ?_ _ _ _
theorem spPpsFollow_tame : Special.Tame (spPpsFollow) := by
  refine ⟨fun {t s} c h => ?_, fun {t s} code c h => ?_⟩ <;> unfold spPpsFollow <;> dsimp -zeta only
  all_goals
    repeat' first
      | with_reducible assumption
      | with_reducible refine State.setPulse_keeps ?_ _ _
      | with_reducible refine State.set_keeps ?_ _ _ _
theorem spSafePulses_tame : Special.Tame (spSafePulses) := by
  refine ⟨fun {t s} c h => ?_, fun {t s} code c h => ?_⟩ <;> unfold spSafePulses <;> dsimp -zeta only
  all_goals
    repeat' first
      | with_reducible assumption
      | with_reducible refine State.ppsRefreshAll_keeps ?_
      | with_reducible refine State.set_keeps ?_ _ _ _
theorem spTlMdll_tame : Special.Tame (spTlMdll) := by
  refine ⟨fun {t s} c h => ?_, fun {t s} code c h => ?_⟩ <;> unfold spTlMdll <;> dsimp -zeta only
  all_goals
    repeat' first
      | with_reducible assumption
      | with_reducible apply Keeps.ite
      | with_reducible refine State.set_keeps ?_ _ _ _
      | with_reducible refine State.lanesRealign_keeps ?_
theorem State.laneRefresh_keeps {t s : State} (h : Keeps t s) (a1) :
    Keeps t (State.laneRefresh s a1) := by
  unfold State.laneRefresh
  repeat' first
    | with_reducible assumption
    | with_reducible apply Keeps.ite
    | with_reducible refine State.set_keeps ?_ _ _ _
theorem spTlEnable_tame : Special.Tame (spTlEnable) := by
  refine ⟨fun {t s} c h => ?_, fun {t s} code c h => ?_⟩ <;> unfold spTlEnable <;> dsimp -zeta only
  all_goals
    repeat' first
      | with_reducible assumption
      | with_reducible apply Keeps.ite
      | with_reducible refine State.set_keeps ?_ _ _ _
      | with_reducible refine State.laneRefresh_keeps ?_ _
      | with_reducible refine State.setLane_keeps ?_ _ _
theorem synthSpecials_tame : ∀ sp ∈ synthSpecials, Special.Tame sp := by
  unfold synthSpecials
  repeat' first
    | exact Special.tame_nil
    | with_reducible refine Special.tame_cons spMdllEnable_tame ?_
    | with_reducible refine Special.tame_cons spMdllMultN_tame ?_
    | with_reducible refine Special.tame_cons spMdllMultF_tame ?_
    | with_reducible refine Special.tame_cons spClkoutDiv_tame ?_
    | with_reducible refine Special.tame_cons spClkoutSrc_tame ?_
    | with_reducible refine Special.tame_cons spClkoutPhase_tame ?_
    | with_reducible refine Special.tame_cons spClkoutEnable_tame ?_
    | with_reducible refine Special.tame_cons spQuietClocks_tame ?_
    | with_reducible refine Special.tame_cons spSynRealign_tame ?_
    | with_reducible refine Special.tame_cons spPpsMode_tame ?_
    | with_reducible refine Special.tame_cons spPpsPeriod_tame ?_
    | with_reducible refine Special.tame_cons spPpsOffset_tame ?_
    | with_reducible refine Special.tame_cons spPpsWidth_tame ?_
    | with_reducible refine Special.tame_cons spPpsFollow_tame ?_
    | with_reducible refine Special.tame_cons spSafePulses_tame ?_
    | with_reducible refine Special.tame_cons spTlMdll_tame ?_
    | with_reducible refine Special.tame_cons spTlEnable_tame ?_
theorem State.inlineRefresh_keeps {t s : State} (h : Keeps t s) :
    Keeps t (State.inlineRefresh s) := by
  unfold State.inlineRefresh
  repeat' first
    | with_reducible assumption
    | with_reducible refine State.set_keeps ?_ _ _ _
    | with_reducible refine Keeps.foldl (fun _ _ _ => ?_) _ ?_
theorem State.txFlush_keeps {t s : State} (h : Keeps t s) (a1 a2) :
    Keeps t (State.txFlush s a1 a2) := by
  induction a2 generalizing s with
  | zero => exact h
  | succ n ih =>
    unfold State.txFlush
    repeat' first
      | with_reducible assumption
      | with_reducible refine State.setRing_keeps ?_ _ _
      | with_reducible refine State.ringComplete_keeps ?_ _ _ _
      | with_reducible refine State.ringAdvance_keeps ?_ _ _
      | with_reducible refine ih ?_
      | with_reducible refine Keeps.foldl (fun _ _ _ => ?_) _ ?_
      | (extract_lets +onlyGivenNames x; clear_value x)
      | simp only [↓Keeps.upd]
      | split
theorem State.txDone_keeps {t s : State} (h : Keeps t s) (a1 a2 a3) :
    Keeps t (State.txDone s a1 a2 a3) := by
  unfold State.txDone
  repeat' first
    | with_reducible assumption
    | with_reducible apply Keeps.ite
    | with_reducible refine State.bump_keeps ?_ _ _ _
    | with_reducible refine State.txFlush_keeps ?_ _ _
    | with_reducible refine State.setRing_keeps ?_ _ _
theorem State.frameDone_keeps {t s : State} (h : Keeps t s) (a1 a2 a3) :
    Keeps t (State.frameDone s a1 a2 a3) := by
  unfold State.frameDone
  repeat' first
    | with_reducible assumption
    | with_reducible refine State.txDone_keeps ?_ _ _ _
theorem State.slotDone_keeps {t s : State} (h : Keeps t s) (a1) :
    Keeps t (State.slotDone s a1) := by
  unfold State.slotDone
  repeat' first
    | with_reducible assumption
    | with_reducible apply Keeps.ite
    | (extract_lets +onlyGivenNames x; clear_value x)
    | simp only [↓Keeps.upd]
theorem State.packetEnd_keeps {t s : State} (h : Keeps t s) (a1 a2 a3 a4 a5 a6 a7 a8) :
    Keeps t (State.packetEnd s a1 a2 a3 a4 a5 a6 a7 a8) := by
  unfold State.packetEnd
  repeat' first
    | with_reducible assumption
    | with_reducible apply Keeps.ite
    | with_reducible refine State.slotDone_keeps ?_ _
    | with_reducible refine State.set_keeps ?_ _ _ _
    | (extract_lets +onlyGivenNames x; clear_value x)
    | (extract_lets +onlyGivenNames x)
    | simp only [↓Keeps.upd]
    | split
theorem State.launchGone_keeps {t s : State} (h : Keeps t s) (a1 a2) :
    Keeps t (State.launchGone s a1 a2) := by
  unfold State.launchGone
  repeat' first
    | with_reducible assumption
    | with_reducible apply Keeps.ite
    | with_reducible refine State.frameDone_keeps ?_ _ _ _
    | with_reducible refine State.emit_keeps ?_ _
    | with_reducible refine State.packetEnd_keeps ?_ _ _ _ _ _ _ _ _
theorem State.setHandle_keeps {t s : State} (h : Keeps t s) (a1 a2 a3) :
    Keeps t (State.setHandle s a1 a2 a3) := by
  unfold State.setHandle
  repeat' first
    | with_reducible assumption
    | with_reducible refine State.setPort_keeps ?_ _ _
theorem State.quietHandle_keeps {t s : State} (h : Keeps t s) (a1 a2) :
    Keeps t (State.quietHandle s a1 a2) := by
  unfold State.quietHandle
  repeat' first
    | with_reducible assumption
    | with_reducible refine State.setHandle_keeps ?_ _ _ _
theorem State.lossEntry_keeps {t s : State} (h : Keeps t s) (a1) :
    Keeps t (State.lossEntry s a1) := by
  unfold State.lossEntry
  repeat' first
    | with_reducible assumption
    | with_reducible apply Keeps.ite
    | with_reducible refine State.setPort_keeps ?_ _ _
    | with_reducible refine State.portRefresh_keeps ?_ _
    | with_reducible refine State.quietHandle_keeps ?_ _ _
    | with_reducible refine Keeps.foldl (fun _ _ _ => ?_) _ ?_
    | (extract_lets +onlyGivenNames x; clear_value x)
    | simp only [↓Keeps.upd]
    | split
theorem State.queueStamp_keeps {t s : State} (h : Keeps t s) (a1 a2 a3 a4) :
    Keeps t (State.queueStamp s a1 a2 a3 a4) := by
  unfold State.queueStamp
  repeat' first
    | with_reducible assumption
    | with_reducible apply Keeps.ite
    | with_reducible refine State.lossEntry_keeps ?_ _
    | with_reducible refine State.portRefresh_keeps ?_ _
    | with_reducible refine State.setPort_keeps ?_ _ _
    | with_reducible refine State.bump_keeps ?_ _ _ _
theorem State.reqEpochUp_keeps {t s : State} (h : Keeps t s) (a1) :
    Keeps t (State.reqEpochUp s a1) := by
  unfold State.reqEpochUp
  repeat' first
    | with_reducible assumption
    | with_reducible refine State.set_keeps ?_ _ _ _
theorem State.ptpPortDown_keeps {t s : State} (h : Keeps t s) (a1) :
    Keeps t (State.ptpPortDown s a1) := by
  unfold State.ptpPortDown
  repeat' first
    | with_reducible assumption
    | with_reducible apply Keeps.ite
    | with_reducible refine State.reqEpochUp_keeps ?_ _
    | with_reducible refine Keeps.foldl (fun _ _ _ => ?_) _ ?_
theorem State.portDown_keeps {t s : State} (h : Keeps t s) (a1) :
    Keeps t (State.portDown s a1) := by
  unfold State.portDown
  repeat' first
    | with_reducible assumption
    | with_reducible refine State.portRefresh_keeps ?_ _
    | with_reducible refine State.setPort_keeps ?_ _ _
    | with_reducible refine State.launchGone_keeps ?_ _ _
    | with_reducible refine State.queueStamp_keeps ?_ _ _ _ _
    | with_reducible refine State.frameDone_keeps ?_ _ _ _
    | with_reducible refine State.ptpPortDown_keeps ?_ _
    | with_reducible refine State.set_keeps ?_ _ _ _
    | with_reducible refine Keeps.foldl (fun _ _ _ => ?_) _ ?_
    | (extract_lets +onlyGivenNames x)
    | split
theorem spPortMode_tame : Special.Tame (spPortMode) := by
  refine ⟨fun {t s} c h => ?_, fun {t s} code c h => ?_⟩ <;> unfold spPortMode <;> dsimp -zeta only
  all_goals
    repeat' first
      | with_reducible assumption
      | with_reducible refine State.inlineRefresh_keeps ?_
      | with_reducible refine State.set_keeps ?_ _ _ _
      | with_reducible refine State.portDown_keeps ?_ _
theorem spStampMode_tame : Special.Tame (spStampMode) := by
  refine ⟨fun {t s} c h => ?_, fun {t s} code c h => ?_⟩ <;> unfold spStampMode <;> dsimp -zeta only
  all_goals
    repeat' first
      | with_reducible assumption
      | with_reducible refine State.setWords_keeps ?_ _ _ _
theorem spFcMode_tame : Special.Tame (spFcMode) := by
  refine ⟨fun {t s} c h => ?_, fun {t s} code c h => ?_⟩ <;> unfold spFcMode <;> dsimp -zeta only
  all_goals
    repeat' first
      | with_reducible assumption
      | with_reducible refine State.setWords_keeps ?_ _ _ _
theorem spPfcMask_tame : Special.Tame (spPfcMask) := by
  refine ⟨fun {t s} c h => ?_, fun {t s} code c h => ?_⟩ <;> unfold spPfcMask <;> dsimp -zeta only
  all_goals
    repeat' first
      | with_reducible assumption
      | with_reducible refine State.setWords_keeps ?_ _ _ _
theorem spRxbuf_tame : Special.Tame (spRxbuf) := by
  refine ⟨fun {t s} c h => ?_, fun {t s} code c h => ?_⟩ <;> unfold spRxbuf <;> dsimp -zeta only
  all_goals
    repeat' first
      | with_reducible assumption
      | with_reducible refine State.setWords_keeps ?_ _ _ _
theorem spXoffPct_tame : Special.Tame (spXoffPct) := by
  refine ⟨fun {t s} c h => ?_, fun {t s} code c h => ?_⟩ <;> unfold spXoffPct <;> dsimp -zeta only
  all_goals
    repeat' first
      | with_reducible assumption
      | with_reducible refine State.setWords_keeps ?_ _ _ _
theorem spXonPct_tame : Special.Tame (spXonPct) := by
  refine ⟨fun {t s} c h => ?_, fun {t s} code c h => ?_⟩ <;> unfold spXonPct <;> dsimp -zeta only
  all_goals
    repeat' first
      | with_reducible assumption
      | with_reducible refine State.setWords_keeps ?_ _ _ _
theorem spHandleForce_tame : Special.Tame (spHandleForce) := by
  refine ⟨fun {t s} c h => ?_, fun {t s} code c h => ?_⟩ <;> unfold spHandleForce <;> dsimp -zeta only
  all_goals
    repeat' first
      | with_reducible assumption
      | with_reducible refine State.setPort_keeps ?_ _ _
theorem State.steerKeep_keeps {t s : State} (h : Keeps t s) (a1) :
    Keeps t (State.steerKeep s a1) := by
  unfold State.steerKeep
  repeat' first
    | with_reducible assumption
    | (extract_lets +onlyGivenNames x; clear_value x)
    | simp only [↓Keeps.upd]
theorem spSteerTarget_tame : Special.Tame (spSteerTarget) := by
  refine ⟨fun {t s} c h => ?_, fun {t s} code c h => ?_⟩ <;> unfold spSteerTarget <;> dsimp -zeta only
  all_goals
    repeat' first
      | with_reducible assumption
      | with_reducible refine State.setWords_keeps ?_ _ _ _
      | with_reducible refine State.steerKeep_keeps ?_ _
theorem spSteerWorld_tame : Special.Tame (spSteerWorld) := by
  refine ⟨fun {t s} c h => ?_, fun {t s} code c h => ?_⟩ <;> unfold spSteerWorld <;> dsimp -zeta only
  all_goals
    repeat' first
      | with_reducible assumption
      | with_reducible refine State.setWords_keeps ?_ _ _ _
      | with_reducible refine State.steerKeep_keeps ?_ _
theorem portSpecials_tame : ∀ sp ∈ portSpecials, Special.Tame sp := by
  unfold portSpecials
  repeat' first
    | exact Special.tame_nil
    | with_reducible refine Special.tame_cons spPortMode_tame ?_
    | with_reducible refine Special.tame_cons spStampMode_tame ?_
    | with_reducible refine Special.tame_cons spFcMode_tame ?_
    | with_reducible refine Special.tame_cons spPfcMask_tame ?_
    | with_reducible refine Special.tame_cons spRxbuf_tame ?_
    | with_reducible refine Special.tame_cons spXoffPct_tame ?_
    | with_reducible refine Special.tame_cons spXonPct_tame ?_
    | with_reducible refine Special.tame_cons spHandleForce_tame ?_
    | with_reducible refine Special.tame_cons spSteerTarget_tame ?_
    | with_reducible refine Special.tame_cons spSteerWorld_tame ?_
theorem spRingBase_tame : Special.Tame (spRingBase) := by
  refine ⟨fun {t s} c h => ?_, fun {t s} code c h => ?_⟩ <;> unfold spRingBase <;> dsimp -zeta only
  all_goals
    repeat' first
      | with_reducible assumption
      | with_reducible refine State.setWords_keeps ?_ _ _ _
theorem spRingSize_tame : Special.Tame (spRingSize) := by
  refine ⟨fun {t s} c h => ?_, fun {t s} code c h => ?_⟩ <;> unfold spRingSize <;> dsimp -zeta only
  all_goals
    repeat' first
      | with_reducible assumption
      | with_reducible refine State.setWords_keeps ?_ _ _ _
theorem spRingWbAddr_tame : Special.Tame (spRingWbAddr) := by
  refine ⟨fun {t s} c h => ?_, fun {t s} code c h => ?_⟩ <;> unfold spRingWbAddr <;> dsimp -zeta only
  all_goals
    repeat' first
      | with_reducible assumption
      | with_reducible refine State.setWords_keeps ?_ _ _ _
theorem spRingFunc_tame : Special.Tame (spRingFunc) := by
  refine ⟨fun {t s} c h => ?_, fun {t s} code c h => ?_⟩ <;> unfold spRingFunc <;> dsimp -zeta only
  all_goals
    repeat' first
      | with_reducible assumption
      | with_reducible refine State.setWords_keeps ?_ _ _ _
theorem spRingIrqVec_tame : Special.Tame (spRingIrqVec) := by
  refine ⟨fun {t s} c h => ?_, fun {t s} code c h => ?_⟩ <;> unfold spRingIrqVec <;> dsimp -zeta only
  all_goals
    repeat' first
      | with_reducible assumption
      | with_reducible refine State.setWords_keeps ?_ _ _ _
theorem spRingIrqCount_tame : Special.Tame (spRingIrqCount) := by
  refine ⟨fun {t s} c h => ?_, fun {t s} code c h => ?_⟩ <;> unfold spRingIrqCount <;> dsimp -zeta only
  all_goals
    repeat' first
      | with_reducible assumption
      | with_reducible refine State.setWords_keeps ?_ _ _ _
theorem spRingIrqTime_tame : Special.Tame (spRingIrqTime) := by
  refine ⟨fun {t s} c h => ?_, fun {t s} code c h => ?_⟩ <;> unfold spRingIrqTime <;> dsimp -zeta only
  all_goals
    repeat' first
      | with_reducible assumption
      | with_reducible refine State.setWords_keeps ?_ _ _ _
theorem spRingQuiet_tame : Special.Tame (spRingQuiet) := by
  refine ⟨fun {t s} c h => ?_, fun {t s} code c h => ?_⟩ <;> unfold spRingQuiet <;> dsimp -zeta only
  all_goals
    repeat' first
      | with_reducible assumption
      | with_reducible refine State.setWords_keeps ?_ _ _ _
theorem State.doorbell_keeps {t s : State} (h : Keeps t s) (a1 a2) :
    Keeps t (State.doorbell s a1 a2) := by
  unfold State.doorbell
  repeat' first
    | with_reducible assumption
    | with_reducible apply Keeps.ite
    | with_reducible refine State.set_keeps ?_ _ _ _
    | with_reducible refine State.setRing_keeps ?_ _ _
theorem spDoorbell_tame : Special.Tame (spDoorbell) := by
  refine ⟨fun {t s} c h => ?_, fun {t s} code c h => ?_⟩ <;> unfold spDoorbell <;> dsimp -zeta only
  all_goals
    repeat' first
      | with_reducible assumption
      | with_reducible refine State.doorbell_keeps ?_ _ _
theorem State.ringReset_keeps {t s : State} (h : Keeps t s) (a1 a2) :
    Keeps t (State.ringReset s a1 a2) := by
  unfold State.ringReset
  repeat' first
    | with_reducible assumption
    | with_reducible refine State.setRing_keeps ?_ _ _
    | with_reducible refine State.set_keeps ?_ _ _ _
theorem spRingCtrl_tame : Special.Tame (spRingCtrl) := by
  refine ⟨fun {t s} c h => ?_, fun {t s} code c h => ?_⟩ <;> unfold spRingCtrl <;> dsimp -zeta only
  all_goals
    repeat' first
      | with_reducible assumption
      | with_reducible apply Keeps.ite
      | with_reducible refine State.set_keeps ?_ _ _ _
      | with_reducible refine State.ringReset_keeps ?_ _ _
      | split
theorem spBifurBurn_tame : Special.Tame (spBifurBurn) := by
  refine ⟨fun {t s} c h => ?_, fun {t s} code c h => ?_⟩ <;> unfold spBifurBurn <;> dsimp -zeta only
  all_goals
    repeat' first
      | with_reducible assumption
      | (extract_lets +onlyGivenNames x; clear_value x)
      | simp only [↓Keeps.upd]
theorem hostSpecials_tame : ∀ sp ∈ hostSpecials, Special.Tame sp := by
  unfold hostSpecials
  repeat' first
    | exact Special.tame_nil
    | with_reducible refine Special.tame_cons spRingBase_tame ?_
    | with_reducible refine Special.tame_cons spRingSize_tame ?_
    | with_reducible refine Special.tame_cons spRingWbAddr_tame ?_
    | with_reducible refine Special.tame_cons spRingFunc_tame ?_
    | with_reducible refine Special.tame_cons spRingIrqVec_tame ?_
    | with_reducible refine Special.tame_cons spRingIrqCount_tame ?_
    | with_reducible refine Special.tame_cons spRingIrqTime_tame ?_
    | with_reducible refine Special.tame_cons spRingQuiet_tame ?_
    | with_reducible refine Special.tame_cons spDoorbell_tame ?_
    | with_reducible refine Special.tame_cons spRingCtrl_tame ?_
    | with_reducible refine Special.tame_cons spBifurBurn_tame ?_
theorem spPtpProfile_tame : Special.Tame (spPtpProfile) := by
  refine ⟨fun {t s} c h => ?_, fun {t s} code c h => ?_⟩ <;> unfold spPtpProfile <;> dsimp -zeta only
  all_goals
    repeat' first
      | with_reducible assumption
      | with_reducible refine State.set_keeps ?_ _ _ _
      | with_reducible refine State.setInt_keeps ?_ _ _ _
theorem spPtpDomain_tame : Special.Tame (spPtpDomain) := by
  refine ⟨fun {t s} c h => ?_, fun {t s} code c h => ?_⟩ <;> unfold spPtpDomain <;> dsimp -zeta only
  all_goals
    repeat' first
      | with_reducible assumption
      | with_reducible refine State.setWords_keeps ?_ _ _ _
theorem spPtpTransport_tame : Special.Tame (spPtpTransport) := by
  refine ⟨fun {t s} c h => ?_, fun {t s} code c h => ?_⟩ <;> unfold spPtpTransport <;> dsimp -zeta only
  all_goals
    repeat' first
      | with_reducible assumption
      | with_reducible refine State.setWords_keeps ?_ _ _ _
theorem spPtpUnicast_tame : Special.Tame (spPtpUnicast) := by
  refine ⟨fun {t s} c h => ?_, fun {t s} code c h => ?_⟩ <;> unfold spPtpUnicast <;> dsimp -zeta only
  all_goals
    repeat' first
      | with_reducible assumption
      | with_reducible refine State.setWords_keeps ?_ _ _ _
theorem spPtpMaster_tame : Special.Tame (spPtpMaster) := by
  refine ⟨fun {t s} c h => ?_, fun {t s} code c h => ?_⟩ <;> unfold spPtpMaster <;> dsimp -zeta only
  all_goals
    repeat' first
      | with_reducible assumption
      | with_reducible refine State.setWords_keeps ?_ _ _ _
theorem spPtpUpstream_tame : Special.Tame (spPtpUpstream) := by
  refine ⟨fun {t s} c h => ?_, fun {t s} code c h => ?_⟩ <;> unfold spPtpUpstream <;> dsimp -zeta only
  all_goals
    repeat' first
      | with_reducible assumption
      | with_reducible refine State.setWords_keeps ?_ _ _ _
theorem State.setPtpInst_keeps {t s : State} (h : Keeps t s) (a1 a2) :
    Keeps t (State.setPtpInst s a1 a2) := by
  unfold State.setPtpInst
  repeat' first
    | with_reducible assumption
    | (extract_lets +onlyGivenNames x; clear_value x)
    | simp only [↓Keeps.upd]
theorem State.parentLost_keeps {t s : State} (h : Keeps t s) (a1) :
    Keeps t (State.parentLost s a1) := by
  unfold State.parentLost
  repeat' first
    | with_reducible assumption
    | with_reducible refine State.setPtpInst_keeps ?_ _ _
    | with_reducible refine State.settle_keeps ?_ _
    | with_reducible refine State.setCause_keeps ?_ _ _ _
    | (extract_lets +onlyGivenNames x; refine (fun (hx : Keeps t x) => ?_) ?_; clear_value x; rotate_left; subst x)
    | (extract_lets +onlyGivenNames x; clear_value x)
    | split
theorem spPtpEnable_tame : Special.Tame (spPtpEnable) := by
  refine ⟨fun {t s} c h => ?_, fun {t s} code c h => ?_⟩ <;> unfold spPtpEnable <;> dsimp -zeta only
  all_goals
    repeat' first
      | with_reducible assumption
      | with_reducible apply Keeps.ite
      | with_reducible refine State.set_keeps ?_ _ _ _
      | with_reducible refine State.parentLost_keeps ?_ _
      | with_reducible refine State.setPtpInst_keeps ?_ _ _
theorem spClientSel_tame : Special.Tame (spClientSel) := by
  refine ⟨fun {t s} c h => ?_, fun {t s} code c h => ?_⟩ <;> unfold spClientSel <;> dsimp -zeta only
  all_goals
    repeat' first
      | with_reducible assumption
      | with_reducible refine State.setOct_keeps ?_ _ _ _
      | with_reducible refine State.set_keeps ?_ _ _ _
theorem spClientForce_tame : Special.Tame (spClientForce) := by
  refine ⟨fun {t s} c h => ?_, fun {t s} code c h => ?_⟩ <;> unfold spClientForce <;> dsimp -zeta only
  all_goals
    repeat' first
      | with_reducible assumption
      | (extract_lets +onlyGivenNames x; clear_value x)
      | simp only [↓Keeps.upd]
theorem spPartnerSel_tame : Special.Tame (spPartnerSel) := by
  refine ⟨fun {t s} c h => ?_, fun {t s} code c h => ?_⟩ <;> unfold spPartnerSel <;> dsimp -zeta only
  all_goals
    repeat' first
      | with_reducible assumption
      | with_reducible refine State.setOct_keeps ?_ _ _ _
      | with_reducible refine State.set_keeps ?_ _ _ _
theorem spPartnerForce_tame : Special.Tame (spPartnerForce) := by
  refine ⟨fun {t s} c h => ?_, fun {t s} code c h => ?_⟩ <;> unfold spPartnerForce <;> dsimp -zeta only
  all_goals
    repeat' first
      | with_reducible assumption
      | (extract_lets +onlyGivenNames x; clear_value x)
      | simp only [↓Keeps.upd]
theorem spSaKey_tame : Special.Tame (spSaKey) := by
  refine ⟨fun {t s} c h => ?_, fun {t s} code c h => ?_⟩ <;> unfold spSaKey <;> dsimp -zeta only
  all_goals
    repeat' first
      | with_reducible assumption
      | with_reducible refine State.set_keeps ?_ _ _ _
theorem spSaCtrl_tame : Special.Tame (spSaCtrl) := by
  refine ⟨fun {t s} c h => ?_, fun {t s} code c h => ?_⟩ <;> unfold spSaCtrl <;> dsimp -zeta only
  all_goals
    repeat' first
      | with_reducible assumption
      | with_reducible apply Keeps.ite
      | with_reducible refine State.set_keeps ?_ _ _ _
      | (extract_lets +onlyGivenNames x; clear_value x)
      | simp only [↓Keeps.upd]
theorem ptpSpecials_tame : ∀ sp ∈ ptpSpecials, Special.Tame sp := by
  unfold ptpSpecials
  repeat' first
    | exact Special.tame_nil
    | with_reducible refine Special.tame_cons spPtpProfile_tame ?_
    | with_reducible refine Special.tame_cons spPtpDomain_tame ?_
    | with_reducible refine Special.tame_cons spPtpTransport_tame ?_
    | with_reducible refine Special.tame_cons spPtpUnicast_tame ?_
    | with_reducible refine Special.tame_cons spPtpMaster_tame ?_
    | with_reducible refine Special.tame_cons spPtpUpstream_tame ?_
    | with_reducible refine Special.tame_cons spPtpEnable_tame ?_
    | with_reducible refine Special.tame_cons spClientSel_tame ?_
    | with_reducible refine Special.tame_cons spClientForce_tame ?_
    | with_reducible refine Special.tame_cons spPartnerSel_tame ?_
    | with_reducible refine Special.tame_cons spPartnerForce_tame ?_
    | with_reducible refine Special.tame_cons spSaKey_tame ?_
    | with_reducible refine Special.tame_cons spSaCtrl_tame ?_
theorem State.mkKeep_keeps {t s : State} (h : Keeps t s) :
    Keeps t (State.mkKeep s) := by
  unfold State.mkKeep
  repeat' first
    | with_reducible assumption
    | (extract_lets +onlyGivenNames x; clear_value x)
    | simp only [↓Keeps.upd]
theorem spMkCtrl_tame : Special.Tame (spMkCtrl) := by
  refine ⟨fun {t s} c h => ?_, fun {t s} code c h => ?_⟩ <;> unfold spMkCtrl <;> dsimp -zeta only
  all_goals
    repeat' first
      | with_reducible assumption
      | with_reducible apply Keeps.ite
      | with_reducible refine State.mkKeep_keeps ?_
      | with_reducible refine State.set_keeps ?_ _ _ _
      | with_reducible refine Keeps.foldl (fun _ _ _ => ?_) _ ?_
theorem spMkId_tame : Special.Tame (spMkId) := by
  refine ⟨fun {t s} c h => ?_, fun {t s} code c h => ?_⟩ <;> unfold spMkId <;> dsimp -zeta only
  all_goals
    repeat' first
      | with_reducible assumption
      | with_reducible refine State.setWords_keeps ?_ _ _ _
theorem spMkKey_tame : Special.Tame (spMkKey) := by
  refine ⟨fun {t s} c h => ?_, fun {t s} code c h => ?_⟩ <;> unfold spMkKey <;> dsimp -zeta only
  all_goals
    repeat' first
      | with_reducible assumption
      | with_reducible refine State.setWords_keeps ?_ _ _ _
theorem spParentKey_tame : Special.Tame (spParentKey) := by
  refine ⟨fun {t s} c h => ?_, fun {t s} code c h => ?_⟩ <;> unfold spParentKey <;> dsimp -zeta only
  all_goals
    repeat' first
      | with_reducible assumption
      | with_reducible refine State.setWords_keeps ?_ _ _ _
theorem spPollMin_tame : Special.Tame (spPollMin) := by
  refine ⟨fun {t s} c h => ?_, fun {t s} code c h => ?_⟩ <;> unfold spPollMin <;> dsimp -zeta only
  all_goals
    repeat' first
      | with_reducible assumption
      | with_reducible refine State.setWords_keeps ?_ _ _ _
theorem spPollMax_tame : Special.Tame (spPollMax) := by
  refine ⟨fun {t s} c h => ?_, fun {t s} code c h => ?_⟩ <;> unfold spPollMax <;> dsimp -zeta only
  all_goals
    repeat' first
      | with_reducible assumption
      | with_reducible refine State.setWords_keeps ?_ _ _ _
theorem ntpSpecials_tame : ∀ sp ∈ ntpSpecials, Special.Tame sp := by
  unfold ntpSpecials
  repeat' first
    | exact Special.tame_nil
    | with_reducible refine Special.tame_cons spMkCtrl_tame ?_
    | with_reducible refine Special.tame_cons spMkId_tame ?_
    | with_reducible refine Special.tame_cons spMkKey_tame ?_
    | with_reducible refine Special.tame_cons spParentKey_tame ?_
    | with_reducible refine Special.tame_cons spPollMin_tame ?_
    | with_reducible refine Special.tame_cons spPollMax_tame ?_
theorem spPortRole_tame : Special.Tame (spPortRole) := by
  refine ⟨fun {t s} c h => ?_, fun {t s} code c h => ?_⟩ <;> unfold spPortRole <;> dsimp -zeta only
  all_goals
    repeat' first
      | with_reducible assumption
      | with_reducible refine State.inlineRefresh_keeps ?_
      | with_reducible refine State.set_keeps ?_ _ _ _
theorem spInlinePeer_tame : Special.Tame (spInlinePeer) := by
  refine ⟨fun {t s} c h => ?_, fun {t s} code c h => ?_⟩ <;> unfold spInlinePeer <;> dsimp -zeta only
  all_goals
    repeat' first
      | with_reducible assumption
      | with_reducible refine State.set_keeps ?_ _ _ _
      | with_reducible refine State.inlineRefresh_keeps ?_
      | (extract_lets +onlyGivenNames x; clear_value x)
      | simp only [↓Keeps.upd]
theorem spTapWorld_tame : Special.Tame (spTapWorld) := by
  refine ⟨fun {t s} c h => ?_, fun {t s} code c h => ?_⟩ <;> unfold spTapWorld <;> dsimp -zeta only
  all_goals
    repeat' first
      | with_reducible assumption
      | with_reducible refine State.setWords_keeps ?_ _ _ _
theorem spDigestKey_tame : Special.Tame (spDigestKey) := by
  refine ⟨fun {t s} c h => ?_, fun {t s} code c h => ?_⟩ <;> unfold spDigestKey <;> dsimp -zeta only
  all_goals
    repeat' first
      | with_reducible assumption
      | with_reducible refine State.setWords_keeps ?_ _ _ _
theorem tapSpecials_tame : ∀ sp ∈ tapSpecials, Special.Tame sp := by
  unfold tapSpecials
  repeat' first
    | exact Special.tame_nil
    | with_reducible refine Special.tame_cons spPortRole_tame ?_
    | with_reducible refine Special.tame_cons spInlinePeer_tame ?_
    | with_reducible refine Special.tame_cons spTapWorld_tame ?_
    | with_reducible refine Special.tame_cons spDigestKey_tame ?_
theorem State.setSat_keeps {t s : State} (h : Keeps t s) (a1 a2) :
    Keeps t (State.setSat s a1 a2) := by
  unfold State.setSat
  repeat' first
    | with_reducible assumption
    | (extract_lets +onlyGivenNames x; clear_value x)
    | simp only [↓Keeps.upd]
theorem State.satFree_keeps {t s : State} (h : Keeps t s) (a1) :
    Keeps t (State.satFree s a1) := by
  unfold State.satFree
  repeat' first
    | with_reducible assumption
    | with_reducible refine State.set_keeps ?_ _ _ _
    | with_reducible refine State.setSat_keeps ?_ _ _
    | with_reducible refine State.setInt_keeps ?_ _ _ _
theorem State.satsFree_keeps {t s : State} (h : Keeps t s) :
    Keeps t (State.satsFree s) := by
  unfold State.satsFree
  repeat' first
    | with_reducible assumption
    | with_reducible refine State.satFree_keeps ?_ _
    | with_reducible refine Keeps.foldl (fun _ _ _ => ?_) _ ?_
theorem spGnssEnable_tame : Special.Tame (spGnssEnable) := by
  refine ⟨fun {t s} c h => ?_, fun {t s} code c h => ?_⟩ <;> unfold spGnssEnable <;> dsimp -zeta only
  all_goals
    repeat' first
      | with_reducible assumption
      | with_reducible apply Keeps.ite
      | with_reducible refine State.set_keeps ?_ _ _ _
      | with_reducible refine State.satsFree_keeps ?_
      | (extract_lets +onlyGivenNames x; clear_value x)
      | simp only [↓Keeps.upd]
theorem spGnssRate_tame : Special.Tame (spGnssRate) := by
  refine ⟨fun {t s} c h => ?_, fun {t s} code c h => ?_⟩ <;> unfold spGnssRate <;> dsimp -zeta only
  all_goals
    repeat' first
      | with_reducible assumption
      | with_reducible refine State.set_keeps ?_ _ _ _
      | (extract_lets +onlyGivenNames x)
      | simp only [↓Keeps.upd]
theorem State.posWritten_keeps {t s : State} (h : Keeps t s) :
    Keeps t (State.posWritten s) := by
  unfold State.posWritten
  repeat' first
    | with_reducible assumption
    | (extract_lets +onlyGivenNames x; clear_value x)
    | simp only [↓Keeps.upd]
theorem spGnssPosMode_tame : Special.Tame (spGnssPosMode) := by
  refine ⟨fun {t s} c h => ?_, fun {t s} code c h => ?_⟩ <;> unfold spGnssPosMode <;> dsimp -zeta only
  all_goals
    repeat' first
      | with_reducible assumption
      | with_reducible refine State.posWritten_keeps ?_
      | with_reducible refine State.set_keeps ?_ _ _ _
      | (extract_lets +onlyGivenNames x; refine (fun (hx : Keeps t x) => ?_) ?_; clear_value x; rotate_left; subst x)
      | (extract_lets +onlyGivenNames x; clear_value x)
      | simp only [↓Keeps.upd]
theorem spGnssPos_tame : Special.Tame (spGnssPos) := by
  refine ⟨fun {t s} c h => ?_, fun {t s} code c h => ?_⟩ <;> unfold spGnssPos <;> dsimp -zeta only
  all_goals
    repeat' first
      | with_reducible assumption
      | with_reducible refine State.posWritten_keeps ?_
      | with_reducible refine State.setInt_keeps ?_ _ _ _
theorem spGnssEl_tame : Special.Tame (spGnssEl) := by
  refine ⟨fun {t s} c h => ?_, fun {t s} code c h => ?_⟩ <;> unfold spGnssEl <;> dsimp -zeta only
  all_goals
    repeat' first
      | with_reducible assumption
      | with_reducible refine State.setWords_keeps ?_ _ _ _
theorem spGnssVel_tame : Special.Tame (spGnssVel) := by
  refine ⟨fun {t s} c h => ?_, fun {t s} code c h => ?_⟩ <;> unfold spGnssVel <;> dsimp -zeta only
  all_goals
    repeat' first
      | with_reducible assumption
      | with_reducible refine State.setWords_keeps ?_ _ _ _
theorem spJamWarn_tame : Special.Tame (spJamWarn) := by
  refine ⟨fun {t s} c h => ?_, fun {t s} code c h => ?_⟩ <;> unfold spJamWarn <;> dsimp -zeta only
  all_goals
    repeat' first
      | with_reducible assumption
      | with_reducible refine State.setWords_keeps ?_ _ _ _
theorem spJamAlarm_tame : Special.Tame (spJamAlarm) := by
  refine ⟨fun {t s} c h => ?_, fun {t s} code c h => ?_⟩ <;> unfold spJamAlarm <;> dsimp -zeta only
  all_goals
    repeat' first
      | with_reducible assumption
      | with_reducible refine State.setWords_keeps ?_ _ _ _
theorem spWakeDwell_tame : Special.Tame (spWakeDwell) := by
  refine ⟨fun {t s} c h => ?_, fun {t s} code c h => ?_⟩ <;> unfold spWakeDwell <;> dsimp -zeta only
  all_goals
    repeat' first
      | with_reducible assumption
      | with_reducible refine State.setWords_keeps ?_ _ _ _
theorem State.keepPut_keeps {t s : State} (h : Keeps t s) (a1 a2) :
    Keeps t (State.keepPut s a1 a2) := by
  unfold State.keepPut
  repeat' first
    | with_reducible assumption
    | (extract_lets +onlyGivenNames x; clear_value x)
    | simp only [↓Keeps.upd]
theorem State.keepOne_keeps {t s : State} (h : Keeps t s) (a1 a2 a3) :
    Keeps t (State.keepOne s a1 a2 a3) := by
  unfold State.keepOne
  repeat' first
    | with_reducible assumption
    | with_reducible refine State.keepPut_keeps ?_ _ _
theorem spJamCal_tame : Special.Tame (spJamCal) := by
  refine ⟨fun {t s} c h => ?_, fun {t s} code c h => ?_⟩ <;> unfold spJamCal <;> dsimp -zeta only
  all_goals
    repeat' first
      | with_reducible assumption
      | with_reducible refine State.keepOne_keeps ?_ _ _ _
      | with_reducible refine Keeps.foldl (fun _ _ _ => ?_) _ ?_
theorem spWakeCmd_tame : Special.Tame (spWakeCmd) := by
  refine ⟨fun {t s} c h => ?_, fun {t s} code c h => ?_⟩ <;> unfold spWakeCmd <;> dsimp -zeta only
  all_goals
    repeat' first
      | with_reducible assumption
      | with_reducible refine State.gnssWakes_keeps ?_
theorem gnssSpecials_tame : ∀ sp ∈ gnssSpecials, Special.Tame sp := by
  unfold gnssSpecials
  repeat' first
    | exact Special.tame_nil
    | with_reducible refine Special.tame_cons spGnssEnable_tame ?_
    | with_reducible refine Special.tame_cons spGnssRate_tame ?_
    | with_reducible refine Special.tame_cons spGnssPosMode_tame ?_
    | with_reducible refine Special.tame_cons spGnssPos_tame ?_
    | with_reducible refine Special.tame_cons spGnssEl_tame ?_
    | with_reducible refine Special.tame_cons spGnssVel_tame ?_
    | with_reducible refine Special.tame_cons spJamWarn_tame ?_
    | with_reducible refine Special.tame_cons spJamAlarm_tame ?_
    | with_reducible refine Special.tame_cons spWakeDwell_tame ?_
    | with_reducible refine Special.tame_cons spJamCal_tame ?_
    | with_reducible refine Special.tame_cons spWakeCmd_tame ?_
theorem State.setGen_keeps {t s : State} (h : Keeps t s) (a1 a2) :
    Keeps t (State.setGen s a1 a2) := by
  unfold State.setGen
  repeat' first
    | with_reducible assumption
    | with_reducible apply Keeps.ite
    | with_reducible refine State.set_keeps ?_ _ _ _
theorem State.drew_keeps {t s : State} (h : Keeps t s) :
    Keeps t (State.drew s) := by
  unfold State.drew
  repeat' first
    | with_reducible assumption
    | simp only [↓Keeps.upd]
theorem State.cachePurge_keeps {t s : State} (h : Keeps t s) :
    Keeps t (State.cachePurge s) := by
  unfold State.cachePurge
  repeat' first
    | with_reducible assumption
    | with_reducible refine State.cacheSet_keeps ?_ _
theorem State.depthRefresh_keeps {t s : State} (h : Keeps t s) (a1) :
    Keeps t (State.depthRefresh s a1) := by
  unfold State.depthRefresh
  repeat' first
    | with_reducible assumption
    | with_reducible refine State.set_keeps ?_ _ _ _
    | with_reducible refine Keeps.foldl (fun _ _ _ => ?_) _ ?_
theorem State.redeclare_keeps {t s : State} (h : Keeps t s) (a1 a2) :
    Keeps t (State.redeclare s a1 a2) := by
  unfold State.redeclare
  repeat' first
    | with_reducible assumption
    | with_reducible apply Keeps.ite
    | with_reducible refine State.set_keeps ?_ _ _ _
    | with_reducible refine State.setGen_keeps ?_ _ _
    | with_reducible refine State.drew_keeps ?_
    | with_reducible refine State.cachePurge_keeps ?_
    | with_reducible refine State.depthRefresh_keeps ?_ _
    | (extract_lets +onlyGivenNames x)
    | split
theorem State.declare_keeps {t s : State} (h : Keeps t s) (a1 a2) :
    Keeps t (State.declare s a1 a2) := by
  unfold State.declare
  repeat' first
    | with_reducible assumption
    | with_reducible refine State.redeclare_keeps ?_ _ _
    | with_reducible refine State.setWords_keeps ?_ _ _ _
theorem spKeyClass_tame : Special.Tame (spKeyClass) := by
  refine ⟨fun {t s} c h => ?_, fun {t s} code c h => ?_⟩ <;> unfold spKeyClass <;> dsimp -zeta only
  all_goals
    repeat' first
      | with_reducible assumption
      | with_reducible refine State.declare_keeps ?_ _ _
theorem spKeyType_tame : Special.Tame (spKeyType) := by
  refine ⟨fun {t s} c h => ?_, fun {t s} code c h => ?_⟩ <;> unfold spKeyType <;> dsimp -zeta only
  all_goals
    repeat' first
      | with_reducible assumption
      | with_reducible refine State.declare_keeps ?_ _ _
theorem spKeyParent_tame : Special.Tame (spKeyParent) := by
  refine ⟨fun {t s} c h => ?_, fun {t s} code c h => ?_⟩ <;> unfold spKeyParent <;> dsimp -zeta only
  all_goals
    repeat' first
      | with_reducible assumption
      | with_reducible refine State.declare_keeps ?_ _ _
theorem spKeyLabel_tame : Special.Tame (spKeyLabel) := by
  refine ⟨fun {t s} c h => ?_, fun {t s} code c h => ?_⟩ <;> unfold spKeyLabel <;> dsimp -zeta only
  all_goals
    repeat' first
      | with_reducible assumption
      | with_reducible refine State.declare_keeps ?_ _ _
theorem spKeyUsage_tame : Special.Tame (spKeyUsage) := by
  refine ⟨fun {t s} c h => ?_, fun {t s} code c h => ?_⟩ <;> unfold spKeyUsage <;> dsimp -zeta only
  all_goals
    repeat' first
      | with_reducible assumption
      | with_reducible refine State.setWords_keeps ?_ _ _ _
theorem spKeyEngineMask_tame : Special.Tame (spKeyEngineMask) := by
  refine ⟨fun {t s} c h => ?_, fun {t s} code c h => ?_⟩ <;> unfold spKeyEngineMask <;> dsimp -zeta only
  all_goals
    repeat' first
      | with_reducible assumption
      | with_reducible refine State.setWords_keeps ?_ _ _ _
theorem State.share_keeps {t s : State} (h : Keeps t s) (a1) :
    Keeps t (State.share s a1).2 := by
  unfold State.share
  repeat' first
    | with_reducible assumption
    | with_reducible refine State.drew_keeps ?_
theorem State.share_keepsE {t s r : State} {q} {a1} (e : State.share s a1 = (q, r)) (h : Keeps t s) : Keeps t r := by
  have := State.share_keeps h a1; rw [e] at this; exact this
theorem State.setKey_keeps {t s : State} (h : Keeps t s) (a1 a2) :
    Keeps t (State.setKey s a1 a2) := by
  unfold State.setKey
  repeat' first
    | with_reducible assumption
    | with_reducible refine State.share_keeps ?_ _
    | simp only [↓Keeps.upd]
theorem State.advanceGen_keeps {t s : State} (h : Keeps t s) (a1) :
    Keeps t (State.advanceGen s a1) := by
  unfold State.advanceGen
  repeat' first
    | with_reducible assumption
    | with_reducible apply Keeps.ite
    | with_reducible refine State.setGen_keeps ?_ _ _
    | (extract_lets +onlyGivenNames x; clear_value x)
    | simp only [↓Keeps.upd]
theorem State.advanceTree_keeps {t s : State} (h : Keeps t s) (a1) :
    Keeps t (State.advanceTree s a1) := by
  unfold State.advanceTree
  repeat' first
    | with_reducible assumption
    | with_reducible refine State.cachePurge_keeps ?_
    | with_reducible refine State.advanceGen_keeps ?_ _
    | with_reducible refine Keeps.foldl (fun _ _ _ => ?_) _ ?_
theorem State.loadKey_keeps {t s : State} (h : Keeps t s) (a1 a2) :
    Keeps t (State.loadKey s a1 a2) := by
  unfold State.loadKey
  repeat' first
    | with_reducible assumption
    | with_reducible refine State.setKey_keeps ?_ _ _
    | with_reducible refine State.set_keeps ?_ _ _ _
    | with_reducible refine State.setOct_keeps ?_ _ _ _
    | with_reducible refine State.advanceTree_keeps ?_ _
theorem State.eraseKey_keeps {t s : State} (h : Keeps t s) (a1) :
    Keeps t (State.eraseKey s a1) := by
  unfold State.eraseKey
  repeat' first
    | with_reducible assumption
    | (extract_lets +onlyGivenNames x; clear_value x)
    | simp only [↓Keeps.upd]
theorem State.dropKey_keeps {t s : State} (h : Keeps t s) (a1 a2) :
    Keeps t (State.dropKey s a1 a2) := by
  unfold State.dropKey
  repeat' first
    | with_reducible assumption
    | with_reducible refine State.advanceGen_keeps ?_ _
    | with_reducible refine State.set_keeps ?_ _ _ _
    | with_reducible refine State.eraseKey_keeps ?_ _
    | with_reducible refine State.cachePurge_keeps ?_
    | with_reducible refine State.setOct_keeps ?_ _ _ _
    | with_reducible refine Keeps.foldl (fun _ _ _ => ?_) _ ?_
theorem spKeyCtrl_tame : Special.Tame (spKeyCtrl) := by
  refine ⟨fun {t s} c h => ?_, fun {t s} code c h => ?_⟩ <;> unfold spKeyCtrl <;> dsimp -zeta only
  all_goals
    repeat' first
      | with_reducible assumption
      | with_reducible apply Keeps.ite
      | with_reducible refine State.loadKey_keeps ?_ _ _
      | with_reducible refine State.drew_keeps ?_
      | with_reducible refine State.set_keeps ?_ _ _ _
      | with_reducible refine State.advanceTree_keeps ?_ _
      | with_reducible refine State.dropKey_keeps ?_ _ _
      | with_reducible refine State.useKey_keepsE (by assumption) ?_
      | with_reducible refine State.useKey_keeps ?_ _ _
      | (extract_lets +onlyGivenNames x; refine (fun (hx : Keeps t x) => ?_) ?_; clear_value x; rotate_left; subst x)
      | (extract_lets +onlyGivenNames x; clear_value x)
      | simp only [↓Keeps.upd]
      | split
theorem spVaultQuietForce_tame : Special.Tame (spVaultQuietForce) := by
  refine ⟨fun {t s} c h => ?_, fun {t s} code c h => ?_⟩ <;> unfold spVaultQuietForce <;> dsimp -zeta only
  all_goals
    repeat' first
      | with_reducible assumption
      | (extract_lets +onlyGivenNames x; clear_value x)
      | simp only [↓Keeps.upd]
theorem State.shadowKey_keeps {t s : State} (h : Keeps t s) (a1 a2) :
    Keeps t (State.shadowKey s a1 a2) := by
  unfold State.shadowKey
  repeat' first
    | with_reducible assumption
    | with_reducible refine State.share_keeps ?_ _
    | with_reducible refine State.set_keeps ?_ _ _ _
    | (extract_lets +onlyGivenNames x; clear_value x)
    | simp only [↓Keeps.upd]
theorem State.shadowEmpty_keeps {t s : State} (h : Keeps t s) (a1) :
    Keeps t (State.shadowEmpty s a1) := by
  unfold State.shadowEmpty
  repeat' first
    | with_reducible assumption
    | with_reducible refine State.setOct_keeps ?_ _ _ _
    | with_reducible refine State.set_keeps ?_ _ _ _
    | (extract_lets +onlyGivenNames x; refine (fun (hx : Keeps t x) => ?_) ?_; clear_value x; rotate_left; subst x)
    | (extract_lets +onlyGivenNames x; clear_value x)
    | simp only [↓Keeps.upd]
theorem spShCtrl_tame : Special.Tame (spShCtrl) := by
  refine ⟨fun {t s} c h => ?_, fun {t s} code c h => ?_⟩ <;> unfold spShCtrl <;> dsimp -zeta only
  all_goals
    repeat' first
      | with_reducible assumption
      | with_reducible apply Keeps.ite
      | with_reducible refine State.set_keeps ?_ _ _ _
      | with_reducible refine State.setOct_keeps ?_ _ _ _
      | with_reducible refine State.shadowKey_keeps ?_ _ _
      | with_reducible refine State.drew_keeps ?_
      | with_reducible refine State.shadowEmpty_keeps ?_ _
      | (extract_lets +onlyGivenNames x; clear_value x)
      | split
theorem spShadow_tame (a0) : Special.Tame (spShadow a0) := by
  refine ⟨fun {t s} c h => ?_, fun {t s} code c h => ?_⟩ <;> unfold spShadow <;> dsimp -zeta only
  all_goals
    repeat' first
      | with_reducible assumption
      | with_reducible refine State.setWords_keeps ?_ _ _ _
theorem spAnchorCommit_tame : Special.Tame (spAnchorCommit) := by
  refine ⟨fun {t s} c h => ?_, fun {t s} code c h => ?_⟩ <;> unfold spAnchorCommit <;> dsimp -zeta only
  all_goals
    repeat' first
      | with_reducible assumption
      | with_reducible refine State.set_keeps ?_ _ _ _
      | (extract_lets +onlyGivenNames x; clear_value x)
      | simp only [↓Keeps.upd]
theorem State.selfTests_keeps {t s : State} (h : Keeps t s) (a1) :
    Keeps t (State.selfTests s a1) := by
  unfold State.selfTests
  repeat' first
    | with_reducible assumption
    | with_reducible apply Keeps.ite
    | with_reducible refine State.set_keeps ?_ _ _ _
    | with_reducible refine State.raise_keeps ?_ _ _ _ _
theorem spSelftest_tame : Special.Tame (spSelftest) := by
  refine ⟨fun {t s} c h => ?_, fun {t s} code c h => ?_⟩ <;> unfold spSelftest <;> dsimp -zeta only
  all_goals
    repeat' first
      | with_reducible assumption
      | with_reducible refine State.selfTests_keeps ?_ _
theorem spCertBurn_tame : Special.Tame (spCertBurn) := by
  refine ⟨fun {t s} c h => ?_, fun {t s} code c h => ?_⟩ <;> unfold spCertBurn <;> dsimp -zeta only
  all_goals
    repeat' first
      | with_reducible assumption
      | (extract_lets +onlyGivenNames x; clear_value x)
      | simp only [↓Keeps.upd]
theorem vaultSpecials_tame : ∀ sp ∈ vaultSpecials, Special.Tame sp := by
  unfold vaultSpecials
  repeat' first
    | exact Special.tame_nil
    | with_reducible refine Special.tame_cons spKeyClass_tame ?_
    | with_reducible refine Special.tame_cons spKeyType_tame ?_
    | with_reducible refine Special.tame_cons spKeyParent_tame ?_
    | with_reducible refine Special.tame_cons spKeyLabel_tame ?_
    | with_reducible refine Special.tame_cons spKeyUsage_tame ?_
    | with_reducible refine Special.tame_cons spKeyEngineMask_tame ?_
    | with_reducible refine Special.tame_cons spKeyCtrl_tame ?_
    | with_reducible refine Special.tame_cons spVaultQuietForce_tame ?_
    | with_reducible refine Special.tame_cons spShCtrl_tame ?_
    | with_reducible refine Special.tame_cons (spShadow_tame _) ?_
    | with_reducible refine Special.tame_cons spAnchorCommit_tame ?_
    | with_reducible refine Special.tame_cons spSelftest_tame ?_
    | with_reducible refine Special.tame_cons spCertBurn_tame ?_
theorem spAttestKey_tame : Special.Tame (spAttestKey) := by
  refine ⟨fun {t s} c h => ?_, fun {t s} code c h => ?_⟩ <;> unfold spAttestKey <;> dsimp -zeta only
  all_goals
    repeat' first
      | with_reducible assumption
      | with_reducible refine State.setWords_keeps ?_ _ _ _
theorem attestSpecials_tame : ∀ sp ∈ attestSpecials, Special.Tame sp := by
  unfold attestSpecials
  repeat' first
    | exact Special.tame_nil
    | with_reducible refine Special.tame_cons spAttestKey_tame ?_
theorem spFltClear_tame : Special.Tame (spFltClear) := by
  refine ⟨fun {t s} c h => ?_, fun {t s} code c h => ?_⟩ <;> unfold spFltClear <;> dsimp -zeta only
  all_goals
    repeat' first
      | with_reducible assumption
      | with_reducible apply Keeps.ite
      | with_reducible refine State.clearRecord_keeps ?_ _
      | with_reducible refine State.settle_keeps ?_ _
      | simp only [↓Keeps.upd]
      | split
theorem spFltSeverity_tame : Special.Tame (spFltSeverity) := by
  refine ⟨fun {t s} c h => ?_, fun {t s} code c h => ?_⟩ <;> unfold spFltSeverity <;> dsimp -zeta only
  all_goals
    repeat' first
      | with_reducible assumption
      | with_reducible refine State.setWords_keeps ?_ _ _ _
theorem spFltN_tame : Special.Tame (spFltN) := by
  refine ⟨fun {t s} c h => ?_, fun {t s} code c h => ?_⟩ <;> unfold spFltN <;> dsimp -zeta only
  all_goals
    repeat' first
      | with_reducible assumption
      | with_reducible refine State.sourceRefresh_keeps ?_ _
      | with_reducible refine State.set_keeps ?_ _ _ _
theorem spFltW_tame : Special.Tame (spFltW) := by
  refine ⟨fun {t s} c h => ?_, fun {t s} code c h => ?_⟩ <;> unfold spFltW <;> dsimp -zeta only
  all_goals
    repeat' first
      | with_reducible assumption
      | with_reducible refine State.sourceRefresh_keeps ?_ _
      | with_reducible refine State.set_keeps ?_ _ _ _
theorem spFltWorlds_tame : Special.Tame (spFltWorlds) := by
  refine ⟨fun {t s} c h => ?_, fun {t s} code c h => ?_⟩ <;> unfold spFltWorlds <;> dsimp -zeta only
  all_goals
    repeat' first
      | with_reducible assumption
      | with_reducible refine State.setWords_keeps ?_ _ _ _
theorem spFltAutoclear_tame : Special.Tame (spFltAutoclear) := by
  refine ⟨fun {t s} c h => ?_, fun {t s} code c h => ?_⟩ <;> unfold spFltAutoclear <;> dsimp -zeta only
  all_goals
    repeat' first
      | with_reducible assumption
      | with_reducible refine State.setWords_keeps ?_ _ _ _
theorem spCheckSeverity_tame : Special.Tame (spCheckSeverity) := by
  refine ⟨fun {t s} c h => ?_, fun {t s} code c h => ?_⟩ <;> unfold spCheckSeverity <;> dsimp -zeta only
  all_goals
    repeat' first
      | with_reducible assumption
      | with_reducible refine State.setWords_keeps ?_ _ _ _
theorem spMaintCtrl_tame : Special.Tame (spMaintCtrl) := by
  refine ⟨fun {t s} c h => ?_, fun {t s} code c h => ?_⟩ <;> unfold spMaintCtrl <;> dsimp -zeta only
  all_goals
    repeat' first
      | with_reducible assumption
      | with_reducible apply Keeps.ite
      | with_reducible refine State.raise_keeps ?_ _ _ _ _
      | with_reducible refine State.deassert_keeps ?_ _
theorem State.maskRefresh_keeps {t s : State} (h : Keeps t s) (a1) :
    Keeps t (State.maskRefresh s a1) := by
  unfold State.maskRefresh
  repeat' first
    | with_reducible assumption
    | with_reducible refine State.sourceRefresh_keeps ?_ _
    | with_reducible refine Keeps.foldl (fun _ _ _ => ?_) _ ?_
theorem State.satRefresh_keeps {t s : State} (h : Keeps t s) (a1) :
    Keeps t (State.satRefresh s a1) := by
  unfold State.satRefresh
  repeat' first
    | with_reducible assumption
    | with_reducible refine State.set_keeps ?_ _ _ _
    | split
theorem State.clusterTest_keeps {t s : State} (h : Keeps t s) (a1) :
    Keeps t (State.clusterTest s a1) := by
  unfold State.clusterTest
  repeat' first
    | with_reducible assumption
    | with_reducible apply Keeps.ite
    | with_reducible refine State.satFree_keeps ?_ _
    | with_reducible refine State.satRefresh_keeps ?_ _
    | with_reducible refine State.setSat_keeps ?_ _ _
    | with_reducible refine Keeps.foldl (fun _ _ _ => ?_) _ ?_
    | (extract_lets +onlyGivenNames x; clear_value x)
    | simp only [↓Keeps.upd]
    | split
theorem State.testIsland_keeps {t s : State} (h : Keeps t s) (a1) :
    Keeps t (State.testIsland s a1) := by
  unfold State.testIsland
  repeat' first
    | with_reducible assumption
    | with_reducible apply Keeps.ite
    | with_reducible refine State.set_keeps ?_ _ _ _
    | with_reducible refine State.clusterTest_keeps ?_ _
theorem spBistStart_tame : Special.Tame (spBistStart) := by
  refine ⟨fun {t s} c h => ?_, fun {t s} code c h => ?_⟩ <;> unfold spBistStart <;> dsimp -zeta only
  all_goals
    repeat' first
      | with_reducible assumption
      | with_reducible refine State.set_keeps ?_ _ _ _
      | with_reducible refine State.maskRefresh_keeps ?_ _
      | with_reducible refine State.testIsland_keeps ?_ _
      | with_reducible refine Keeps.foldl (fun _ _ _ => ?_) _ ?_
      | (extract_lets +onlyGivenNames x; clear_value x)
      | simp only [↓Keeps.upd]
theorem hollySpecials_tame : ∀ sp ∈ hollySpecials, Special.Tame sp := by
  unfold hollySpecials
  repeat' first
    | exact Special.tame_nil
    | with_reducible refine Special.tame_cons spFltClear_tame ?_
    | with_reducible refine Special.tame_cons spFltSeverity_tame ?_
    | with_reducible refine Special.tame_cons spFltN_tame ?_
    | with_reducible refine Special.tame_cons spFltW_tame ?_
    | with_reducible refine Special.tame_cons spFltWorlds_tame ?_
    | with_reducible refine Special.tame_cons spFltAutoclear_tame ?_
    | with_reducible refine Special.tame_cons spCheckSeverity_tame ?_
    | with_reducible refine Special.tame_cons spMaintCtrl_tame ?_
    | with_reducible refine Special.tame_cons spBistStart_tame ?_
theorem State.perfRefresh_keeps {t s : State} (h : Keeps t s) (a1) :
    Keeps t (State.perfRefresh s a1) := by
  unfold State.perfRefresh
  repeat' first
    | with_reducible assumption
    | with_reducible refine State.set_keeps ?_ _ _ _
theorem spPerfEvent_tame : Special.Tame (spPerfEvent) := by
  refine ⟨fun {t s} c h => ?_, fun {t s} code c h => ?_⟩ <;> unfold spPerfEvent <;> dsimp -zeta only
  all_goals
    repeat' first
      | with_reducible assumption
      | with_reducible refine State.perfRefresh_keeps ?_ _
      | with_reducible refine State.set_keeps ?_ _ _ _
theorem spPerfMode_tame : Special.Tame (spPerfMode) := by
  refine ⟨fun {t s} c h => ?_, fun {t s} code c h => ?_⟩ <;> unfold spPerfMode <;> dsimp -zeta only
  all_goals
    repeat' first
      | with_reducible assumption
      | with_reducible refine State.setWords_keeps ?_ _ _ _
theorem spPerfUnit_tame : Special.Tame (spPerfUnit) := by
  refine ⟨fun {t s} c h => ?_, fun {t s} code c h => ?_⟩ <;> unfold spPerfUnit <;> dsimp -zeta only
  all_goals
    repeat' first
      | with_reducible assumption
      | with_reducible refine State.perfRefresh_keeps ?_ _
      | with_reducible refine State.set_keeps ?_ _ _ _
theorem spPerfThresh_tame : Special.Tame (spPerfThresh) := by
  refine ⟨fun {t s} c h => ?_, fun {t s} code c h => ?_⟩ <;> unfold spPerfThresh <;> dsimp -zeta only
  all_goals
    repeat' first
      | with_reducible assumption
      | with_reducible refine State.setWords_keeps ?_ _ _ _
theorem spPerfGlobal_tame : Special.Tame (spPerfGlobal) := by
  refine ⟨fun {t s} c h => ?_, fun {t s} code c h => ?_⟩ <;> unfold spPerfGlobal <;> dsimp -zeta only
  all_goals
    repeat' first
      | with_reducible assumption
      | with_reducible refine State.set_keeps ?_ _ _ _
      | (extract_lets +onlyGivenNames x; clear_value x)
      | simp only [↓Keeps.upd]
theorem State.perfZero_keeps {t s : State} (h : Keeps t s) (a1) :
    Keeps t (State.perfZero s a1) := by
  unfold State.perfZero
  repeat' first
    | with_reducible assumption
    | with_reducible refine State.set_keeps ?_ _ _ _
theorem spPerfCtrl_tame : Special.Tame (spPerfCtrl) := by
  refine ⟨fun {t s} c h => ?_, fun {t s} code c h => ?_⟩ <;> unfold spPerfCtrl <;> dsimp -zeta only
  all_goals
    repeat' first
      | with_reducible assumption
      | with_reducible refine State.perfZero_keeps ?_ _
theorem spSampleCtrl_tame : Special.Tame (spSampleCtrl) := by
  refine ⟨fun {t s} c h => ?_, fun {t s} code c h => ?_⟩ <;> unfold spSampleCtrl <;> dsimp -zeta only
  all_goals
    repeat' first
      | with_reducible assumption
      | with_reducible refine State.set_keeps ?_ _ _ _
      | (extract_lets +onlyGivenNames x; clear_value x)
      | simp only [↓Keeps.upd]
theorem spSampleSel_tame : Special.Tame (spSampleSel) := by
  refine ⟨fun {t s} c h => ?_, fun {t s} code c h => ?_⟩ <;> unfold spSampleSel <;> dsimp -zeta only
  all_goals
    repeat' first
      | with_reducible assumption
      | with_reducible refine State.setOct_keeps ?_ _ _ _
      | with_reducible refine State.set_keeps ?_ _ _ _
theorem perfSpecials_tame : ∀ sp ∈ perfSpecials, Special.Tame sp := by
  unfold perfSpecials
  repeat' first
    | exact Special.tame_nil
    | with_reducible refine Special.tame_cons spPerfEvent_tame ?_
    | with_reducible refine Special.tame_cons spPerfMode_tame ?_
    | with_reducible refine Special.tame_cons spPerfUnit_tame ?_
    | with_reducible refine Special.tame_cons spPerfThresh_tame ?_
    | with_reducible refine Special.tame_cons spPerfGlobal_tame ?_
    | with_reducible refine Special.tame_cons spPerfCtrl_tame ?_
    | with_reducible refine Special.tame_cons spSampleCtrl_tame ?_
    | with_reducible refine Special.tame_cons spSampleSel_tame ?_
theorem spLifecycleReq_tame : Special.Tame (spLifecycleReq) := by
  refine ⟨fun {t s} c h => ?_, fun {t s} code c h => ?_⟩ <;> unfold spLifecycleReq <;> dsimp -zeta only
  all_goals
    repeat' first
      | with_reducible assumption
      | with_reducible refine State.set_keeps ?_ _ _ _
      | (extract_lets +onlyGivenNames x; refine (fun (hx : Keeps t x) => ?_) ?_; clear_value x; rotate_left; subst x)
      | (extract_lets +onlyGivenNames x; clear_value x)
      | simp only [↓Keeps.upd]
theorem spBootOptionsBurn_tame : Special.Tame (spBootOptionsBurn) := by
  refine ⟨fun {t s} c h => ?_, fun {t s} code c h => ?_⟩ <;> unfold spBootOptionsBurn <;> dsimp -zeta only
  all_goals
    repeat' first
      | with_reducible assumption
      | (extract_lets +onlyGivenNames x; clear_value x)
      | simp only [↓Keeps.upd]
theorem spTrimProfile_tame : Special.Tame (spTrimProfile) := by
  refine ⟨fun {t s} c h => ?_, fun {t s} code c h => ?_⟩ <;> unfold spTrimProfile <;> dsimp -zeta only
  all_goals
    repeat' first
      | with_reducible assumption
      | with_reducible refine State.set_keeps ?_ _ _ _
      | (extract_lets +onlyGivenNames x; refine (fun (hx : Keeps t x) => ?_) ?_; clear_value x; rotate_left; subst x)
      | (extract_lets +onlyGivenNames x; clear_value x)
      | simp only [↓Keeps.upd]
theorem spImageLoad_tame : Special.Tame (spImageLoad) := by
  refine ⟨fun {t s} c h => ?_, fun {t s} code c h => ?_⟩ <;> unfold spImageLoad <;> dsimp -zeta only
  all_goals
    repeat' first
      | with_reducible assumption
      | with_reducible apply Keeps.ite
      | with_reducible refine State.set_keeps ?_ _ _ _
      | with_reducible refine State.emit_keeps ?_ _
      | (extract_lets +onlyGivenNames x; refine (fun (hx : Keeps t x) => ?_) ?_; clear_value x; rotate_left; subst x)
      | (extract_lets +onlyGivenNames x; clear_value x)
      | (extract_lets +onlyGivenNames x)
      | simp only [↓Keeps.upd]
      | split
theorem bringSpecials_tame : ∀ sp ∈ bringSpecials, Special.Tame sp := by
  unfold bringSpecials
  repeat' first
    | exact Special.tame_nil
    | with_reducible refine Special.tame_cons spLifecycleReq_tame ?_
    | with_reducible refine Special.tame_cons spBootOptionsBurn_tame ?_
    | with_reducible refine Special.tame_cons spTrimProfile_tame ?_
    | with_reducible refine Special.tame_cons spImageLoad_tame ?_
theorem spClkoutFormat_tame : Special.Tame (spClkoutFormat) := by
  refine ⟨fun {t s} c h => ?_, fun {t s} code c h => ?_⟩ <;> unfold spClkoutFormat <;> dsimp -zeta only
  all_goals
    repeat' first
      | with_reducible assumption
      | with_reducible refine State.setWords_keeps ?_ _ _ _
theorem State.pairDiscard_keeps {t s : State} (h : Keeps t s) :
    Keeps t (State.pairDiscard s) := by
  unfold State.pairDiscard
  repeat' first
    | with_reducible assumption
    | with_reducible refine State.refusal_keeps ?_ _ _ _ _ _
    | (extract_lets +onlyGivenNames x; clear_value x)
    | (extract_lets +onlyGivenNames x)
    | simp only [↓Keeps.upd]
    | split
theorem State.functionReset_keeps {t s : State} (h : Keeps t s) (a1) :
    Keeps t (State.functionReset s a1) := by
  unfold State.functionReset
  repeat' first
    | with_reducible assumption
    | with_reducible apply Keeps.ite
    | with_reducible refine State.ringReset_keeps ?_ _ _
    | with_reducible refine State.pairDiscard_keeps ?_
    | with_reducible refine Keeps.foldl (fun _ _ _ => ?_) _ ?_
    | (extract_lets +onlyGivenNames x; refine (fun (hx : Keeps t x) => ?_) ?_; clear_value x; rotate_left; subst x)
    | (extract_lets +onlyGivenNames x; clear_value x)
    | simp only [↓Keeps.upd]
    | split
theorem spBindPcie_tame : Special.Tame (spBindPcie) := by
  refine ⟨fun {t s} c h => ?_, fun {t s} code c h => ?_⟩ <;> unfold spBindPcie <;> dsimp -zeta only
  all_goals
    repeat' first
      | with_reducible assumption
      | with_reducible apply Keeps.ite
      | with_reducible refine State.functionReset_keeps ?_ _
      | with_reducible refine State.set_keeps ?_ _ _ _
theorem spIrlinKey_tame : Special.Tame (spIrlinKey) := by
  refine ⟨fun {t s} c h => ?_, fun {t s} code c h => ?_⟩ <;> unfold spIrlinKey <;> dsimp -zeta only
  all_goals
    repeat' first
      | with_reducible assumption
      | with_reducible refine State.setWords_keeps ?_ _ _ _
theorem spIrlinWorld_tame : Special.Tame (spIrlinWorld) := by
  refine ⟨fun {t s} c h => ?_, fun {t s} code c h => ?_⟩ <;> unfold spIrlinWorld <;> dsimp -zeta only
  all_goals
    repeat' first
      | with_reducible assumption
      | with_reducible refine State.setWords_keeps ?_ _ _ _
theorem spLockCtrl_tame : Special.Tame (spLockCtrl) := by
  refine ⟨fun {t s} c h => ?_, fun {t s} code c h => ?_⟩ <;> unfold spLockCtrl <;> dsimp -zeta only
  all_goals
    repeat' first
      | with_reducible assumption
      | with_reducible apply Keeps.ite
      | with_reducible refine State.set_keeps ?_ _ _ _
      | (extract_lets +onlyGivenNames x; clear_value x)
      | simp only [↓Keeps.upd]
theorem State.startCommit_keeps {t s : State} (h : Keeps t s) (a1) :
    Keeps t (State.startCommit s a1) := by
  unfold State.startCommit
  repeat' first
    | with_reducible assumption
    | with_reducible refine State.set_keeps ?_ _ _ _
    | (extract_lets +onlyGivenNames x; clear_value x)
    | simp only [↓Keeps.upd]
theorem spCommitRef_tame : Special.Tame (spCommitRef) := by
  refine ⟨fun {t s} c h => ?_, fun {t s} code c h => ?_⟩ <;> unfold spCommitRef <;> dsimp -zeta only
  all_goals
    repeat' first
      | with_reducible assumption
      | with_reducible refine State.startCommit_keeps ?_ _
      | with_reducible refine State.set_keeps ?_ _ _ _
theorem spEditCtrl_tame : Special.Tame (spEditCtrl) := by
  refine ⟨fun {t s} c h => ?_, fun {t s} code c h => ?_⟩ <;> unfold spEditCtrl <;> dsimp -zeta only
  all_goals
    repeat' first
      | with_reducible assumption
      | (extract_lets +onlyGivenNames x; clear_value x)
      | simp only [↓Keeps.upd]
theorem allSpecials_tame : ∀ sp ∈ allSpecials, Special.Tame sp := by
  unfold allSpecials
  repeat' first
    | exact Special.tame_nil
    | refine Special.tame_append ?_ ?_
    | exact privetSpecials_tame
    | exact boundSpecials_tame
    | exact hornbeamSpecials_tame
    | exact yewSpecials_tame
    | exact counterSpecials_tame
    | exact synthSpecials_tame
    | exact portSpecials_tame
    | exact hostSpecials_tame
    | exact ptpSpecials_tame
    | exact ntpSpecials_tame
    | exact tapSpecials_tame
    | exact gnssSpecials_tame
    | exact vaultSpecials_tame
    | exact attestSpecials_tame
    | exact hollySpecials_tame
    | exact perfSpecials_tame
    | exact bringSpecials_tame
    | with_reducible refine Special.tame_cons spClkoutFormat_tame ?_
    | with_reducible refine Special.tame_cons spBindPcie_tame ?_
    | with_reducible refine Special.tame_cons spIrlinKey_tame ?_
    | with_reducible refine Special.tame_cons spIrlinWorld_tame ?_
    | with_reducible refine Special.tame_cons spLockCtrl_tame ?_
    | with_reducible refine Special.tame_cons spCommitRef_tame ?_
    | with_reducible refine Special.tame_cons spEditCtrl_tame ?_
theorem State.pairMeets_keeps {t s : State} (h : Keeps t s) (a1 a2) :
    Keeps t (State.pairMeets s a1 a2) := by
  unfold State.pairMeets
  repeat' first
    | with_reducible assumption
    | with_reducible apply Keeps.ite
    | with_reducible refine State.pairDiscard_keeps ?_
    | (extract_lets +onlyGivenNames x; refine (fun (hx : Keeps t x) => ?_) ?_; clear_value x; rotate_left; subst x)
    | split
theorem State.accept_keeps {t s : State} {sp : Special} (hs : sp.Tame) (h : Keeps t s) (c : Ctx) : Keeps t (s.accept sp c) := by
  unfold State.accept
  repeat' first
    | with_reducible assumption
    | with_reducible apply Keeps.ite
    | with_reducible refine State.set_keeps ?_ _ _ _
    | refine hs.1 _ ?_
    | (extract_lets +onlyGivenNames x; clear_value x)
    | simp only [↓Keeps.upd]
theorem State.write_keeps' {t s : State} {sp : Special} (hs : sp.Tame) (h : Keeps t s) (m : Master) (i : Nat) (ws : List Word) (x : List Nat) :
    Keeps t (s.write sp m i ws x).2 := by
  unfold State.write
  repeat' first
    | with_reducible assumption
    | with_reducible apply Keeps.ite
    | with_reducible apply Keeps.ite2
    | with_reducible refine State.perfEvent_keeps ?_ _ _ _
    | with_reducible refine State.bump_keeps ?_ _ _ _
    | with_reducible refine State.pairMeets_keeps ?_ _ _
    | with_reducible refine State.refusal_keeps ?_ _ _ _ _ _
    | with_reducible refine State.accept_keeps hs ?_ _
    | refine hs.2 _ _ ?_
    | (extract_lets +onlyGivenNames x; refine (fun (hx : Keeps t x) => ?_) ?_; clear_value x; rotate_left; subst x)
    | (extract_lets +onlyGivenNames x; clear_value x)
    | simp only [↓Keeps.upd]
    | split
theorem plain_tame (e : Entry) : (plain e).Tame :=
  ⟨fun c h => State.setWords_keeps h _ _ _, fun _ _ h => h⟩
theorem specialOf_tame (e : Entry) : (specialOf e).Tame := by
  unfold specialOf
  cases hf : allSpecials.find? (fun x => x.entry == e) with
  | none => exact plain_tame e
  | some sp => exact allSpecials_tame sp (List.mem_of_find?_eq_some hf)
theorem State.write_keeps {t s : State} (h : Keeps t s) (e : Entry) (m : Master) (i : Nat) (ws : List Word) (x : List Nat) :
    Keeps t (s.write (specialOf e) m i ws x).2 := State.write_keeps' (specialOf_tame e) h m i ws x
theorem State.write_keepsE {t s r : State} {e : Entry} {m : Master} {i : Nat} {ws : List Word} {x : List Nat} {q : Nat}
    (he : s.write (specialOf e) m i ws x = (q, r)) (h : Keeps t s) : Keeps t r := by
  have := State.write_keeps h e m i ws x; rw [he] at this; exact this
theorem State.writeRefused_keeps {t s : State} (h : Keeps t s) (a1 a2 a3 a4 a5) :
    Keeps t (State.writeRefused s a1 a2 a3 a4 a5).2 := by
  unfold State.writeRefused
  repeat' first
    | with_reducible assumption
    | with_reducible refine State.refusal_keeps ?_ _ _ _ _ _
theorem State.writeRefused_keepsE {t s r : State} {q} {a1 a2 a3 a4 a5} (e : State.writeRefused s a1 a2 a3 a4 a5 = (q, r)) (h : Keeps t s) : Keeps t r := by
  have := State.writeRefused_keeps h a1 a2 a3 a4 a5; rw [e] at this; exact this
theorem State.guardComplement_keeps {t s : State} (h : Keeps t s) (a1 a2 a3 a4 a5 a6) :
    Keeps t (State.guardComplement s a1 a2 a3 a4 a5 a6).2 := by
  unfold State.guardComplement
  repeat' first
    | with_reducible assumption
    | with_reducible apply Keeps.ite
    | with_reducible apply Keeps.ite2
    | with_reducible refine State.pairDiscard_keeps ?_
    | with_reducible refine State.write_keeps ?_ _ _ _ _ _
    | with_reducible refine State.writeRefused_keeps ?_ _ _ _ _ _
    | (extract_lets +onlyGivenNames x; refine (fun (hx : Keeps t x) => ?_) ?_; clear_value x; rotate_left; subst x)
    | (extract_lets +onlyGivenNames x)
    | simp only [↓Keeps.upd]
    | split
theorem State.guardComplement_keepsE {t s r : State} {q} {a1 a2 a3 a4 a5 a6} (e : State.guardComplement s a1 a2 a3 a4 a5 a6 = (q, r)) (h : Keeps t s) : Keeps t r := by
  have := State.guardComplement_keeps h a1 a2 a3 a4 a5 a6; rw [e] at this; exact this
theorem State.guardValue_keeps {t s : State} (h : Keeps t s) (a1 a2 a3 a4 a5 a6 a7) :
    Keeps t (State.guardValue s a1 a2 a3 a4 a5 a6 a7).2 := by
  unfold State.guardValue
  repeat' first
    | with_reducible assumption
    | with_reducible apply Keeps.ite2
    | with_reducible refine State.pairMeets_keeps ?_ _ _
    | with_reducible refine State.writeRefused_keeps ?_ _ _ _ _ _
    | (extract_lets +onlyGivenNames x; clear_value x)
    | simp only [↓Keeps.upd]
theorem State.guardValue_keepsE {t s r : State} {q} {a1 a2 a3 a4 a5 a6 a7} (e : State.guardValue s a1 a2 a3 a4 a5 a6 a7 = (q, r)) (h : Keeps t s) : Keeps t r := by
  have := State.guardValue_keeps h a1 a2 a3 a4 a5 a6 a7; rw [e] at this; exact this
theorem State.stage_keeps {t s : State} (h : Keeps t s) (a1 a2 a3 a4) :
    Keeps t (State.stage s a1 a2 a3 a4) := by
  unfold State.stage
  repeat' first
    | with_reducible assumption
    | (extract_lets +onlyGivenNames x; clear_value x)
    | simp only [↓Keeps.upd]
theorem State.unstage_keeps {t s : State} (h : Keeps t s) (a1) :
    Keeps t (State.unstage s a1) := by
  unfold State.unstage
  repeat' first
    | with_reducible assumption
    | (extract_lets +onlyGivenNames x; clear_value x)
    | simp only [↓Keeps.upd]
theorem State.applyWords_keeps {t s : State} (h : Keeps t s) (a1 a2 a3 a4 a5 a6) :
    Keeps t (State.applyWords s a1 a2 a3 a4 a5 a6).2 := by
  unfold State.applyWords
  repeat' first
    | with_reducible assumption
    | with_reducible apply Keeps.ite2
    | with_reducible refine State.write_keeps ?_ _ _ _ _ _
    | with_reducible refine State.unstage_keeps ?_ _
theorem State.applyWords_keepsE {t s r : State} {q} {a1 a2 a3 a4 a5 a6} (e : State.applyWords s a1 a2 a3 a4 a5 a6 = (q, r)) (h : Keeps t s) : Keeps t r := by
  have := State.applyWords_keeps h a1 a2 a3 a4 a5 a6; rw [e] at this; exact this
theorem State.writeAt_keeps {t s : State} (h : Keeps t s) (a1 a2 a3 a4) :
    Keeps t (State.writeAt s a1 a2 a3 a4).2 := by
  unfold State.writeAt
  repeat' first
    | with_reducible assumption
    | with_reducible apply Keeps.ite2
    | with_reducible refine State.bump_keeps ?_ _ _ _
    | with_reducible refine State.perfEvent_keeps ?_ _ _ _
    | with_reducible refine State.refusal_keeps ?_ _ _ _ _ _
    | with_reducible refine State.writeRefused_keeps ?_ _ _ _ _ _
    | with_reducible refine State.guardComplement_keeps ?_ _ _ _ _ _ _
    | with_reducible refine State.guardValue_keeps ?_ _ _ _ _ _ _ _
    | with_reducible refine State.stage_keeps ?_ _ _ _ _
    | with_reducible refine State.applyWords_keeps ?_ _ _ _ _ _ _
    | (extract_lets +onlyGivenNames x; refine (fun (hx : Keeps t x) => ?_) ?_; clear_value x; rotate_left; subst x)
    | (extract_lets +onlyGivenNames x)
    | simp only [↓Keeps.upd]
    | split
theorem State.writeAt_keepsE {t s r : State} {q} {a1 a2 a3 a4} (e : State.writeAt s a1 a2 a3 a4 = (q, r)) (h : Keeps t s) : Keeps t r := by
  have := State.writeAt_keeps h a1 a2 a3 a4; rw [e] at this; exact this
theorem State.writeItems_keeps {t s : State} (h : Keeps t s) (a1 a2) :
    Keeps t (State.writeItems s a1 a2).2 := by
  unfold State.writeItems
  repeat' first
    | with_reducible assumption
    | with_reducible refine State.writeAt_keeps ?_ _ _ _ _
    | with_reducible refine Keeps.foldl2 (fun _ _ _ => ?_) _ ?_
theorem State.writeItems_keepsE {t s r : State} {q} {a1 a2} (e : State.writeItems s a1 a2 = (q, r)) (h : Keeps t s) : Keeps t r := by
  have := State.writeItems_keeps h a1 a2; rw [e] at this; exact this
theorem State.irlinWrite_keeps {t s : State} (h : Keeps t s) (a1 a2 a3 a4) :
    Keeps t (State.irlinWrite s a1 a2 a3 a4) := by
  unfold State.irlinWrite
  repeat' first
    | with_reducible assumption
    | with_reducible apply Keeps.ite
    | with_reducible refine State.writeItems_keeps ?_ _ _
    | with_reducible refine State.irlinReply_keeps ?_ _ _ _ _ _ _
theorem State.irlinGuardedWrite_keeps {t s : State} (h : Keeps t s) (a1 a2 a3 a4 a5 a6 a7 a8) :
    Keeps t (State.irlinGuardedWrite s a1 a2 a3 a4 a5 a6 a7 a8) := by
  unfold State.irlinGuardedWrite
  repeat' first
    | with_reducible assumption
    | with_reducible refine State.writeAt_keeps ?_ _ _ _ _
    | with_reducible refine State.irlinReply_keeps ?_ _ _ _ _ _ _
theorem State.blockRead_keeps {t s : State} (h : Keeps t s) (a1 a2 a3 a4 a5) :
    Keeps t (State.blockRead s a1 a2 a3 a4 a5).2 := by
  unfold State.blockRead
  repeat' first
    | with_reducible assumption
    | with_reducible apply Keeps.ite2
    | with_reducible refine State.perfEvent_keeps ?_ _ _ _
    | with_reducible refine State.refusal_keeps ?_ _ _ _ _ _
    | with_reducible refine State.readPlace_keeps ?_ _ _ _ _ _ _
    | with_reducible refine Keeps.foldl2 (fun _ _ _ => ?_) _ ?_
    | (extract_lets +onlyGivenNames x; refine (fun (hx : Keeps t x) => ?_) ?_; clear_value x; rotate_left; subst x)
    | (extract_lets +onlyGivenNames x)
    | simp only [↓Keeps.upd]
    | split
theorem State.blockRead_keepsE {t s r : State} {q} {a1 a2 a3 a4 a5} (e : State.blockRead s a1 a2 a3 a4 a5 = (q, r)) (h : Keeps t s) : Keeps t r := by
  have := State.blockRead_keeps h a1 a2 a3 a4 a5; rw [e] at this; exact this
theorem State.irlinBlockRead_keeps {t s : State} (h : Keeps t s) (a1 a2 a3 a4 a5 a6 a7) :
    Keeps t (State.irlinBlockRead s a1 a2 a3 a4 a5 a6 a7) := by
  unfold State.irlinBlockRead
  repeat' first
    | with_reducible assumption
    | with_reducible refine State.blockRead_keeps ?_ _ _ _ _ _
    | with_reducible refine State.irlinReply_keeps ?_ _ _ _ _ _ _
theorem State.irlinCommit_keeps {t s : State} (h : Keeps t s) (a1 a2 a3 a4 a5 a6) :
    Keeps t (State.irlinCommit s a1 a2 a3 a4 a5 a6) := by
  unfold State.irlinCommit
  repeat' first
    | with_reducible assumption
    | with_reducible apply Keeps.ite
    | with_reducible refine State.pairDiscard_keeps ?_
    | with_reducible refine State.irlinReply_keeps ?_ _ _ _ _ _ _
    | with_reducible refine State.startCommit_keeps ?_ _
    | with_reducible refine State.set_keeps ?_ _ _ _
    | with_reducible refine State.refusal_keeps ?_ _ _ _ _ _
    | (extract_lets +onlyGivenNames x; refine (fun (hx : Keeps t x) => ?_) ?_; clear_value x; rotate_left; subst x)
    | simp only [↓Keeps.upd]
    | split
theorem State.irlinSubscribe_keeps {t s : State} (h : Keeps t s) (a1 a2 a3 a4 a5 a6) :
    Keeps t (State.irlinSubscribe s a1 a2 a3 a4 a5 a6) := by
  unfold State.irlinSubscribe
  repeat' first
    | with_reducible assumption
    | with_reducible apply Keeps.ite
    | with_reducible refine State.irlinReply_keeps ?_ _ _ _ _ _ _
    | (extract_lets +onlyGivenNames x; clear_value x)
    | simp only [↓Keeps.upd]
theorem State.setPartner_keeps {t s : State} (h : Keeps t s) (a1 a2) :
    Keeps t (State.setPartner s a1 a2) := by
  unfold State.setPartner
  repeat' first
    | with_reducible assumption
    | (extract_lets +onlyGivenNames x; clear_value x)
    | simp only [↓Keeps.upd]
theorem State.ledgerNote_keeps {t s : State} (h : Keeps t s) (a1 a2 a3) :
    Keeps t (State.ledgerNote s a1 a2 a3) := by
  unfold State.ledgerNote
  repeat' first
    | with_reducible assumption
    | with_reducible refine State.ledgerAdd_keeps ?_ _ _ _ _ _ _ _
theorem State.partnerLedger_keeps {t s : State} (h : Keeps t s) (a1 a2 a3) :
    Keeps t (State.partnerLedger s a1 a2 a3) := by
  unfold State.partnerLedger
  repeat' first
    | with_reducible assumption
    | with_reducible refine State.ledgerNote_keeps ?_ _ _ _
theorem State.partnerRefresh_keeps {t s : State} (h : Keeps t s) :
    Keeps t (State.partnerRefresh s) := by
  unfold State.partnerRefresh
  repeat' first
    | with_reducible assumption
    | with_reducible refine State.set_keeps ?_ _ _ _
theorem State.partnerFree_keeps {t s : State} (h : Keeps t s) (a1) :
    Keeps t (State.partnerFree s a1) := by
  unfold State.partnerFree
  repeat' first
    | with_reducible assumption
    | with_reducible refine State.setPartner_keeps ?_ _ _
    | with_reducible refine State.partnerLedger_keeps ?_ _ _ _
    | with_reducible refine State.partnerRefresh_keeps ?_
theorem State.partnerLate_keeps {t s : State} (h : Keeps t s) (a1 a2) :
    Keeps t (State.partnerLate s a1 a2) := by
  unfold State.partnerLate
  repeat' first
    | with_reducible assumption
    | with_reducible apply Keeps.ite
    | with_reducible refine State.partnerFree_keeps ?_ _
theorem State.partnerLevel_keeps {t s : State} (h : Keeps t s) (a1 a2 a3) :
    Keeps t (State.partnerLevel s a1 a2 a3) := by
  unfold State.partnerLevel
  repeat' first
    | with_reducible assumption
    | with_reducible apply Keeps.ite
    | with_reducible refine State.partnerLedger_keeps ?_ _ _ _
theorem State.partnerTake_keeps {t s : State} (h : Keeps t s) (a1 a2 a3 a4) :
    Keeps t (State.partnerTake s a1 a2 a3 a4) := by
  unfold State.partnerTake
  repeat' first
    | with_reducible assumption
    | with_reducible refine State.setPartner_keeps ?_ _ _
    | with_reducible refine State.partnerRefresh_keeps ?_
theorem State.partnerReport_keeps {t s : State} (h : Keeps t s) (a1 a2 a3) :
    Keeps t (State.partnerReport s a1 a2 a3).2 := by
  unfold State.partnerReport
  repeat' first
    | with_reducible assumption
    | with_reducible apply Keeps.ite2
    | with_reducible refine State.partnerLate_keeps ?_ _ _
    | with_reducible refine State.partnerLevel_keeps ?_ _ _ _
    | with_reducible refine State.partnerTake_keeps ?_ _ _ _ _
    | with_reducible refine State.bump_keeps ?_ _ _ _
    | with_reducible refine State.partnerLedger_keeps ?_ _ _ _
    | with_reducible refine State.setPartner_keeps ?_ _ _
    | (extract_lets +onlyGivenNames x; refine (fun (hx : Keeps t x) => ?_) ?_; clear_value x; rotate_left; subst x)
    | (extract_lets +onlyGivenNames x; clear_value x)
    | (extract_lets +onlyGivenNames x)
    | simp only [↓Keeps.upd]
    | split
theorem State.partnerReport_keepsE {t s r : State} {q} {a1 a2 a3} (e : State.partnerReport s a1 a2 a3 = (q, r)) (h : Keeps t s) : Keeps t r := by
  have := State.partnerReport_keeps h a1 a2 a3; rw [e] at this; exact this
theorem State.irlinReport_keeps {t s : State} (h : Keeps t s) (a1 a2 a3 a4) :
    Keeps t (State.irlinReport s a1 a2 a3 a4) := by
  unfold State.irlinReport
  repeat' first
    | with_reducible assumption
    | with_reducible apply Keeps.ite
    | with_reducible refine State.irlinReply_keeps ?_ _ _ _ _ _ _
    | with_reducible refine State.partnerReport_keeps ?_ _ _ _
theorem State.irlinDiscover_keeps {t s : State} (h : Keeps t s) (a1 a2 a3) :
    Keeps t (State.irlinDiscover s a1 a2 a3) := by
  unfold State.irlinDiscover
  repeat' first
    | with_reducible assumption
    | with_reducible refine State.irlinReply_keeps ?_ _ _ _ _ _ _
theorem State.renewNonce_keeps {t s : State} (h : Keeps t s) :
    Keeps t (State.renewNonce s) := by
  unfold State.renewNonce
  repeat' first
    | with_reducible assumption
    | with_reducible refine State.drew_keeps ?_
    | with_reducible refine State.set_keeps ?_ _ _ _
theorem State.irlinRenew_keeps {t s : State} (h : Keeps t s) (a1 a2 a3) :
    Keeps t (State.irlinRenew s a1 a2 a3) := by
  unfold State.irlinRenew
  repeat' first
    | with_reducible assumption
    | with_reducible apply Keeps.ite
    | with_reducible refine State.bump_keeps ?_ _ _ _
    | with_reducible refine State.set_keeps ?_ _ _ _
    | with_reducible refine State.irlinDiscover_keeps ?_ _ _ _
    | with_reducible refine State.renewNonce_keeps ?_
    | with_reducible refine Keeps.foldl (fun _ _ _ => ?_) _ ?_
    | (extract_lets +onlyGivenNames x; clear_value x)
    | simp only [↓Keeps.upd]
theorem State.irlinOp_keeps {t s : State} (h : Keeps t s) (a1 a2 a3 a4 a5 a6 a7) :
    Keeps t (State.irlinOp s a1 a2 a3 a4 a5 a6 a7) := by
  unfold State.irlinOp
  repeat' first
    | with_reducible assumption
    | with_reducible apply Keeps.ite
    | with_reducible refine State.irlinReply_keeps ?_ _ _ _ _ _ _
    | with_reducible refine State.irlinRead_keeps ?_ _ _ _ _ _
    | with_reducible refine State.irlinWrite_keeps ?_ _ _ _ _
    | with_reducible refine State.irlinGuardedWrite_keeps ?_ _ _ _ _ _ _ _ _
    | with_reducible refine State.irlinBlockRead_keeps ?_ _ _ _ _ _ _ _
    | with_reducible refine State.irlinCommit_keeps ?_ _ _ _ _ _ _
    | with_reducible refine State.irlinSubscribe_keeps ?_ _ _ _ _ _ _
    | with_reducible refine State.irlinReport_keeps ?_ _ _ _ _
    | with_reducible refine State.irlinRenew_keeps ?_ _ _ _
    | with_reducible refine State.irlinDiscover_keeps ?_ _ _ _
    | (extract_lets +onlyGivenNames g; refine (fun (hg : ∀ a, Keeps t (g a)) => ?_) ?_; clear_value g; rotate_left; subst g; intros; dsimp -zeta only)
    | with_reducible exact hg _
    | split
theorem State.irlinTake_keeps {t s : State} (h : Keeps t s) (k : Fin 16) (via : Via) (b : List Byte) :
    Keeps t (State.irlinTake s k via b) := by
  unfold State.irlinTake
  extract_lets op flags renew plain next
  have hx : ∀ r, next = some r → Keeps t r := by
    intro r e
    simp only [next] at e
    split at e
    · split at e
      · cases e; exact h
      · cases e
    · exact State.irlinSequence_keepsO e h
  clear_value next
  cases next with
  | none => exact State.bump_keeps h _ _ _
  | some r =>
    have hr := hx r rfl
    dsimp only
    split
    · exact hr
    · split
      · exact State.irlinReply_keeps hr _ _ _ _ _ _
      · exact State.irlinOp_keeps hr _ _ _ _ _ _ _
theorem State.irlinMessageIn_keeps {t s : State} (h : Keeps t s) (a1 a2) :
    Keeps t (State.irlinMessageIn s a1 a2) := by
  unfold State.irlinMessageIn
  repeat' first
    | with_reducible assumption
    | with_reducible apply Keeps.ite
    | with_reducible refine State.bump_keeps ?_ _ _ _
    | with_reducible refine State.irlinAuth_keepsE (by assumption) ?_
    | with_reducible refine State.irlinTake_keeps ?_ _ _ _
    | (extract_lets +onlyGivenNames x)
    | split
theorem State.spiRespond_keeps {t s : State} (h : Keeps t s) (a1) :
    Keeps t (State.spiRespond s a1) := by
  unfold State.spiRespond
  repeat' first
    | with_reducible assumption
    | with_reducible refine State.emit_keeps ?_ _
theorem State.spiFrame_keeps {t s : State} (h : Keeps t s) (a1 a2 a3 a4) (hf4 : ∀ x0, Keeps t x0 → Keeps t (a4 x0)) :
    Keeps t (State.spiFrame s a1 a2 a3 a4) := by
  unfold State.spiFrame
  repeat' first
    | with_reducible assumption
    | with_reducible apply Keeps.ite
    | with_reducible refine State.spiRespond_keeps ?_ _
    | with_reducible refine State.bump_keeps ?_ _ _ _
    | with_reducible refine hf4 _ ?_
theorem State.calFail_keeps {t s : State} (h : Keeps t s) (a1) :
    Keeps t (State.calFail s a1) := by
  unfold State.calFail
  repeat' first
    | with_reducible assumption
    | with_reducible refine State.set_keeps ?_ _ _ _
    | (extract_lets +onlyGivenNames x; clear_value x)
    | simp only [↓Keeps.upd]
theorem State.read_keeps {t s : State} (h : Keeps t s) (a1 a2 a3) :
    Keeps t (State.read s a1 a2 a3).2 := by
  unfold State.read
  repeat' first
    | with_reducible assumption
    | with_reducible apply Keeps.ite2
    | with_reducible refine State.perfEvent_keeps ?_ _ _ _
    | with_reducible refine State.bump_keeps ?_ _ _ _
    | with_reducible refine State.refusal_keeps ?_ _ _ _ _ _
    | with_reducible refine State.readPlace_keeps ?_ _ _ _ _ _ _
    | (extract_lets +onlyGivenNames x; refine (fun (hx : Keeps t x) => ?_) ?_; clear_value x; rotate_left; subst x)
    | (extract_lets +onlyGivenNames x)
    | simp only [↓Keeps.upd]
    | split
theorem State.read_keepsE {t s r : State} {q} {a1 a2 a3} (e : State.read s a1 a2 a3 = (q, r)) (h : Keeps t s) : Keeps t r := by
  have := State.read_keeps h a1 a2 a3; rw [e] at this; exact this
theorem State.readAnswer_keeps {t s : State} (h : Keeps t s) (a1 a2) :
    Keeps t (State.readAnswer s a1 a2) := by
  unfold State.readAnswer
  repeat' first
    | with_reducible assumption
    | with_reducible refine State.read_keeps ?_ _ _ _
    | with_reducible refine State.emit_keeps ?_ _
theorem State.memberProbation_keeps {t s : State} (h : Keeps t s) (a1) :
    Keeps t (State.memberProbation s a1) := by
  unfold State.memberProbation
  repeat' first
    | with_reducible assumption
    | with_reducible refine State.setMember_keeps ?_ _ _
    | with_reducible refine State.setMemberState_keeps ?_ _ _ _
theorem State.memberTimed_keeps {t s : State} (h : Keeps t s) (a1) :
    Keeps t (State.memberTimed s a1) := by
  unfold State.memberTimed
  repeat' first
    | with_reducible assumption
    | with_reducible apply Keeps.ite
    | with_reducible refine State.memberProbation_keeps ?_ _
    | with_reducible refine State.setMember_keeps ?_ _ _
    | with_reducible refine State.setMemberState_keeps ?_ _ _ _
    | (extract_lets +onlyGivenNames x; clear_value x)
    | split
theorem State.sampleCandidate_keeps {t s : State} (h : Keeps t s) (a1 a2 a3) :
    Keeps t (State.sampleCandidate s a1 a2 a3) := by
  unfold State.sampleCandidate
  repeat' first
    | with_reducible assumption
    | with_reducible apply Keeps.ite
    | (extract_lets +onlyGivenNames x; clear_value x)
    | simp only [↓Keeps.upd]
theorem State.frameKeep_keeps {t s : State} (h : Keeps t s) (a1) :
    Keeps t (State.frameKeep s a1) := by
  unfold State.frameKeep
  repeat' first
    | with_reducible assumption
    | with_reducible apply Keeps.ite
    | with_reducible refine State.setPort_keeps ?_ _ _
    | with_reducible refine State.occRefresh_keeps ?_ _
theorem State.steerService_keeps {t s : State} (h : Keeps t s) (a1) :
    Keeps t (State.steerService s a1) := by
  unfold State.steerService
  repeat' first
    | with_reducible assumption
    | with_reducible apply Keeps.ite
    | with_reducible refine State.sampleCandidate_keeps ?_ _ _ _
    | with_reducible refine State.packetEnd_keeps ?_ _ _ _ _ _ _ _ _
    | with_reducible refine State.perfEvent_keeps ?_ _ _ _
    | with_reducible refine State.bump_keeps ?_ _ _ _
    | with_reducible refine State.frameKeep_keeps ?_ _
theorem State.sendIncr_keeps {t s : State} (h : Keeps t s) :
    Keeps t (State.sendIncr s) := by
  unfold State.sendIncr
  repeat' first
    | with_reducible assumption
    | with_reducible apply Keeps.ite
    | with_reducible refine State.yewReport_keeps ?_
    | (extract_lets +onlyGivenNames x; clear_value x)
    | simp only [↓Keeps.upd]
theorem State.setAnchors_keeps {t s : State} (h : Keeps t s) (a1) :
    Keeps t (State.setAnchors s a1) := by
  unfold State.setAnchors
  repeat' first
    | with_reducible assumption
    | with_reducible apply Keeps.ite
    | with_reducible refine State.set_keeps ?_ _ _ _
    | with_reducible refine State.setOct_keeps ?_ _ _ _
    | with_reducible refine State.setKey_keeps ?_ _ _
    | with_reducible refine State.eraseKey_keeps ?_ _
    | with_reducible refine Keeps.foldl (fun _ _ _ => ?_) _ ?_
    | (extract_lets +onlyGivenNames x; refine (fun (hx : Keeps t x) => ?_) ?_; clear_value x; rotate_left; subst x)
    | simp only [↓Keeps.upd]
    | split
theorem State.journalLoad_keeps {t s : State} (h : Keeps t s) (a1 a2 a3) :
    Keeps t (State.journalLoad s a1 a2 a3) := by
  unfold State.journalLoad
  repeat' first
    | with_reducible assumption
    | with_reducible apply Keeps.ite
    | with_reducible refine State.set_keeps ?_ _ _ _
    | with_reducible refine State.setAnchors_keeps ?_ _
    | with_reducible refine State.raise_keeps ?_ _ _ _ _
    | (extract_lets +onlyGivenNames x)
    | simp only [↓Keeps.upd]
    | split
theorem State.toCalibrate_keeps {t s : State} (h : Keeps t s) :
    Keeps t (State.toCalibrate s) := by
  unfold State.toCalibrate
  repeat' first
    | with_reducible assumption
    | with_reducible refine State.set_keeps ?_ _ _ _
theorem State.activityLost_keeps {t s : State} (h : Keeps t s) (a1) :
    Keeps t (State.activityLost s a1) := by
  unfold State.activityLost
  repeat' first
    | with_reducible assumption
    | with_reducible apply Keeps.ite
    | with_reducible refine State.settle_keeps ?_ _
    | with_reducible refine State.setCause_keeps ?_ _ _ _
theorem State.ptpDropped_keeps {t s : State} (h : Keeps t s) (a1 a2) :
    Keeps t (State.ptpDropped s a1 a2) := by
  unfold State.ptpDropped
  repeat' first
    | with_reducible assumption
    | with_reducible refine State.packetEnd_keeps ?_ _ _ _ _ _ _ _ _
theorem State.ptpVerify_keeps {t s : State} (h : Keeps t s) (a1 a2) :
    Keeps t (State.ptpVerify s a1 a2).2 := by
  unfold State.ptpVerify
  repeat' first
    | with_reducible assumption
    | with_reducible apply Keeps.ite2
    | with_reducible refine State.bump_keeps ?_ _ _ _
    | with_reducible refine State.useKey_keepsE (by assumption) ?_
    | (extract_lets +onlyGivenNames x; clear_value x)
    | (extract_lets +onlyGivenNames x)
    | simp only [↓Keeps.upd]
    | split
theorem State.ptpVerify_keepsE {t s r : State} {q} {a1 a2} (e : State.ptpVerify s a1 a2 = (q, r)) (h : Keeps t s) : Keeps t r := by
  have := State.ptpVerify_keeps h a1 a2; rw [e] at this; exact this
theorem State.svcPacket_keeps {t s : State} (h : Keeps t s) (a1 a2) :
    Keeps t (State.svcPacket s a1 a2) := by
  unfold State.svcPacket
  repeat' first
    | with_reducible assumption
    | with_reducible apply Keeps.ite
    | with_reducible refine State.perfEvent_keeps ?_ _ _ _
    | (extract_lets +onlyGivenNames x; clear_value x)
    | simp only [↓Keeps.upd]
theorem State.ptpReceive_keeps {t s : State} (h : Keeps t s) (a1) :
    Keeps t (State.ptpReceive s a1).2 := by
  unfold State.ptpReceive
  repeat' first
    | with_reducible assumption
    | with_reducible apply Keeps.ite2
    | with_reducible refine State.ptpDropped_keeps ?_ _ _
    | with_reducible refine State.bump_keeps ?_ _ _ _
    | with_reducible refine State.ptpVerify_keepsE (by assumption) ?_
    | with_reducible refine State.svcPacket_keeps ?_ _ _
    | (extract_lets +onlyGivenNames x)
    | split
theorem State.ptpReceive_keepsE {t s r : State} {q} {a1} (e : State.ptpReceive s a1 = (q, r)) (h : Keeps t s) : Keeps t r := by
  have := State.ptpReceive_keeps h a1; rw [e] at this; exact this
theorem State.clientRefresh_keeps {t s : State} (h : Keeps t s) :
    Keeps t (State.clientRefresh s) := by
  unfold State.clientRefresh
  repeat' first
    | with_reducible assumption
    | with_reducible refine State.set_keeps ?_ _ _ _
    | with_reducible refine Keeps.foldl (fun _ _ _ => ?_) _ ?_
theorem State.setClient_keeps {t s : State} (h : Keeps t s) (a1 a2) :
    Keeps t (State.setClient s a1 a2) := by
  unfold State.setClient
  repeat' first
    | with_reducible assumption
    | with_reducible refine State.perfEvent_keeps ?_ _ _ _
    | (extract_lets +onlyGivenNames x; clear_value x)
    | simp only [↓Keeps.upd]
theorem State.releaseClient_keeps {t s : State} (h : Keeps t s) (a1) :
    Keeps t (State.releaseClient s a1) := by
  unfold State.releaseClient
  repeat' first
    | with_reducible assumption
    | with_reducible refine State.clientRefresh_keeps ?_
    | with_reducible refine State.setClient_keeps ?_ _ _
theorem State.endGrant_keeps {t s : State} (h : Keeps t s) (a1 a2) :
    Keeps t (State.endGrant s a1 a2) := by
  unfold State.endGrant
  repeat' first
    | with_reducible assumption
    | with_reducible apply Keeps.ite
    | with_reducible refine State.clientRefresh_keeps ?_
    | with_reducible refine State.setClient_keeps ?_ _ _
    | with_reducible refine State.releaseClient_keeps ?_ _
theorem State.ptpNextSeq_keeps {t s : State} (h : Keeps t s) (a1 a2 a3) :
    Keeps t (State.ptpNextSeq s a1 a2 a3).2 := by
  unfold State.ptpNextSeq
  repeat' first
    | with_reducible assumption
    | with_reducible refine State.setPtpInst_keeps ?_ _ _
theorem State.ptpNextSeq_keepsE {t s r : State} {q} {a1 a2 a3} (e : State.ptpNextSeq s a1 a2 a3 = (q, r)) (h : Keeps t s) : Keeps t r := by
  have := State.ptpNextSeq_keeps h a1 a2 a3; rw [e] at this; exact this
theorem State.clientFor_keeps {t s : State} (h : Keeps t s) (a1 a2) :
    Keeps t (State.clientFor s a1 a2).2 := by
  unfold State.clientFor
  repeat' first
    | with_reducible assumption
    | with_reducible apply Keeps.ite2
    | with_reducible refine State.perfEvent_keeps ?_ _ _ _
    | with_reducible refine State.bump_keeps ?_ _ _ _
theorem State.clientFor_keepsE {t s r : State} {q} {a1 a2} (e : State.clientFor s a1 a2 = (q, r)) (h : Keeps t s) : Keeps t r := by
  have := State.clientFor_keeps h a1 a2; rw [e] at this; exact this
theorem State.ptpFrame_keeps {t s : State} (h : Keeps t s) (a1) :
    Keeps t (State.ptpFrame s a1).2 := by
  unfold State.ptpFrame
  repeat' first
    | with_reducible assumption
    | with_reducible apply Keeps.ite
    | with_reducible apply Keeps.ite2
    | with_reducible refine State.noteOut_keeps ?_ _
    | with_reducible refine State.drew_keeps ?_
    | with_reducible refine State.bump_keeps ?_ _ _ _
    | with_reducible refine State.useKey_keepsE (by assumption) ?_
    | with_reducible refine State.set_keeps ?_ _ _ _
    | (extract_lets +onlyGivenNames x; clear_value x)
    | simp only [↓Keeps.upd]
    | split
theorem State.ptpFrame_keepsE {t s r : State} {q} {a1} (e : State.ptpFrame s a1 = (q, r)) (h : Keeps t s) : Keeps t r := by
  have := State.ptpFrame_keeps h a1; rw [e] at this; exact this
theorem State.ptpBuild_keeps {t s : State} (h : Keeps t s) (a1) :
    Keeps t (State.ptpBuild s a1).2 := by
  unfold State.ptpBuild
  repeat' first
    | with_reducible assumption
    | with_reducible apply Keeps.ite
    | with_reducible apply Keeps.ite2
    | with_reducible refine State.clientFor_keeps ?_ _ _
    | with_reducible refine State.set_keeps ?_ _ _ _
    | with_reducible refine State.ptpFrame_keeps ?_ _
    | (extract_lets +onlyGivenNames x)
    | simp only [↓Keeps.upd]
    | split
theorem State.ptpBuild_keepsE {t s r : State} {q} {a1} (e : State.ptpBuild s a1 = (q, r)) (h : Keeps t s) : Keeps t r := by
  have := State.ptpBuild_keeps h a1; rw [e] at this; exact this
theorem State.toSend_keeps {t s : State} (h : Keeps t s) (a1 a2 a3) :
    Keeps t (State.toSend s a1 a2 a3).2 := by
  unfold State.toSend
  repeat' first
    | with_reducible assumption
    | with_reducible apply Keeps.ite2
    | with_reducible refine State.setPort_keeps ?_ _ _
    | with_reducible refine State.frameDone_keeps ?_ _ _ _
    | with_reducible refine State.bump_keeps ?_ _ _ _
    | with_reducible refine State.setHandle_keeps ?_ _ _ _
    | (extract_lets +onlyGivenNames x)
    | simp only [↓Keeps.upd]
    | split
theorem State.toSend_keepsE {t s r : State} {q} {a1 a2 a3} (e : State.toSend s a1 a2 a3 = (q, r)) (h : Keeps t s) : Keeps t r := by
  have := State.toSend_keeps h a1 a2 a3; rw [e] at this; exact this
theorem State.ptpSent_keeps {t s : State} (h : Keeps t s) (a1) :
    Keeps t (State.ptpSent s a1) := by
  unfold State.ptpSent
  repeat' first
    | with_reducible assumption
    | with_reducible refine State.svcPacket_keeps ?_ _ _
    | with_reducible refine State.bump_keeps ?_ _ _ _
theorem State.ptpSend_keeps {t s : State} (h : Keeps t s) (a1 a2) :
    Keeps t (State.ptpSend s a1 a2) := by
  unfold State.ptpSend
  repeat' first
    | with_reducible assumption
    | with_reducible apply Keeps.ite
    | with_reducible refine State.ptpBuild_keepsE (by assumption) ?_
    | with_reducible refine State.toSend_keepsE (by assumption) ?_
    | with_reducible refine State.ptpSent_keeps ?_ _
    | with_reducible refine State.setPtpInst_keeps ?_ _ _
    | simp only [↓Keeps.upd]
    | split
theorem State.signal_keeps {t s : State} (h : Keeps t s) (a1 a2 a3 a4 a5 a6 a7) :
    Keeps t (State.signal s a1 a2 a3 a4 a5 a6 a7) := by
  unfold State.signal
  repeat' first
    | with_reducible assumption
    | with_reducible refine State.ptpNextSeq_keeps ?_ _ _ _
    | with_reducible refine State.ptpSend_keeps ?_ _ _
theorem State.hold_keeps {t s : State} (h : Keeps t s) (a1) :
    Keeps t (State.hold s a1) := by
  unfold State.hold
  repeat' first
    | with_reducible assumption
    | with_reducible refine State.setPulse_keeps ?_ _ _
    | with_reducible refine State.setClkout_keeps ?_ _ _
    | with_reducible refine Keeps.foldl (fun _ _ _ => ?_) _ ?_
    | (extract_lets +onlyGivenNames x; refine (fun (hx : Keeps t x) => ?_) ?_; clear_value x; rotate_left; subst x)
    | (extract_lets +onlyGivenNames x; clear_value x)
    | simp only [↓Keeps.upd]
theorem State.runHeld_keeps {t s : State} (h : Keeps t s) (a1) :
    Keeps t (State.runHeld s a1) := by
  unfold State.runHeld
  repeat' first
    | with_reducible assumption
    | with_reducible apply Keeps.ite
    | with_reducible refine State.runTo_keeps ?_ _
theorem State.valueDis_keeps {t s : State} (h : Keeps t s) (a1 a2 a3 a4) :
    Keeps t (State.valueDis s a1 a2 a3 a4) := by
  unfold State.valueDis
  repeat' first
    | with_reducible assumption
    | with_reducible refine State.termTouch_keeps ?_
    | (extract_lets +onlyGivenNames x; refine (fun (hx : Keeps t x) => ?_) ?_; clear_value x; rotate_left; subst x)
    | (extract_lets +onlyGivenNames x; clear_value x)
    | simp only [↓Keeps.upd]
theorem State.disSecond_keeps {t s : State} (h : Keeps t s) :
    Keeps t (State.disSecond s) := by
  unfold State.disSecond
  repeat' first
    | with_reducible assumption
    | with_reducible apply Keeps.ite
    | with_reducible refine State.valueDis_keeps ?_ _ _ _ _
    | with_reducible refine State.disRefresh_keeps ?_
    | with_reducible refine Keeps.foldl (fun _ _ _ => ?_) _ ?_
    | (extract_lets +onlyGivenNames x)
    | split
theorem State.slewEdge_keeps {t s : State} (h : Keeps t s) :
    Keeps t (State.slewEdge s) := by
  unfold State.slewEdge
  repeat' first
    | with_reducible assumption
    | with_reducible apply Keeps.ite
    | with_reducible refine State.raise_keeps ?_ _ _ _ _
    | with_reducible refine State.perfEvent_keeps ?_ _ _ _
    | (extract_lets +onlyGivenNames x)
    | simp only [↓Keeps.upd]
theorem State.setLeaf_keeps {t s : State} (h : Keeps t s) (a1 a2) :
    Keeps t (State.setLeaf s a1 a2) := by
  unfold State.setLeaf
  repeat' first
    | with_reducible assumption
    | (extract_lets +onlyGivenNames x; clear_value x)
    | simp only [↓Keeps.upd]
theorem State.leafUnsync_keeps {t s : State} (h : Keeps t s) (a1) :
    Keeps t (State.leafUnsync s a1) := by
  unfold State.leafUnsync
  repeat' first
    | with_reducible assumption
    | with_reducible refine State.setLeaf_keeps ?_ _ _
    | with_reducible refine State.set_keeps ?_ _ _ _
theorem State.scaleBegin_keeps {t s : State} (h : Keeps t s) :
    Keeps t (State.scaleBegin s) := by
  unfold State.scaleBegin
  repeat' first
    | with_reducible assumption
    | with_reducible apply Keeps.ite
    | (extract_lets +onlyGivenNames x; clear_value x)
    | simp only [↓Keeps.upd]
theorem State.syncEpochUp_keeps {t s : State} (h : Keeps t s) (a1) :
    Keeps t (State.syncEpochUp s a1) := by
  unfold State.syncEpochUp
  repeat' first
    | with_reducible assumption
    | with_reducible refine State.set_keeps ?_ _ _ _
theorem State.tlvNote_keeps {t s : State} (h : Keeps t s) (a1 a2 a3) :
    Keeps t (State.tlvNote s a1 a2 a3) := by
  unfold State.tlvNote
  repeat' first
    | with_reducible assumption
    | with_reducible apply Keeps.ite
    | with_reducible refine State.setPtpInst_keeps ?_ _ _
    | (extract_lets +onlyGivenNames x; clear_value x)
    | split
theorem State.syncLate_keeps {t s : State} (h : Keeps t s) (a1 a2) :
    Keeps t (State.syncLate s a1 a2) := by
  unfold State.syncLate
  repeat' first
    | with_reducible assumption
    | with_reducible apply Keeps.ite
    | with_reducible refine State.parentLost_keeps ?_ _
theorem State.parentBack_keeps {t s : State} (h : Keeps t s) (a1) :
    Keeps t (State.parentBack s a1) := by
  unfold State.parentBack
  repeat' first
    | with_reducible assumption
    | with_reducible apply Keeps.ite
    | with_reducible refine State.setPtpInst_keeps ?_ _ _
    | with_reducible refine State.settle_keeps ?_ _
    | with_reducible refine State.setCause_keeps ?_ _ _ _
    | (extract_lets +onlyGivenNames x; refine (fun (hx : Keeps t x) => ?_) ?_; clear_value x; rotate_left; subst x)
    | (extract_lets +onlyGivenNames x; clear_value x)
    | split
theorem State.pairDone_keeps {t s : State} (h : Keeps t s) (a1 a2 a3 a4 a5) :
    Keeps t (State.pairDone s a1 a2 a3 a4 a5) := by
  unfold State.pairDone
  repeat' first
    | with_reducible assumption
    | with_reducible refine State.parentBack_keeps ?_ _
    | with_reducible refine State.setPtpInst_keeps ?_ _ _
theorem State.schedNext_keeps {t s : State} (h : Keeps t s) (a1 a2 a3) :
    Keeps t (State.schedNext s a1 a2 a3) := by
  unfold State.schedNext
  repeat' first
    | with_reducible assumption
    | with_reducible apply Keeps.ite
    | with_reducible refine State.set_keeps ?_ _ _ _
    | with_reducible refine State.setArmed_keeps ?_ _ _
theorem State.schedMiss_keeps {t s : State} (h : Keeps t s) (a1 a2) :
    Keeps t (State.schedMiss s a1 a2) := by
  unfold State.schedMiss
  repeat' first
    | with_reducible assumption
    | with_reducible apply Keeps.ite
    | with_reducible refine State.bump_keeps ?_ _ _ _
    | with_reducible refine State.event_keeps ?_ _ _
    | with_reducible refine State.schedNext_keeps ?_ _ _ _
theorem State.schedAct_keeps {t s : State} (h : Keeps t s) (a1 a2 a3) (hf3 : ∀ x0 x1, Keeps t x1 → Keeps t (a3 x0 x1)) :
    Keeps t (State.schedAct s a1 a2 a3) := by
  unfold State.schedAct
  repeat' first
    | with_reducible assumption
    | with_reducible refine State.schedMiss_keeps ?_ _ _
    | with_reducible refine hf3 _ _ ?_
    | split
theorem State.schedPerform_keeps {t s : State} (h : Keeps t s) (a1 a2 a3) :
    Keeps t (State.schedPerform s a1 a2 a3) := by
  unfold State.schedPerform
  repeat' first
    | with_reducible assumption
    | with_reducible refine State.event_keeps ?_ _ _
    | with_reducible refine State.schedNext_keeps ?_ _ _ _
theorem State.ppsSched_keeps {t s : State} (h : Keeps t s) (a1 a2 a3) (hf3 : ∀ x0 x1 x2, Keeps t x0 → Keeps t (a3 x0 x1 x2)) :
    Keeps t (State.ppsSched s a1 a2 a3) := by
  unfold State.ppsSched
  repeat' first
    | with_reducible assumption
    | with_reducible refine State.schedAct_keeps ?_ _ _ _ ?_
    | with_reducible refine State.ppsRefresh_keeps ?_ _
    | with_reducible refine State.setPulse_keeps ?_ _ _
    | with_reducible refine State.pulseFault_keeps ?_
    | with_reducible refine State.schedPerform_keeps ?_ _ _ _
    | with_reducible refine hf3 _ _ _ ?_
    | (extract_lets +onlyGivenNames x)
    | simp only [↓Keeps.upd]
    | split
    | intro _
theorem State.quality_keeps {t s : State} (h : Keeps t s) (a1 a2 a3) :
    Keeps t (State.quality s a1 a2 a3) := by
  unfold State.quality
  repeat' first
    | with_reducible assumption
    | with_reducible refine State.qlRefresh_keeps ?_ _
    | with_reducible refine State.setSlot_keeps ?_ _ _
    | with_reducible refine State.set_keeps ?_ _ _ _
    | with_reducible refine State.settle_keeps ?_ _
theorem State.parentQuality_keeps {t s : State} (h : Keeps t s) (a1) :
    Keeps t (State.parentQuality s a1) := by
  unfold State.parentQuality
  repeat' first
    | with_reducible assumption
    | with_reducible refine State.quality_keeps ?_ _ _ _
    | split
theorem State.chooseParent_keeps {t s : State} (h : Keeps t s) (a1) :
    Keeps t (State.chooseParent s a1) := by
  unfold State.chooseParent
  repeat' first
    | with_reducible assumption
    | with_reducible apply Keeps.ite
    | with_reducible refine State.setPtpInst_keeps ?_ _ _
    | with_reducible refine State.termsRefresh_keeps ?_ _
    | with_reducible refine State.syncEpochUp_keeps ?_ _
    | with_reducible refine State.reqEpochUp_keeps ?_ _
    | with_reducible refine State.parentQuality_keeps ?_ _
    | with_reducible refine State.set_keeps ?_ _ _ _
    | (extract_lets +onlyGivenNames x)
    | split
theorem State.announceLost_keeps {t s : State} (h : Keeps t s) (a1) :
    Keeps t (State.announceLost s a1) := by
  unfold State.announceLost
  repeat' first
    | with_reducible assumption
    | with_reducible apply Keeps.ite
    | with_reducible refine State.chooseParent_keeps ?_ _
    | with_reducible refine State.parentLost_keeps ?_ _
    | split
theorem State.setXoff_keeps {t s : State} (h : Keeps t s) (a1 a2 a3) :
    Keeps t (State.setXoff s a1 a2 a3) := by
  unfold State.setXoff
  repeat' first
    | with_reducible assumption
    | with_reducible refine State.set_keeps ?_ _ _ _
theorem State.sendPause_keeps {t s : State} (h : Keeps t s) (a1 a2 a3) :
    Keeps t (State.sendPause s a1 a2 a3) := by
  unfold State.sendPause
  repeat' first
    | with_reducible assumption
    | with_reducible refine State.emit_keeps ?_ _
    | with_reducible refine State.bump_keeps ?_ _ _ _
theorem State.setSelected_keeps {t s : State} (h : Keeps t s) (a1) :
    Keeps t (State.setSelected s a1) := by
  unfold State.setSelected
  repeat' first
    | with_reducible assumption
    | with_reducible refine State.bump_keeps ?_ _ _ _
    | with_reducible refine State.set_keeps ?_ _ _ _
    | (extract_lets +onlyGivenNames x; refine (fun (hx : Keeps t x) => ?_) ?_; clear_value x; rotate_left; subst x)
    | (extract_lets +onlyGivenNames x; clear_value x)
    | simp only [↓Keeps.upd]
theorem State.loopDiscard_keeps {t s : State} (h : Keeps t s) :
    Keeps t (State.loopDiscard s) := by
  unfold State.loopDiscard
  repeat' first
    | with_reducible assumption
    | with_reducible apply Keeps.ite
    | with_reducible refine State.yewReport_keeps ?_
    | with_reducible refine State.trackRefresh_keeps ?_
    | with_reducible refine State.setInt_keeps ?_ _ _ _
    | (extract_lets +onlyGivenNames x; clear_value x)
    | (extract_lets +onlyGivenNames x)
    | simp only [↓Keeps.upd]
    | split
theorem State.presetInteg_keeps {t s : State} (h : Keeps t s) (a1) :
    Keeps t (State.presetInteg s a1) := by
  unfold State.presetInteg
  repeat' first
    | with_reducible assumption
    | with_reducible refine State.loopDiscard_keeps ?_
    | with_reducible refine State.integNote_keeps ?_ _ _
    | with_reducible refine State.set_keeps ?_ _ _ _
    | (extract_lets +onlyGivenNames x; clear_value x)
    | simp only [↓Keeps.upd]
theorem State.steerInteg_keeps {t s : State} (h : Keeps t s) :
    Keeps t (State.steerInteg s) := by
  unfold State.steerInteg
  repeat' first
    | with_reducible assumption
    | with_reducible refine State.sendIncr_keeps ?_
    | (extract_lets +onlyGivenNames x; clear_value x)
    | simp only [↓Keeps.upd]
theorem State.preset_keeps {t s : State} (h : Keeps t s) (a1) :
    Keeps t (State.preset s a1) := by
  unfold State.preset
  repeat' first
    | with_reducible assumption
    | with_reducible refine State.steerInteg_keeps ?_
    | with_reducible refine State.presetInteg_keeps ?_ _
theorem State.requestSlewEdge_keeps {t s : State} (h : Keeps t s) (a1) :
    Keeps t (State.requestSlewEdge s a1) := by
  unfold State.requestSlewEdge
  repeat' first
    | with_reducible assumption
    | (extract_lets +onlyGivenNames x; clear_value x)
    | simp only [↓Keeps.upd]
theorem State.takeSlot_keeps {t s : State} (h : Keeps t s) (a1 a2) :
    Keeps t (State.takeSlot s a1 a2) := by
  unfold State.takeSlot
  repeat' first
    | with_reducible assumption
    | with_reducible apply Keeps.ite
    | with_reducible refine State.settle_keeps ?_ _
    | with_reducible refine State.slotFail_keeps ?_ _
    | with_reducible refine State.setCause_keeps ?_ _ _ _
    | with_reducible refine State.setSelected_keeps ?_ _
    | with_reducible refine State.yewRefresh_keeps ?_
    | with_reducible refine State.ledgerDue_keeps ?_ _ _ _ _
    | with_reducible refine State.presetInteg_keeps ?_ _
    | with_reducible refine State.preset_keeps ?_ _
    | with_reducible refine State.trackClear_keeps ?_
    | with_reducible refine State.requestSlewEdge_keeps ?_ _
    | with_reducible refine State.holdEnter_keeps ?_ _ _
    | (extract_lets +onlyGivenNames x; clear_value x)
    | simp only [↓Keeps.upd]
theorem State.yRefHold_keeps {t s : State} (h : Keeps t s) (a1) :
    Keeps t (State.yRefHold s a1) := by
  unfold State.yRefHold
  repeat' first
    | with_reducible assumption
    | (extract_lets +onlyGivenNames x; clear_value x)
    | simp only [↓Keeps.upd]
    | split
theorem State.loopTake_keeps {t s : State} (h : Keeps t s) (a1 a2) :
    Keeps t (State.loopTake s a1 a2) := by
  unfold State.loopTake
  repeat' first
    | with_reducible assumption
    | with_reducible apply Keeps.ite
    | with_reducible refine State.termTouch_keeps ?_
    | with_reducible refine State.trackRefresh_keeps ?_
    | with_reducible refine State.setInt_keeps ?_ _ _ _
    | with_reducible refine State.integNote_keeps ?_ _ _
    | with_reducible refine State.raise_keeps ?_ _ _ _ _
    | with_reducible refine State.bump_keeps ?_ _ _ _
    | with_reducible refine State.sendIncr_keeps ?_
    | (extract_lets +onlyGivenNames x; refine (fun (hx : Keeps t x) => ?_) ?_; clear_value x; rotate_left; subst x)
    | (extract_lets +onlyGivenNames x; clear_value x)
    | simp only [↓Keeps.upd]
theorem State.yewResidue_keeps {t s : State} (h : Keeps t s) :
    Keeps t (State.yewResidue s) := by
  unfold State.yewResidue
  repeat' first
    | with_reducible assumption
    | with_reducible refine State.raise_keeps ?_ _ _ _ _
    | with_reducible refine State.bump_keeps ?_ _ _ _
theorem State.loopStep_keeps {t s : State} (h : Keeps t s) (a1 a2 a3) :
    Keeps t (State.loopStep s a1 a2 a3) := by
  unfold State.loopStep
  repeat' first
    | with_reducible assumption
    | with_reducible apply Keeps.ite
    | with_reducible refine State.loopTake_keeps ?_ _ _
    | with_reducible refine State.yewResidue_keeps ?_
theorem State.ticHold_keeps {t s : State} (h : Keeps t s) (a1) :
    Keeps t (State.ticHold s a1) := by
  unfold State.ticHold
  repeat' first
    | with_reducible assumption
    | (extract_lets +onlyGivenNames x; clear_value x)
    | simp only [↓Keeps.upd]
theorem State.pairResult_keeps {t s : State} (h : Keeps t s) (a1 a2 a3) :
    Keeps t (State.pairResult s a1 a2 a3) := by
  unfold State.pairResult
  repeat' first
    | with_reducible assumption
    | with_reducible apply Keeps.ite
    | with_reducible refine State.setInt_keeps ?_ _ _ _
    | with_reducible refine State.setPairUnit_keeps ?_ _ _
    | with_reducible refine State.bump_keeps ?_ _ _ _
    | with_reducible refine State.ticHold_keeps ?_ _
theorem State.pairStop_keeps {t s : State} (h : Keeps t s) (a1 a2) :
    Keeps t (State.pairStop s a1 a2) := by
  unfold State.pairStop
  repeat' first
    | with_reducible assumption
    | with_reducible apply Keeps.ite
    | with_reducible refine State.setPairUnit_keeps ?_ _ _
    | with_reducible refine State.pairResult_keeps ?_ _ _ _
    | with_reducible refine Keeps.foldl (fun _ _ _ => ?_) _ ?_
    | (extract_lets +onlyGivenNames x)
    | simp only [↓Keeps.upd]
    | split
theorem State.corMax_keeps {t s : State} (h : Keeps t s) (a1 a2 a3) :
    Keeps t (State.corMax s a1 a2 a3) := by
  unfold State.corMax
  repeat' first
    | with_reducible assumption
    | with_reducible refine State.corMap_keeps ?_ _ _ _
theorem State.nameLeaf_keeps {t s : State} (h : Keeps t s) (a1 a2) :
    Keeps t (State.nameLeaf s a1 a2) := by
  unfold State.nameLeaf
  repeat' first
    | with_reducible assumption
    | with_reducible apply Keeps.ite
    | with_reducible refine State.set_keeps ?_ _ _ _
    | with_reducible refine State.corMax_keeps ?_ _ _ _
    | with_reducible refine State.setInt_keeps ?_ _ _ _
    | with_reducible refine State.setLeaf_keeps ?_ _ _
theorem State.nameArrives_keeps {t s : State} (h : Keeps t s) (a1 a2 a3) :
    Keeps t (State.nameArrives s a1 a2 a3) := by
  unfold State.nameArrives
  repeat' first
    | with_reducible assumption
    | with_reducible apply Keeps.ite
    | with_reducible refine State.raise_keeps ?_ _ _ _ _
    | with_reducible refine State.bump_keeps ?_ _ _ _
    | with_reducible refine State.nameLeaf_keeps ?_ _ _
theorem State.setChan_keeps {t s : State} (h : Keeps t s) (a1 a2) :
    Keeps t (State.setChan s a1 a2) := by
  unfold State.setChan
  repeat' first
    | with_reducible assumption
    | (extract_lets +onlyGivenNames x; clear_value x)
    | simp only [↓Keeps.upd]
theorem State.setChBit_keeps {t s : State} (h : Keeps t s) (a1 a2 a3) :
    Keeps t (State.setChBit s a1 a2 a3) := by
  unfold State.setChBit
  repeat' first
    | with_reducible assumption
    | with_reducible refine State.set_keeps ?_ _ _ _
theorem State.staleRefresh_keeps {t s : State} (h : Keeps t s) (a1) :
    Keeps t (State.staleRefresh s a1) := by
  unfold State.staleRefresh
  repeat' first
    | with_reducible assumption
    | with_reducible refine State.setChBit_keeps ?_ _ _ _
theorem State.calibrated_keeps {t s : State} (h : Keeps t s) (a1 a2 a3 a4) :
    Keeps t (State.calibrated s a1 a2 a3 a4) := by
  unfold State.calibrated
  repeat' first
    | with_reducible assumption
    | with_reducible apply Keeps.ite
    | with_reducible refine State.set_keeps ?_ _ _ _
    | with_reducible refine State.setChan_keeps ?_ _ _
    | with_reducible refine State.setChBit_keeps ?_ _ _ _
    | with_reducible refine State.staleRefresh_keeps ?_ _
    | with_reducible refine State.deassert_keeps ?_ _
    | with_reducible refine State.raise_keeps ?_ _ _ _ _
theorem State.mint_keeps {t s : State} (h : Keeps t s) (a1 a2 a3 a4 a5) :
    Keeps t (State.mint s a1 a2 a3 a4 a5).2 := by
  induction a5 generalizing s with
  | zero => exact h
  | succ n ih =>
    unfold State.mint
    repeat' first
      | with_reducible assumption
      | with_reducible refine State.drew_keeps ?_
      | with_reducible refine ih ?_
theorem State.mint_keepsE {t s r : State} {q} {a1 a2 a3 a4 a5} (e : State.mint s a1 a2 a3 a4 a5 = (q, r)) (h : Keeps t s) : Keeps t r := by
  have := State.mint_keeps h a1 a2 a3 a4 a5; rw [e] at this; exact this
theorem State.memberFail_keeps {t s : State} (h : Keeps t s) (a1 a2) :
    Keeps t (State.memberFail s a1 a2) := by
  unfold State.memberFail
  repeat' first
    | with_reducible assumption
    | with_reducible apply Keeps.ite
    | with_reducible refine State.setMember_keeps ?_ _ _
    | with_reducible refine State.setMemberState_keeps ?_ _ _ _
theorem State.pairsFail_keeps {t s : State} (h : Keeps t s) :
    Keeps t (State.pairsFail s) := by
  unfold State.pairsFail
  repeat' first
    | with_reducible assumption
    | with_reducible refine State.memberFail_keeps ?_ _ _
    | with_reducible refine Keeps.foldl (fun _ _ _ => ?_) _ ?_
theorem State.tick_keeps {t s : State} (h : Keeps t s) :
    Keeps t (State.tick s) := by
  unfold State.tick
  repeat' first
    | with_reducible assumption
    | with_reducible apply Keeps.ite
    | with_reducible refine State.runTo_keeps ?_ _
theorem State.writeAnswer_keeps {t s : State} (h : Keeps t s) (a1 a2 a3) :
    Keeps t (State.writeAnswer s a1 a2 a3) := by
  unfold State.writeAnswer
  repeat' first
    | with_reducible assumption
    | with_reducible refine State.writeAt_keeps ?_ _ _ _ _
    | with_reducible refine State.emit_keeps ?_ _
    | (extract_lets +onlyGivenNames x; refine (fun (hx : Keeps t x.2) => ?_) ?_; clear_value x; rotate_left; subst x)
    | split
theorem State.schedCarry_keeps {t s : State} (h : Keeps t s) (a1 a2 a3) :
    Keeps t (State.schedCarry s a1 a2 a3) := by
  unfold State.schedCarry
  repeat' first
    | with_reducible assumption
    | with_reducible apply Keeps.ite
    | with_reducible refine State.setArmed_keeps ?_ _ _
    | with_reducible refine State.bump_keeps ?_ _ _ _
theorem State.gnssRateStep_keeps {t s : State} (h : Keeps t s) (a1) :
    Keeps t (State.gnssRateStep s a1) := by
  unfold State.gnssRateStep
  repeat' first
    | with_reducible assumption
    | with_reducible apply Keeps.ite
    | (extract_lets +onlyGivenNames x; clear_value x)
    | (extract_lets +onlyGivenNames x)
    | simp only [↓Keeps.upd]
    | split
theorem State.lanesStepped_keeps {t s : State} (h : Keeps t s) :
    Keeps t (State.lanesStepped s) := by
  unfold State.lanesStepped
  repeat' first
    | with_reducible assumption
    | with_reducible apply Keeps.ite
    | with_reducible refine State.setLane_keeps ?_ _ _
    | with_reducible refine Keeps.foldl (fun _ _ _ => ?_) _ ?_
theorem State.holdLaunch_keepsO {t s r : State} {p : Nat} {f : Outgoing} {k : Nat} {b : Bool} (e : s.holdLaunch p f k b = some r)
    (h : Keeps t s) : Keeps t r := by
  unfold State.holdLaunch at e
  dsimp only at e
  split at e
  · cases e
  · simp only [Option.some.injEq] at e
    subst e
    exact State.noteOut_keeps (State.perfEvent_keeps (State.bump_keeps (State.portRefresh_keeps (State.setPort_keeps h _ _) _) _ _ _) _ _ _) _
theorem State.launchMiss_keeps {t s : State} (h : Keeps t s) (a1 a2) :
    Keeps t (State.launchMiss s a1 a2) := by
  unfold State.launchMiss
  repeat' first
    | with_reducible assumption
    | with_reducible apply Keeps.ite
    | with_reducible refine State.portRefresh_keeps ?_ _
    | with_reducible refine State.setPort_keeps ?_ _ _
    | with_reducible refine State.frameDone_keeps ?_ _ _ _
    | with_reducible refine State.emit_keeps ?_ _
    | with_reducible refine State.bump_keeps ?_ _ _ _
    | with_reducible refine State.packetEnd_keeps ?_ _ _ _ _ _ _ _ _
    | with_reducible refine State.perfEvent_keeps ?_ _ _ _
    | with_reducible refine State.holdLaunch_keepsO (by assumption) ?_
    | (extract_lets +onlyGivenNames x; refine (fun (hx : Keeps t x) => ?_) ?_; clear_value x; rotate_left; subst x)
    | split
theorem State.launchesStepped_keeps {t s : State} (h : Keeps t s) (a1) :
    Keeps t (State.launchesStepped s a1) := by
  unfold State.launchesStepped
  repeat' first
    | with_reducible assumption
    | with_reducible refine State.launchMiss_keeps ?_ _ _
    | with_reducible refine Keeps.foldl (fun _ _ _ => ?_) _ ?_
theorem State.pulsesStep_keeps {t s : State} (h : Keeps t s) (a1 a2) :
    Keeps t (State.pulsesStep s a1 a2) := by
  unfold State.pulsesStep
  repeat' first
    | with_reducible assumption
    | with_reducible apply Keeps.ite
    | with_reducible refine State.setPulse_keeps ?_ _ _
    | with_reducible refine State.bump_keeps ?_ _ _ _
    | with_reducible refine Keeps.foldl (fun _ _ _ => ?_) _ ?_
theorem State.stepForward_keeps {t s : State} (h : Keeps t s) (a1 a2) :
    Keeps t (State.stepForward s a1 a2) := by
  unfold State.stepForward
  repeat' first
    | with_reducible assumption
    | with_reducible refine State.schedCarry_keeps ?_ _ _ _
    | with_reducible refine State.gnssRateStep_keeps ?_ _
    | with_reducible refine State.lanesStepped_keeps ?_
    | with_reducible refine State.launchesStepped_keeps ?_ _
    | with_reducible refine State.pulsesStep_keeps ?_ _ _
    | with_reducible refine State.synthStep_keeps ?_ _ _
    | with_reducible refine Keeps.foldl (fun _ _ _ => ?_) _ ?_
    | (extract_lets +onlyGivenNames x)
    | simp only [↓Keeps.upd]
theorem State.todRefresh_keeps {t s : State} (h : Keeps t s) (a1) :
    Keeps t (State.todRefresh s a1) := by
  unfold State.todRefresh
  repeat' first
    | with_reducible assumption
    | with_reducible refine State.setCause_keeps ?_ _ _ _
theorem State.leapWithdrawn_keeps {t s : State} (h : Keeps t s) (a1) :
    Keeps t (State.leapWithdrawn s a1) := by
  unfold State.leapWithdrawn
  repeat' first
    | with_reducible assumption
    | with_reducible apply Keeps.ite
    | with_reducible refine State.leapFree_keeps ?_ _
    | with_reducible refine Keeps.foldl (fun _ _ _ => ?_) _ ?_
    | (extract_lets +onlyGivenNames x; clear_value x)
    | simp only [↓Keeps.upd]
theorem State.leapReplace_keeps {t s : State} (h : Keeps t s) (a1 a2) :
    Keeps t (State.leapReplace s a1 a2) := by
  unfold State.leapReplace
  repeat' first
    | with_reducible assumption
    | with_reducible refine State.leapFree_keeps ?_ _
    | with_reducible refine Keeps.foldl (fun _ _ _ => ?_) _ ?_
theorem State.leapIgnored_keeps {t s : State} (h : Keeps t s) (a1 a2) :
    Keeps t (State.leapIgnored s a1 a2) := by
  unfold State.leapIgnored
  repeat' first
    | with_reducible assumption
    | with_reducible apply Keeps.ite
    | with_reducible refine State.raise_keeps ?_ _ _ _ _
    | (extract_lets +onlyGivenNames x; clear_value x)
    | simp only [↓Keeps.upd]
theorem State.leapAnnounced_keeps {t s : State} (h : Keeps t s) (a1 a2) :
    Keeps t (State.leapAnnounced s a1 a2) := by
  unfold State.leapAnnounced
  repeat' first
    | with_reducible assumption
    | with_reducible apply Keeps.ite
    | with_reducible refine State.leapReplace_keeps ?_ _ _
    | with_reducible refine State.leapSet_keeps ?_ _ _ _ _
    | with_reducible refine State.leapIgnored_keeps ?_ _ _
    | (extract_lets +onlyGivenNames x; clear_value x)
    | (extract_lets +onlyGivenNames x)
    | simp only [↓Keeps.upd]
    | split
theorem State.todKeep_keeps {t s : State} (h : Keeps t s) (a1 a2) :
    Keeps t (State.todKeep s a1 a2) := by
  unfold State.todKeep
  repeat' first
    | with_reducible assumption
    | with_reducible apply Keeps.ite
    | with_reducible refine State.todRefresh_keeps ?_ _
    | with_reducible refine State.setSlot_keeps ?_ _ _
    | with_reducible refine State.leapWithdrawn_keeps ?_ _
    | with_reducible refine State.leapAnnounced_keeps ?_ _ _
    | with_reducible refine State.raise_keeps ?_ _ _ _ _
    | with_reducible refine State.qlRefresh_keeps ?_ _
    | with_reducible refine State.set_keeps ?_ _ _ _
    | with_reducible refine State.settle_keeps ?_ _
theorem State.setChannel4_keeps {t s : State} (h : Keeps t s) (a1 a2 a3) :
    Keeps t (State.setChannel4 s a1 a2 a3) := by
  unfold State.setChannel4
  repeat' first
    | with_reducible assumption
    | (extract_lets +onlyGivenNames x; clear_value x)
    | simp only [↓Keeps.upd]
theorem State.acknowledge_keeps {t s : State} (h : Keeps t s) (a1 a2 a3 a4) :
    Keeps t (State.acknowledge s a1 a2 a3 a4) := by
  unfold State.acknowledge
  repeat' first
    | with_reducible assumption
    | with_reducible apply Keeps.ite
    | with_reducible refine State.setChannel4_keeps ?_ _ _ _
    | with_reducible refine State.deassert_keeps ?_ _
theorem State.residueRx_keeps {t s : State} (h : Keeps t s) (a1 a2 a3) :
    Keeps t (State.residueRx s a1 a2 a3) := by
  unfold State.residueRx
  repeat' first
    | with_reducible assumption
    | with_reducible refine State.emit_keeps ?_ _
    | with_reducible refine State.raise_keeps ?_ _ _ _ _
    | with_reducible refine State.bump_keeps ?_ _ _ _
    | (extract_lets +onlyGivenNames x)
    | simp only [↓Keeps.upd]
theorem State.schedReach_keeps {t s : State} (h : Keeps t s) (a1) :
    Keeps t (State.schedReach s a1) := by
  unfold State.schedReach
  repeat' first
    | with_reducible assumption
    | with_reducible apply Keeps.ite
    | with_reducible refine State.schedMiss_keeps ?_ _ _
    | with_reducible refine State.setArmed_keeps ?_ _ _
    | split
theorem State.discardItem_keeps {t s : State} (h : Keeps t s) (a1 a2) :
    Keeps t (State.discardItem s a1 a2) := by
  unfold State.discardItem
  repeat' first
    | with_reducible assumption
    | with_reducible refine State.portRefresh_keeps ?_ _
    | with_reducible refine State.setPort_keeps ?_ _ _
    | (extract_lets +onlyGivenNames x; clear_value x)
    | simp only [↓Keeps.upd]
    | split
theorem State.strike_keeps {t s : State} (h : Keeps t s) (a1 a2) :
    Keeps t (State.strike s a1 a2) := by
  unfold State.strike
  repeat' first
    | with_reducible assumption
    | with_reducible apply Keeps.ite
    | with_reducible refine State.discardItem_keeps ?_ _ _
    | (extract_lets +onlyGivenNames x; clear_value x)
    | (extract_lets +onlyGivenNames x)
    | simp only [↓Keeps.upd]
    | split
theorem State.watchStep_keeps {t s : State} (h : Keeps t s) (a1 a2) :
    Keeps t (State.watchStep s a1 a2) := by
  unfold State.watchStep
  repeat' first
    | with_reducible assumption
    | with_reducible apply Keeps.ite
    | with_reducible refine State.setSlot_keeps ?_ _ _
theorem State.stall_keeps {t s : State} (h : Keeps t s) (a1 a2 a3 a4 a5) :
    Keeps t (State.stall s a1 a2 a3 a4 a5) := by
  unfold State.stall
  repeat' first
    | with_reducible assumption
    | with_reducible apply Keeps.ite
    | with_reducible refine State.raise_keeps ?_ _ _ _ _
    | with_reducible refine State.setChannel4_keeps ?_ _ _ _
theorem State.attestNext_keeps {t s : State} (h : Keeps t s) (a1) :
    Keeps t (State.attestNext s a1) := by
  unfold State.attestNext
  repeat' first
    | with_reducible assumption
    | (extract_lets +onlyGivenNames x; clear_value x)
    | simp only [↓Keeps.upd]
theorem State.anchorStep_keeps {t s : State} (h : Keeps t s) (a1 a2) (hf2 : ∀ x0 x1, Keeps t x1 → Keeps t (a2 x0 x1)) :
    Keeps t (State.anchorStep s a1 a2) := by
  unfold State.anchorStep
  repeat' first
    | with_reducible assumption
    | with_reducible apply Keeps.ite
    | with_reducible refine State.set_keeps ?_ _ _ _
    | with_reducible refine hf2 _ _ ?_
    | (extract_lets +onlyGivenNames x; clear_value x)
    | (extract_lets +onlyGivenNames x)
    | simp only [↓Keeps.upd]
    | split
theorem State.corrRefresh_keeps {t s : State} (h : Keeps t s) :
    Keeps t (State.corrRefresh s) := by
  unfold State.corrRefresh
  repeat' first
    | with_reducible assumption
    | with_reducible refine State.set_keeps ?_ _ _ _
theorem State.corrAccept_keeps {t s : State} (h : Keeps t s) (a1) :
    Keeps t (State.corrAccept s a1) := by
  unfold State.corrAccept
  repeat' first
    | with_reducible assumption
    | with_reducible refine State.bump_keeps ?_ _ _ _
    | with_reducible refine State.corrRefresh_keeps ?_
    | with_reducible refine State.setT96_keeps ?_ _ _ _
    | with_reducible refine Keeps.foldl (fun _ _ _ => ?_) _ ?_
    | (extract_lets +onlyGivenNames x; clear_value x)
    | simp only [↓Keeps.upd]
theorem State.writeRecords_keeps {t s : State} (h : Keeps t s) (a1) :
    Keeps t (State.writeRecords s a1).2 := by
  induction a1 generalizing s with
  | nil => exact h
  | cons x l ih =>
    unfold State.writeRecords
    repeat' first
      | with_reducible assumption
      | with_reducible refine State.writeAt_keepsE (by assumption) ?_
      | with_reducible refine ih ?_
      | split
theorem State.writeRecords_keepsE {t s r : State} {q} {a1} (e : State.writeRecords s a1 = (q, r)) (h : Keeps t s) : Keeps t r := by
  have := State.writeRecords_keeps h a1; rw [e] at this; exact this
theorem State.ringError_keeps {t s : State} (h : Keeps t s) (a1 a2 a3 a4) :
    Keeps t (State.ringError s a1 a2 a3 a4) := by
  unfold State.ringError
  repeat' first
    | with_reducible assumption
    | with_reducible apply Keeps.ite
    | with_reducible refine State.ringComplete_keeps ?_ _ _ _
    | with_reducible refine State.ringAdvance_keeps ?_ _ _
    | with_reducible refine State.set_keeps ?_ _ _ _
    | with_reducible refine State.bump_keeps ?_ _ _ _
    | with_reducible refine State.event_keeps ?_ _ _
theorem State.cmdStart_keeps {t s : State} (h : Keeps t s) (a1 a2 a3) (hf3 : ∀ x0, Keeps t x0 → Keeps t (a3 x0)) :
    Keeps t (State.cmdStart s a1 a2 a3) := by
  unfold State.cmdStart
  repeat' first
    | with_reducible assumption
    | with_reducible apply Keeps.ite
    | with_reducible refine State.ringError_keeps ?_ _ _ _ _
    | with_reducible refine hf3 _ ?_
    | (extract_lets +onlyGivenNames x; clear_value x)
    | (extract_lets +onlyGivenNames x)
    | simp only [↓Keeps.upd]
    | split
theorem State.hostMint_keeps {t s : State} (h : Keeps t s) (a1 a2) :
    Keeps t (State.hostMint s a1 a2).2 := by
  unfold State.hostMint
  repeat' first
    | with_reducible assumption
    | with_reducible refine State.useKey_keepsE (by assumption) ?_
    | with_reducible refine State.mint_keeps ?_ _ _ _ _ _
    | with_reducible refine State.bump_keeps ?_ _ _ _
    | (extract_lets +onlyGivenNames x; clear_value x)
    | simp only [↓Keeps.upd]
    | split
theorem State.hostMint_keepsE {t s r : State} {q} {a1 a2} (e : State.hostMint s a1 a2 = (q, r)) (h : Keeps t s) : Keeps t r := by
  have := State.hostMint_keeps h a1 a2; rw [e] at this; exact this
theorem State.hostAnswer_keeps {t s : State} (h : Keeps t s) (a1 a2) :
    Keeps t (State.hostAnswer s a1 a2) := by
  unfold State.hostAnswer
  repeat' first
    | with_reducible assumption
    | with_reducible refine State.cmdFinish_keeps ?_ _ _ _
    | split
theorem State.hostCorr_keeps {t s : State} (h : Keeps t s) (a1) :
    Keeps t (State.hostCorr s a1).2 := by
  unfold State.hostCorr
  repeat' first
    | with_reducible assumption
    | with_reducible apply Keeps.ite2
    | with_reducible refine State.corrAccept_keeps ?_ _
theorem State.hostCorr_keepsE {t s r : State} {q} {a1} (e : State.hostCorr s a1 = (q, r)) (h : Keeps t s) : Keeps t r := by
  have := State.hostCorr_keeps h a1; rw [e] at this; exact this
theorem State.hostCommand_keeps {t s : State} (h : Keeps t s) (a1 a2) :
    Keeps t (State.hostCommand s a1 a2) := by
  unfold State.hostCommand
  repeat' first
    | with_reducible assumption
    | with_reducible apply Keeps.ite
    | with_reducible refine State.cmdFinish_keeps ?_ _ _ _
    | with_reducible refine State.hostMint_keeps ?_ _ _
    | with_reducible refine State.hostAnswer_keeps ?_ _ _
    | with_reducible refine State.hostCorr_keeps ?_ _
    | (extract_lets +onlyGivenNames x)
    | simp only [↓Keeps.upd]
    | split
theorem State.cmdRun_keeps {t s : State} (h : Keeps t s) (a1 a2) :
    Keeps t (State.cmdRun s a1 a2) := by
  unfold State.cmdRun
  repeat' first
    | with_reducible assumption
    | with_reducible apply Keeps.ite
    | with_reducible refine State.irlinMessageIn_keeps ?_ _ _
    | with_reducible refine State.cmdFinish_keeps ?_ _ _ _
    | with_reducible refine State.hostCommand_keeps ?_ _ _
theorem State.cmdNext_keeps {t s : State} (h : Keeps t s) (a1 a2) :
    Keeps t (State.cmdNext s a1 a2) := by
  unfold State.cmdNext
  repeat' first
    | with_reducible assumption
    | with_reducible refine State.cmdStart_keeps ?_ _ _ _ ?_
    | with_reducible refine State.cmdRun_keeps ?_ _ _
    | (extract_lets +onlyGivenNames x)
    | intro _
theorem State.crossRefresh_keeps {t s : State} (h : Keeps t s) :
    Keeps t (State.crossRefresh s) := by
  unfold State.crossRefresh
  repeat' first
    | with_reducible assumption
    | with_reducible apply Keeps.ite
    | (extract_lets +onlyGivenNames x; clear_value x)
    | (extract_lets +onlyGivenNames x)
    | simp only [↓Keeps.upd]
    | split
theorem State.judged_keeps {t s : State} (h : Keeps t s) (a1 a2 a3) :
    Keeps t (State.judged s a1 a2 a3).2 := by
  unfold State.judged
  repeat' first
    | with_reducible assumption
    | with_reducible apply Keeps.ite2
    | with_reducible refine State.setChan_keeps ?_ _ _
    | (extract_lets +onlyGivenNames x; clear_value x)
    | split
theorem State.judged_keepsE {t s r : State} {q} {a1 a2 a3} (e : State.judged s a1 a2 a3 = (q, r)) (h : Keeps t s) : Keeps t r := by
  have := State.judged_keeps h a1 a2 a3; rw [e] at this; exact this
theorem State.solutionEdge_keeps {t s : State} (h : Keeps t s) (a1) :
    Keeps t (State.solutionEdge s a1) := by
  unfold State.solutionEdge
  repeat' first
    | with_reducible assumption
    | with_reducible apply Keeps.ite
    | with_reducible refine State.setSlot_keeps ?_ _ _
    | with_reducible refine State.raise_keeps ?_ _ _ _ _
    | with_reducible refine State.settle_keeps ?_ _
    | with_reducible refine State.setCause_keeps ?_ _ _ _
    | (extract_lets +onlyGivenNames x; refine (fun (hx : Keeps t x) => ?_) ?_; clear_value x; rotate_left; subst x)
    | (extract_lets +onlyGivenNames x; clear_value x)
    | (extract_lets +onlyGivenNames x)
    | simp only [↓Keeps.upd]
    | split
theorem State.todError_keeps {t s : State} (h : Keeps t s) (a1) :
    Keeps t (State.todError s a1) := by
  unfold State.todError
  repeat' first
    | with_reducible assumption
    | with_reducible refine State.bump_keeps ?_ _ _ _
theorem State.todEdge_keeps {t s : State} (h : Keeps t s) (a1) :
    Keeps t (State.todEdge s a1) := by
  unfold State.todEdge
  repeat' first
    | with_reducible assumption
    | with_reducible apply Keeps.ite
    | with_reducible refine State.setSlot_keeps ?_ _ _
    | with_reducible refine State.todKeep_keeps ?_ _ _
    | with_reducible refine State.todError_keeps ?_ _
    | with_reducible refine Keeps.foldl (fun _ _ _ => ?_) _ ?_
theorem State.slotMeasure_keeps {t s : State} (h : Keeps t s) (a1 a2 a3 a4 a5 a6) :
    Keeps t (State.slotMeasure s a1 a2 a3 a4 a5 a6) := by
  unfold State.slotMeasure
  repeat' first
    | with_reducible assumption
    | with_reducible apply Keeps.ite
    | with_reducible refine State.setSlot_keeps ?_ _ _
    | with_reducible refine State.termsRefresh_keeps ?_ _
    | with_reducible refine State.setInt_keeps ?_ _ _ _
    | with_reducible refine State.setCause_keeps ?_ _ _ _
    | with_reducible refine State.watchStep_keeps ?_ _ _
    | (extract_lets +onlyGivenNames x; clear_value x)
    | simp only [↓Keeps.upd]
theorem State.slotEdge_keeps {t s : State} (h : Keeps t s) (a1 a2 a3) :
    Keeps t (State.slotEdge s a1 a2 a3) := by
  unfold State.slotEdge
  repeat' first
    | with_reducible assumption
    | with_reducible apply Keeps.ite
    | with_reducible refine State.setCause_keeps ?_ _ _ _
    | with_reducible refine State.setSlot_keeps ?_ _ _
    | with_reducible refine State.todEdge_keeps ?_ _
    | with_reducible refine State.slotMeasure_keeps ?_ _ _ _ _ _ _
    | with_reducible refine State.settle_keeps ?_ _
    | (extract_lets +onlyGivenNames x)
    | split
theorem State.memberInputBad_keeps {t s : State} (h : Keeps t s) (a1) :
    Keeps t (State.memberInputBad s a1) := by
  unfold State.memberInputBad
  repeat' first
    | with_reducible assumption
    | with_reducible refine State.setMember_keeps ?_ _ _
    | with_reducible refine State.ensembleRefresh_keeps ?_
    | with_reducible refine State.memberFail_keeps ?_ _ _
theorem State.memberInputGood_keeps {t s : State} (h : Keeps t s) (a1) :
    Keeps t (State.memberInputGood s a1) := by
  unfold State.memberInputGood
  repeat' first
    | with_reducible assumption
    | with_reducible apply Keeps.ite
    | with_reducible refine State.setMember_keeps ?_ _ _
theorem State.memberEdge_keeps {t s : State} (h : Keeps t s) (a1 a2 a3 a4) :
    Keeps t (State.memberEdge s a1 a2 a3 a4) := by
  unfold State.memberEdge
  repeat' first
    | with_reducible assumption
    | with_reducible apply Keeps.ite
    | with_reducible refine State.setMember_keeps ?_ _ _
    | with_reducible refine State.memberInputBad_keeps ?_ _
    | with_reducible refine State.memberInputGood_keeps ?_ _
    | (extract_lets +onlyGivenNames x; refine (fun (hx : Keeps t x) => ?_) ?_; clear_value x; rotate_left; subst x)
    | (extract_lets +onlyGivenNames x; clear_value x)
    | split
theorem State.mdllRefFail_keeps {t s : State} (h : Keeps t s) (a1) :
    Keeps t (State.mdllRefFail s a1) := by
  unfold State.mdllRefFail
  repeat' first
    | with_reducible assumption
    | with_reducible apply Keeps.ite
    | with_reducible refine State.setMdll_keeps ?_ _ _
    | with_reducible refine State.lockEvents_keeps ?_
    | with_reducible refine State.mdllLeave_keeps ?_ _ _
theorem State.mdllRefPass_keeps {t s : State} (h : Keeps t s) (a1) :
    Keeps t (State.mdllRefPass s a1) := by
  unfold State.mdllRefPass
  repeat' first
    | with_reducible assumption
    | with_reducible apply Keeps.ite
    | with_reducible refine State.setMdll_keeps ?_ _ _
theorem State.ppsFollowEdge_keeps {t s : State} (h : Keeps t s) (a1 a2 a3) :
    Keeps t (State.ppsFollowEdge s a1 a2 a3) := by
  unfold State.ppsFollowEdge
  repeat' first
    | with_reducible assumption
    | with_reducible refine State.ppsRefresh_keeps ?_ _
    | with_reducible refine State.setPulse_keeps ?_ _ _
theorem State.consume_keeps {t s : State} (h : Keeps t s) (a1 a2 a3) :
    Keeps t (State.consume s a1 a2 a3) := by
  unfold State.consume
  repeat' first
    | with_reducible assumption
    | with_reducible apply Keeps.ite
    | with_reducible refine State.solutionEdge_keeps ?_ _
    | with_reducible refine State.slotEdge_keeps ?_ _ _ _
    | with_reducible refine State.memberEdge_keeps ?_ _ _ _ _
    | with_reducible refine State.mdllRefFail_keeps ?_ _
    | with_reducible refine State.mdllRefPass_keeps ?_ _
    | with_reducible refine State.ppsFollowEdge_keeps ?_ _ _ _
    | with_reducible refine Keeps.foldl (fun _ _ _ => ?_) _ ?_
    | (extract_lets +onlyGivenNames x)
    | split
theorem State.pairStart_keeps {t s : State} (h : Keeps t s) (a1 a2) :
    Keeps t (State.pairStart s a1 a2) := by
  unfold State.pairStart
  repeat' first
    | with_reducible assumption
    | with_reducible apply Keeps.ite
    | with_reducible refine State.pairResult_keeps ?_ _ _ _
    | with_reducible refine State.setPairUnit_keeps ?_ _ _
    | (extract_lets +onlyGivenNames x)
    | split
theorem State.pairsEdge_keeps {t s : State} (h : Keeps t s) (a1 a2) :
    Keeps t (State.pairsEdge s a1 a2) := by
  unfold State.pairsEdge
  repeat' first
    | with_reducible assumption
    | with_reducible apply Keeps.ite
    | with_reducible refine State.pairStart_keeps ?_ _ _
    | with_reducible refine State.pairStop_keeps ?_ _ _
    | with_reducible refine Keeps.foldl (fun _ _ _ => ?_) _ ?_
theorem State.stampEdge_keeps {t s : State} (h : Keeps t s) (a1) :
    Keeps t (State.stampEdge s a1) := by
  unfold State.stampEdge
  repeat' first
    | with_reducible assumption
    | with_reducible apply Keeps.ite
    | with_reducible refine State.perfEvent_keeps ?_ _ _ _
    | with_reducible refine State.setChan_keeps ?_ _ _
    | with_reducible refine State.set_keeps ?_ _ _ _
    | with_reducible refine State.setT96_keeps ?_ _ _ _
    | with_reducible refine State.ticHold_keeps ?_ _
    | with_reducible refine State.judged_keeps ?_ _ _ _
    | with_reducible refine State.consume_keeps ?_ _ _ _
    | with_reducible refine State.pairsEdge_keeps ?_ _ _
    | with_reducible refine State.setInt_keeps ?_ _ _ _
    | with_reducible refine State.bump_keeps ?_ _ _ _
    | (extract_lets +onlyGivenNames x; refine (fun (hx : Keeps t x) => ?_) ?_; clear_value x; rotate_left; subst x)
    | (extract_lets +onlyGivenNames x; clear_value x)
    | simp only [↓Keeps.upd]
    | split
theorem State.cachePut_keeps {t s : State} (h : Keeps t s) (a1) :
    Keeps t (State.cachePut s a1) := by
  unfold State.cachePut
  repeat' first
    | with_reducible assumption
    | with_reducible apply Keeps.ite
    | with_reducible refine State.bump_keeps ?_ _ _ _
    | with_reducible refine State.cacheSet_keeps ?_ _
theorem State.afterRoot_keeps {t s : State} (h : Keeps t s) :
    Keeps t (State.afterRoot s) := by
  unfold State.afterRoot
  repeat' first
    | with_reducible assumption
    | with_reducible refine State.set_keeps ?_ _ _ _
theorem State.zeroise_keeps {t s : State} (h : Keeps t s) :
    Keeps t (State.zeroise s) := by
  unfold State.zeroise
  repeat' first
    | with_reducible assumption
    | with_reducible apply Keeps.ite
    | with_reducible refine State.cacheSet_keeps ?_ _
    | with_reducible refine State.setAnchors_keeps ?_ _
    | with_reducible refine State.setOct_keeps ?_ _ _ _
    | with_reducible refine State.set_keeps ?_ _ _ _
    | with_reducible refine State.shadowEmpty_keeps ?_ _
    | with_reducible refine Keeps.foldl (fun _ _ _ => ?_) _ ?_
    | (extract_lets +onlyGivenNames x; clear_value x)
    | simp only [↓Keeps.upd]
theorem State.enterLifecycle_keeps {t s : State} (h : Keeps t s) (a1) :
    Keeps t (State.enterLifecycle s a1) := by
  unfold State.enterLifecycle
  repeat' first
    | with_reducible assumption
    | with_reducible apply Keeps.ite
    | with_reducible refine State.set_keeps ?_ _ _ _
    | with_reducible refine State.zeroise_keeps ?_
    | (extract_lets +onlyGivenNames x; clear_value x)
    | simp only [↓Keeps.upd]
theorem State.setBucket_keeps {t s : State} (h : Keeps t s) (a1 a2) :
    Keeps t (State.setBucket s a1 a2) := by
  unfold State.setBucket
  repeat' first
    | with_reducible assumption
    | (extract_lets +onlyGivenNames x; clear_value x)
    | simp only [↓Keeps.upd]
theorem State.charge_keeps {t s : State} (h : Keeps t s) (a1) :
    Keeps t (State.charge s a1).2 := by
  unfold State.charge
  repeat' first
    | with_reducible assumption
    | with_reducible apply Keeps.ite2
    | with_reducible refine State.setBucket_keeps ?_ _ _
theorem State.charge_keepsE {t s r : State} {q} {a1} (e : State.charge s a1 = (q, r)) (h : Keeps t s) : Keeps t r := by
  have := State.charge_keeps h a1; rw [e] at this; exact this
theorem State.ootEdge_keeps {t s : State} (h : Keeps t s) :
    Keeps t (State.ootEdge s) := by
  unfold State.ootEdge
  repeat' first
    | with_reducible assumption
    | with_reducible apply Keeps.ite
    | with_reducible refine State.ootEnter_keeps ?_ _ _
    | (extract_lets +onlyGivenNames x)
    | simp only [↓Keeps.upd]
theorem State.toLaunch_keeps {t s : State} (h : Keeps t s) (a1 a2) :
    Keeps t (State.toLaunch s a1 a2) := by
  unfold State.toLaunch
  repeat' first
    | with_reducible assumption
    | with_reducible apply Keeps.ite
    | with_reducible refine State.frameDone_keeps ?_ _ _ _
    | with_reducible refine State.bump_keeps ?_ _ _ _
    | with_reducible refine State.setPort_keeps ?_ _ _
theorem State.ntpSend_keeps {t s : State} (h : Keeps t s) (a1 a2 a3) :
    Keeps t (State.ntpSend s a1 a2 a3) := by
  unfold State.ntpSend
  repeat' first
    | with_reducible assumption
    | with_reducible refine State.toLaunch_keeps ?_ _ _
    | with_reducible refine State.svcPacket_keeps ?_ _ _
theorem State.cancelGrants_keeps {t s : State} (h : Keeps t s) (a1) :
    Keeps t (State.cancelGrants s a1) := by
  unfold State.cancelGrants
  repeat' first
    | with_reducible assumption
    | with_reducible refine State.signal_keeps ?_ _ _ _ _ _ _ _
    | with_reducible refine Keeps.foldl (fun _ _ _ => ?_) _ ?_
theorem State.ensHold_keeps {t s : State} (h : Keeps t s) (a1) :
    Keeps t (State.ensHold s a1) := by
  unfold State.ensHold
  repeat' first
    | with_reducible assumption
    | with_reducible refine State.setMember_keeps ?_ _ _
    | with_reducible refine Keeps.foldl (fun _ _ _ => ?_) _ ?_
theorem State.setBank_keeps {t s : State} (h : Keeps t s) (a1 a2) :
    Keeps t (State.setBank s a1 a2) := by
  unfold State.setBank
  repeat' first
    | with_reducible assumption
    | (extract_lets +onlyGivenNames x; clear_value x)
    | simp only [↓Keeps.upd]
theorem State.delayDone_keeps {t s : State} (h : Keeps t s) (a1 a2) :
    Keeps t (State.delayDone s a1 a2) := by
  unfold State.delayDone
  repeat' first
    | with_reducible assumption
    | with_reducible refine State.setPtpInst_keeps ?_ _ _
    | (extract_lets +onlyGivenNames x; clear_value x)
    | simp only [↓Keeps.upd]
    | split
theorem State.pdelayDone_keeps {t s : State} (h : Keeps t s) (a1 a2) :
    Keeps t (State.pdelayDone s a1 a2) := by
  unfold State.pdelayDone
  repeat' first
    | with_reducible assumption
    | with_reducible refine State.setPtpInst_keeps ?_ _ _
    | (extract_lets +onlyGivenNames x; clear_value x)
    | split
theorem State.exchangeSet_keeps {t s : State} (h : Keeps t s) (a1 a2 a3) :
    Keeps t (State.exchangeSet s a1 a2 a3) := by
  unfold State.exchangeSet
  repeat' first
    | with_reducible assumption
    | with_reducible refine State.setPtpInst_keeps ?_ _ _
    | with_reducible refine State.delayDone_keeps ?_ _ _
    | with_reducible refine State.pdelayDone_keeps ?_ _ _
    | (extract_lets +onlyGivenNames x; refine (fun (hx : Keeps t x) => ?_) ?_; clear_value x; rotate_left; subst x)
    | (extract_lets +onlyGivenNames x; clear_value x)
    | split
theorem State.todLine_keeps {t s : State} (h : Keeps t s) (a1 a2) :
    Keeps t (State.todLine s a1 a2) := by
  unfold State.todLine
  repeat' first
    | with_reducible assumption
    | with_reducible apply Keeps.ite
    | with_reducible refine State.todError_keeps ?_ _
    | with_reducible refine State.setSlot_keeps ?_ _ _
    | with_reducible refine State.todKeep_keeps ?_ _ _
    | (extract_lets +onlyGivenNames x; clear_value x)
    | (extract_lets +onlyGivenNames x)
    | split
theorem State.todByte_keeps {t s : State} (h : Keeps t s) (a1 a2) :
    Keeps t (State.todByte s a1 a2) := by
  unfold State.todByte
  repeat' first
    | with_reducible assumption
    | with_reducible apply Keeps.ite
    | with_reducible refine State.todLine_keeps ?_ _ _
    | with_reducible refine State.setSlot_keeps ?_ _ _
theorem State.keepLoad_keeps {t s : State} (h : Keeps t s) :
    Keeps t (State.keepLoad s) := by
  unfold State.keepLoad
  repeat' first
    | with_reducible assumption
    | (extract_lets +onlyGivenNames x; clear_value x)
    | simp only [↓Keeps.upd]
theorem State.loadIdentity_keeps {t s : State} (h : Keeps t s) :
    Keeps t (State.loadIdentity s) := by
  unfold State.loadIdentity
  repeat' first
    | with_reducible assumption
    | with_reducible refine State.setFlag_keeps ?_ _ _ _
    | with_reducible refine State.set_keeps ?_ _ _ _
    | with_reducible refine Keeps.foldl (fun _ _ _ => ?_) _ ?_
theorem State.drawReset_keeps {t s : State} (h : Keeps t s) :
    Keeps t (State.drawReset s) := by
  unfold State.drawReset
  repeat' first
    | with_reducible assumption
    | with_reducible refine State.renewNonce_keeps ?_
    | with_reducible refine State.drew_keeps ?_
    | with_reducible refine State.set_keeps ?_ _ _ _
    | with_reducible refine State.ledgerNote_keeps ?_ _ _ _
    | (extract_lets +onlyGivenNames x; clear_value x)
    | simp only [↓Keeps.upd]
theorem State.loadBist_keeps {t s : State} (h : Keeps t s) :
    Keeps t (State.loadBist s) := by
  unfold State.loadBist
  repeat' first
    | with_reducible assumption
    | with_reducible refine State.set_keeps ?_ _ _ _
    | with_reducible refine Keeps.foldl (fun _ _ _ => ?_) _ ?_
    | (extract_lets +onlyGivenNames x)
    | simp only [↓Keeps.upd]
    | split
theorem State.ticExport_keeps {t s : State} (h : Keeps t s) (a1) :
    Keeps t (State.ticExport s a1) := by
  unfold State.ticExport
  repeat' first
    | with_reducible assumption
    | with_reducible apply Keeps.ite
    | with_reducible refine State.event_keeps ?_ _ _
    | with_reducible refine State.noteOut_keeps ?_ _
theorem State.imageChecks_keeps {t s : State} (h : Keeps t s) (b : List Byte) : Keeps t (s.imageChecks b).2.2 := by
  unfold State.imageChecks
  repeat' first
    | with_reducible assumption
    | with_reducible apply Keeps.ite22
    | with_reducible refine State.useKey_keepsE (by assumption) ?_
    | with_reducible refine State.perfEvent_keeps ?_ _ _ _
    | simp only [↓Keeps.upd]
    | split
theorem State.imageResult_keeps {t s : State} (h : Keeps t s) (a1) :
    Keeps t (State.imageResult s a1) := by
  unfold State.imageResult
  repeat' first
    | with_reducible assumption
    | with_reducible apply Keeps.ite
    | with_reducible refine State.set_keeps ?_ _ _ _
theorem State.imageFailed_keeps {t s : State} (h : Keeps t s) (a1) :
    Keeps t (State.imageFailed s a1) := by
  unfold State.imageFailed
  repeat' first
    | with_reducible assumption
    | with_reducible apply Keeps.ite
    | with_reducible refine State.set_keeps ?_ _ _ _
    | with_reducible refine State.imageResult_keeps ?_ _
    | with_reducible refine State.toCalibrate_keeps ?_
    | (extract_lets +onlyGivenNames x; clear_value x)
    | (extract_lets +onlyGivenNames x)
    | simp only [↓Keeps.upd]
    | split
theorem State.imageRun_keeps {t s : State} (h : Keeps t s) (b : List Byte) : Keeps t (s.imageRun b) := by
  unfold State.imageRun
  have hc := State.imageChecks_keeps h b
  split
  · rename_i e
    rw [e] at hc
    dsimp only at hc
    split
    · rename_i e2
      exact State.startCommit_keeps (State.set_keeps (State.writeRecords_keepsE e2 hc) _ _ _) _
    · rename_i e2
      exact State.imageFailed_keeps (State.writeRecords_keepsE e2 hc) _
  · rename_i e
    rw [e] at hc
    exact State.imageFailed_keeps hc _
theorem State.answerGrant_keeps {t s : State} (h : Keeps t s) (a1 a2 a3 a4 a5) :
    Keeps t (State.answerGrant s a1 a2 a3 a4 a5) := by
  unfold State.answerGrant
  repeat' first
    | with_reducible assumption
    | with_reducible refine State.signal_keeps ?_ _ _ _ _ _ _ _
theorem State.denyGrant_keeps {t s : State} (h : Keeps t s) (a1 a2 a3 a4) :
    Keeps t (State.denyGrant s a1 a2 a3 a4) := by
  unfold State.denyGrant
  repeat' first
    | with_reducible assumption
    | with_reducible refine State.answerGrant_keeps ?_ _ _ _ _ _
    | with_reducible refine State.bump_keeps ?_ _ _ _
theorem State.grantLate_keeps {t s : State} (h : Keeps t s) (a1 a2 a3) :
    Keeps t (State.grantLate s a1 a2 a3) := by
  unfold State.grantLate
  repeat' first
    | with_reducible assumption
    | with_reducible apply Keeps.ite
    | with_reducible refine State.endGrant_keeps ?_ _ _
    | split
theorem State.requestGrant_keeps {t s : State} (h : Keeps t s) (a1 a2 a3 a4 a5 a6) :
    Keeps t (State.requestGrant s a1 a2 a3 a4 a5 a6) := by
  unfold State.requestGrant
  repeat' first
    | with_reducible assumption
    | with_reducible apply Keeps.ite
    | with_reducible refine State.denyGrant_keeps ?_ _ _ _ _
    | with_reducible refine State.grantLate_keeps ?_ _ _ _
    | with_reducible refine State.answerGrant_keeps ?_ _ _ _ _ _
    | with_reducible refine State.bump_keeps ?_ _ _ _
    | with_reducible refine State.setClient_keeps ?_ _ _
    | with_reducible refine State.clientRefresh_keeps ?_
    | (extract_lets +onlyGivenNames x; refine (fun (hx : Keeps t x) => ?_) ?_; clear_value x; rotate_left; subst x)
    | (extract_lets +onlyGivenNames x; clear_value x)
    | simp only [↓Keeps.upd]
    | split
theorem State.notchRefresh_keeps {t s : State} (h : Keeps t s) (a1) :
    Keeps t (State.notchRefresh s a1) := by
  unfold State.notchRefresh
  repeat' first
    | with_reducible assumption
    | with_reducible refine State.set_keeps ?_ _ _ _
theorem State.setNotch_keeps {t s : State} (h : Keeps t s) (a1 a2 a3) :
    Keeps t (State.setNotch s a1 a2 a3) := by
  unfold State.setNotch
  repeat' first
    | with_reducible assumption
    | (extract_lets +onlyGivenNames x; clear_value x)
    | simp only [↓Keeps.upd]
theorem State.notchesAssign_keeps {t s : State} (h : Keeps t s) (a1 a2) :
    Keeps t (State.notchesAssign s a1 a2) := by
  unfold State.notchesAssign
  repeat' first
    | with_reducible assumption
    | with_reducible apply Keeps.ite
    | with_reducible refine State.setInt_keeps ?_ _ _ _
    | with_reducible refine State.setNotch_keeps ?_ _ _ _
    | with_reducible refine State.bump_keeps ?_ _ _ _
    | with_reducible refine Keeps.foldl (fun _ _ _ => ?_) _ ?_
    | (extract_lets +onlyGivenNames x; clear_value x)
    | (extract_lets +onlyGivenNames x)
    | simp only [↓Keeps.upd]
    | split
theorem State.notchesTrack_keeps {t s : State} (h : Keeps t s) (a1 a2) :
    Keeps t (State.notchesTrack s a1 a2) := by
  unfold State.notchesTrack
  repeat' first
    | with_reducible assumption
    | with_reducible apply Keeps.ite
    | with_reducible refine State.setInt_keeps ?_ _ _ _
    | with_reducible refine State.setNotch_keeps ?_ _ _ _
    | with_reducible refine Keeps.foldl (fun _ _ _ => ?_) _ ?_
    | (extract_lets +onlyGivenNames x)
    | simp only [↓Keeps.upd]
    | split
theorem State.jamRefresh_keeps {t s : State} (h : Keeps t s) :
    Keeps t (State.jamRefresh s) := by
  unfold State.jamRefresh
  repeat' first
    | with_reducible assumption
    | with_reducible apply Keeps.ite
    | with_reducible refine State.raise_keeps ?_ _ _ _ _
    | with_reducible refine State.deassert_keeps ?_ _
    | (extract_lets +onlyGivenNames x; clear_value x)
    | simp only [↓Keeps.upd]
theorem State.lanesTrim_keeps {t s : State} (h : Keeps t s) :
    Keeps t (State.lanesTrim s) := by
  unfold State.lanesTrim
  repeat' first
    | with_reducible assumption
    | with_reducible apply Keeps.ite
    | with_reducible refine State.set_keeps ?_ _ _ _
    | with_reducible refine Keeps.foldl (fun _ _ _ => ?_) _ ?_
theorem State.ntpRebuild_keeps {t s : State} (h : Keeps t s) (a1) :
    Keeps t (State.ntpRebuild s a1).2 := by
  unfold State.ntpRebuild
  repeat' first
    | with_reducible assumption
    | with_reducible apply Keeps.ite2
    | with_reducible refine State.bump_keeps ?_ _ _ _
theorem State.ntpRebuild_keepsE {t s r : State} {q} {a1} (e : State.ntpRebuild s a1 = (q, r)) (h : Keeps t s) : Keeps t r := by
  have := State.ntpRebuild_keeps h a1; rw [e] at this; exact this
theorem State.incrEdge_keeps {t s : State} (h : Keeps t s) :
    Keeps t (State.incrEdge s) := by
  unfold State.incrEdge
  repeat' first
    | with_reducible assumption
    | (extract_lets +onlyGivenNames x; clear_value x)
    | simp only [↓Keeps.upd]
theorem State.epochToSlot_keeps {t s : State} (h : Keeps t s) (a1 a2 a3) :
    Keeps t (State.epochToSlot s a1 a2 a3) := by
  unfold State.epochToSlot
  repeat' first
    | with_reducible assumption
    | with_reducible apply Keeps.ite
    | with_reducible refine State.setSlot_keeps ?_ _ _
    | with_reducible refine State.settle_keeps ?_ _
    | with_reducible refine State.setCause_keeps ?_ _ _ _
    | with_reducible refine State.quality_keeps ?_ _ _ _
    | with_reducible refine State.set_keeps ?_ _ _ _
    | with_reducible refine State.qlRefresh_keeps ?_ _
    | with_reducible refine State.slotMeasure_keeps ?_ _ _ _ _ _ _
    | with_reducible refine State.raise_keeps ?_ _ _ _ _
    | (extract_lets +onlyGivenNames x)
    | simp only [↓Keeps.upd]
    | split
theorem State.announceLeap_keeps {t s : State} (h : Keeps t s) (a1) :
    Keeps t (State.announceLeap s a1) := by
  unfold State.announceLeap
  repeat' first
    | with_reducible assumption
    | with_reducible apply Keeps.ite
    | with_reducible refine State.leapAnnounced_keeps ?_ _ _
    | with_reducible refine State.leapWithdrawn_keeps ?_ _
theorem State.calLeaf_keeps {t s : State} (h : Keeps t s) (a1 a2) :
    Keeps t (State.calLeaf s a1 a2) := by
  unfold State.calLeaf
  repeat' first
    | with_reducible assumption
    | with_reducible refine State.setLeaf_keeps ?_ _ _
    | with_reducible refine State.set_keeps ?_ _ _ _
theorem State.calTree_keeps {t s : State} (h : Keeps t s) (a1) :
    Keeps t (State.calTree s a1) := by
  unfold State.calTree
  repeat' first
    | with_reducible assumption
    | with_reducible refine State.calLeaf_keeps ?_ _ _
    | with_reducible refine State.set_keeps ?_ _ _ _
    | with_reducible refine Keeps.foldl (fun _ _ _ => ?_) _ ?_
theorem State.lossRefresh_keeps {t s : State} (h : Keeps t s) (a1) :
    Keeps t (State.lossRefresh s a1) := by
  unfold State.lossRefresh
  repeat' first
    | with_reducible assumption
    | with_reducible refine State.set_keeps ?_ _ _ _
theorem State.tapFlush_keeps {t s : State} (h : Keeps t s) (a1 a2) :
    Keeps t (State.tapFlush s a1 a2) := by
  induction a2 generalizing s with
  | zero => exact h
  | succ n ih =>
    unfold State.tapFlush
    repeat' first
      | with_reducible assumption
      | with_reducible apply Keeps.ite
      | with_reducible refine State.lossRefresh_keeps ?_ _
      | with_reducible refine State.ringWrite_keeps ?_ _ _
      | with_reducible refine ih ?_
      | (extract_lets +onlyGivenNames x; clear_value x)
      | (extract_lets +onlyGivenNames x)
      | simp only [↓Keeps.upd]
      | split
theorem State.attestStep_keeps {t s : State} (h : Keeps t s) (a1) :
    Keeps t (State.attestStep s a1) := by
  unfold State.attestStep
  repeat' first
    | with_reducible assumption
    | with_reducible apply Keeps.ite
    | (extract_lets +onlyGivenNames x; clear_value x)
    | simp only [↓Keeps.upd]
theorem State.epochSats_keeps {t s : State} (h : Keeps t s) (a1) :
    Keeps t (State.epochSats s a1) := by
  unfold State.epochSats
  repeat' first
    | with_reducible assumption
    | with_reducible apply Keeps.ite
    | with_reducible refine State.satFree_keeps ?_ _
    | with_reducible refine State.set_keeps ?_ _ _ _
    | with_reducible refine State.setInt_keeps ?_ _ _ _
    | with_reducible refine State.perfEvent_keeps ?_ _ _ _
    | with_reducible refine State.bump_keeps ?_ _ _ _
    | with_reducible refine Keeps.foldl (fun _ _ _ => ?_) _ ?_
    | (extract_lets +onlyGivenNames x; refine (fun (hx : Keeps t x) => ?_) ?_; clear_value x; rotate_left; subst x)
    | (extract_lets +onlyGivenNames x; clear_value x)
    | split
theorem State.keepEphemeris_keeps {t s : State} (h : Keeps t s) (a1) :
    Keeps t (State.keepEphemeris s a1) := by
  unfold State.keepEphemeris
  repeat' first
    | with_reducible assumption
    | with_reducible refine State.keepPut_keeps ?_ _ _
theorem State.bistResult_keeps {t s : State} (h : Keeps t s) (a1 a2 a3 a4) :
    Keeps t (State.bistResult s a1 a2 a3 a4) := by
  unfold State.bistResult
  repeat' first
    | with_reducible assumption
    | with_reducible apply Keeps.ite
    | with_reducible refine State.set_keeps ?_ _ _ _
    | with_reducible refine State.deassert_keeps ?_ _
    | with_reducible refine State.raise_keeps ?_ _ _ _ _
    | (extract_lets +onlyGivenNames x; clear_value x)
    | simp only [↓Keeps.upd]
theorem State.invalidateClient_keeps {t s : State} (h : Keeps t s) (a1) :
    Keeps t (State.invalidateClient s a1) := by
  unfold State.invalidateClient
  repeat' first
    | with_reducible assumption
    | with_reducible refine State.clientRefresh_keeps ?_
    | with_reducible refine State.setClient_keeps ?_ _ _
theorem State.framesDrop_keeps {t s : State} (h : Keeps t s) (a1) :
    Keeps t (State.framesDrop s a1) := by
  unfold State.framesDrop
  repeat' first
    | with_reducible assumption
    | with_reducible refine State.occSub_keeps ?_ _ _ _
    | with_reducible refine Keeps.foldl (fun _ _ _ => ?_) _ ?_
    | (extract_lets +onlyGivenNames x; clear_value x)
    | simp only [↓Keeps.upd]
theorem State.arraysZero_keeps {t s : State} (h : Keeps t s) (a1) :
    Keeps t (State.arraysZero s a1) := by
  unfold State.arraysZero
  repeat' first
    | with_reducible assumption
    | with_reducible apply Keeps.ite
    | with_reducible refine State.invalidateClient_keeps ?_ _
    | with_reducible refine State.framesDrop_keeps ?_ _
    | with_reducible refine State.cacheSet_keeps ?_ _
    | with_reducible refine State.set_keeps ?_ _ _ _
    | with_reducible refine Keeps.foldl (fun _ _ _ => ?_) _ ?_
    | (extract_lets +onlyGivenNames x; clear_value x)
    | simp only [↓Keeps.upd]
theorem State.rateChannel_keeps {t s : State} (h : Keeps t s) (a1 a2) :
    Keeps t (State.rateChannel s a1 a2) := by
  unfold State.rateChannel
  repeat' first
    | with_reducible assumption
    | with_reducible apply Keeps.ite
    | with_reducible refine State.setChan_keeps ?_ _ _
    | with_reducible refine State.setCause_keeps ?_ _ _ _
    | with_reducible refine State.memberInputBad_keeps ?_ _
    | with_reducible refine State.mdllRefFail_keeps ?_ _
    | with_reducible refine Keeps.foldl (fun _ _ _ => ?_) _ ?_
    | (extract_lets +onlyGivenNames x)
    | split
theorem State.sendXoff_keeps {t s : State} (h : Keeps t s) (a1 a2) :
    Keeps t (State.sendXoff s a1 a2) := by
  unfold State.sendXoff
  repeat' first
    | with_reducible assumption
    | with_reducible refine State.setXoff_keeps ?_ _ _ _
    | with_reducible refine State.sendPause_keeps ?_ _ _ _
    | with_reducible refine State.setPort_keeps ?_ _ _
theorem State.occAdd_keeps {t s : State} (h : Keeps t s) (a1 a2 a3) :
    Keeps t (State.occAdd s a1 a2 a3) := by
  unfold State.occAdd
  repeat' first
    | with_reducible assumption
    | with_reducible apply Keeps.ite
    | with_reducible refine State.occRefresh_keeps ?_ _
    | with_reducible refine State.setPort_keeps ?_ _ _
    | with_reducible refine State.sendXoff_keeps ?_ _ _
theorem State.steerHost_keeps {t s : State} (h : Keeps t s) (a1 a2) :
    Keeps t (State.steerHost s a1 a2).2 := by
  unfold State.steerHost
  repeat' first
    | with_reducible assumption
    | with_reducible apply Keeps.ite2
    | with_reducible refine State.bump_keeps ?_ _ _ _
    | with_reducible refine State.noteOut_keeps ?_ _
    | with_reducible refine State.occAdd_keeps ?_ _ _ _
    | with_reducible refine State.setRing_keeps ?_ _ _
theorem State.steerHost_keepsE {t s r : State} {q} {a1 a2} (e : State.steerHost s a1 a2 = (q, r)) (h : Keeps t s) : Keeps t r := by
  have := State.steerHost_keeps h a1 a2; rw [e] at this; exact this
theorem State.rxTake_keeps {t s : State} (h : Keeps t s) (a1) :
    Keeps t (State.rxTake s a1) := by
  unfold State.rxTake
  repeat' first
    | with_reducible assumption
    | with_reducible apply Keeps.ite
    | with_reducible apply Keeps.ite2
    | with_reducible refine State.bump_keeps ?_ _ _ _
    | with_reducible refine State.steerHost_keeps ?_ _ _
    | with_reducible refine State.steerService_keeps ?_ _
    | (extract_lets +onlyGivenNames x; clear_value x)
    | simp only [↓Keeps.upd]
theorem State.calConverters_keeps {t s : State} (h : Keeps t s) (a1) :
    Keeps t (State.calConverters s a1) := by
  unfold State.calConverters
  repeat' first
    | with_reducible assumption
    | with_reducible refine State.calibrated_keeps ?_ _ _ _ _
    | with_reducible refine Keeps.foldl (fun _ _ _ => ?_) _ ?_
theorem State.chanSlip_keeps {t s : State} (h : Keeps t s) (a1 a2) :
    Keeps t (State.chanSlip s a1 a2) := by
  unfold State.chanSlip
  repeat' first
    | with_reducible assumption
    | with_reducible apply Keeps.ite
    | with_reducible refine State.set_keeps ?_ _ _ _
    | with_reducible refine State.setChan_keeps ?_ _ _
    | with_reducible refine State.setMember_keeps ?_ _ _
    | (extract_lets +onlyGivenNames x; clear_value x)
    | (extract_lets +onlyGivenNames x)
    | simp only [↓Keeps.upd]
    | split
theorem State.bankSlip_keeps {t s : State} (h : Keeps t s) (a1) :
    Keeps t (State.bankSlip s a1) := by
  unfold State.bankSlip
  repeat' first
    | with_reducible assumption
    | with_reducible refine State.raise_keeps ?_ _ _ _ _
    | with_reducible refine State.bump_keeps ?_ _ _ _
    | with_reducible refine State.chanSlip_keeps ?_ _ _
    | with_reducible refine Keeps.foldl (fun _ _ _ => ?_) _ ?_
    | (extract_lets +onlyGivenNames x; clear_value x)
    | simp only [↓Keeps.upd]
theorem State.openAmbiguity_keeps {t s : State} (h : Keeps t s) (a1) :
    Keeps t (State.openAmbiguity s a1) := by
  unfold State.openAmbiguity
  repeat' first
    | with_reducible assumption
    | with_reducible apply Keeps.ite
    | with_reducible refine State.set_keeps ?_ _ _ _
    | with_reducible refine State.raise_keeps ?_ _ _ _ _
    | with_reducible refine Keeps.foldl (fun _ _ _ => ?_) _ ?_
    | (extract_lets +onlyGivenNames x; clear_value x)
    | simp only [↓Keeps.upd]
theorem State.announceLate_keeps {t s : State} (h : Keeps t s) (a1 a2) :
    Keeps t (State.announceLate s a1 a2) := by
  unfold State.announceLate
  repeat' first
    | with_reducible assumption
    | with_reducible apply Keeps.ite
    | with_reducible refine State.parentLost_keeps ?_ _
    | split
theorem State.partnerAge_keeps {t s : State} (h : Keeps t s) (a1) :
    Keeps t (State.partnerAge s a1) := by
  unfold State.partnerAge
  repeat' first
    | with_reducible assumption
    | with_reducible apply Keeps.ite
    | with_reducible refine State.partnerFree_keeps ?_ _
theorem State.txSend_keeps {t s : State} (h : Keeps t s) (a1 a2 a3 a4) :
    Keeps t (State.txSend s a1 a2 a3 a4) := by
  unfold State.txSend
  repeat' first
    | with_reducible assumption
    | with_reducible refine State.bump_keeps ?_ _ _ _
    | with_reducible refine State.emit_keeps ?_ _
    | with_reducible refine State.perfEvent_keeps ?_ _ _ _
    | with_reducible refine State.queueStamp_keeps ?_ _ _ _ _
    | with_reducible refine State.noteOut_keeps ?_ _
    | with_reducible refine State.frameDone_keeps ?_ _ _ _
    | (extract_lets +onlyGivenNames x; clear_value x)
    | split
theorem State.attestSign_keeps {t s : State} (h : Keeps t s) (a1 a2) :
    Keeps t (State.attestSign s a1 a2) := by
  unfold State.attestSign
  repeat' first
    | with_reducible assumption
    | with_reducible refine State.useKey_keeps ?_ _ _
    | with_reducible refine State.perfEvent_keeps ?_ _ _ _
    | with_reducible refine State.raise_keeps ?_ _ _ _ _
    | with_reducible refine State.set_keeps ?_ _ _ _
    | with_reducible refine State.setOct_keeps ?_ _ _ _
    | with_reducible refine State.event_keeps ?_ _ _
    | (extract_lets +onlyGivenNames x; clear_value x)
    | simp only [↓Keeps.upd]
    | split
theorem State.perfFold_keeps {t s : State} (h : Keeps t s) (a1) :
    Keeps t (State.perfFold s a1) := by
  unfold State.perfFold
  repeat' first
    | with_reducible assumption
    | with_reducible apply Keeps.ite
    | with_reducible refine State.set_keeps ?_ _ _ _
theorem State.cacheDerived_keeps {t s : State} (h : Keeps t s) (a1 a2) :
    Keeps t (State.cacheDerived s a1 a2) := by
  unfold State.cacheDerived
  repeat' first
    | with_reducible assumption
    | with_reducible apply Keeps.ite
    | with_reducible refine State.share_keeps ?_ _
    | with_reducible refine State.cachePut_keeps ?_ _
    | with_reducible refine State.set_keeps ?_ _ _ _
theorem State.scrub_keeps {t s : State} (h : Keeps t s) (a1 a2) :
    Keeps t (State.scrub s a1 a2) := by
  unfold State.scrub
  repeat' first
    | with_reducible assumption
    | with_reducible apply Keeps.ite
    | with_reducible refine State.raise_keeps ?_ _ _ _ _
    | with_reducible refine State.bump_keeps ?_ _ _ _
    | with_reducible refine State.invalidateClient_keeps ?_ _
    | with_reducible refine State.framesDrop_keeps ?_ _
    | (extract_lets +onlyGivenNames x; refine (fun (hx : Keeps t x) => ?_) ?_; clear_value x; rotate_left; subst x)
    | (extract_lets +onlyGivenNames x; clear_value x)
    | simp only [↓Keeps.upd]
    | split
theorem State.leapDecode_keeps {t s : State} (h : Keeps t s) (a1) :
    Keeps t (State.leapDecode s a1) := by
  unfold State.leapDecode
  repeat' first
    | with_reducible assumption
    | with_reducible apply Keeps.ite
    | with_reducible refine State.leapAnnounced_keeps ?_ _ _
    | with_reducible refine State.leapWithdrawn_keeps ?_ _
    | (extract_lets +onlyGivenNames x)
    | split
theorem State.utcDecode_keeps {t s : State} (h : Keeps t s) (a1) :
    Keeps t (State.utcDecode s a1) := by
  unfold State.utcDecode
  repeat' first
    | with_reducible assumption
    | with_reducible apply Keeps.ite
    | with_reducible refine State.raise_keeps ?_ _ _ _ _
    | (extract_lets +onlyGivenNames x; clear_value x)
    | simp only [↓Keeps.upd]
theorem State.epochDecode_keeps {t s : State} (h : Keeps t s) (a1) :
    Keeps t (State.epochDecode s a1) := by
  unfold State.epochDecode
  repeat' first
    | with_reducible assumption
    | with_reducible refine State.keepEphemeris_keeps ?_ _
    | with_reducible refine State.keepOne_keeps ?_ _ _ _
    | with_reducible refine State.leapDecode_keeps ?_ _
    | with_reducible refine State.utcDecode_keeps ?_ _
    | with_reducible refine Keeps.foldl (fun _ _ _ => ?_) _ ?_
    | (extract_lets +onlyGivenNames x; refine (fun (hx : Keeps t x) => ?_) ?_; clear_value x; rotate_left; subst x)
    | split
theorem State.coastOut_keeps {t s : State} (h : Keeps t s) (a1) :
    Keeps t (State.coastOut s a1) := by
  unfold State.coastOut
  repeat' first
    | with_reducible assumption
    | with_reducible refine State.satRefresh_keeps ?_ _
    | with_reducible refine State.setSat_keeps ?_ _ _
    | with_reducible refine State.set_keeps ?_ _ _ _
    | with_reducible refine Keeps.foldl (fun _ _ _ => ?_) _ ?_
    | (extract_lets +onlyGivenNames x)
    | split
theorem State.ptpStamped_keeps {t s : State} (h : Keeps t s) (a1 a2 a3) :
    Keeps t (State.ptpStamped s a1 a2 a3) := by
  unfold State.ptpStamped
  repeat' first
    | with_reducible assumption
    | with_reducible refine State.ptpSend_keeps ?_ _ _
    | with_reducible refine State.exchangeSet_keeps ?_ _ _ _
    | (extract_lets +onlyGivenNames x; clear_value x)
    | split
theorem State.ppsPlace_keeps {t s : State} (h : Keeps t s) (a1 a2 a3) :
    Keeps t (State.ppsPlace s a1 a2 a3) := by
  unfold State.ppsPlace
  repeat' first
    | with_reducible assumption
    | with_reducible apply Keeps.ite
    | with_reducible refine State.set_keeps ?_ _ _ _
    | with_reducible refine State.setT96_keeps ?_ _ _ _
    | with_reducible refine State.perfEvent_keeps ?_ _ _ _
    | with_reducible refine State.setPulse_keeps ?_ _ _
    | with_reducible refine State.emit_keeps ?_ _
    | with_reducible refine State.noteOut_keeps ?_ _
theorem State.leafEdge_keeps {t s : State} (h : Keeps t s) (a1 a2 a3) :
    Keeps t (State.leafEdge s a1 a2 a3) := by
  unfold State.leafEdge
  repeat' first
    | with_reducible assumption
    | with_reducible refine State.setLeaf_keeps ?_ _ _
    | with_reducible refine State.nameArrives_keeps ?_ _ _ _
    | (extract_lets +onlyGivenNames x; refine (fun (hx : Keeps t x) => ?_) ?_; clear_value x; rotate_left; subst x)
    | (extract_lets +onlyGivenNames x; clear_value x)
    | split
theorem State.launchOut_keeps {t s : State} (h : Keeps t s) (a1 a2 a3) :
    Keeps t (State.launchOut s a1 a2 a3) := by
  unfold State.launchOut
  repeat' first
    | with_reducible assumption
    | with_reducible apply Keeps.ite
    | with_reducible refine State.portRefresh_keeps ?_ _
    | with_reducible refine State.setPort_keeps ?_ _ _
    | with_reducible refine State.bump_keeps ?_ _ _ _
    | with_reducible refine State.emit_keeps ?_ _
    | with_reducible refine State.perfEvent_keeps ?_ _ _ _
    | with_reducible refine State.packetEnd_keeps ?_ _ _ _ _ _ _ _ _
    | with_reducible refine State.frameDone_keeps ?_ _ _ _
theorem State.leafMiss_keeps {t s : State} (h : Keeps t s) (a1) :
    Keeps t (State.leafMiss s a1) := by
  unfold State.leafMiss
  repeat' first
    | with_reducible assumption
    | with_reducible apply Keeps.ite
    | with_reducible refine State.bump_keeps ?_ _ _ _
    | with_reducible refine State.setLeaf_keeps ?_ _ _
    | with_reducible refine State.set_keeps ?_ _ _ _
theorem State.coreResidue_keeps {t s : State} (h : Keeps t s) (a1 a2) :
    Keeps t (State.coreResidue s a1 a2) := by
  unfold State.coreResidue
  repeat' first
    | with_reducible assumption
    | with_reducible apply Keeps.ite
    | with_reducible refine State.raise_keeps ?_ _ _ _ _
    | with_reducible refine State.bump_keeps ?_ _ _ _
theorem State.retardStart_keeps {t s : State} (h : Keeps t s) (a1 a2) :
    Keeps t (State.retardStart s a1 a2) := by
  unfold State.retardStart
  repeat' first
    | with_reducible assumption
    | with_reducible apply Keeps.ite
    | with_reducible refine State.lanesStepped_keeps ?_
    | with_reducible refine State.lanesRealign_keeps ?_
    | with_reducible refine State.clksRealign_keeps ?_
    | (extract_lets +onlyGivenNames x)
    | simp only [↓Keeps.upd]
theorem State.pulsesFirst_keeps {t s : State} (h : Keeps t s) :
    Keeps t (State.pulsesFirst s) := by
  unfold State.pulsesFirst
  repeat' first
    | with_reducible assumption
    | with_reducible refine State.ppsRefreshAll_keeps ?_
    | with_reducible refine State.setPulse_keeps ?_ _ _
    | with_reducible refine Keeps.foldl (fun _ _ _ => ?_) _ ?_
theorem State.stepEdge_keeps {t s : State} (h : Keeps t s) :
    Keeps t (State.stepEdge s) := by
  unfold State.stepEdge
  repeat' first
    | with_reducible assumption
    | with_reducible apply Keeps.ite
    | with_reducible refine State.stepForward_keeps ?_ _ _
    | with_reducible refine State.retardStart_keeps ?_ _ _
    | with_reducible refine State.bump_keeps ?_ _ _ _
    | with_reducible refine State.attestStep_keeps ?_ _
    | with_reducible refine State.pulsesFirst_keeps ?_
    | (extract_lets +onlyGivenNames x; refine (fun (hx : Keeps t x) => ?_) ?_; clear_value x; rotate_left; subst x)
    | (extract_lets +onlyGivenNames x; clear_value x)
    | (extract_lets +onlyGivenNames x)
    | simp only [↓Keeps.upd]
    | split
theorem State.attestMax_keeps {t s : State} (h : Keeps t s) :
    Keeps t (State.attestMax s) := by
  unfold State.attestMax
  repeat' first
    | with_reducible assumption
    | with_reducible apply Keeps.ite
    | (extract_lets +onlyGivenNames x; clear_value x)
    | simp only [↓Keeps.upd]
theorem State.boundEval_keeps {t s : State} (h : Keeps t s) :
    Keeps t (State.boundEval s) := by
  unfold State.boundEval
  repeat' first
    | with_reducible assumption
    | with_reducible apply Keeps.ite
    | with_reducible refine State.set_keeps ?_ _ _ _
    | with_reducible refine Keeps.foldl (fun _ _ _ => ?_) _ ?_
    | (extract_lets +onlyGivenNames x; clear_value x)
    | (extract_lets +onlyGivenNames x)
    | simp only [↓Keeps.upd]
theorem State.ledgerFlush_keeps {t s : State} (h : Keeps t s) (a1 a2 a3) :
    Keeps t (State.ledgerFlush s a1 a2 a3) := by
  unfold State.ledgerFlush
  repeat' first
    | with_reducible assumption
    | with_reducible apply Keeps.ite
    | with_reducible refine State.ledgerAdd_keeps ?_ _ _ _ _ _ _ _
    | with_reducible refine Keeps.foldl (fun _ _ _ => ?_) _ ?_
    | (extract_lets +onlyGivenNames x; clear_value x)
    | simp only [↓Keeps.upd]
theorem State.safeEdge_keeps {t s : State} (h : Keeps t s) :
    Keeps t (State.safeEdge s) := by
  unfold State.safeEdge
  repeat' first
    | with_reducible assumption
    | with_reducible apply Keeps.ite
    | with_reducible refine State.ledgerAdd_keeps ?_ _ _ _ _ _ _ _
    | (extract_lets +onlyGivenNames x; refine (fun (hx : Keeps t x) => ?_) ?_; clear_value x; rotate_left; subst x)
    | (extract_lets +onlyGivenNames x; clear_value x)
    | simp only [↓Keeps.upd]
    | split
theorem State.boundEdge_keeps {t s : State} (h : Keeps t s) :
    Keeps t (State.boundEdge s) := by
  unfold State.boundEdge
  repeat' first
    | with_reducible assumption
    | with_reducible refine State.ootEdge_keeps ?_
    | with_reducible refine State.attestMax_keeps ?_
    | with_reducible refine State.boundEval_keeps ?_
    | with_reducible refine State.ledgerFlush_keeps ?_ _ _ _
    | with_reducible refine State.safeEdge_keeps ?_
    | (extract_lets +onlyGivenNames x; clear_value x)
    | simp only [↓Keeps.upd]
theorem State.loseSelection_keeps {t s : State} (h : Keeps t s) :
    Keeps t (State.loseSelection s) := by
  unfold State.loseSelection
  repeat' first
    | with_reducible assumption
    | with_reducible apply Keeps.ite
    | with_reducible refine State.setSelected_keeps ?_ _
    | with_reducible refine State.yewRefresh_keeps ?_
    | with_reducible refine State.holdEnter_keeps ?_ _ _
    | with_reducible refine State.set_keeps ?_ _ _ _
    | with_reducible refine State.ledgerDue_keeps ?_ _ _ _ _
    | (extract_lets +onlyGivenNames x; refine (fun (hx : Keeps t x) => ?_) ?_; clear_value x; rotate_left; subst x)
    | (extract_lets +onlyGivenNames x; clear_value x)
    | (extract_lets +onlyGivenNames x)
    | simp only [↓Keeps.upd]
    | split
theorem State.selectionEdge_keeps {t s : State} (h : Keeps t s) :
    Keeps t (State.selectionEdge s) := by
  unfold State.selectionEdge
  repeat' first
    | with_reducible assumption
    | with_reducible apply Keeps.ite
    | with_reducible refine State.decide'_keeps ?_ _
    | with_reducible refine State.takeSlot_keeps ?_ _ _
    | with_reducible refine State.loseSelection_keeps ?_
    | (extract_lets +onlyGivenNames x; refine (fun (hx : Keeps t x) => ?_) ?_; clear_value x; rotate_left; subst x)
    | split
theorem State.selectionDue_keeps {t s : State} (h : Keeps t s) :
    Keeps t (State.selectionDue s) := by
  unfold State.selectionDue
  repeat' first
    | with_reducible assumption
    | with_reducible refine State.selectionEdge_keeps ?_
    | (extract_lets +onlyGivenNames x; refine (fun (hx : Keeps t x) => ?_) ?_; clear_value x; rotate_left; subst x)
    | (extract_lets +onlyGivenNames x; clear_value x)
    | simp only [↓Keeps.upd]
theorem State.pairCount_keeps {t s : State} (h : Keeps t s) (a1 a2) :
    Keeps t (State.pairCount s a1 a2) := by
  unfold State.pairCount
  repeat' first
    | with_reducible assumption
    | with_reducible refine State.setOct_keeps ?_ _ _ _
    | with_reducible refine State.setPairUnit_keeps ?_ _ _
theorem State.ticFlush_keeps {t s : State} (h : Keeps t s) :
    Keeps t (State.ticFlush s) := by
  unfold State.ticFlush
  repeat' first
    | with_reducible assumption
    | with_reducible apply Keeps.ite
    | with_reducible refine State.ticExport_keeps ?_ _
    | with_reducible refine State.pairCount_keeps ?_ _ _
    | with_reducible refine Keeps.foldl (fun _ _ _ => ?_) _ ?_
    | (extract_lets +onlyGivenNames x; clear_value x)
    | simp only [↓Keeps.upd]
theorem State.banksLoad_keeps {t s : State} (h : Keeps t s) :
    Keeps t (State.banksLoad s) := by
  unfold State.banksLoad
  repeat' first
    | with_reducible assumption
    | with_reducible refine State.setBank_keeps ?_ _ _
    | with_reducible refine Keeps.foldl (fun _ _ _ => ?_) _ ?_
    | (extract_lets +onlyGivenNames x; refine (fun (hx : Keeps t x) => ?_) ?_; clear_value x; rotate_left; subst x)
    | (extract_lets +onlyGivenNames x; clear_value x)
    | simp only [↓Keeps.upd]
theorem State.banksCheck_keeps {t s : State} (h : Keeps t s) (a1) :
    Keeps t (State.banksCheck s a1) := by
  unfold State.banksCheck
  repeat' first
    | with_reducible assumption
    | with_reducible apply Keeps.ite
    | with_reducible refine State.bankSlip_keeps ?_ _
    | with_reducible refine Keeps.foldl (fun _ _ _ => ?_) _ ?_
theorem State.portRecal_keeps {t s : State} (h : Keeps t s) (a1) :
    Keeps t (State.portRecal s a1) := by
  unfold State.portRecal
  repeat' first
    | with_reducible assumption
    | with_reducible apply Keeps.ite
    | with_reducible refine State.bump_keeps ?_ _ _ _
    | with_reducible refine State.set_keeps ?_ _ _ _
    | with_reducible refine State.setPort_keeps ?_ _ _
theorem State.slotsFold_keeps {t s : State} (h : Keeps t s) :
    Keeps t (State.slotsFold s) := by
  unfold State.slotsFold
  repeat' first
    | with_reducible assumption
    | with_reducible refine State.set_keeps ?_ _ _ _
    | (extract_lets +onlyGivenNames x; refine (fun (hx : Keeps t x) => ?_) ?_; clear_value x; rotate_left; subst x)
    | (extract_lets +onlyGivenNames x; clear_value x)
    | simp only [↓Keeps.upd]
theorem State.perfStrobe_keeps {t s : State} (h : Keeps t s) :
    Keeps t (State.perfStrobe s) := by
  unfold State.perfStrobe
  repeat' first
    | with_reducible assumption
    | with_reducible apply Keeps.ite
    | with_reducible refine State.set_keeps ?_ _ _ _
    | with_reducible refine State.perfZero_keeps ?_ _
    | with_reducible refine State.slotsFold_keeps ?_
    | with_reducible refine State.perfFold_keeps ?_ _
    | with_reducible refine State.drew_keeps ?_
    | with_reducible refine Keeps.foldl (fun _ _ _ => ?_) _ ?_
    | (extract_lets +onlyGivenNames x; refine (fun (hx : Keeps t x) => ?_) ?_; clear_value x; rotate_left; subst x)
    | (extract_lets +onlyGivenNames x; clear_value x)
    | (extract_lets +onlyGivenNames x)
    | simp only [↓Keeps.upd]
theorem State.strobe_keeps {t s : State} (h : Keeps t s) (a1) :
    Keeps t (State.strobe s a1) := by
  unfold State.strobe
  repeat' first
    | with_reducible assumption
    | with_reducible apply Keeps.ite
    | with_reducible refine State.attestAccrue_keeps ?_
    | with_reducible refine State.leafMiss_keeps ?_ _
    | with_reducible refine State.perfEvent_keeps ?_ _ _ _
    | with_reducible refine State.coreResidue_keeps ?_ _ _
    | with_reducible refine State.slewEdge_keeps ?_
    | with_reducible refine State.incrEdge_keeps ?_
    | with_reducible refine State.stepEdge_keeps ?_
    | with_reducible refine State.leafEdge_keeps ?_ _ _ _
    | with_reducible refine State.boundEdge_keeps ?_
    | with_reducible refine State.selectionDue_keeps ?_
    | with_reducible refine State.ticFlush_keeps ?_
    | with_reducible refine State.banksLoad_keeps ?_
    | with_reducible refine State.banksCheck_keeps ?_ _
    | with_reducible refine State.portRecal_keeps ?_ _
    | with_reducible refine State.pulseFault_keeps ?_
    | with_reducible refine State.perfStrobe_keeps ?_
    | with_reducible refine Keeps.foldl (fun _ _ _ => ?_) _ ?_
    | (extract_lets +onlyGivenNames x; clear_value x)
    | (extract_lets +onlyGivenNames x)
    | simp only [↓Keeps.upd]
theorem State.filterStep_keeps {t s : State} (h : Keeps t s) (a1 a2 a3) :
    Keeps t (State.filterStep s a1 a2 a3) := by
  unfold State.filterStep
  repeat' first
    | with_reducible assumption
    | with_reducible refine State.setMember_keeps ?_ _ _
    | with_reducible refine State.setInt_keeps ?_ _ _ _
    | (extract_lets +onlyGivenNames x; clear_value x)
    | simp only [↓Keeps.upd]
    | split
theorem State.scaleStep_keeps {t s : State} (h : Keeps t s) (a1 a2) :
    Keeps t (State.scaleStep s a1 a2) := by
  unfold State.scaleStep
  repeat' first
    | with_reducible assumption
    | (extract_lets +onlyGivenNames x; clear_value x)
    | simp only [↓Keeps.upd]
theorem State.qualifiedNow_keeps {t s : State} (h : Keeps t s) (a1) :
    Keeps t (State.qualifiedNow s a1) := by
  unfold State.qualifiedNow
  repeat' first
    | with_reducible assumption
    | with_reducible refine State.setSlot_keeps ?_ _ _
theorem State.tapSeq_keeps {t s : State} (h : Keeps t s) (a1) :
    Keeps t (State.tapSeq s a1).2 := by
  unfold State.tapSeq
  repeat' first
    | with_reducible assumption
    | with_reducible refine State.set_keeps ?_ _ _ _
theorem State.tapSeq_keepsE {t s r : State} {q} {a1} (e : State.tapSeq s a1 = (q, r)) (h : Keeps t s) : Keeps t r := by
  have := State.tapSeq_keeps h a1; rw [e] at this; exact this
theorem State.tapLose_keeps {t s : State} (h : Keeps t s) (a1) :
    Keeps t (State.tapLose s a1) := by
  unfold State.tapLose
  repeat' first
    | with_reducible assumption
    | with_reducible refine State.bump_keeps ?_ _ _ _
    | with_reducible refine State.lossRefresh_keeps ?_ _
    | (extract_lets +onlyGivenNames x; clear_value x)
    | simp only [↓Keeps.upd]
theorem State.tapPut_keeps {t s : State} (h : Keeps t s) (a1) :
    Keeps t (State.tapPut s a1) := by
  unfold State.tapPut
  repeat' first
    | with_reducible assumption
    | with_reducible apply Keeps.ite
    | with_reducible refine State.tapFlush_keeps ?_ _ _
    | with_reducible refine State.tapLose_keeps ?_ _
    | with_reducible refine State.ringWrite_keeps ?_ _ _
theorem State.tapRelease_keeps {t s : State} (h : Keeps t s) :
    Keeps t (State.tapRelease s) := by
  unfold State.tapRelease
  repeat' first
    | with_reducible assumption
    | with_reducible refine State.tapPut_keeps ?_ _
    | with_reducible refine State.set_keeps ?_ _ _ _
    | with_reducible refine Keeps.foldl (fun _ _ _ => ?_) _ ?_
    | (extract_lets +onlyGivenNames x; clear_value x)
    | simp only [↓Keeps.upd]
theorem State.markPut_keeps {t s : State} (h : Keeps t s) (a1 a2) :
    Keeps t (State.markPut s a1 a2) := by
  unfold State.markPut
  repeat' first
    | with_reducible assumption
    | with_reducible apply Keeps.ite
    | with_reducible refine State.schedMiss_keeps ?_ _ _
    | with_reducible refine State.bump_keeps ?_ _ _ _
    | with_reducible refine State.tapSeq_keeps ?_ _
    | with_reducible refine State.noteOut_keeps ?_ _
    | with_reducible refine State.tapRelease_keeps ?_
    | with_reducible refine State.perfEvent_keeps ?_ _ _ _
    | with_reducible refine State.schedNext_keeps ?_ _ _ _
    | (extract_lets +onlyGivenNames x; clear_value x)
    | simp only [↓Keeps.upd]
theorem State.marksBefore_keeps {t s : State} (h : Keeps t s) (a1 a2) :
    Keeps t (State.marksBefore s a1 a2) := by
  unfold State.marksBefore
  repeat' first
    | with_reducible assumption
    | with_reducible apply Keeps.ite
    | with_reducible refine State.markPut_keeps ?_ _ _
    | with_reducible refine Keeps.foldl (fun _ _ _ => ?_) _ ?_
    | (extract_lets +onlyGivenNames x)
    | split
theorem State.ptpRebuild_keeps {t s : State} (h : Keeps t s) (a1) :
    Keeps t (State.ptpRebuild s a1).2 := by
  unfold State.ptpRebuild
  repeat' first
    | with_reducible assumption
    | with_reducible refine State.ptpBuild_keepsE (by assumption) ?_
    | split
theorem State.ptpRebuild_keepsE {t s r : State} {q} {a1} (e : State.ptpRebuild s a1 = (q, r)) (h : Keeps t s) : Keeps t r := by
  have := State.ptpRebuild_keeps h a1; rw [e] at this; exact this
theorem State.stampLost_keeps {t s : State} (h : Keeps t s) (a1 a2 a3) :
    Keeps t (State.stampLost s a1 a2 a3) := by
  unfold State.stampLost
  repeat' first
    | with_reducible assumption
    | with_reducible apply Keeps.ite
    | with_reducible refine State.bump_keeps ?_ _ _ _
    | with_reducible refine State.setPtpInst_keeps ?_ _ _
theorem State.handlesLost_keeps {t s : State} (h : Keeps t s) (a1 a2) :
    Keeps t (State.handlesLost s a1 a2) := by
  unfold State.handlesLost
  repeat' first
    | with_reducible assumption
    | with_reducible refine State.setPtpInst_keeps ?_ _ _
    | with_reducible refine State.stampLost_keeps ?_ _ _ _
    | with_reducible refine Keeps.foldl (fun _ _ _ => ?_) _ ?_
theorem State.reseed_keeps {t s : State} (h : Keeps t s) :
    Keeps t (State.reseed s) := by
  unfold State.reseed
  repeat' first
    | with_reducible assumption
    | (extract_lets +onlyGivenNames x; clear_value x)
    | simp only [↓Keeps.upd]
theorem State.epochUpdate_keeps {t s : State} (h : Keeps t s) (a1 a2 a3 a4) :
    Keeps t (State.epochUpdate s a1 a2 a3 a4) := by
  unfold State.epochUpdate
  repeat' first
    | with_reducible assumption
    | with_reducible refine State.setSat_keeps ?_ _ _
    | with_reducible refine State.setInt_keeps ?_ _ _ _
    | with_reducible refine State.satRefresh_keeps ?_ _
    | with_reducible refine State.set_keeps ?_ _ _ _
    | with_reducible refine Keeps.foldl (fun _ _ _ => ?_) _ ?_
    | (extract_lets +onlyGivenNames x; clear_value x)
    | simp only [↓Keeps.upd]
    | split
theorem State.driftStep_keeps {t s : State} (h : Keeps t s) (a1 a2 a3) :
    Keeps t (State.driftStep s a1 a2 a3) := by
  unfold State.driftStep
  repeat' first
    | with_reducible assumption
    | with_reducible refine State.set_keeps ?_ _ _ _
    | with_reducible refine State.setCause_keeps ?_ _ _ _
    | with_reducible refine State.setInt_keeps ?_ _ _ _
    | simp only [↓Keeps.upd]
    | split
theorem State.tempcoLearn_keeps {t s : State} (h : Keeps t s) :
    Keeps t (State.tempcoLearn s) := by
  unfold State.tempcoLearn
  repeat' first
    | with_reducible assumption
    | with_reducible apply Keeps.ite
    | (extract_lets +onlyGivenNames x; clear_value x)
    | simp only [↓Keeps.upd]
theorem State.ntpStages_keeps {t s : State} (h : Keeps t s) (a1 a2) (hf2 : ∀ x0, Keeps t x0 → Keeps t (a2 x0)) :
    Keeps t (State.ntpStages s a1 a2) := by
  unfold State.ntpStages
  repeat' first
    | with_reducible assumption
    | with_reducible apply Keeps.ite
    | with_reducible refine State.packetEnd_keeps ?_ _ _ _ _ _ _ _ _
    | with_reducible refine State.bump_keeps ?_ _ _ _
    | with_reducible refine State.svcPacket_keeps ?_ _ _
    | with_reducible refine State.charge_keepsE (by assumption) ?_
    | with_reducible refine State.ntpSend_keeps ?_ _ _ _
    | with_reducible refine State.setBucket_keeps ?_ _ _
    | with_reducible refine hf2 _ ?_
    | (extract_lets +onlyGivenNames x; refine (fun (hx : Keeps t x) => ?_) ?_; clear_value x; rotate_left; subst x)
    | simp only [↓Keeps.upd]
    | split
theorem State.ntpTakeFrame_keeps {t s : State} (h : Keeps t s) (a1 a2) (hf2 : ∀ x0, Keeps t x0 → Keeps t (a2 x0)) :
    Keeps t (State.ntpTakeFrame s a1 a2) := by
  unfold State.ntpTakeFrame
  repeat' first
    | with_reducible assumption
    | with_reducible refine State.frameTake_keeps ?_ _ _ _ ?_
    | with_reducible refine State.ntpStages_keeps ?_ _ _ ?_
    | (extract_lets +onlyGivenNames x)
    | intro _
theorem State.restart_keeps {t s : State} (h : Keeps t s) : Keeps t s.restart := ⟨fun _ => rfl, h.2⟩
theorem State.exclude_keeps {t s : State} (h : Keeps t s) (a1) :
    Keeps t (State.exclude s a1) := by
  unfold State.exclude
  repeat' first
    | with_reducible assumption
    | with_reducible refine State.bump_keeps ?_ _ _ _
    | with_reducible refine State.setSat_keeps ?_ _ _
theorem State.keepRecords_keeps {t s : State} (h : Keeps t s) :
    Keeps t (State.keepRecords s) := by
  unfold State.keepRecords
  repeat' first
    | with_reducible assumption
    | (extract_lets +onlyGivenNames x; clear_value x)
    | simp only [↓Keeps.upd]
theorem State.imageApplied_keeps {t s : State} (h : Keeps t s) :
    Keeps t (State.imageApplied s) := by
  unfold State.imageApplied
  repeat' first
    | with_reducible assumption
    | with_reducible apply Keeps.ite
    | with_reducible refine State.set_keeps ?_ _ _ _
    | with_reducible refine State.imageResult_keeps ?_ _
    | with_reducible refine State.toCalibrate_keeps ?_
    | (extract_lets +onlyGivenNames x; refine (fun (hx : Keeps t x) => ?_) ?_; clear_value x; rotate_left; subst x)
    | (extract_lets +onlyGivenNames x)
    | simp only [↓Keeps.upd]
    | split
theorem State.settleCommit_keeps {t s : State} (h : Keeps t s) (a1 a2) :
    Keeps t (State.settleCommit s a1 a2) := by
  unfold State.settleCommit
  repeat' first
    | with_reducible assumption
    | with_reducible apply Keeps.ite
    | with_reducible refine State.set_keeps ?_ _ _ _
    | with_reducible refine State.keepRecords_keeps ?_
    | with_reducible refine State.irlinReply_keeps ?_ _ _ _ _ _ _
    | with_reducible refine State.imageApplied_keeps ?_
    | with_reducible refine State.imageFailed_keeps ?_ _
    | (extract_lets +onlyGivenNames x)
    | simp only [↓Keeps.upd]
    | split
theorem State.dmaArrive_keeps {t s : State} (h : Keeps t s) (a1) :
    Keeps t (State.dmaArrive s a1) := by
  unfold State.dmaArrive
  repeat' first
    | with_reducible assumption
    | with_reducible apply Keeps.ite
    | (extract_lets +onlyGivenNames x; clear_value x)
    | (extract_lets +onlyGivenNames x)
    | simp only [↓Keeps.upd]
    | split
theorem State.inlinePass_keeps {t s : State} (h : Keeps t s) (a1 a2 a3) :
    Keeps t (State.inlinePass s a1 a2 a3) := by
  unfold State.inlinePass
  repeat' first
    | with_reducible assumption
    | with_reducible apply Keeps.ite
    | with_reducible refine State.emit_keeps ?_ _
theorem State.slotSecond_keeps {t s : State} (h : Keeps t s) (a1) :
    Keeps t (State.slotSecond s a1) := by
  unfold State.slotSecond
  repeat' first
    | with_reducible assumption
    | with_reducible apply Keeps.ite
    | with_reducible refine State.setSlot_keeps ?_ _ _
    | with_reducible refine State.setCause_keeps ?_ _ _ _
    | with_reducible refine State.setInt_keeps ?_ _ _ _
    | with_reducible refine State.driftStep_keeps ?_ _ _ _
    | (extract_lets +onlyGivenNames x)
    | simp only [↓Keeps.upd]
    | split
theorem State.openPair_keeps {t s : State} (h : Keeps t s) (a1 a2) :
    Keeps t (State.openPair s a1 a2) := by
  unfold State.openPair
  repeat' first
    | with_reducible assumption
    | with_reducible refine State.raise_keeps ?_ _ _ _ _
    | with_reducible refine State.bump_keeps ?_ _ _ _
    | with_reducible refine State.disRefresh_keeps ?_
    | with_reducible refine State.openDis_keeps ?_ _
    | with_reducible refine State.ledgerDue_keeps ?_ _ _ _ _
    | with_reducible refine State.slotStep_keeps ?_ _
    | with_reducible refine State.setCause_keeps ?_ _ _ _
    | (extract_lets +onlyGivenNames x; refine (fun (hx : Keeps t x) => ?_) ?_; clear_value x; rotate_left; subst x)
    | (extract_lets +onlyGivenNames x; clear_value x)
    | simp only [↓Keeps.upd]
    | split
theorem State.pairSecond_keeps {t s : State} (h : Keeps t s) (a1 a2) :
    Keeps t (State.pairSecond s a1 a2) := by
  unfold State.pairSecond
  repeat' first
    | with_reducible assumption
    | with_reducible apply Keeps.ite
    | with_reducible refine State.closePair_keeps ?_ _
    | with_reducible refine State.openPair_keeps ?_ _ _
    | (extract_lets +onlyGivenNames g; refine (fun (hg : ∀ a, Keeps t (g a)) => ?_) ?_; clear_value g; rotate_left; subst g; intros; dsimp -zeta only)
    | with_reducible exact hg _
    | (extract_lets +onlyGivenNames x; clear_value x)
    | (extract_lets +onlyGivenNames x)
    | simp only [↓Keeps.upd]
    | split
theorem State.driftSecond_keeps {t s : State} (h : Keeps t s) (a1) :
    Keeps t (State.driftSecond s a1) := by
  unfold State.driftSecond
  repeat' first
    | with_reducible assumption
    | with_reducible apply Keeps.ite
    | with_reducible refine State.termsRefresh_keeps ?_ _
    | with_reducible refine State.setSlot_keeps ?_ _ _
theorem State.elapsedSecond_keeps {t s : State} (h : Keeps t s) (a1) :
    Keeps t (State.elapsedSecond s a1) := by
  unfold State.elapsedSecond
  repeat' first
    | with_reducible assumption
    | with_reducible refine State.set_keeps ?_ _ _ _
theorem State.sendTo_keeps {t s : State} (h : Keeps t s) (a1 a2 a3 a4) :
    Keeps t (State.sendTo s a1 a2 a3 a4).2 := by
  unfold State.sendTo
  repeat' first
    | with_reducible assumption
    | with_reducible refine State.clientFor_keepsE (by assumption) ?_
    | simp only [↓Keeps.upd]
    | split
theorem State.sendTo_keepsE {t s r : State} {q} {a1 a2 a3 a4} (e : State.sendTo s a1 a2 a3 a4 = (q, r)) (h : Keeps t s) : Keeps t r := by
  have := State.sendTo_keeps h a1 a2 a3 a4; rw [e] at this; exact this
theorem State.syncLost_keeps {t s : State} (h : Keeps t s) (a1) :
    Keeps t (State.syncLost s a1) := by
  unfold State.syncLost
  repeat' first
    | with_reducible assumption
    | with_reducible apply Keeps.ite
    | with_reducible refine State.parentLost_keeps ?_ _
theorem State.grantExpired_keeps {t s : State} (h : Keeps t s) (a1 a2) :
    Keeps t (State.grantExpired s a1 a2) := by
  unfold State.grantExpired
  repeat' first
    | with_reducible assumption
    | with_reducible apply Keeps.ite
    | with_reducible refine State.endGrant_keeps ?_ _ _
    | split
theorem State.esmcLost_keeps {t s : State} (h : Keeps t s) (a1) :
    Keeps t (State.esmcLost s a1) := by
  unfold State.esmcLost
  repeat' first
    | with_reducible assumption
    | with_reducible apply Keeps.ite
    | with_reducible refine State.quality_keeps ?_ _ _ _
theorem State.deadlineActs_keeps {t s : State} (h : Keeps t s) (a1) :
    Keeps t (State.deadlineActs s a1) := by
  unfold State.deadlineActs
  repeat' first
    | with_reducible assumption
    | with_reducible apply Keeps.ite
    | with_reducible refine State.stall_keeps ?_ _ _ _ _ _
    | with_reducible refine State.pairDiscard_keeps ?_
    | with_reducible refine State.activityLost_keeps ?_ _
    | with_reducible refine State.announceLost_keeps ?_ _
    | with_reducible refine State.syncLost_keeps ?_ _
    | with_reducible refine State.grantExpired_keeps ?_ _ _
    | with_reducible refine State.esmcLost_keeps ?_ _
    | with_reducible refine State.partnerAge_keeps ?_ _
    | split
theorem State.ptpSuppress_keeps {t s : State} (h : Keeps t s) (a1) :
    Keeps t (State.ptpSuppress s a1) := by
  unfold State.ptpSuppress
  repeat' first
    | with_reducible assumption
    | with_reducible refine State.bump_keeps ?_ _ _ _
theorem State.ptpEntry_keeps {t s : State} (h : Keeps t s) (a1 a2) :
    Keeps t (State.ptpEntry s a1 a2) := by
  unfold State.ptpEntry
  repeat' first
    | with_reducible assumption
    | with_reducible apply Keeps.ite
    | with_reducible refine State.handlesLost_keeps ?_ _ _
    | with_reducible refine State.setPtpInst_keeps ?_ _ _
    | with_reducible refine State.stampLost_keeps ?_ _ _ _
    | with_reducible refine State.ptpSuppress_keeps ?_ _
    | with_reducible refine State.ptpStamped_keeps ?_ _ _ _
    | with_reducible refine State.bump_keeps ?_ _ _ _
    | (extract_lets +onlyGivenNames x; refine (fun (hx : Keeps t x) => ?_) ?_; clear_value x; rotate_left; subst x)
    | (extract_lets +onlyGivenNames x; clear_value x)
    | split
theorem State.slewAsked_keeps {t s : State} (h : Keeps t s) (a1) :
    Keeps t (State.slewAsked s a1) := by
  unfold State.slewAsked
  repeat' first
    | with_reducible assumption
    | with_reducible apply Keeps.ite
    | with_reducible refine State.requestSlew_keeps ?_ _
theorem State.remaskTab_keeps {t s : State} (h : Keeps t s) (a1) :
    Keeps t (State.remaskTab s a1).2 := by
  unfold State.remaskTab
  repeat' first
    | with_reducible assumption
    | with_reducible refine State.drew_keeps ?_
    | with_reducible refine Keeps.foldr2 (fun _ _ _ => ?_) _ ?_
theorem State.remaskTab_keepsE {t s r : State} {q} {a1} (e : State.remaskTab s a1 = (q, r)) (h : Keeps t s) : Keeps t r := by
  have := State.remaskTab_keeps h a1; rw [e] at this; exact this
theorem State.rxmWrite_keeps {t s : State} (h : Keeps t s) (a1 a2 a3) :
    Keeps t (State.rxmWrite s a1 a2 a3) := by
  unfold State.rxmWrite
  repeat' first
    | with_reducible assumption
    | with_reducible refine State.emit_keeps ?_ _
    | with_reducible refine State.ringComplete_keeps ?_ _ _ _
    | with_reducible refine State.noteOut_keeps ?_ _
    | with_reducible refine State.ringAdvance_keeps ?_ _ _
    | with_reducible refine Keeps.foldl (fun _ _ _ => ?_) _ ?_
theorem State.ppsSourceLost_keeps {t s : State} (h : Keeps t s) (a1) :
    Keeps t (State.ppsSourceLost s a1) := by
  unfold State.ppsSourceLost
  repeat' first
    | with_reducible assumption
    | with_reducible refine State.ppsRefresh_keeps ?_ _
    | with_reducible refine State.setPulse_keeps ?_ _ _
theorem State.laneSend_keeps {t s : State} (h : Keeps t s) (a1) :
    Keeps t (State.laneSend s a1) := by
  unfold State.laneSend
  repeat' first
    | with_reducible assumption
    | with_reducible apply Keeps.ite
    | with_reducible refine State.laneRefresh_keeps ?_ _
    | with_reducible refine State.setLane_keeps ?_ _ _
    | with_reducible refine State.noteOut_keeps ?_ _
    | with_reducible refine State.bump_keeps ?_ _ _ _
    | with_reducible refine State.emit_keeps ?_ _
    | with_reducible refine State.perfEvent_keeps ?_ _ _ _
theorem State.nextReq_keeps {t s : State} (h : Keeps t s) (a1 a2) :
    Keeps t (State.nextReq s a1 a2) := by
  induction a2 generalizing s with
  | zero => exact h
  | succ n ih =>
    unfold State.nextReq
    repeat' first
      | with_reducible assumption
      | with_reducible apply Keeps.ite
      | with_reducible refine State.reqEpochUp_keeps ?_ _
      | with_reducible refine State.setPtpInst_keeps ?_ _ _
      | with_reducible refine ih ?_
theorem State.checkSweep_keeps {t s : State} (h : Keeps t s) (a1) :
    Keeps t (State.checkSweep s a1) := by
  unfold State.checkSweep
  repeat' first
    | with_reducible assumption
    | with_reducible apply Keeps.ite
    | with_reducible refine State.raise_keeps ?_ _ _ _ _
    | with_reducible refine State.bump_keeps ?_ _ _ _
    | (extract_lets +onlyGivenNames x; clear_value x)
    | simp only [↓Keeps.upd]
theorem ntsAnswer_keeps {t : State} {m : List (List Byte) × State} (h : Keeps t m.2) (x : NtpRx) (k sl : Nat) (c : List Byte) :
    Keeps t (ntsAnswer x k sl c m) := by
  unfold ntsAnswer
  exact State.ntpSend_keeps (State.bump_keeps (State.drew_keeps h) _ _ _) _ _ _
theorem State.trimClients_keeps {t s : State} (h : Keeps t s) :
    Keeps t (State.trimClients s) := by
  unfold State.trimClients
  repeat' first
    | with_reducible assumption
    | with_reducible refine State.bump_keeps ?_ _ _ _
    | with_reducible refine State.invalidateClient_keeps ?_ _
    | with_reducible refine State.cancelGrants_keeps ?_ _
    | with_reducible refine Keeps.foldl (fun _ _ _ => ?_) _ ?_
theorem State.derivationDone_keeps {t s : State} (h : Keeps t s) (a1) :
    Keeps t (State.derivationDone s a1) := by
  unfold State.derivationDone
  repeat' first
    | with_reducible assumption
    | with_reducible apply Keeps.ite
    | with_reducible refine State.cacheDerived_keeps ?_ _ _
    | with_reducible refine Keeps.foldl (fun _ _ _ => ?_) _ ?_
theorem State.sendSeq_keeps {t s : State} (h : Keeps t s) (i p k : Nat) (c : Option Nat) : Keeps t (s.sendSeq i p k c).2.2 := by
  unfold State.sendSeq
  repeat' first
    | with_reducible assumption
    | with_reducible apply Keeps.ite22
    | with_reducible refine State.ptpNextSeq_keeps ?_ _ _ _
    | with_reducible refine State.setClient_keeps ?_ _ _
    | (extract_lets +onlyGivenNames x; clear_value x)
    | simp only [↓Keeps.upd]
    | split
theorem State.ptpLaunch_keeps {t s : State} (h : Keeps t s) (a1) :
    Keeps t (State.ptpLaunch s a1) := by
  unfold State.ptpLaunch
  repeat' first
    | with_reducible assumption
    | with_reducible refine State.ptpBuild_keepsE (by assumption) ?_
    | with_reducible refine State.ptpSent_keeps ?_ _
    | with_reducible refine State.toLaunch_keeps ?_ _ _
    | split
theorem State.faultCounters_keeps {t s : State} (h : Keeps t s) (a1) :
    Keeps t (State.faultCounters s a1) := by
  unfold State.faultCounters
  repeat' first
    | with_reducible assumption
    | with_reducible apply Keeps.ite
    | with_reducible refine State.bump_keeps ?_ _ _ _
theorem State.clkQuietEnd_keeps {t s : State} (h : Keeps t s) :
    Keeps t (State.clkQuietEnd s) := by
  unfold State.clkQuietEnd
  repeat' first
    | with_reducible assumption
    | with_reducible apply Keeps.ite
    | with_reducible refine State.clkRefresh_keeps ?_ _
    | with_reducible refine State.setClkout_keeps ?_ _ _
    | with_reducible refine State.toMdll_keeps ?_ _
    | with_reducible refine Keeps.foldl (fun _ _ _ => ?_) _ ?_
theorem State.memberTest_keeps {t s : State} (h : Keeps t s) (a1 a2 a3) :
    Keeps t (State.memberTest s a1 a2 a3) := by
  unfold State.memberTest
  repeat' first
    | with_reducible assumption
    | with_reducible refine State.setMember_keeps ?_ _ _
    | with_reducible refine State.set_keeps ?_ _ _ _
theorem State.excludeMember_keeps {t s : State} (h : Keeps t s) (a1) :
    Keeps t (State.excludeMember s a1) := by
  unfold State.excludeMember
  repeat' first
    | with_reducible assumption
    | with_reducible refine State.setT96_keeps ?_ _ _ _
    | with_reducible refine State.bump_keeps ?_ _ _ _
    | with_reducible refine State.setMemberState_keeps ?_ _ _ _
    | with_reducible refine State.raise_keeps ?_ _ _ _ _
    | with_reducible refine State.setMember_keeps ?_ _ _
    | with_reducible refine State.slewAsked_keeps ?_ _
    | (extract_lets +onlyGivenNames x; clear_value x)
    | simp only [↓Keeps.upd]
theorem State.outliers_keeps {t s : State} (h : Keeps t s) (a1 a2) :
    Keeps t (State.outliers s a1 a2) := by
  unfold State.outliers
  repeat' first
    | with_reducible assumption
    | with_reducible apply Keeps.ite
    | with_reducible refine State.memberTest_keeps ?_ _ _ _
    | with_reducible refine State.excludeMember_keeps ?_ _
    | with_reducible refine State.openAmbiguity_keeps ?_ _
    | with_reducible refine Keeps.foldl (fun _ _ _ => ?_) _ ?_
    | (extract_lets +onlyGivenNames x; clear_value x)
    | (extract_lets +onlyGivenNames x)
    | simp only [↓Keeps.upd]
    | split
theorem State.ensHistory_keeps {t s : State} (h : Keeps t s) :
    Keeps t (State.ensHistory s) := by
  unfold State.ensHistory
  repeat' first
    | with_reducible assumption
    | with_reducible refine State.setMember_keeps ?_ _ _
    | with_reducible refine Keeps.foldl (fun _ _ _ => ?_) _ ?_
theorem State.ensembleMeasure_keeps {t s : State} (h : Keeps t s) (a1) :
    Keeps t (State.ensembleMeasure s a1) := by
  unfold State.ensembleMeasure
  repeat' first
    | with_reducible assumption
    | with_reducible refine State.pairsFail_keeps ?_
    | with_reducible refine State.outliers_keeps ?_ _ _
    | with_reducible refine State.filterStep_keeps ?_ _ _ _
    | with_reducible refine State.setMember_keeps ?_ _ _
    | with_reducible refine State.scaleStep_keeps ?_ _ _
    | with_reducible refine State.ensHistory_keeps ?_
    | with_reducible refine State.ensHold_keeps ?_ _
    | with_reducible refine Keeps.foldl (fun _ _ _ => ?_) _ ?_
    | (extract_lets +onlyGivenNames x; refine (fun (hx : Keeps t x) => ?_) ?_; clear_value x; rotate_left; subst x)
    | (extract_lets +onlyGivenNames x; clear_value x)
    | simp only [↓Keeps.upd]
theorem State.gnssTrim_keeps {t s : State} (h : Keeps t s) (a1) :
    Keeps t (State.gnssTrim s a1) := by
  unfold State.gnssTrim
  repeat' first
    | with_reducible assumption
    | (extract_lets +onlyGivenNames x; clear_value x)
    | simp only [↓Keeps.upd]
theorem State.trimChange_keeps {t s : State} (h : Keeps t s) (a1) :
    Keeps t (State.trimChange s a1) := by
  unfold State.trimChange
  repeat' first
    | with_reducible assumption
    | with_reducible refine State.set_keeps ?_ _ _ _
    | with_reducible refine State.termTouch_keeps ?_
    | with_reducible refine State.trimClients_keeps ?_
    | with_reducible refine State.gnssTrim_keeps ?_ _
    | with_reducible refine State.lanesTrim_keeps ?_
    | with_reducible refine State.termsRefresh_keeps ?_ _
    | with_reducible refine State.ledgerDue_keeps ?_ _ _ _ _
    | with_reducible refine Keeps.foldl (fun _ _ _ => ?_) _ ?_
theorem State.rebuild_keeps {t s : State} (h : Keeps t s) (a1) :
    Keeps t (State.rebuild s a1).2 := by
  unfold State.rebuild
  repeat' first
    | with_reducible assumption
    | with_reducible refine State.ptpRebuild_keeps ?_ _
    | with_reducible refine State.ntpRebuild_keeps ?_ _
    | with_reducible refine State.frameDone_keeps ?_ _ _ _
    | simp only [↓Keeps.upd]
    | split
theorem State.rebuild_keepsE {t s r : State} {q} {a1} (e : State.rebuild s a1 = (q, r)) (h : Keeps t s) : Keeps t r := by
  have := State.rebuild_keeps h a1; rw [e] at this; exact this
theorem State.mdllsStart_keeps {t s : State} (h : Keeps t s) :
    Keeps t (State.mdllsStart s) := by
  unfold State.mdllsStart
  repeat' first
    | with_reducible assumption
    | with_reducible apply Keeps.ite
    | with_reducible refine State.lockEvents_keeps ?_
    | with_reducible refine State.acquire_keeps ?_ _
    | with_reducible refine State.takeReference_keeps ?_ _
    | with_reducible refine Keeps.foldl (fun _ _ _ => ?_) _ ?_
theorem State.ntsNak_keeps {t s : State} (h : Keeps t s) (a1) :
    Keeps t (State.ntsNak s a1) := by
  unfold State.ntsNak
  repeat' first
    | with_reducible assumption
    | with_reducible refine State.ntpSend_keeps ?_ _ _ _
    | with_reducible refine State.bump_keeps ?_ _ _ _
theorem State.ntsServe_keeps {t s : State} (h : Keeps t s) (a1) :
    Keeps t (State.ntsServe s a1) := by
  unfold State.ntsServe
  repeat' first
    | with_reducible assumption
    | with_reducible apply Keeps.ite
    | with_reducible refine State.ntsNak_keeps ?_ _
    | with_reducible refine State.useKey_keepsE (by assumption) ?_
    | with_reducible refine State.mint_keeps ?_ _ _ _ _ _
    | with_reducible refine ntsAnswer_keeps ?_ _ _ _ _
    | (extract_lets +onlyGivenNames g; refine (fun (hg : ∀ s, Keeps t s → Keeps t (g s)) => ?_) ?_; clear_value g; rotate_left; subst g; intros; dsimp -zeta only)
    | with_reducible refine hg _ ?_
    | (extract_lets +onlyGivenNames x; clear_value x)
    | (extract_lets +onlyGivenNames x)
    | simp only [↓Keeps.upd]
    | split
theorem State.keyResume_keeps {t s : State} (h : Keeps t s) (a1) :
    Keeps t (State.keyResume s a1) := by
  unfold State.keyResume
  repeat' first
    | with_reducible assumption
    | with_reducible refine State.ntsServe_keeps ?_ _
    | with_reducible refine State.hostMint_keeps ?_ _ _
    | with_reducible refine State.hostAnswer_keeps ?_ _ _
    | simp only [↓Keeps.upd]
    | split
theorem State.steerSecond_keeps {t s : State} (h : Keeps t s) :
    Keeps t (State.steerSecond s) := by
  unfold State.steerSecond
  repeat' first
    | with_reducible assumption
    | (extract_lets +onlyGivenNames x; clear_value x)
    | simp only [↓Keeps.upd]
    | split
theorem State.scaleReport_keeps {t s : State} (h : Keeps t s) :
    Keeps t (State.scaleReport s) := by
  unfold State.scaleReport
  repeat' first
    | with_reducible assumption
    | with_reducible refine State.setInt_keeps ?_ _ _ _
    | (extract_lets +onlyGivenNames x; refine (fun (hx : Keeps t x) => ?_) ?_; clear_value x; rotate_left; subst x)
    | (extract_lets +onlyGivenNames x; clear_value x)
    | simp only [↓Keeps.upd]
theorem State.surveyStep_keeps {t s : State} (h : Keeps t s) (a1) :
    Keeps t (State.surveyStep s a1) := by
  unfold State.surveyStep
  repeat' first
    | with_reducible assumption
    | with_reducible apply Keeps.ite
    | with_reducible refine State.keepOne_keeps ?_ _ _ _
    | with_reducible refine State.set_keeps ?_ _ _ _
    | (extract_lets +onlyGivenNames x; refine (fun (hx : Keeps t x) => ?_) ?_; clear_value x; rotate_left; subst x)
    | (extract_lets +onlyGivenNames x; clear_value x)
    | (extract_lets +onlyGivenNames x)
    | simp only [↓Keeps.upd]
    | split
theorem State.smoothRestart_keeps {t s : State} (h : Keeps t s) (a1) :
    Keeps t (State.smoothRestart s a1) := by
  unfold State.smoothRestart
  repeat' first
    | with_reducible assumption
    | (extract_lets +onlyGivenNames x; clear_value x)
    | simp only [↓Keeps.upd]
theorem State.tempKeep_keeps {t s : State} (h : Keeps t s) :
    Keeps t (State.tempKeep s) := by
  unfold State.tempKeep
  repeat' first
    | with_reducible assumption
    | with_reducible apply Keeps.ite
    | with_reducible refine Keeps.foldl (fun _ _ _ => ?_) _ ?_
    | (extract_lets +onlyGivenNames x; clear_value x)
    | simp only [↓Keeps.upd]
theorem State.ensembleSecond_keeps {t s : State} (h : Keeps t s) :
    Keeps t (State.ensembleSecond s) := by
  unfold State.ensembleSecond
  repeat' first
    | with_reducible assumption
    | with_reducible apply Keeps.ite
    | with_reducible refine State.setMemberState_keeps ?_ _ _ _
    | with_reducible refine State.ensembleMeasure_keeps ?_ _
    | with_reducible refine State.tempKeep_keeps ?_
    | with_reducible refine State.ensembleRefresh_keeps ?_
    | with_reducible refine State.memberTimed_keeps ?_ _
    | with_reducible refine State.steerSecond_keeps ?_
    | with_reducible refine State.tempcoLearn_keeps ?_
    | with_reducible refine State.scaleReport_keeps ?_
    | with_reducible refine State.scaleBegin_keeps ?_
    | with_reducible refine Keeps.foldl (fun _ _ _ => ?_) _ ?_
theorem State.spoofTrip_keeps {t s : State} (h : Keeps t s) (a1) :
    Keeps t (State.spoofTrip s a1) := by
  unfold State.spoofTrip
  repeat' first
    | with_reducible assumption
    | with_reducible apply Keeps.ite
    | with_reducible refine State.raise_keeps ?_ _ _ _ _
    | with_reducible refine State.set_keeps ?_ _ _ _
    | (extract_lets +onlyGivenNames x; clear_value x)
    | simp only [↓Keeps.upd]
theorem State.epochFix_keeps {t s : State} (h : Keeps t s) (a1 a2 a3 a4 a5) :
    Keeps t (State.epochFix s a1 a2 a3 a4 a5) := by
  unfold State.epochFix
  repeat' first
    | with_reducible assumption
    | with_reducible apply Keeps.ite
    | with_reducible refine State.set_keeps ?_ _ _ _
    | with_reducible refine State.setInt_keeps ?_ _ _ _
    | with_reducible refine State.keepOne_keeps ?_ _ _ _
    | (extract_lets +onlyGivenNames x)
    | simp only [↓Keeps.upd]
theorem State.ppsLead_keeps {t s : State} (h : Keeps t s) (a1 a2 a3) :
    Keeps t (State.ppsLead s a1 a2 a3) := by
  unfold State.ppsLead
  repeat' first
    | with_reducible assumption
    | with_reducible apply Keeps.ite
    | with_reducible refine State.ppsRefresh_keeps ?_ _
    | with_reducible refine State.setPulse_keeps ?_ _ _
    | with_reducible refine State.ppsPlace_keeps ?_ _ _ _
theorem State.epochSolve_keeps {t s : State} (h : Keeps t s) (a1 a2 a3) :
    Keeps t (State.epochSolve s a1 a2 a3) := by
  unfold State.epochSolve
  repeat' first
    | with_reducible assumption
    | with_reducible apply Keeps.ite
    | with_reducible refine State.surveyStep_keeps ?_ _
    | with_reducible refine State.exclude_keeps ?_ _
    | with_reducible refine State.epochUpdate_keeps ?_ _ _ _ _
    | with_reducible refine State.set_keeps ?_ _ _ _
    | with_reducible refine State.spoofTrip_keeps ?_ _
    | with_reducible refine State.epochFix_keeps ?_ _ _ _ _ _
    | with_reducible refine State.epochToSlot_keeps ?_ _ _ _
    | (extract_lets +onlyGivenNames x)
    | split

end Sys2Proof.Machine
end

