-- ==== Sys2Proof/Laws/PerInstr.lean ====
section
/-! SUPPORT. Every command names at most one target of an access, and is well formed exactly where its master's transport can
carry that target (R37, R287, R470). -/

namespace Sys2Proof.Laws.Target

/-- The master and the target of an access command; none for every other command. -/
def targetOf : Instr → Option (Master × Target)
  | .registerWrite _ m a _ => some (m, a)
  | .corRead _ m a => some (m, a)
  | .latchRead _ m a => some (m, a)
  | .stagedWordWrite _ m a _ => some (m, a)
  | .guardedValueWrite _ f a _ => some (.pcie f, a)
  | .guardedComplementWrite _ f a _ => some (.pcie f, a)
  | .spiRead _ index sub _ => some (.spit, .obj index sub)
  | .spiWrite _ index sub _ _ => some (.spit, .obj index sub)
  | .spiGuarded _ index sub _ _ _ => some (.spit, .obj index sub)
  | _ => none

/-- A command is well formed exactly where the target it names, if it names one, can be carried. -/
def Statement (i : Instr) : Prop := wellFormed i = true ↔ ∀ p, targetOf i = some p → wfTarget p.1 p.2 = true

/-- A command that names no target. -/
theorem free {i : Instr} (h : targetOf i = none) (w : wellFormed i = true) : Statement i := by
  simp [Statement, h, w]
/-- A command that names a target. -/
theorem named {i : Instr} {m : Master} {a : Target} (h : targetOf i = some (m, a)) (w : wellFormed i = wfTarget m a) :
    Statement i := by
  simp [Statement, h, w]

theorem handshakeTransfer (a b) : Statement (.handshakeTransfer a b) := free rfl rfl
theorem hsStall (a b c d e) : Statement (.hsStall a b c d e) := free rfl rfl
theorem epochStrobe (a b) : Statement (.epochStrobe a b) := free rfl rfl
theorem namedValueArrival (a b c d) : Statement (.namedValueArrival a b c d) := free rfl rfl
theorem copyMissLimitReached (a b) : Statement (.copyMissLimitReached a b) := free rfl rfl
theorem treeRemeasure (a b c) : Statement (.treeRemeasure a b c) := free rfl rfl
theorem eccWriteback (a b c d) : Statement (.eccWriteback a b c d) := free rfl rfl
theorem scrubRead (a b c d) : Statement (.scrubRead a b c d) := free rfl rfl
theorem scrubForced (a b c d) : Statement (.scrubForced a b c d) := free rfl rfl
theorem registerWrite (a b c d) : Statement (.registerWrite a b c d) := named rfl rfl
theorem corRead (a b c) : Statement (.corRead a b c) := named rfl rfl
theorem latchRead (a b c) : Statement (.latchRead a b c) := named rfl rfl
theorem stagedWordWrite (a b c d) : Statement (.stagedWordWrite a b c d) := named rfl rfl
theorem guardedValueWrite (a b c d) : Statement (.guardedValueWrite a b c d) := named rfl rfl
theorem guardedComplementWrite (a b c d) : Statement (.guardedComplementWrite a b c d) := named rfl rfl
theorem guardDeadlineExpiry (a) : Statement (.guardDeadlineExpiry a) := free rfl rfl
theorem lockCtrl (a b c) : Statement (.lockCtrl a b c) := free rfl rfl
theorem bindPcie (a b c d) : Statement (.bindPcie a b c d) := free rfl rfl
theorem irlinDatagram (a b c d) : Statement (.irlinDatagram a b c d) := free rfl rfl
theorem irlinRead (a b c d e f) : Statement (.irlinRead a b c d e f) := free rfl rfl
theorem irlinWrite (a b c d e) : Statement (.irlinWrite a b c d e) := free rfl rfl
theorem irlinGuardedWrite (a b c d e f g h i) : Statement (.irlinGuardedWrite a b c d e f g h i) := free rfl rfl
theorem irlinBlockRead (a b c d e f g h) : Statement (.irlinBlockRead a b c d e f g h) := free rfl rfl
theorem irlinCommit (a b c d e f g) : Statement (.irlinCommit a b c d e f g) := free rfl rfl
theorem irlinSubscribe (a b c d e f g) : Statement (.irlinSubscribe a b c d e f g) := free rfl rfl
theorem irlinSubscriptionExpiry (a b) : Statement (.irlinSubscriptionExpiry a b) := free rfl rfl
theorem irlinReport (a b c d e) : Statement (.irlinReport a b c d e) := free rfl rfl
theorem irlinDiscover (a b c d) : Statement (.irlinDiscover a b c d) := free rfl rfl
theorem irlinRenew (a b c d) : Statement (.irlinRenew a b c d) := free rfl rfl
theorem commitRef (a b c) : Statement (.commitRef a b c) := free rfl rfl
theorem pewterSweep (a) : Statement (.pewterSweep a) := free rfl rfl
theorem sweepComplete (a b) : Statement (.sweepComplete a b) := free rfl rfl
theorem editOpen (a b) : Statement (.editOpen a b) := free rfl rfl
theorem editClose (a b) : Statement (.editClose a b) := free rfl rfl
theorem editTimeoutExpiry (a) : Statement (.editTimeoutExpiry a) := free rfl rfl
theorem resetRelease : Statement (.resetRelease) := free rfl rfl
theorem pwrgoodFall (a) : Statement (.pwrgoodFall a) := free rfl rfl
theorem resetAssert (a) : Statement (.resetAssert a) := free rfl rfl
theorem vddaoOutOfRange (a) : Statement (.vddaoOutOfRange a) := free rfl rfl
theorem otpLoad (a b) : Statement (.otpLoad a b) := free rfl rfl
theorem rootGen (a b c) : Statement (.rootGen a b c) := free rfl rfl
theorem stageBist (a b) : Statement (.stageBist a b) := free rfl rfl
theorem stageImageLoad (a b) : Statement (.stageImageLoad a b) := free rfl rfl
theorem imageApply (a) : Statement (.imageApply a) := free rfl rfl
theorem calibrate (a b) : Statement (.calibrate a b) := free rfl rfl
theorem quietEnd (a) : Statement (.quietEnd a) := free rfl rfl
theorem imageLoad (a b c d) : Statement (.imageLoad a b c d) := free rfl rfl
theorem firstLock (a) : Statement (.firstLock a) := free rfl rfl
theorem lifecycleReq (a b c) : Statement (.lifecycleReq a b c) := free rfl rfl
theorem lifecycleBurnComplete (a) : Statement (.lifecycleBurnComplete a) := free rfl rfl
theorem bootOptionsBurn (a b c) : Statement (.bootOptionsBurn a b c) := free rfl rfl
theorem trimProfile (a b c) : Statement (.trimProfile a b c) := free rfl rfl
theorem trimApply (a) : Statement (.trimApply a) := free rfl rfl
theorem privetMode (a b c) : Statement (.privetMode a b c) := free rfl rfl
theorem privetIncrNs (a b c) : Statement (.privetIncrNs a b c) := free rfl rfl
theorem privetIncrFrac (a b c) : Statement (.privetIncrFrac a b c) := free rfl rfl
theorem privetSlewCmd (a b c) : Statement (.privetSlewCmd a b c) := free rfl rfl
theorem privetStepCmd (a b c) : Statement (.privetStepCmd a b c) := free rfl rfl
theorem privetStepPermit (a b c) : Statement (.privetStepPermit a b c) := free rfl rfl
theorem permitTimeout (a) : Statement (.permitTimeout a) := free rfl rfl
theorem retardEnd (a) : Statement (.retardEnd a) := free rfl rfl
theorem privetInitTime (a b c d) : Statement (.privetInitTime a b c d) := free rfl rfl
theorem leapTai (a b c d) : Statement (.leapTai a b c d) := free rfl rfl
theorem leapAnnounce (a b c) : Statement (.leapAnnounce a b c) := free rfl rfl
theorem leapWithdraw (a b) : Statement (.leapWithdraw a b) := free rfl rfl
theorem leapStateChange (a) : Statement (.leapStateChange a) := free rfl rfl
theorem leapDue (a b) : Statement (.leapDue a b) := free rfl rfl
theorem privetSnapshot (a b) : Statement (.privetSnapshot a b) := free rfl rfl
theorem schedArm (a b c) : Statement (.schedArm a b c) := free rfl rfl
theorem schedDisarm (a b c) : Statement (.schedDisarm a b c) := free rfl rfl
theorem schedEvent (a b) : Statement (.schedEvent a b) := free rfl rfl
theorem ppsoutSet (a b) : Statement (.ppsoutSet a b) := free rfl rfl
theorem ppsoutClear (a b) : Statement (.ppsoutClear a b) := free rfl rfl
theorem ppsoutPulse (a b) : Statement (.ppsoutPulse a b) := free rfl rfl
theorem tapMark (a b) : Statement (.tapMark a b) := free rfl rfl
theorem deadlineResolve (a b c) : Statement (.deadlineResolve a b c) := free rfl rfl
theorem smearWindowEnd (a) : Statement (.smearWindowEnd a) := free rfl rfl
theorem releaseEnd (a) : Statement (.releaseEnd a) := free rfl rfl
theorem ootExit (a) : Statement (.ootExit a) := free rfl rfl
theorem ledgerEntryRead (a b c) : Statement (.ledgerEntryRead a b c) := free rfl rfl
theorem attestBoundary (a) : Statement (.attestBoundary a) := free rfl rfl
theorem attestSigned (a b) : Statement (.attestSigned a b) := free rfl rfl
theorem activityTimeout (a b) : Statement (.activityTimeout a b) := free rfl rfl
theorem rateCheck (a) : Statement (.rateCheck a) := free rfl rfl
theorem hornbeamSecond (a) : Statement (.hornbeamSecond a) := free rfl rfl
theorem refEnable (a b c d) : Statement (.refEnable a b c d) := free rfl rfl
theorem refType (a b c d) : Statement (.refType a b c d) := free rfl rfl
theorem hbPreferred (a b c) : Statement (.hbPreferred a b c) := free rfl rfl
theorem qualTimeExpiry (a b) : Statement (.qualTimeExpiry a b) := free rfl rfl
theorem wtrExpiry (a) : Statement (.wtrExpiry a) := free rfl rfl
theorem conflictAcceptSlew (a b c) : Statement (.conflictAcceptSlew a b c) := free rfl rfl
theorem conflictAcceptStep (a b c) : Statement (.conflictAcceptStep a b c) := free rfl rfl
theorem conflictReject (a b c) : Statement (.conflictReject a b c) := free rfl rfl
theorem autoAccept (a b) : Statement (.autoAccept a b) := free rfl rfl
theorem esmcPdu (a b c d e) : Statement (.esmcPdu a b c d e) := free rfl rfl
theorem esmcTimeout (a b) : Statement (.esmcTimeout a b) := free rfl rfl
theorem todLine (a b c d) : Statement (.todLine a b c d) := free rfl rfl
theorem todMiss (a b) : Statement (.todMiss a b) := free rfl rfl
theorem loopUpdate (a b) : Statement (.loopUpdate a b) := free rfl rfl
theorem ensembleUpdate (a b) : Statement (.ensembleUpdate a b) := free rfl rfl
theorem modelRefit (a b c d e) : Statement (.modelRefit a b c d e) := free rfl rfl
theorem ambiguityClose (a) : Statement (.ambiguityClose a) := free rfl rfl
theorem ensEnable (a b c d) : Statement (.ensEnable a b c d) := free rfl rfl
theorem loopBw (a b c d) : Statement (.loopBw a b c d) := free rfl rfl
theorem loopDamp (a b c d) : Statement (.loopDamp a b c d) := free rfl rfl
theorem channelEdge (a b) : Statement (.channelEdge a b) := free rfl rfl
theorem counterWrap (a b) : Statement (.counterWrap a b) := free rfl rfl
theorem converterCal (a b c d e) : Statement (.converterCal a b c d e) := free rfl rfl
theorem converterSwap (a b) : Statement (.converterSwap a b) := free rfl rfl
theorem calStale (a b) : Statement (.calStale a b) := free rfl rfl
theorem pairTimeout (a b) : Statement (.pairTimeout a b) := free rfl rfl
theorem pairClear (a b c) : Statement (.pairClear a b c) := free rfl rfl
theorem channelActivityLoss (a b) : Statement (.channelActivityLoss a b) := free rfl rfl
theorem mdllEnable (a b c d) : Statement (.mdllEnable a b c d) := free rfl rfl
theorem mdllMultN (a b c d) : Statement (.mdllMultN a b c d) := free rfl rfl
theorem mdllMultF (a b c d) : Statement (.mdllMultF a b c d) := free rfl rfl
theorem mdllWindow (a b c d) : Statement (.mdllWindow a b c d) := free rfl rfl
theorem mdllAligned (a b c) : Statement (.mdllAligned a b c) := free rfl rfl
theorem mdllReturnHold (a b) : Statement (.mdllReturnHold a b) := free rfl rfl
theorem bypassSwitch (a b) : Statement (.bypassSwitch a b) := free rfl rfl
theorem clkoutDiv (a b c d) : Statement (.clkoutDiv a b c d) := free rfl rfl
theorem clkoutEdgeReport (a b c) : Statement (.clkoutEdgeReport a b c) := free rfl rfl
theorem synRealign (a b) : Statement (.synRealign a b) := free rfl rfl
theorem ppsEdge (a b) : Statement (.ppsEdge a b) := free rfl rfl
theorem tlFrame (a) : Statement (.tlFrame a) := free rfl rfl
theorem tlUnderrun (a b) : Statement (.tlUnderrun a b) := free rfl rfl
theorem tlClockLoss (a b) : Statement (.tlClockLoss a b) := free rfl rfl
theorem tlClockReturn (a b) : Statement (.tlClockReturn a b) := free rfl rfl
theorem tlRealignEnd (a b) : Statement (.tlRealignEnd a b) := free rfl rfl
theorem portMode (a b c d) : Statement (.portMode a b c d) := free rfl rfl
theorem linkUp (a b c) : Statement (.linkUp a b c) := free rfl rfl
theorem linkDown (a b) : Statement (.linkDown a b) := free rfl rfl
theorem portCalDone (a b) : Statement (.portCalDone a b) := free rfl rfl
theorem portRxFrame (a b) : Statement (.portRxFrame a b) := free rfl rfl
theorem pauseResend (a b c) : Statement (.pauseResend a b c) := free rfl rfl
theorem pauseXon (a b c) : Statement (.pauseXon a b c) := free rfl rfl
theorem pauseReceived (a b c d) : Statement (.pauseReceived a b c d) := free rfl rfl
theorem pauseExpiry (a b c) : Statement (.pauseExpiry a b c) := free rfl rfl
theorem launchRequest (a b c) : Statement (.launchRequest a b c) := free rfl rfl
theorem frameLaunch (a b) : Statement (.frameLaunch a b) := free rfl rfl
theorem launchMissed (a b c d) : Statement (.launchMissed a b c d) := free rfl rfl
theorem portTxFrame (a b c) : Statement (.portTxFrame a b c) := free rfl rfl
theorem stampQueueDrain (a b) : Statement (.stampQueueDrain a b) := free rfl rfl
theorem stampLossEntry (a b) : Statement (.stampLossEntry a b) := free rfl rfl
theorem handleQuietExpiry (a b c) : Statement (.handleQuietExpiry a b c) := free rfl rfl
theorem portHandleForce (a b c) : Statement (.portHandleForce a b c) := free rfl rfl
theorem pcieLinkUp (a b c d) : Statement (.pcieLinkUp a b c d) := free rfl rfl
theorem pcieFlr (a b) : Statement (.pcieFlr a b) := free rfl rfl
theorem pcieLinkDown (a b) : Statement (.pcieLinkDown a b) := free rfl rfl
theorem busMasterClear (a b) : Statement (.busMasterClear a b) := free rfl rfl
theorem ringEnable (a b c d) : Statement (.ringEnable a b c d) := free rfl rfl
theorem ringHalt (a b c d) : Statement (.ringHalt a b c d) := free rfl rfl
theorem ringReset (a b c d) : Statement (.ringReset a b c d) := free rfl rfl
theorem ringResetEndQuiet (a b c d) : Statement (.ringResetEndQuiet a b c d) := free rfl rfl
theorem ringQuietExpiry (a b c) : Statement (.ringQuietExpiry a b c) := free rfl rfl
theorem ringDoorbell (a b c d e) : Statement (.ringDoorbell a b c d e) := free rfl rfl
theorem rxmFrame (a b c) : Statement (.rxmFrame a b c) := free rfl rfl
theorem txFrame (a b c) : Statement (.txFrame a b c) := free rfl rfl
theorem ringLossRecord (a b) : Statement (.ringLossRecord a b) := free rfl rfl
theorem ringIrqTimeExpiry (a b c) : Statement (.ringIrqTimeExpiry a b c) := free rfl rfl
theorem cmdIrlin (a b c) : Statement (.cmdIrlin a b c) := free rfl rfl
theorem ntsMint (a b c) : Statement (.ntsMint a b c) := free rfl rfl
theorem ntsKeyStatus (a b c) : Statement (.ntsKeyStatus a b c) := free rfl rfl
theorem gnssCorr (a b c) : Statement (.gnssCorr a b c) := free rfl rfl
theorem spiRead (a b c d) : Statement (.spiRead a b c d) := named rfl rfl
theorem spiWrite (a b c d e) : Statement (.spiWrite a b c d e) := named rfl rfl
theorem spiGuarded (a b c d e f) : Statement (.spiGuarded a b c d e f) := named rfl rfl
theorem spiIrlin (a b c) : Statement (.spiIrlin a b c) := free rfl rfl
theorem spiIrlinPop (a b) : Statement (.spiIrlinPop a b) := free rfl rfl
theorem spiImage (a b c d) : Statement (.spiImage a b c d) := free rfl rfl
theorem spiEventPop (a b) : Statement (.spiEventPop a b) := free rfl rfl
theorem spiAborted (a) : Statement (.spiAborted a) := free rfl rfl
theorem ptpProfile (a b c d) : Statement (.ptpProfile a b c d) := free rfl rfl
theorem syncInterval (a b c d) : Statement (.syncInterval a b c d) := free rfl rfl
theorem announceInterval (a b c d) : Statement (.announceInterval a b c d) := free rfl rfl
theorem delayReqInterval (a b c d) : Statement (.delayReqInterval a b c d) := free rfl rfl
theorem syncReceived (a b) : Statement (.syncReceived a b) := free rfl rfl
theorem followUpReceived (a b) : Statement (.followUpReceived a b) := free rfl rfl
theorem delayReqReceived (a b) : Statement (.delayReqReceived a b) := free rfl rfl
theorem delayRespReceived (a b) : Statement (.delayRespReceived a b) := free rfl rfl
theorem pdelayReqReceived (a b) : Statement (.pdelayReqReceived a b) := free rfl rfl
theorem pdelayRespReceived (a b) : Statement (.pdelayRespReceived a b) := free rfl rfl
theorem announceReceived (a b) : Statement (.announceReceived a b) := free rfl rfl
theorem ptpSecond (a b) : Statement (.ptpSecond a b) := free rfl rfl
theorem announceTimeout (a b) : Statement (.announceTimeout a b) := free rfl rfl
theorem syncTimeout (a b) : Statement (.syncTimeout a b) := free rfl rfl
theorem respTimeout (a b) : Statement (.respTimeout a b) := free rfl rfl
theorem requestUnicastTransmission (a b) : Statement (.requestUnicastTransmission a b) := free rfl rfl
theorem cancelUnicastTransmission (a b) : Statement (.cancelUnicastTransmission a b) := free rfl rfl
theorem grantExpiry (a b c) : Statement (.grantExpiry a b c) := free rfl rfl
theorem clientQuietExpiry (a b) : Statement (.clientQuietExpiry a b) := free rfl rfl
theorem ptpClientForce (a b) : Statement (.ptpClientForce a b) := free rfl rfl
theorem ptpClientSel (a b c d) : Statement (.ptpClientSel a b c d) := free rfl rfl
theorem partnerReport (a b) : Statement (.partnerReport a b) := free rfl rfl
theorem partnerAgeOut (a b) : Statement (.partnerAgeOut a b) := free rfl rfl
theorem partnerQuietExpiry (a b) : Statement (.partnerQuietExpiry a b) := free rfl rfl
theorem ptpPartnerForce (a b) : Statement (.ptpPartnerForce a b) := free rfl rfl
theorem ptpPartnerSel (a b c d) : Statement (.ptpPartnerSel a b c d) := free rfl rfl
theorem saActivate (a b c) : Statement (.saActivate a b c) := free rfl rfl
theorem saFree (a b c) : Statement (.saFree a b c) := free rfl rfl
theorem saQuietExpiry (a b) : Statement (.saQuietExpiry a b) := free rfl rfl
theorem ntpRequest (a b) : Statement (.ntpRequest a b) := free rfl rfl
theorem ntsRequest (a b) : Statement (.ntsRequest a b) := free rfl rfl
theorem ntsRotation (a) : Statement (.ntsRotation a) := free rfl rfl
theorem ntsMkCurrent (a b c) : Statement (.ntsMkCurrent a b c) := free rfl rfl
theorem ntsMkRetire (a b c) : Statement (.ntsMkRetire a b c) := free rfl rfl
theorem tapFrame (a b) : Statement (.tapFrame a b) := free rfl rfl
theorem tapDigestComplete (a) : Statement (.tapDigestComplete a) := free rfl rfl
theorem tapLossRecord (a b) : Statement (.tapLossRecord a b) := free rfl rfl
theorem tapWorld (a b c d) : Statement (.tapWorld a b c d) := free rfl rfl
theorem inlinePeer (a b c d) : Statement (.inlinePeer a b c d) := free rfl rfl
theorem inlineLockLoss (a b) : Statement (.inlineLockLoss a b) := free rfl rfl
theorem inlineLockReturn (a b) : Statement (.inlineLockReturn a b) := free rfl rfl
theorem gnssStrobeFault (a b c d) : Statement (.gnssStrobeFault a b c d) := free rfl rfl
theorem gnssCoastTimeout (a b) : Statement (.gnssCoastTimeout a b) := free rfl rfl
theorem gnssStrobeReturn (a b) : Statement (.gnssStrobeReturn a b) := free rfl rfl
theorem gnssAcquisition (a b c d e) : Statement (.gnssAcquisition a b c d e) := free rfl rfl
theorem measurementEpoch (a b) : Statement (.measurementEpoch a b) := free rfl rfl
theorem exclusionHoldExpiry (a b) : Statement (.exclusionHoldExpiry a b) := free rfl rfl
theorem spfHoldExpiry (a) : Statement (.spfHoldExpiry a) := free rfl rfl
theorem spectrum (a b c) : Statement (.spectrum a b c) := free rfl rfl
theorem gnssJamCal (a b) : Statement (.gnssJamCal a b) := free rfl rfl
theorem solutionPulse (a) : Statement (.solutionPulse a) := free rfl rfl
theorem gnssSleep (a) : Statement (.gnssSleep a) := free rfl rfl
theorem gnssWake (a) : Statement (.gnssWake a) := free rfl rfl
theorem wakeIntervalExpiry (a) : Statement (.wakeIntervalExpiry a) := free rfl rfl
theorem gnssWakeCmd (a b) : Statement (.gnssWakeCmd a b) := free rfl rfl
theorem wakeDwellExpiry (a) : Statement (.wakeDwellExpiry a) := free rfl rfl
theorem keyLoad (a b c) : Statement (.keyLoad a b c) := free rfl rfl
theorem keyGenerate (a b c) : Statement (.keyGenerate a b c) := free rfl rfl
theorem keyInvalidate (a b c) : Statement (.keyInvalidate a b c) := free rfl rfl
theorem keyRevoke (a b c) : Statement (.keyRevoke a b c) := free rfl rfl
theorem keyFree (a b c) : Statement (.keyFree a b c) := free rfl rfl
theorem keyLoadWrapped (a b c d) : Statement (.keyLoadWrapped a b c d) := free rfl rfl
theorem derivationComplete (a) : Statement (.derivationComplete a) := free rfl rfl
theorem vaultSlotQuietExpiry (a b) : Statement (.vaultSlotQuietExpiry a b) := free rfl rfl
theorem vaultQuietForce (a b) : Statement (.vaultQuietForce a b) := free rfl rfl
theorem shLoad (a b c) : Statement (.shLoad a b c) := free rfl rfl
theorem shadowKcvCheck (a b) : Statement (.shadowKcvCheck a b) := free rfl rfl
theorem shGenerate (a b c) : Statement (.shGenerate a b c) := free rfl rfl
theorem shRemoval (a b c) : Statement (.shRemoval a b c) := free rfl rfl
theorem shDiscard (a b c) : Statement (.shDiscard a b c) := free rfl rfl
theorem anchorCommit (a b c) : Statement (.anchorCommit a b c) := free rfl rfl
theorem anchorEraseDone (a) : Statement (.anchorEraseDone a) := free rfl rfl
theorem anchorWriteDone (a) : Statement (.anchorWriteDone a) := free rfl rfl
theorem anchorMarkDone (a) : Statement (.anchorMarkDone a) := free rfl rfl
theorem anchorBurnDone (a) : Statement (.anchorBurnDone a) := free rfl rfl
theorem anchorFlashTimeout (a b) : Statement (.anchorFlashTimeout a b) := free rfl rfl
theorem remaskPass (a) : Statement (.remaskPass a) := free rfl rfl
theorem drbgReseed (a) : Statement (.drbgReseed a) := free rfl rfl
theorem entropyHealthFail (a) : Statement (.entropyHealthFail a) := free rfl rfl
theorem drbgRecover (a b) : Statement (.drbgRecover a b) := free rfl rfl
theorem selftestCmd (a b c) : Statement (.selftestCmd a b c) := free rfl rfl
theorem boxCertBurn (a b c) : Statement (.boxCertBurn a b c) := free rfl rfl
theorem faultEvent (a b c d e) : Statement (.faultEvent a b c d e) := free rfl rfl
theorem conditionEnd (a b) : Statement (.conditionEnd a b) := free rfl rfl
theorem handlingEnd (a b) : Statement (.handlingEnd a b) := free rfl rfl
theorem promotionExpiry (a b) : Statement (.promotionExpiry a b) := free rfl rfl
theorem fltClear (a b c) : Statement (.fltClear a b c) := free rfl rfl
theorem oscinLoss (a) : Statement (.oscinLoss a) := free rfl rfl
theorem hollySelf (a b) : Statement (.hollySelf a b) := free rfl rfl
theorem maintEnter (a b) : Statement (.maintEnter a b) := free rfl rfl
theorem maintLeave (a b) : Statement (.maintLeave a b) := free rfl rfl
theorem bistStart (a b c) : Statement (.bistStart a b c) := free rfl rfl
theorem bistComplete (a b c d) : Statement (.bistComplete a b c d) := free rfl rfl
theorem perfStart (a b) : Statement (.perfStart a b) := free rfl rfl
theorem perfStop (a b) : Statement (.perfStop a b) := free rfl rfl
theorem perfClear (a b) : Statement (.perfClear a b) := free rfl rfl
theorem perfCtrl (a b c) : Statement (.perfCtrl a b c) := free rfl rfl
theorem perfSampleCtrl (a b) : Statement (.perfSampleCtrl a b) := free rfl rfl
theorem perfSampleSel (a b c d) : Statement (.perfSampleSel a b c d) := free rfl rfl
theorem tempReading (a b c d) : Statement (.tempReading a b c d) := free rfl rfl
theorem jtagBypass (a b) : Statement (.jtagBypass a b) := free rfl rfl
theorem jtagIdcode (a b) : Statement (.jtagIdcode a b) := free rfl rfl
theorem jtagSamplePreload (a b c) : Statement (.jtagSamplePreload a b c) := free rfl rfl
theorem jtagExtest (a b c) : Statement (.jtagExtest a b c) := free rfl rfl

end Sys2Proof.Laws.Target
end

