-- ==== Sys2Proof/Laws/Writes.lean ====
section
/-! SUPPORT. What a write of an entry can answer: it is let through and has its effect, or it is refused with its code; and
what counting an access leaves unchanged. -/

namespace Sys2Proof.Machine

/-- Counting an event touches the performance monitor alone. -/
theorem State.perfEvent_eq (s : State) (code unit k : Nat) :
    ∃ p, s.perfEvent code unit k = { s with perf := p } := by
  unfold State.perfEvent
  split
  · exact ⟨_, rfl⟩
  · exact ⟨s.perf, rfl⟩

@[simp] theorem State.perfEvent_dict (s : State) (code unit k : Nat) : (s.perfEvent code unit k).dict = s.dict := by
  obtain ⟨p, h⟩ := s.perfEvent_eq code unit k
  rw [h]

/-- A clear-on-read entry passed through a function changes its shadows' words and the tick's own counts, nothing else (R50). -/
theorem State.corMap_eq (s : State) (e : Entry) (i : Nat) (f : Nat → Nat) :
    ∃ d c, s.corMap e i f = { s with dict := d, corTick := c } := by
  have h : ∀ (l : List Nat) (u : State), (∃ d c, u = { s with dict := d, corTick := c }) →
      ∃ d c, l.foldl (fun s w => s.corOne e i f w) u = { s with dict := d, corTick := c } := by
    intro l
    induction l with
    | nil => exact fun _ hu => hu
    | cons w l ih =>
      rintro _ ⟨d, c, rfl⟩
      exact ih _ ⟨_, _, rfl⟩
  exact h _ s ⟨_, _, rfl⟩

/-- A count changes its shadows' words and the tick's own counts, nothing else (R50). -/
theorem State.bump_eq (s : State) (e : Entry) (i k : Nat) : ∃ d c, s.bump e i k = { s with dict := d, corTick := c } :=
  s.corMap_eq e i _

/-- Which world a master acts for rests on the dictionary alone. -/
theorem State.worldOf_congr (s t : State) (m : Master) (h : s.dict = t.dict) : s.worldOf m = t.worldOf m := by
  have hn (e : Entry) (i : Nat) : s.n e i = t.n e i := by simp only [State.n, State.word, State.wordAt, h]
  cases m <;> simp only [State.worldOf] <;> rw [hn]

@[simp] theorem State.perfEvent_worldOf (s : State) (code unit k : Nat) (m : Master) :
    (s.perfEvent code unit k).worldOf m = s.worldOf m := State.worldOf_congr _ _ m (by simp)

/-- A write that is let through has its entry's effect, and nothing else happens. -/
theorem State.write_opens {sp : Special} {m : Master} {w i : Nat} {ws : List Word} {u v : State}
    (h : Opens sp m w i ws u v) : u.write sp m i ws = (0, sp.apply ⟨m, w, i, ws⟩ v) := by
  obtain ⟨h1, h2, rfl⟩ := h
  simp only [State.met] at h2 ⊢
  simp [State.write, h1, h2, State.accept, State.marked]

/-- A refused write answers its code: the refusal is recorded, with what the entry's rules add. -/
theorem State.write_refuses {sp : Special} {m : Master} {w i : Nat} {ws : List Word} {code : Nat} {u v : State}
    (h : Refuses sp m w i ws code u v) :
    u.write sp m i ws = (code, sp.refused code ⟨m, w, i, ws⟩ (v.refusal w code (sp.entry.addr i 0).1
      (sp.entry.addr i 0).2 (lockable sp.entry && v.control.locked))) := by
  obtain ⟨h1, rfl, h2, h3⟩ := h
  simp only [State.met] at h2 ⊢
  simp [State.write, h1, h2, h3]

/-- An aligned write of an entry's words from the lowest on, outside the complement window and not the value half of a pair, applies
them (R39, R41). -/
theorem State.writeAt_lowest {s : State} {m : Master} {x : Spot} {ws : List Word} {form : WriteForm} {w : Nat} {p : Place}
    (hw : s.worldOf m = some w) (hp : placeOf x.index x.sub = some p) (ha : x.aligned = true) (hc : x.compl = false)
    (hk : p.k = 0) (h0 : ws ≠ []) (hl : ws.length ≤ p.entry.words)
    (hg : valueHalf p.entry m form = false) :
    s.writeAt m x ws form = s.applyWords m x.index x.sub p ws (formCodes m p.entry (ws.headD 0) form) := by
  unfold State.writeAt
  simp [hw, hp, hg, ha, hk, hc, h0, Nat.not_lt.2 hl]

/-- One word of a one-word entry makes up the entry. -/
theorem State.wholeWords_one (s : State) (m : Master) (index sub : Nat) {p : Place} (h : p.entry.words = 1) (v : Word) :
    s.wholeWords m index sub p [v] = [v] := by
  simp [State.wholeWords, State.words, h]

/-- A timed command at its tick. -/
theorem timed_at {t : Nat} {s u : State} (h : At t s u) (f : State → State) : timed t s f = .next (f u) := by
  obtain ⟨h1, h2⟩ := h
  simp [timed, h1, h2]

/-- A command row whose write is let through. -/
theorem writeRow_opens {sp : Special} {t : Nat} {m : Master} {w i : Nat} {ws : List Word} {s u v : State}
    (h : At t s u) (ho : Opens sp m w i ws u v) :
    writeRow sp t m i ws s = .next (sp.apply ⟨m, w, i, ws⟩ v) := by
  simp [writeRow, timed_at h, State.write_opens ho]

/-- A command row whose write is refused. -/
theorem writeRow_refuses {sp : Special} {t : Nat} {m : Master} {w i : Nat} {ws : List Word} {code : Nat} {s u v : State}
    (h : At t s u) (ho : Refuses sp m w i ws code u v) :
    writeRow sp t m i ws s = .next (sp.refused code ⟨m, w, i, ws⟩ (v.refusal w code (sp.entry.addr i 0).1
      (sp.entry.addr i 0).2 (lockable sp.entry && v.control.locked))) := by
  simp [writeRow, timed_at h, State.write_refuses ho]

/-- A received PTP message's row (R299): where an instance accepts it, the row's effect on the state it is handled from. -/
theorem ptpRow_accepts {t : Nat} {s u v : State} {x : PtpRx} {kinds : List Nat} {i : Nat} {auth : Bool}
    {f : Nat → Bool → State → State} {msg : Option Nat} (h : At t s u) (hk : x.kind ∈ kinds) (ha : Accepts x i auth u v) :
    ptpRow t x kinds s f msg = .next ((f i auth v).packetEnd x.port x.stamp 0 5 msg
      ((v.findClient i x).map (fun k => clientHandle k (v.client k))) 0xFF v.tai) := by
  unfold ptpRow
  rw [timed_at h]
  unfold Accepts at ha
  simp only [List.contains_iff_mem, hk, not_true_eq_false, if_false, State.frameTake]
  split at ha
  · rename_i g hg
    try rw [hg]
    simp only [ha]
  · exact ha.elim

/-- A row of a PTP message of another type changes nothing. -/
theorem ptpRow_other {t : Nat} {s u : State} {x : PtpRx} {kinds : List Nat} {f : Nat → Bool → State → State} {msg : Option Nat}
    (h : At t s u) (hk : x.kind ∉ kinds) : ptpRow t x kinds s f msg = .next u := by
  unfold ptpRow
  rw [timed_at h]
  simp [hk]

/-- A request whose frame waits goes through the stages of R339. -/
theorem State.ntpTakeFrame_waits {u v : State} {x : NtpRx} {f : State → State} (h : Waits x u v) :
    u.ntpTakeFrame x f = v.ntpStages x f := by
  unfold Waits at h
  unfold State.ntpTakeFrame State.frameTake
  split at h
  · rename_i g hg
    subst h
    first | rw [hg] | rfl
  · exact h.elim

end Sys2Proof.Machine
end

