-- ==== Sys2Proof/Tests/Slice0.lean ====
section
/-! SUPPORT. Witnesses that the statements' hypotheses can be met, ill-formed commands that the check refuses, and small tests
of single operations. Expected values are worked out from the spec's own formulas, not from the model. -/

namespace Sys2Proof.Tests

set_option Elab.async false

open Sys2Proof.Machine

/-- Every item of a list holds. -/
def allHold (l : List Bool) : Bool := l.all id

/-- The engine is not held in reset, and `c` holds: `At u.now u u` (`at_now`). -/
def ev (u : State) (c : Bool) : Bool := !u.power.held && c

/-- A write is let through in `u`, and `c` holds of the state its effect starts from (`opens_now`). -/
def w (sp : Special) (m : Master) (wd i : Nat) (ws : List Word) (u : State) (c : State → Bool := fun _ => true) : Bool :=
  !u.power.held && decide (u.worldOf m = some wd) && decide (resolve ((u.met sp m wd).writeCodes sp ⟨m, wd, i, ws⟩) = 0) &&
    c ((u.met sp m wd).marked sp i)

theorem at_now {u : State} (h : u.power.held = false) : At u.now u u := by
  refine ⟨h, ?_⟩
  simp [State.runTo]

/-- What `w` computes is a command at its tick whose write is let through. -/
theorem opens_now {sp : Special} {m : Master} {wd i : Nat} {ws : List Word} {u : State} {c : State → Bool}
    (h : w sp m wd i ws u c = true) : ∃ v, At u.now u u ∧ Opens sp m wd i ws u v ∧ c v = true := by
  simp only [w, Bool.and_eq_true, Bool.not_eq_true', decide_eq_true_eq] at h
  exact ⟨_, at_now h.1.1.1, ⟨h.1.1.2, h.1.2, rfl⟩, h.2⟩

/-- An engine with the DRBG READY. -/
def z : State := State.reset.set E.drbgState 0 1

/-- Privet runs into this time, in 2⁻⁵⁶ ns. -/
def State.into (u : State) (time : Nat) : State := { u with privet := { u.privet with time := time, prev := time - 1 } }

/-- The residue of a value. -/
def res (l : List Byte) : Byte := BitVec.ofNat 8 (residue l)

/-- Leaf 1 runs and has missed its strobes. -/
def leafed : State := (z.set E.treeLeaves 0 2).setLeaf 1 { misses := 1000, arrived := false, fwd0 := 20000 }

/-- Channel 7 of domain 2 holds this item since tick 0. -/
def asks (x : HsItem) : State := z.setChannel4 7 2 { request := some (0, x) }

/-- `Obligations.DomainCommands`: values that meet the hypotheses of each of its clauses. -/
theorem witness_DomainCommands : allHold [
    ev (asks (.time 5 9)) (((asks (.time 5 9)).channel4 7 2).request = some (0, .time 5 9)),
    ev z ((z.channel4 7 2).request.isNone),
    ev (asks (.time 5 (res (t96Bytes 5)))) ((asks (.time 5 (res (t96Bytes 5)))).delivered 7 2 (.data []) = .time 5 (res (t96Bytes 5)) ∧ residueOk (t96Bytes 5) (res (t96Bytes 5))),
    ev z (z.delivered 7 2 (.bound 7 (res (be 4 7))) = .bound 7 (res (be 4 7)) ∧ residueOk (be 4 7) (res (be 4 7))),
    ev (asks (.data [3])) ((asks (.data [3])).delivered 7 2 (.data [4]) = .data [3]),
    ev (asks (.time 5 0xFF)) ((asks (.time 5 0xFF)).delivered 7 2 (.data []) = .time 5 0xFF ∧ residueOk (t96Bytes 5) 0xFF = false),
    ev (asks (.bound 7 0xFF)) ((asks (.bound 7 0xFF)).delivered 7 2 (.data []) = .bound 7 0xFF ∧ residueOk (be 4 7) 0xFF = false),
    let u := (asks (.sched 3)).setArmed 3 (some { at_ := ofNs 64 }); ev u (u.delivered 7 2 (.data []) = .sched 3 ∧ (u.acknowledge 7 2 (.sched 3) true).armed 3 = some { at_ := ofNs 64 }),
    let u := { asks (.data []) with now := 10 ^ 9 }; ev u ((u.channel4 7 2).request.getD (5, .data [1]) = (0, .data []) ∧ 0 + u.n E.hsTimeout < u.now ∧ (u.channel4 7 2).stalled = false ∧ (u.channel4 7 2).acked.isNone),
    let u := { z.setChannel4 7 2 { acked := some 9 } with now := 10 ^ 9 }; ev u ((u.channel4 7 2).request.isNone ∧ (u.channel4 7 2).acked = some 9),
    ev { z with now := 528 } (528 % 512 = 16 ∧ z.islands.strobeAt.isNone),
    ev { z with islands := { z.islands with strobeAt := some 0 } } true,
    let u := { leafed with now := 540, islands := { leafed.islands with strobeValue := 5 } }; ev u (u.leafOn 1 ∧ 16 ≤ u.now % 512 ∧ (u.leaf 1).arrived = false ∧ 5 = u.islands.strobeValue ∧ residueOk (t96Bytes 5) (res (t96Bytes 5))),
    let u := { leafed with now := 540 }; ev u (u.leafOn 1 ∧ 16 ≤ u.now % 512 ∧ (u.leaf 1).arrived = false ∧ residueOk (t96Bytes 5) 0xFF = false),
    ev leafed (leafed.leafOn 1 ∧ leafed.n E.copyMissLimit ≤ (leafed.leaf 1).misses),
    let u := { leafed with islands := { leafed.islands with strobes := 1024 } }; ev u (u.leafOn 1 ∧ (u.leaf 1).remeasured < u.islands.strobes / 1024 ∧
    (u.leafForward 1 40000 - (u.leaf 1).fwd0).natAbs ≤ u.n E.treeDriftLimit * 1000),
    ev leafed (leafed.islands.strobes / 1024 ≤ (leafed.leaf 1).remeasured),
    ev { z with islands := { z.islands with writeBack := [(2, 5)] } } ((2, 5) ∈ [(2, 5)]),
    ev { z with now := 10 ^ 12 } (({ z with now := 10 ^ 12 } : State).scrubReady 4 0),
    ev { z with now := 10 ^ 12 } (({ z with now := 10 ^ 12 } : State).scrubReady 4 500),
    let u := { z with islands := { z.islands with scrubbed := tabPut 0 4 (10 ^ 9) [] } }; ev u (u.scrubReady 4 0 = false),
    let u := { z with islands := { z.islands with rescrub := [(3, 1), (4, 9)] } }; ev u (u.islands.rescrub.find? (fun p => p.1 == 4) = some (4, 9)),
    ev z (z.islands.rescrub = [])] = true := by decide +kernel

/-- PCIe function 0 bound to world 0. -/
def zp : State := z.set E.bindPcie 0 0

/-- A pair of the first half of a guarded write of `BIND_PCIE` 1 to world 5, sent now by function 0. -/
def paired : State := { zp with control := { zp.control with pair := some ⟨0, 0, 0x1000, 1, 5, 0⟩ } }

/-- `paired` with the pair taken out. -/
def unpaired : State := { zp with control := { zp.control with pair := none } }

/-- An access whose target its master's transport can carry, at a spot it names, in a state where the master acts for world `wd`. -/
def acc (u : State) (m : Master) (a : Target) (wd : Nat) (c : Spot → Place → Bool) : Bool :=
  !u.power.held && targetOk m a && (spotOf a).aligned && decide (u.worldOf m = some wd) &&
    (placeOf (spotOf a).index (spotOf a).sub).any (c (spotOf a))

/-- `Obligations.AccessCommands`: values that meet the hypotheses of each of its clauses. -/
theorem witness_AccessCommands : allHold [
    acc zp (.pcie 0) (.bar (0x200 * 2048) 8) 0 fun x p => !x.compl && p.entry.words = 1 && p.k = 0 && p.entry.cls ≠ .grd &&
    w (specialOf p.entry) (.pcie 0) 0 p.i [500] zp,
    acc zp .seq (.obj 0x1000 1) 0 fun x p => !x.compl && p.entry.words = 1 && p.k = 0 && p.entry.cls = .grd &&
    w (specialOf p.entry) .seq 0 p.i [5] zp,
    acc zp (.pcie 0) (.bar (0x210 * 2048) 8) 0 fun x p => !x.compl && p.entry.cls = .cor && !zp.absentIdx x.index &&
    zp.readCodes 0 x.index x.sub = [],
    acc zp (.pcie 0) (.bar (0x2100 * 2048) 8) 0 fun x p => !x.compl && p.k = 0 && 1 < p.entry.words && p.entry.cls ≠ .cor &&
    p.entry ≠ E.privetSnapshot && p.entry ≠ E.ledgerEntry && zp.readCodes 0 x.index x.sub = [],
    acc (zp.setLatch (.pcie 0) 0x2100 0 [1, 2]) (.pcie 0) (.bar (0x2100 * 2048 + 8) 8) 0 fun x p => !x.compl && p.k ≠ 0 &&
    p.entry.cls ≠ .cor && zp.readCodes 0 x.index x.sub = [] && (zp.setLatch (.pcie 0) 0x2100 0 [1, 2]).latched (.pcie 0) x.index x.sub = some 2,
    acc zp (.pcie 0) (.bar (0x2015 * 2048 + 8) 8) 0 fun x p => !x.compl && p.k ≠ 0 && p.k < p.entry.words && p.entry.cls ≠ .grd &&
    resolve ((zp.perfEvent 0x701 0).gateCodes (specialOf p.entry) ⟨.pcie 0, 0, p.i, [7]⟩ ++ wordCodes p.entry [7]) = 0,
    acc zp (.pcie 0) (.bar (0x2015 * 2048) 8) 0 fun x p => !x.compl && p.k = 0 && 1 < p.entry.words && p.entry.cls ≠ .grd &&
    w (specialOf p.entry) (.pcie 0) 0 p.i (zp.wholeWords (.pcie 0) x.index x.sub p [7]) zp,
    acc zp (.pcie 0) (.bar (0x1000 * 2048 + 8) 8) 0 fun x p => !x.compl && p.k = 0 && p.entry.words = 1 && p.entry.cls = .grd &&
    resolve (((zp.perfEvent 0x701 0).pairMeets (.pcie 0) 0).gateCodes (specialOf p.entry) ⟨.pcie 0, 0, p.i, [5]⟩) = 0,
    acc paired (.pcie 0) (.bar (2 ^ 27 + 0x1000 * 2048 + 8) 8) 0 fun x p => x.compl && p.k = 0 && p.entry.words = 1 &&
    paired.control.pair.any (fun q => q.tick + 500 ≥ paired.now && q.world = 0 && q.index = x.index && q.sub = x.sub &&
    w (specialOf p.entry) (.pcie 0) 0 p.i [q.value] unpaired)] = true := by decide +kernel

/-- A pair whose value `BIND_PCIE` cannot take. -/
def pairedBad : State := { zp with control := { zp.control with pair := some ⟨0, 0, 0x1000, 1, 77, 0⟩ } }

/-- `Obligations.GuardedOutOfRange`: values that meet the hypotheses of each of its clauses. -/
theorem witness_GuardedOutOfRange : allHold [
    E.bindPcie.cls = .grd && zp.worldOf (.pcie 0) = some 0 &&
    (zp.met (plain E.bindPcie) (.pcie 0) 0).gateCodes (plain E.bindPcie) ⟨.pcie 0, 0, 1, [77]⟩ = [] &&
    (plain E.bindPcie).codes ⟨.pcie 0, 0, 1, [77]⟩ (zp.met (plain E.bindPcie) (.pcie 0) 0) = [] &&
    E.bindPcie.ty ≠ .octstr && E.bindPcie.ty ≠ .time96 && !valueOk E.bindPcie 77,
    acc pairedBad (.pcie 0) (.bar (2 ^ 27 + 0x1000 * 2048 + 8) 8) 0 fun x p => x.compl && p.k = 0 && p.entry.words = 1 &&
    pairedBad.control.pair.any (fun q => q.tick + 500 ≥ pairedBad.now && q.world = 0 && q.index = x.index && q.sub = x.sub &&
    resolve ((unpaired.met (specialOf p.entry) (.pcie 0) 0).writeCodes (specialOf p.entry) ⟨.pcie 0, 0, p.i, [q.value]⟩) = 7)] = true := by decide +kernel

/-- `Obligations.ControlCommands`: values that meet the hypotheses of each of its clauses. -/
theorem witness_ControlCommands : allHold [
    ev { paired with now := 501 } true && ev { paired with now := 500 } true && ev zp (zp.control.pair.isNone),
    w spLockCtrl .seq 0 0 [1] z,
    w spLockCtrl .seq 0 0 [0] (z.set E.lockCtrl 0 1),
    w spBindPcie .seq 0 3 [255] z fun v => v.n E.bindPcie 3 = 255,
    w spBindPcie .seq 0 1 [4] z fun v => v.n E.bindPcie 1 ≠ 4,
    w spCommitRef .seq 0 0 [9] z,
    w spEditCtrl .seq 0 0 [1] z,
    w spEditCtrl .seq 0 0 [2] z,
    ev z (z.editing = false),
    let u := State.into z (10 ^ 6 * 2 ^ 56); ev u (u.atMilli && u.control.sweep.isNone),
    ev { z with control := { z.control with sweep := some 0 } } (z.control.commit.isNone),
    ev { z with control := { z.control with sweep := some 0, commit := some ⟨1, false, none, false, true⟩ } } true] = true := by decide +kernel

/-- Anchor 1 holds an HMAC key for Irlin, a service lane runs, binding 2 acts for world 0 under it, and the nonce is 7. -/
def zi : State :=
  let s := (((((z.set E.vaultState 0 1).set E.anchorState 1 1).set E.anchorType 1 2).set E.anchorUsage 1 2).set E.anchorRole 1 1)
  let s := (((s.set E.anchorWorldMask 1 0xFFFF).set E.anchorMasterMask 1 0x7F).set E.anchorLifeMask 1 0xF).set E.anchorEngineMask 1 0xFFFF
  let s := (((s.set E.laneState 0 1).set E.anchorRef 1 0x100001).set E.irlinKey 2 0x100001).set E.irlinWorld 2 0
  let s := (((s.set E.irlinNonce 0 7).set E.irlinUdpPort 0 9000).set E.irlinPortMask 0 0x3FFFF)
  { s with vault := { s.vault with keys := [(1, shareWith (zeros 32) (zeros 32))] } }

/-- A received datagram of a class, from 10.0.0.1. -/
def udp (port dport cls : Nat) (body : List Byte) (uni : Bool := true) : RxFrame :=
  { bytes := be 1 (if uni then 0 else 1) ++ zeros 11 ++ be 2 0x0800 ++ be 1 0x45 ++ be 1 0 ++ be 2 (28 + body.length) ++ zeros 5 ++
      be 1 17 ++ zeros 2 ++ be 4 0x0A000001 ++ be 4 0x0A000002 ++ be 2 5000 ++ be 2 dport ++ be 2 (8 + body.length) ++ zeros 2 ++ body ++ zeros 4
    stamp := ofSec 100, bound := 5, flags := 0, port := port, cls := cls }

/-- A frame waits at its port for an engine. -/
def seen (u : State) (f : RxFrame) : State := u.setPort f.port { u.port f.port with inbox := [f] }

/-- An Irlin datagram under anchor 1, with its MAC. -/
def irlinMessage : List Byte :=
  let b := zeros 4 ++ be 4 0x100001 ++ zeros 16
  b ++ (hmac (zeros 32) b).take 16

/-- The bytes of a partner's report: a join of engine 0x1234 every 10 s. -/
def report : List Byte := be 8 0x1234 ++ be 4 0 ++ be 4 1 ++ be 2 10 ++ zeros 38

/-- `Obligations.IrlinCommands`: values that meet the hypotheses of each of its clauses. -/
theorem witness_IrlinCommands : allHold [
    let f := udp 3 9000 10 irlinMessage; let u := seen zi f; ev u ((u.port 3).inbox.find? (fun f => decide (f.cls = 10 ∧ (layersOf f.bytes).dport = 9000 ∧
    (layersOf f.bytes).body = irlinMessage)) = some f ∧ bitOf ((u.frameTaken 3 f).n E.irlinPortMask) 3 ∧ irlinMessage.length = 40 ∧
    ((u.frameTaken 3 f).irlinAuth (.udp 3) irlinMessage (List.range 16)).1 = some 2),
    let f := udp 3 9000 10 irlinMessage; let u := seen (zi.set E.irlinPortMask 0 7) f; ev u ((u.port 3).inbox.find? (fun f => decide (f.cls = 10 ∧
    (layersOf f.bytes).dport = 9000 ∧ (layersOf f.bytes).body = irlinMessage)) = some f ∧ bitOf ((u.frameTaken 3 f).n E.irlinPortMask) 3 = false),
    ev zi ((zi.readItems (.irlin 2) false [⟨0x2010, 0, 1, []⟩]).1.length = 16),
    ev zi ([(⟨0x200, 0, 1, [500]⟩ : Item)].all (fun x => x.data.length = x.words)),
    ev zi ((zi.writeAt (.irlin 2) ⟨0x1000, 1, false, true⟩ [5] (.guarded (~~~5))).1 = 0),
    ev zi ((zi.blockRead (.irlin 2) false 0x2010 0 2).1.1 = 0),
    ev zi (zi.control.pair.isNone ∧ zi.control.commit.isNone ∧ zi.worldOf (.irlin 2) = some 0),
    ev zi true,
    ev { zi with control := { zi.control with subs := [⟨2, .udp 3, 1, 0, 0⟩] } } true,
    ev zi (report.length = 56 ∧ (zi.partnerReport report 258 zi.now).1.1 = 0),
    ev zi true,
    ev zi (zi.n E.drbgState = 1)] = true := by decide +kernel

/-- `Obligations.IrlinSequence`: values that meet the hypotheses of each of its clauses. -/
theorem witness_IrlinSequence : allHold [
    seqWindow 5 0 6 = some (6, 1),
    seqWindow 5 8 1 = none && seqWindow 5 8 6 = some (6, 17),
    seqWindow 100 0 35 = none && 35 + 64 < 100,
    (5 : Nat) < 6] = true := by decide +kernel

/-- An engine that RESET_N holds, with PWRGOOD high. -/
def heldWarm : State := { z with power := { z.power with held := true } }

/-- An engine that came up cold. -/
def heldCold : State := { z with power := { z.power with held := true, pwrgood := false } }

/-- An image of one record, for this part with every unit: `HS_TIMEOUT` becomes 500, signed under anchor 2 (a signature and a key chosen
together so that the check is quick). -/
def image : List Byte :=
  let b := be 4 0x48534B4F ++ be 2 1 ++ be 2 0 ++ be 4 0 ++ be 8 0x3F ++ be 4 1 ++ be 4 77 ++ be 4 0x200001 ++ be 4 1 ++ be 4 116 ++
    be 2 0x200 ++ be 1 0 ++ be 1 1 ++ be 8 500
  b ++ be 32 0x82e05e03d27401e11c38176cd5cfb547e2e12323d179a800122e710481496626 ++ be 32 0x41702f01e93a00f08e1c0bb66ae7daa3f1709191e8bcd4000917388240a4b313

/-- Stage 5 with that image in hand, and an anchor for image signatures. -/
def zImage : State :=
  let s := ((((z.set E.bootStage 0 5).set E.vaultState 0 1).set E.anchorState 2 1).set E.anchorType 2 4).set E.anchorUsage 2 16
  let s := (((s.set E.anchorRole 2 2).set E.anchorWorldMask 2 0xFFFF).set E.anchorMasterMask 2 0x7F).set E.anchorLifeMask 2 0xF
  let s := { s with vault := { s.vault with keys := [(2, shareWith (be 32 0xc256231f2ea3652a100d53bbd44286723537c0a73c79c3501d27867bff98ca85 ++
    be 32 0x6eab1abef12a1b1d561fbeeb686a6be01015a33bf49906ffd0f907872b8bf61a) (zeros 64))] } }
  { s.set E.anchorRef 2 0x200001 with boot := { s.boot with images := [(1, image)] } }

/-- Stage 7 with the copies quiet and the running check matched. -/
def zQuiet : State :=
  let s := z.set E.bootStage 0 7
  { s with boot := { s.boot with stage6 := true }, control := { s.control with matched := true } }

/-- Stage 8 with a measured, QUALIFIED GNSS slot selected, 5 ns ahead of Privet. -/
def zLock : State :=
  let s := (((z.set E.bootStage 0 8).set E.hbSelected 0 3).set E.refState 3 3).set E.refSource 3 0x100
  s.setSlot 3 { s.slot 3 with meas := [⟨0, 0, 0, 5000000, true, 0, 0, 0⟩], lastGood := 0 }

/-- What stage 6 measures where all is well: round trips of 60 ns, converters in the middle of their range, MDLLs that cover theirs. -/
def calGood : CalObs :=
  { roundTripFs := (List.finRange 64).map (fun n => (n, 60000000))
    mdlls := (List.finRange 4).map (fun m => (m, ⟨List.replicate 64 500, 3200000, 6400000⟩))
    converters := (List.range 52).map (fun k => (k, 1000, 1000000)) }

/-- The same with no round trip of leaf 1. -/
def calShort : CalObs := { calGood with roundTripFs := (List.finRange 64).map (fun n => (n, if n.val = 1 then 0 else 60000000)) }

/-- The same with MDLL 3 below its band. -/
def calLow : CalObs := { calGood with mdlls := (List.finRange 4).map (fun m => (m, ⟨List.replicate 64 500, 3200000, if m.val = 3 then 6399999 else 6400000⟩)) }

/-- Stage 6. -/
def z6 : State := z.set E.bootStage 0 6

/-- `Obligations.ResetCommands`: values that meet the hypotheses of each of its clauses. -/
theorem witness_ResetCommands : allHold [
    heldWarm.power.held,
    heldCold.power.pwrgood = false,
    heldWarm.power.pwrgood,
    ev z (z.n E.drbgState ≠ 0),
    ev { z with boot := { z.boot with burning := some (2, 9) } } true,
    (3 : Nat) < 8 && (15 : Nat) < 16] = true := by decide +kernel

/-- `Obligations.HeldInReset`: values that meet the hypotheses of each of its clauses. -/
theorem witness_HeldInReset : allHold [
    heldWarm.power.held && wellFormed (.pewterSweep 0) && !actsInReset (.pewterSweep 0)] = true := by decide +kernel

/-- `Obligations.StageCommands`: values that meet the hypotheses of each of its clauses. -/
theorem witness_StageCommands : allHold [
    ev State.reset (State.reset.n E.bootStage = 1 ∧ State.reset.power.otpFail = false ∧ State.reset.otp.halfBurnt ≠ some 4),
    ev (State.reset.set E.bootStage 0 2) ((State.reset.set E.bootStage 0 2).n E.bootResult ≠ 6 ∧ (([false, false, false, false] : List Bool).take 4).any id = false),
    ev (State.reset.set E.bootStage 0 2) ((([true, true, true, true] : List Bool).take 4).any id ∧ State.reset.otp.rootWritten < 2 ∧ (State.reset.set E.bootStage 0 2).n E.bootResult ≠ 6),
    ev ({ z.set E.bootStage 0 3 with holly := { z.holly with failed := [] } }) (((z.set E.bootStage 0 3).islandList.foldl (fun (x : State) i =>
    (x.arraysZero i).bistResult i 3 (tabGet 0 i x.otp.expectLogic) (tabGet 0 i x.otp.expectMem)) (z.set E.bootStage 0 3)).holly.failed = []),
    ev (z.set E.bootStage 0 4) ((z.set E.bootStage 0 4).flag E.boxCertMode = false ∧ (z.set E.bootStage 0 4).n E.vaultState ≠ 1 ∧ z.boot.images = []),
    ev (z.set E.bootStage 0 4) (bitOf ((z.set E.bootStage 0 4).n E.bootOptions) 1 = false ∧ flashImages image [] ++ z.boot.images ≠ []),
    ev zImage (5 ≤ zImage.n E.bootStage ∧ zImage.control.commit.isNone ∧ zImage.control.pair.isNone ∧ zImage.boot.dma.isNone ∧
    (imageRecords image).any (fun l => let r := zImage.useKey (imageUse image); let v := r.2.perfEvent 0x603 0
    match r.1 with
    | .key k => ecdsaVerify k (imageDigest image) (imageSig image) && beAt image 8 4 = 0 && beAt image 12 8 = v.otp.mask && (v.writeRecords l).1
    | _ => false)),
    ev { zImage with boot := { zImage.boot with images := [(1, [])] } } ((zImage.imageChecks []).1 ≠ 0),
    ev { zImage with boot := { zImage.boot with images := [(3, [])], dma := some (0, 64, 3) } } ((zeros 3).length = 3),
    ev { zImage with boot := { zImage.boot with images := [(3, [])], dma := some (0, 64, 3) } } (5 ≤ zImage.n E.bootStage),
    ev z6 (z6.n E.bootStage = 6 ∧ z6.boot.calFailed = false ∧ (List.range 64).all (fun n => padInRange (z6.calForward calGood n)) ∧
    (List.range 4).all (mdllOk calGood) ∧
    (((((List.range 64).filter z6.leafFitted).foldl (fun (y : State) n => y.calLeaf calGood n) z6).set E.treeLeaves 0
    (maskOf ((List.range 64).filter z6.leafFitted))).set E.treeCalState 0 2 |>.calConverters calGood).n E.treeCalState = 2),
    ev z6 (z6.leafFitted 1 ∧ padInRange (z6.calForward calShort 1) = false ∧ ((z6.calTree calShort).calConverters calShort).n E.treeCalState = 3),
    ev z6 (((z6.calTree calLow).calConverters calLow).n E.treeCalState = 2 ∧ mdllOk calLow 3 = false),
    z6.leafFitted 1 && padInRange (z6.calForward calShort 1) = false,
    padInRange 28000000 && padInRange 32000000 && !padInRange 32000001,
    ev zQuiet (zQuiet.n E.bootStage = 7 ∧ zQuiet.boot.stage6 ∧ zQuiet.control.matched),
    ev zLock (zLock.flag E.firstLock = false ∧ zLock.n E.hbSelected = 3 ∧ zLock.qualified 3 ∧ zLock.timeCapable 3 ∧ zLock.measured 3 ∧
    zLock.privet.pendStep.isNone ∧ !zLock.privet.retarding ∧ 0 ≤ unitsOfFs (zLock.phaseNow 3) ∧
    8 ≤ ((zLock.acceptStep (unitsOfFs (zLock.phaseNow 3)) 0).set E.firstLock 0 1).n E.bootStage)] = true := by decide +kernel

/-- `Obligations.LifecycleCommands`: values that meet the hypotheses of each of its clauses. -/
theorem witness_LifecycleCommands : allHold [
    w spLifecycleReq .seq 0 0 [4] z,
    ev { z with boot := { z.boot with burning := some (2, 9) } } true,
    ev { z with boot := { z.boot with burning := some (4, 9) } } true,
    w spBootOptionsBurn .seq 0 0 [1] (z.set E.lifecycle 0 1),
    w spImageLoad (.pcie 0) 0 0 [104] zp,
    w spImageLoad (.pcie 0) 0 0 [104] zp,
    w spImageLoad .spit 0 0 [104] { z.set E.bindSpit 0 0 with host := { z.host with spiImage := [(0, zeros 100), (100, zeros 4)] } } fun v => stagedWhole 104 v.host.spiImage,
    w spTrimProfile .seq 0 0 [1] z,
    let u := { State.into z secondUnit with boot := { z.boot with trimAt := some 0 }, now := 5 }; ev u (u.atSecond ∧ u.n E.trimProfile = u.n E.trimActive),
    let u := { State.into (z.set E.trimProfile 0 1) secondUnit with boot := { z.boot with trimAt := some 0 }, now := 5 }; ev u (u.atSecond ∧ u.n E.trimProfile ≠ u.n E.trimActive)] = true := by decide +kernel

/-- Privet at the start of its second 100, in the tick that holds it. -/
def zs : State := State.into z (100 * secondUnit)

/-- The schedule slot 3 waits for an instant that this tick holds; its action is the schedule's own (kind 1) until `kind` says otherwise. -/
def zSched (kind target : Nat) : State :=
  (((((zs.set E.bootStage 0 9).set E.firstLock 0 1).set E.ppsMode 4 2).set E.schedAction 3 (target * 256 + kind)).set E.schedState 3 1).setArmed 3
    (some { at_ := ofSec 100, delivered := true })

/-- `Obligations.PrivetWrites`: values that meet the hypotheses of each of its clauses. -/
theorem witness_PrivetWrites : allHold [
    w spPrivetMode .seq 0 0 [0] z fun v => v.n E.privetMode = 0,
    w spPrivetMode .seq 0 0 [1] z fun v => v.n E.privetMode ≠ 1,
    w spPrivetMode .seq 0 0 [0] (z.set E.privetMode 0 1) fun v => v.n E.privetMode ≠ 0,
    w spIncrNs .seq 0 0 [2] (z.set E.privetMode 0 1),
    w spIncrFrac .seq 0 0 [5] ({ z.set E.privetMode 0 1 with privet := { z.privet with stagedNs := some 2 } }),
    w spSlewCmd .seq 0 0 [5] (z.set E.privetMode 0 1),
    w spStepCmd .seq 0 0 [5] z fun v => v.flag E.firstLock = false,
    w spStepCmd .seq 0 0 [5] ({ (z.set E.firstLock 0 1).set E.privetStepPermit 0 1 with privet := { z.privet with permitUntil := some 9 } }) fun v => v.flag E.firstLock,
    w spStepPermit .seq 0 0 [1] z,
    w spStepPermit .seq 0 0 [0] z,
    w spInitTime .seq 0 0 [7, 100] z fun v => v.flag E.firstLock = false ∧ (v.setWords E.privetInitTime 0 [7, 100]).flag E.firstLock = false,
    w spLeapTai .seq 0 5 [BitVec.ofInt 64 (172800 + zs.taiUtc + 1)] (zs.setInt E.leapOffset 5 (zs.taiUtc + 1)),
    w spLeapTai .seq 0 5 [0] z,
    w spSchedArm .seq 0 3 [1] ((z.set E.schedAction 3 1).setT96 E.schedTime 3 (ofSec 2000)),
    w spSchedArm .seq 0 3 [2] z] = true := by decide +kernel

/-- The capture port 4 of world 3, its copy synchronised, with a mark due. -/
def zMark : State :=
  ((((zSched 5 4).set E.portRole 4 1).set E.tapWorld 4 3).set E.portCalState 4 2).set E.copyState 22 1

/-- The pulse output 4 as an action of the schedule finds it. -/
def zPulse (k : Nat) : State :=
  ((zSched k 4).setPulse 4 { (zSched k 4).pulse 4 with squelched := (zSched k 4).ppsSquelch }).ppsRefresh 4

/-- The schedule slot 3 waits for an instant that has gone by. -/
def zGone : State := (zSched 1 0).setArmed 3 (some { at_ := ofSec 99, delivered := true })

/-- A smear whose window has passed. -/
def zSmear : State :=
  let s := (zs.set E.privetSmearEnable 0 1).set E.privetSmearWindow 0 20
  { s with privet := { s.privet with smearLeap := some (50, ofSec 40, 1, 20) } }

/-- An announced leap second: its instant and the offset after it. -/
def leapAt : Nat := (172800 + zs.taiUtc + 1).toNat

/-- `Obligations.PrivetEvents`: values that meet the hypotheses of each of its clauses. -/
theorem witness_PrivetEvents : allHold [
    ev { z with privet := { z.privet with permitUntil := some 0 } } true,
    ev { z with privet := { z.privet with retarding := true, retard := 0 } } true,
    let v := zs.leapReplace leapAt (zs.taiUtc + 1); ev zs (zs.n E.privetLeapSource = 0 ∧
    v.leaps.any (fun p => decide (p.2.1 = leapAt ∧ p.2.2 = zs.taiUtc + 1)) = false ∧
    (List.range 64).find? (fun j => decide (v.n E.leapTai j = 0)) = some 0 ∧ v.leapOk 0 leapAt (zs.taiUtc + 1)),
    let v := zs.leapReplace 5 99; ev zs (zs.n E.privetLeapSource = 0 ∧ v.leaps.any (fun p => decide (p.2.1 = 5 ∧ p.2.2 = 99)) = false ∧
    (List.range 64).find? (fun j => decide (v.n E.leapTai j = 0)) = some 0 ∧ v.leapOk 0 5 99 = false ∧ v.privet.leapMismatch ≠ some (5, 99)),
    ev zs (zs.n E.privetLeapSource = 0),
    ev zs true,
    let u := zs.set E.leapTai 5 90; ev u (u.n E.leapTai 5 = 90 ∧ 90 ≤ secOf u.tai ∧ u.leaps.all (fun p => decide (90 ≤ p.2.1))),
    ev zp (zp.worldOf (.pcie 0) = some 0 ∧ zp.readCodes 0 0x2000 0 = []),
    ev (zSched 1 0) (((zSched 1 0).schedDue 3 1).isSome),
    ev zGone ((zGone.schedDue 3 1).isNone ∧ (zGone.schedLate 3 1).isSome),
    allHold ([2, 3, 4].map fun k => ev (zSched k 4) (((zSched k 4).schedDue 3 k).any (fun x => x.stepped = false ∧ ((zSched k 4).pulse 4).notBefore ≤ psNearest x.at_) ∧
    (zSched k 4).schedTarget 3 = 4 ∧ (zSched k 4).n E.ppsMode 4 = 2 ∧ (zPulse k).n E.ppsState 4 ≠ 0 ∧ (zPulse k).holly.safe = false)),
    ev zMark ((zMark.markDue 3).isSome ∧ zMark.schedTarget 3 = 4 ∧ zMark.n E.portRole 4 ≠ 0 ∧ zMark.n E.tapWorld 4 ≠ 0xFF ∧
    !zMark.ptpQuiet ∧ !zMark.tapInvalid 4),
    let u := { paired with now := 10 ^ 12 }; ev u ((u.deadlineTick .guardPair).any (fun e => u.resolves (u.deadlinePaths .guardPair) e)),
    ev paired ((paired.deadlineTick .guardPair).any (fun e => paired.resolves (paired.deadlinePaths .guardPair) e = false)),
    ev z (z.now ≤ 5),
    let u := ({ z with now := 9 } : State).set E.treeLeaves 0 (2 ^ 22); ev u (leafIslandOf (leafFor 0x304) = 0x304 ∧ u.leafOn (leafFor 0x304) ∧
    (u.leaf (leafFor 0x304)).mark ≤ 5 ∧ u.now ≤ (u.leaf (leafFor 0x304)).mark + u.n E.hsTimeout ∧ 0x304 ∈ [0x304]),
    ev zSmear (zSmear.smear.any (fun x => zSmear.smearEnd x.1 ≤ zSmear.tai))] = true := by decide +kernel

/-- A whole hour of Privet time with an attestation record that began at 0. -/
def zAttest : State :=
  let s := (State.into z (7200 * secondUnit)).set E.firstLock 0 1
  { s with bound := { s.bound with attest := { s.bound.attest with started := true } } }

/-- Attestation record 18 waits for its signature under anchor 6. -/
def zSigning : State :=
  let s := ((((z.set E.vaultState 0 1).set E.anchorState 6 1).set E.anchorType 6 5).set E.anchorUsage 6 8).set E.anchorRole 6 3
  let s := (((s.set E.anchorWorldMask 6 0xFFFF).set E.anchorMasterMask 6 0x7F).set E.anchorLifeMask 6 0xF).set E.anchorRef 6 0x600001
  let s := { s with vault := { s.vault with keys := [(6, shareWith (be 32 1) (zeros 32))] } }
  { s.set E.attestKey 0 0x600001 with bound := { s.bound with signing := [(18, zeros 188)] } }

/-- A use that gets its key. -/
def usable (s : State) (u : KeyUse) : Bool := match (s.useKey u).1 with | .key _ => true | _ => false

/-- `Obligations.BoundCommands`: values that meet the hypotheses of each of its clauses. -/
theorem witness_BoundCommands : allHold [
    ev { z with bound := { z.bound with release := some { e0 := 100, b0 := 50, t0 := 0, period := 10, first := 0, met := some 60 } } } true,
    ev { z with now := 10 ^ 12, bound := { z.bound with oot := true, ootClear := some 0 } } (0 + z.n E.ootClearHold * 500000000 ≤ 10 ^ 12),
    ev zp (zp.worldOf (.pcie 0) = some 0 ∧ zp.readCodes 0 (0x28C0 + 0) 1 = []),
    ev zAttest (zAttest.flag E.firstLock ∧ zAttest.bound.attest.started ∧ zAttest.atWhole (zAttest.n E.attestPeriod * secondUnit) ∧
    zAttest.bound.attest.start < zAttest.privet.time / (zAttest.n E.attestPeriod * secondUnit) * (zAttest.n E.attestPeriod * secondUnit) / 2 ^ 40),
    let s : State := { zSigning with bound := { zSigning.bound with signing := [] } }; ev zSigning (zSigning.bound.signing = [(18, zeros 188)] ∧ 18 % 16 = 2 ∧
    usable s s.attestUse),
    ev { z with bound := { z.bound with signing := [(18, [])] } } (18 % 16 = 2)] = true := by decide +kernel

/-- A time-of-day line: `$PKYT,1,000,000000000000100,+037,N,000000000000000,0,0000000050,01*`, its CRC-16 and CR LF. -/
def todBytes : List (Byte × Bool) := (ascii [
  36, 80, 75, 89, 84, 44, 49, 44, 48, 48, 48, 44, 48, 48, 48, 48, 48, 48, 48, 48, 48, 48, 48, 48, 49, 48, 48, 44, 43, 48, 51, 55, 44, 78, 44, 48, 48,
   48, 48, 48, 48, 48, 48, 48, 48, 48, 48, 48, 48, 48, 44, 48, 44, 48, 48, 48, 48, 48, 48, 48, 48, 53, 48, 44, 48, 49, 42, 53, 49, 51, 52, 13, 10]).map (·, false)

/-- Slot 3 is a PPSIN reference with a time-of-day line, enabled. -/
def zTod : State := ((z.set E.refSource 3 0x302).set E.refEnable 3 2).set E.todEnable 3 1

/-- Slot 3 binds GNSS, is enabled and in conflict, with Privet in holdover. -/
def zConf (st : Nat) : State :=
  let s := ((((z.set E.refSource 3 0x100).set E.refEnable 3 2).set E.refState 3 st).set E.firstLock 0 1).set E.privetStepPermit 0 1
  let s := s.setSlot 3 { meas := [⟨0, 0, 0, 5000000, true, 0, 0, 0⟩], watch := some (0, 1000), bref := 100 }
  { s.set E.brefLive 3 100 with bound := { s.bound with hold := some ⟨0, 0, 0, 0, 0, 0, 0, 0⟩, dis := [(0, false, [⟨2, 3, 0xFF, 9, 0, 0⟩])] } }

/-- Slot 3 is a REFIN reference named by ESMC on port 5. -/
def zEsmc : State := ((z.set E.refSource 3 0x401).set E.refEnable 3 2).set E.refEsmcPort 3 5

/-- `Obligations.HornbeamWrites`: values that meet the hypotheses of each of its clauses. -/
theorem witness_HornbeamWrites : allHold [
    w spRefType .seq 0 3 [0] (z.set E.refSource 3 0x100),
    w spRefEnable .seq 0 3 [0] z,
    w spRefEnable .seq 0 3 [1] ((z.set E.refSource 3 0x300).set E.refState 3 3) fun v => v.n E.refState 3 ≠ 0,
    w spRefEnable .seq 0 3 [2] (z.set E.refSource 3 0x300) fun v => v.n E.refState 3 = 0,
    w spHbPreferred .seq 0 0 [3] z,
    w spConflictCmd .seq 0 0 [BitVec.ofNat 64 (3 * 256 + 1)] (zConf 3),
    w spConflictCmd .seq 0 0 [BitVec.ofNat 64 (3 * 256 + 2)] (zConf 3),
    w spConflictCmd .seq 0 0 [BitVec.ofNat 64 (3 * 256 + 3)] (zConf 3)] = true := by decide +kernel

/-- `zTod` with the line above begun, its last byte to come. -/
def zBegun : State := zTod.setSlot 3 { tod := { begun := todBytes.dropLast } }

/-- `Obligations.HornbeamEvents`: values that meet the hypotheses of each of its clauses. -/
theorem witness_HornbeamEvents : allHold [
    let u := zTod.setSlot 3 { zTod.slot 3 with arrival := 0 }; ev { u with now := 10 ^ 11 } (u.n E.refEnable 3 ≠ 0 ∧ State.silent { u with now := 10 ^ 11 } 3),
    ev zTod (zTod.silent 3 = false),
    ev zs (zs.atMilli ∧ zs.counters.latchAt ≠ some zs.now),
    ev zs zs.atSecond,
    let u := { zTod.set E.refState 3 2 with now := 10 ^ 12, privet := { zTod.privet with initWritten := true } }; ev u
    ((u.slot 3).passSince + u.n E.hbQualTime * 500000000 ≤ u.now ∧ u.n E.refState 3 = 2 ∧ u.anyFail 3 = false ∧ u.phaseAllowed 3),
    let u := { zTod.set E.refState 3 4 with now := 10 ^ 12 }; ev u ((u.slot 3).passSince + u.n E.hbQualTime * 500000000 ≤ u.now ∧ u.n E.refState 3 = 4 ∧
    (u.slot 3).drifting = false ∧ u.cause 3 7 = false ∧ u.cause 3 11 = false),
    ev z true,
    let u := { (zConf 3).set E.hbAutoAccept 0 1 with now := 10 ^ 12 }; ev u (u.n E.hbAutoAccept ≠ 0 ∧ u.inHold ∧ u.inConflict 3 ∧ u.qualified 3 ∧
    max (u.slot 3).watchFrom (u.slot 3).qualSince + 60 * u.n E.hbAutoAccept * 500000000 ≤ u.now ∧ (u.slot 3).watch = some (0, 1000) ∧
    (1000 : Int) - 0 ≤ 2000 * (u.n E.brefLive 3 : Int) ∧ u.slewTooBig 3 = false),
    ev zEsmc ((List.range 32).filter (fun k => decide (zEsmc.n E.refEnable k ≠ 0 ∧ zEsmc.refKind k = 4 ∧ zEsmc.n E.refEsmcPort k = 5 ∧ 5 < 16)) = [3]),
    let u := { zEsmc with now := 10 ^ 11 }; ev u (u.n E.refEnable 3 ≠ 0 ∧ u.refKind 3 = 4 ∧ u.n E.refEsmcPort 3 ≠ 0xFF ∧
    u.resolves [portIsland (u.n E.refEsmcPort 3)] ((u.slot 3).lastInfo + 5 * 500000000)),
    ev zTod (zTod.slotOf 3 2 = some 3 ∧ zTod.todOn 3),
    ev zTod ((zTod.slot 3).tod.begun = [] ∧ ((0x41#8, false) : Byte × Bool) ≠ (0x24#8, false)),
    ev zTod ((zTod.slot 3).tod.begun = [] ∧ (0x24#8 : Byte) ≠ 0x0A ∧ ((zTod.slot 3).tod.begun ++ [((0x24#8, false) : Byte × Bool)]).length < 73),
    ev zBegun ((zBegun.slot 3).tod.begun ≠ []),
    ev zTod ((parseTod [0x24#8]).isNone),
    let u := { (zTod.set E.todNames 3 1).setSlot 3 { tod := { edges := [0] } } with now := 6000000 }; ev u (todBytes.any (·.2) = false ∧
    (parseTod (todBytes.map (·.1))).isSome ∧ u.n E.todNames 3 = 1 ∧ (u.slot 3).tod.edges = [0] ∧ 0 + 5000000 ≤ u.now ∧ u.now ≤ 0 + 450000000),
    let u := { (zTod.set E.todNames 3 0).setSlot 3 { tod := { edges := [0] } } with now := 6000000 }; ev u (todBytes.any (·.2) = false ∧
    (parseTod (todBytes.map (·.1))).isSome ∧ u.n E.todNames 3 = 0 ∧ (u.slot 3).tod.edges = [0] ∧ 0 + 5000000 ≤ u.now),
    let u := zTod.setSlot 3 { tod := { missed := 1000 } }; ev u (u.slotOf 3 2 = some 3 ∧ u.todOn 3 ∧ u.n E.todMissLimit 3 ≤ (u.slot 3).tod.missed)] = true := by decide +kernel

/-- A whole second, after first lock, with slot 3 selected. -/
def zYew : State := ((zs.set E.hbSelected 0 3).set E.refSource 3 0x100).set E.firstLock 0 1

/-- Slot 3 has given one offset of 5 ns since the last update. -/
def zOffset : State := { (z.set E.refState 3 3).setSlot 3 { meas := [⟨0, 0, 0, 5000000, true, 0, 0, 0⟩] } with now := 9 }

/-- `Obligations.YewCommands`: values that meet the hypotheses of each of its clauses. -/
theorem witness_YewCommands : allHold [
    ev zYew (zYew.n E.hbSelected = 3 ∧ zYew.n E.refType 3 ≠ 3 ∧ zYew.flag E.firstLock ∧ zYew.atSecond),
    let u := zYew.set E.refType 3 3; ev u (u.n E.hbSelected = 3 ∧ u.n E.refType 3 = 3 ∧ u.flag E.firstLock ∧ u.atMilli),
    ev z (z.intervalOffsets 3 = []),
    ev zOffset (zOffset.intervalOffsets 3 = [5000000] ∧ zOffset.yew.presetAt ≠ some zOffset.now),
    ev zOffset (residue (be 8 (wordOfInt (zOffset.loopResult [5000000] (zOffset.n E.refType 3) 1000).integ).toNat) ≠ 255 ∧ zOffset.intervalOffsets 3 = [5000000] ∧
    zOffset.yew.presetAt ≠ some zOffset.now),
    let u := z.set E.yewDriftFf 0 0; ev u  (u.flag E.yewDriftFf = false ∧ u.yew.fine = 0 ∧
    (0 + Int.fdiv (u.n E.loopKi 0 * 5 * 1000) (10 ^ 15) + roundDiv (u.n E.loopKp 0 * 5) (10 ^ 9) - u.yRef).natAbs ≤ u.n E.privetOutTol * 10 ^ 6 ∧
    Int.tdiv (([5] : List Int).foldl (· + ·) 0) ([5] : List Int).length - Int.tdiv (u.slewAll * 10 ^ 6) (2 ^ 56) = 5 ∧ u.yew.integ = 0),
    ev zs zs.atSecond,
    ev zs (zs.atSecond ∧ residue (be 8 (wordOfInt (zs.ensembleSecond).yew.yOsc).toNat) ≠ 255),
    let u := { z.setMember 2 { probated := true } with now := 10 ^ 13 }; ev u ((u.member 2).probated ∧ (u.member 2).refit + 3600 * 500000000 ≤ u.now),
    ev { z with yew := { z.yew with ambiguous := true }, now := 10 ^ 12 } (z.yew.withinSince + 600 * 500000000 ≤ 10 ^ 12),
    w spEnsEnable .seq 0 2 [0] z,
    w spEnsEnable .seq 0 2 [1] z fun v => (v.set E.ensEnable 2 1).n E.ensState 2 = 0,
    ev z true,
    w spLoopBw .seq 0 1 [1000] z,
    w spLoopDamp .seq 0 1 [1000] z] = true := by decide +kernel

/-- An edge of channel 2. -/
def edge2 : EdgeObs := ⟨2, false, 0, false⟩

/-- Channel 2 takes every rising edge. -/
def zCh : State := z.set E.chEnable 2 1

/-- Channel 2 with an edge stamped in this tick, whose event time is `e`. -/
def zCh2 (e : Int) : State := zCh.setChan 2 { zCh.chan 2 with last := some { event := e } }

/-- The same after counting the edge. -/
def counted (u : State) : State :=
  (u.set E.chEdges 2 ((u.n E.chEdges 2 + 1) % 2 ^ 64)).setChan 2 { u.chan 2 with phase := ((u.chan 2).phase + 1) % u.prescale 2, lastEdge := u.now }

/-- Channel 5 (a 25 MHz REFIN) in the middle of its prescale. -/
def zPre : State := (((z.set E.chEnable 5 1).set E.refSource 9 1025).set E.refNominal 9 25000000).setChan 5 { phase := 1 }

/-- A wait of pair unit 1, with its end or none. -/
def zWait (b : Option Edge) : State := { z.setPairUnit 1 { waits := [({}, b)] } with now := 10 ^ 10 }

/-- `Obligations.CounterCommands`: values that meet the hypotheses of each of its clauses. -/
theorem witness_CounterCommands : allHold [
    ev zPre (zPre.flag E.chEnable 5 ∧ zPre.chanFitted 5 ∧ zPre.n E.chEdge 5 = 0 ∧ (zPre.chan 5).phase % zPre.prescale 5 ≠ 0) && ev zCh (zCh.flag E.chEnable 2 ∧
    zCh.chanFitted 2 ∧ zCh.n E.chEdge 2 = 0 ∧ (zCh.chan 2).phase % zCh.prescale 2 = 0 ∧ (zCh.chan 2).last = none) &&
    ev (zCh2 (-10 ^ 9)) ((zCh2 (-10 ^ 9)).flag E.chEnable 2 ∧ ((zCh2 (-10 ^ 9)).chan 2).phase % (zCh2 (-10 ^ 9)).prescale 2 = 0 ∧
    -10 ^ 9 + 64000000 ≤ (counted (zCh2 (-10 ^ 9))).eventFs edge2) &&
    ev (zCh2 (10 ^ 9)) ((zCh2 (10 ^ 9)).flag E.chEnable 2 ∧ (counted (zCh2 (10 ^ 9))).eventFs edge2 < 10 ^ 9 + 64000000),
    ev (z.set E.chEnable 2 0) ((z.set E.chEnable 2 0).flag E.chEnable 2 = false),
    let u := { z with now := wrapTicks }; ev u (wrapTicks ≤ (u.bank 1).at_ u.now),
    let u := { z with now := wrapTicks }; ev u (wrapTicks ≤ (u.bank 0).at_ u.now),
    ev z true,
    ev { z with counters := { z.counters with loadStrobe := some 0 }, islands := { z.islands with strobes := 1024 } } (
    z.chBit 2 (if z.chBit 2 2 then 3 else 4) = false),
    ev z true,
    ev (zWait none) ((zWait none).resolves [0x100 + bankOf ((zWait none).n E.pairB 1)] (0 + (zWait none).n E.pairTimeout 1 * 500000)),
    ev (zWait (some { event := 0 })) ((zWait (some { event := 0 })).resolves [0x100 + bankOf ((zWait none).n E.pairB 1)] (0 + (zWait none).n E.pairTimeout 1 * 500000)),
    w spPairClear .seq 0 1 [1] z,
    ev z (memberOf 2 = none ∧ (List.range 8).all (fun p => ((z.mdllsOn 2).foldl (fun (x : State) k =>
    if z.resolves [0x100 + bankOf 2] ((z.chan 2).lastEdge + ceilDiv (2 * ticksS 1) (max 1 (x.mdll k).refHz)) then x.mdllRefFail k else x) z).n E.ppsMode p ≠ 3)),
    let u := { z with now := 10 ^ 12 }; ev u (memberOf 13 = some 2 ∧ (List.range 8).all (fun p => (u.memberInputBad 2).n E.ppsMode p ≠ 3) ∧
    u.resolves [0x100 + bankOf 13] ((u.chan 13).lastEdge + max 1024 (ceilDiv (2 * ticksS 1) (max 1 (u.n E.ensNominal 2)))))] = true := by decide +kernel

/-- `Obligations.SynthesisWrites`: values that meet the hypotheses of each of its clauses. -/
theorem witness_SynthesisWrites : allHold [
    w spMdllEnable .seq 0 2 [1] z fun v => (v.set E.mdllEnable 2 1).n E.mdllState 2 = 0,
    w spMdllEnable .seq 0 2 [0] z fun v => (v.set E.mdllEnable 2 0).n E.mdllState 2 = 0,
    w spMdllEnable .seq 0 2 [0] (z.set E.mdllState 2 2) fun v => (v.set E.mdllEnable 2 0).n E.mdllState 2 ≠ 0,
    w spMdllMultN .seq 0 2 [300] z,
    w spMdllMultF .seq 0 2 [5] z,
    w spClkoutDiv .seq 0 2 [64] z,
    w spSynRealign .seq 0 0 [1] z] = true := by decide +kernel

/-- An MDLL in state `st` with `g` good windows. -/
def zMdll (st g : Nat) : State := ((State.into z (6553600 * 2 ^ 56)).setMdll 2 { z.mdll 2 with good := g }).set E.mdllState 2 st

/-- The count that a window of MDLL 2 expects, and `d`. -/
def expected (u : State) (d : Int) : Nat := (u.expectCount 2 ((u.dtcWindow 2 0 0).wraps - (u.mdll 2).wraps) + d).toNat

/-- The error of a window of that count. -/
def errOf (u : State) (d : Int) : Int := (expected u d : Int) - u.expectCount 2 ((u.dtcWindow 2 0 0).wraps - (u.mdll 2).wraps)

/-- PPSOUT 2 drives pulses; its trailing edge is due at 100 s. -/
def zPps (mode : Nat) (trail : Option Nat) : State :=
  let s := (((((zs.set E.bootStage 0 9).set E.firstLock 0 1).set E.ppsMode 2 mode).set E.ppsState 2 1)).set E.copyState 8 1
  s.setPulse 2 { s.pulse 2 with trail := trail }

/-- `Obligations.SynthesisEvents`: values that meet the hypotheses of each of its clauses. -/
theorem witness_SynthesisEvents : allHold [
    (let u := zMdll 1 2; ev u (u.n E.mdllState 2 = 1 ∧ errOf u 1 = 1 ∧ 2 ≤ (u.dtcWindow 2 0 0).good ∧ (u.dtcWindow 2 0 0).retune.isNone ∧
    (u.dtcWindow 2 0 0).stopping = false)) && (let u := zMdll 1 0; ev u (u.n E.mdllState 2 = 1 ∧ errOf u (-1) = -1 ∧ (u.dtcWindow 2 0 0).good < 2) &&
    ev u (errOf u 2 = 2)) && (let u := zMdll 3 0; ev u (u.n E.mdllState 2 = 3 ∧ errOf u 1 = 1) && ev u (errOf u (-5) = -5)),
    ev z (z.n E.mdllState 2 = 0) && ev (zMdll 4 0) ((zMdll 4 0).n E.mdllState 2 = 4),
    ev z true,
    let u := zMdll 2 0; ev u (u.n E.mdllState 2 = 2 ∧ ((u.set E.mdllState 2 3).setInt E.mdllPhaseErr 2 (max (-2 ^ 31) (min 7 (2 ^ 31 - 1)))).n E.tlMdll ≠ 2 ∧
    ((u.set E.mdllState 2 3).setInt E.mdllPhaseErr 2 7).fed 2 = []),
    let u := (zMdll 2 0).set E.tlMdll 0 2; ev u (u.n E.mdllState 2 = 2 ∧ ((u.set E.mdllState 2 3).setInt E.mdllPhaseErr 2 7).n E.tlMdll = 2 ∧
    ((u.set E.mdllState 2 3).setInt E.mdllPhaseErr 2 7).fed 2 = []),
    ev { zMdll 4 0 with now := 10 ^ 10 } ((zMdll 4 0).n E.mdllState 2 = 4 ∧ !((zMdll 4 0).mdll 2).refBad ∧ ((zMdll 4 0).mdll 2).refOkSince + z.n E.mdllReturnHold 2 * 500000 ≤ 10 ^ 10),
    let u := z.setClkout 3 { z.clkout 3 with armed := some true }; ev u ((u.clkout 3).armed = some true),
    let u := z.setClkout 3 { z.clkout 3 with armed := some false }; ev u ((u.clkout 3).armed = some false),
    ev z ((z.clkout 3).armed = none),
    ev (zs.set E.clkoutState 3 4) (zs.atSecond ∧ (zs.set E.clkoutState 3 4).n E.clkoutState 3 = 4),
    ev (zPps 1 none) (((zPps 1 none).pulse 2).trail.isNone ∧ (zPps 1 none).n E.ppsMode 2 = 1 ∧ ((zPps 1 none).ppsGrid 2).isSome),
    let u := zPps 0 (some (100 * 10 ^ 12)); ev u ((u.pulse 2).trail = some (100 * 10 ^ 12) ∧ u.inTick 2 (100 * 10 ^ 12) ∧ u.n E.ppsState 2 ≠ 0 ∧
    u.holly.safe = false ∧ ((u.setPulse 2 { u.pulse 2 with trail := none }).ppsPlace 2 (100 * 10 ^ 12) false).n E.ppsMode 2 = 0),
    ev z true,
    ev (z.set E.tlEnable 2 1) ((z.set E.tlEnable 2 1).flag E.tlEnable 2),
    ev (z.set E.tlEnable 2 1) ((z.set E.tlEnable 2 1).flag E.tlEnable 2),
    let u := z.setLane 2 { unlocked := true }; ev u (u.lane 2).unlocked,
    let u := z.setLane 2 { realigning := true, sent := 64 }; ev u ((u.lane 2).realigning ∧ 64 ≤ (u.lane 2).sent)] = true := by decide +kernel

/-- Port 2 is up and calibrated, in service. -/
def zPort : State := ((((z.set E.portMode 2 1).set E.portLink 2 1).set E.portCalState 2 2).set E.portRole 2 0).set E.copyState 20 1

/-- A frame received on port 2. -/
def rx (b : List Byte) : RxObs := ⟨2, 0, false, b, false, false⟩

/-- A frame with its FCS in place. -/
def sealed (b : List Byte) : List Byte := (b.take (b.length - 4)) ++ (be 4 (fcsOf (b.take (b.length - 4)))).reverse

/-- Port 2 has sent XOFF and is still above XON. -/
def zXoff : State := { ((zPort.set E.portFcMode 2 1).setXoff 2 0 true).set E.portRxOccupancy 2 200000 with now := 10 ^ 9 }

/-- `Obligations.PortCommands`: values that meet the hypotheses of each of its clauses. -/
theorem witness_PortCommands : allHold [
    w spPortMode .seq 0 2 [1] z,
    ev (z.set E.portMode 2 1) ((z.set E.portMode 2 1).n E.portMode 2 ≠ 0 ∧ !(z.set E.portMode 2 1).linkIsUp 2),
    ev (z.set E.portMode 16 1) ((z.set E.portMode 16 1).n E.portMode 16 = 1 ∧ !(z.set E.portMode 16 1).linkIsUp 16),
    ev zPort (zPort.linkIsUp 2),
    ev (zPort.set E.portCalState 2 1) ((zPort.set E.portCalState 2 1).linkIsUp 2),
    ev zPort (zPort.linkIsUp 2 ∧ zPort.n E.portRole 2 = 0 ∧ (zPort.perfEvent 0x301 2).rxDrop (rx (sealed (udp 2 7 9 (zeros 30)).bytes)) = none),
    ev zPort (zPort.linkIsUp 2 ∧ zPort.n E.portRole 2 = 0 ∧ (zPort.perfEvent 0x301 2).rxDrop (rx (zeros 10)) = some E.portRxRunt),
    ev zXoff (zXoff.n E.portFcMode 2 ≠ 0 ∧ zXoff.xoff 2 0 ∧
    tabGet 0 0 (zXoff.port 2).xoffAt + zXoff.bitTicks 2 (zXoff.n E.portPauseQuanta 2 * 256) ≤ zXoff.now ∧
    zXoff.rxShare 2 * zXoff.n E.portXonPct 2 ≤ zXoff.occOf 2 0 * 100),
    ev ((zPort.set E.portFcMode 2 1).setXoff 2 0 true) (((zPort.set E.portFcMode 2 1).setXoff 2 0 true).xoff 2 0 ∧
    zPort.occOf 2 0 * 100 ≤ zPort.rxShare 2 * zPort.n E.portXonPct 2),
    ev (zPort.set E.portPauseRx 2 0) (!((zPort.set E.portPauseRx 2 0).bump E.portPauseRcvd 2).flag E.portPauseRx 2 ∧ (zPort.set E.portPauseRx 2 0).linkIsUp 2),
    ev (zPort.set E.portPauseRx 2 1) (((zPort.set E.portPauseRx 2 1).bump E.portPauseRcvd 2).flag E.portPauseRx 2 ∧
    ((zPort.set E.portPauseRx 2 1).bump E.portPauseRcvd 2).n E.portFcMode 2 ≠ 2),
    ev (zPort.set E.portFcMode 2 2) (tabGet 0 3 (zPort.port 2).pausedUntil ≤ zPort.now),
    ev zPort (zPort.n E.portFcMode 2 ≠ 2 ∧ tabGet 0 8 (zPort.port 2).pausedUntil ≤ zPort.now)] = true := by decide +kernel

/-- A frame of unit `u`: a PTP message (0) or one of world `u - 16`. -/
def frameOf (u : Nat) : Outgoing := { origin := { unit := u }, bytes := zeros 60 }

/-- `zPort` with frames on their way to launch, held and to send, and stamps queued. -/
def zOut (p : Port) : State := zPort.setPort 2 p

/-- A held launch at instant `l`. -/
def heldAt (l : T96) : Launch := ⟨frameOf 0, zeros 60, l, l + 1000000, false⟩

/-- Ring `r` runs with 16 slots and 4 posted. -/
def zRing (r : Nat) : State := ((zPort.set E.ringState r 1).set E.ringSize r 16).set E.ringDoorbell r 4

/-- `zRing` with a stamp queued for world 3. -/
def zRingQ : State := (zRing 26).setPort 2 { queue := [({ unit := 19 }, zeros 64)] }

/-- `Obligations.LaunchCommands`: values that meet the hypotheses of each of its clauses. -/
theorem witness_LaunchCommands : allHold [
    let u := z.setPort 2 { arriving := [frameOf 0] }; ev u ((u.port 2).arriving = [frameOf 0] ∧ u.linkIsUp 2 = false),
    let u := zOut { arriving := [frameOf 0] }; ev u ((u.port 2).arriving = [frameOf 0] ∧ u.linkIsUp 2 ∧ u.n E.portCalState 2 = 2 ∧ u.stampBad 2 = false ∧
    (frameOf 0).stale = false ∧ (u.setPort 2 { u.port 2 with arriving := [] }).ntsRevoked (frameOf 0).origin = false ∧
    ((u.setPort 2 { u.port 2 with arriving := [] }).holdLaunch 2 (frameOf 0) 0 false).isSome),
    let u := zOut { arriving := [frameOf 0], held := List.replicate 512 (heldAt 0) }; ev u ((u.port 2).arriving = [frameOf 0] ∧ u.linkIsUp 2 ∧
    u.n E.portCalState 2 = 2 ∧ u.stampBad 2 = false ∧ (u.setPort 2 { u.port 2 with arriving := [] }).ntsRevoked (frameOf 0).origin = false ∧
    ((u.setPort 2 { u.port 2 with arriving := [] }).holdLaunch 2 (frameOf 0) 0 false).isNone),
    let u := State.into (zOut { held := [heldAt (ofSec 100)] }) (100 * secondUnit); ev u ((u.port 2).held = [heldAt (ofSec 100)] ∧ (heldAt (ofSec 100)).l ≤ u.portCopy 2 ∧
    u.launchBlocked 2 (heldAt (ofSec 100)) = false ∧ u.passed (portIsland 2) (heldAt (ofSec 100)).l = false),
    let u := zOut { held := [heldAt (ofSec 5)] }; ev u ((u.port 2).held = [heldAt (ofSec 5)] ∧ u.portCopy 2 < (heldAt (ofSec 5)).l),
    let u := zOut { held := [heldAt 0] }; ev u ((u.port 2).held = [heldAt 0] ∧ (heldAt 0).l ≤ u.portCopy 2 ∧ u.passed (portIsland 2) (heldAt 0).l),
    let u := zOut { held := [heldAt 0] }; ev u ((u.port 2).held.find? (fun x => decide (x.frame.handle = 0)) = some (heldAt 0) ∧ (heldAt 0).l ≤ u.portCopy 2 + ofNs 64),
    let u := zOut { sending := [frameOf 0] }; ev u (u.nextFrame 2 = some (frameOf 0) ∧ u.linkIsUp 2 ∧ u.clears 2 (frameOf 0) (u.stampAt (portIsland 2) 0) ∧
    (frameOf 0).stale = false ∧ (frameOf 0).origin.unit < 16),
    let u := zOut { sending := [frameOf 19] }; ev u (u.nextFrame 2 = some (frameOf 19) ∧ u.linkIsUp 2 ∧ u.clears 2 (frameOf 19) (u.stampAt (portIsland 2) 0) ∧
    (frameOf 19).stale = false ∧ 16 ≤ (frameOf 19).origin.unit),
    let u := zOut { queue := [({ unit := 0 }, zeros 64)] }; ev u ((u.port 2).queue = [({ unit := 0 }, zeros 64)] ∧ beAt (zeros 64) 0 1 ≠ 2),
    ev zRingQ ((zRingQ.port 2).queue = [({ unit := 19 }, zeros 64)] ∧ zRingQ.ringRoom (8 * (19 - 16) + 2)),
    let u := zOut { queue := [({ unit := 19 }, zeros 64)] }; ev u ((u.port 2).queue = [({ unit := 19 }, zeros 64)] ∧ u.ringRoom (8 * (19 - 16) + 2) = false),
    ev z true,
    let u := zPort.setHandle 2 7 { state := 2, quiet := 0 }; ev u ((tabGet {} 7 (u.port 2).handles).state = 2 ∧ (tabGet {} 7 (u.port 2).handles).quiet ≤ u.now),
    w spHandleForce .seq 0 2 [1] zPort] = true := by decide +kernel

/-- A descriptor's 32 bytes with the given operation, length, flags and field at 16. -/
def desc (op len flags f16 bufsz : Nat) (data : List Byte) : DmaDesc :=
  ⟨be 8 0 ++ [BitVec.ofNat 8 len, BitVec.ofNat 8 (len / 256), BitVec.ofNat 8 op, BitVec.ofNat 8 flags] ++ be 4 0 ++
    [BitVec.ofNat 8 f16, 0, BitVec.ofNat 8 bufsz, BitVec.ofNat 8 (bufsz / 256)] ++ zeros 12, some data⟩

/-- Ring 24 (RXM of world 3) runs with buffers posted, and a frame waits. -/
def zRxm : State := (zRing 24).setRing 24 { waiting := [⟨zeros 64, 0, 0, 0, 2, 7, 0, 0, false⟩] }

/-- A one-descriptor frame of 60 bytes for port 2, with the given flags. -/
def txDesc (flags : Nat) : DmaDesc := desc 0x10 60 flags 2 0 (zeros 60)

/-- `Obligations.HostCommands`: values that meet the hypotheses of each of its clauses. -/
theorem witness_HostCommands : allHold [
    ev z (z.linkProvided 0 ∧ [1, 2, 4, 8, 16].contains 4 ∧ 4 ≤ z.linkLanes),
    ev z true,
    ev z true,
    ev z true,
    w spRingCtrl .seq 0 26 [1] (((z.set E.ringSize 26 16).set E.ringFunc 26 1).set E.bindPcie 1 3) &&
    (w spRingCtrl .seq 0 26 [2] (zRing 26) fun v => v.n E.ringState 26 = 1) &&
    (w spRingCtrl .seq 0 26 [2] z fun v => v.n E.ringState 26 ≠ 1) &&
    w spRingCtrl .seq 0 26 [3] (zRing 26) && w spRingCtrl .seq 0 26 [4] (zRing 26) &&
    ev (z.set E.ringState 26 3) ((z.set E.ringState 26 3).n E.ringState 26 = 3 ∧ (z.ring 26).quietUntil ≤ z.now) &&
    w spDoorbell .seq 0 26 [4] (zRing 26),
    ev z true,
    let v := (zRxm.setRing 24 { zRxm.ring 24 with waiting := [] }).occSub 2 0 64; ev zRxm ((zRxm.ring (8 * 3)).waiting = [⟨zeros 64, 0, 0, 0, 2, 7, 0, 0, false⟩] ∧
    v.ringRuns 24 ∧ v.ringPosted 24 ≠ 0 ∧
    (fillBuffers (zeros 64) ((List.range (v.ringPosted 24)).map (fun i => [desc 1 256 0 0 0 []].getD i ⟨[], none⟩)) 0).1.isSome),
    let u := zRing 25; ev u (u.ringRuns 25 ∧ u.txRead 25 + 1 ≤ u.ringPosted 25 ∧ txError [txDesc 11] = none ∧ (txDesc 11).flag 3 ∧
    (txDesc 11).field 16 1 = 2 ∧ u.n E.portRole 2 = 0 ∧ u.present 5 ∧ u.linkIsUp 2) && ev u (txError [txDesc 3] = none ∧ (txDesc 3).flag 3 = false ∧ (txDesc 3).field 16 1 = 2)] = true := by decide +kernel

/-- The CMD ring of world 3 runs with a descriptor posted, and host commands are open to it. -/
def zCmd : State := (zRing 29).set E.hostcmdWorlds 0 8

/-- `Obligations.HostRingCommands`: values that meet the hypotheses of each of its clauses. -/
theorem witness_HostRingCommands : allHold [
    ev zCmd (zCmd.ringRuns (8 * 3 + 5) ∧ zCmd.ringPosted (8 * 3 + 5) ≠ 0 ∧ zCmd.cmdBusy 3 = false ∧ cmdError (desc 0x20 60 0 0 512 (zeros 60)) = none ∧
    (desc 0x20 60 0 0 512 (zeros 60)).op = 0x20 ∧ [1, 2, 3].all (fun k => cmdError (desc 0x21 60 0 k 512 (zeros 60)) = none ∧
    (desc 0x21 60 0 k 512 (zeros 60)).op = 0x21 ∧ (desc 0x21 60 0 k 512 (zeros 60)).field 16 1 = k) ∧ bitOf (zCmd.n E.hostcmdWorlds) 3) &&
    (let u := zCmd.set E.hostcmdWorlds 0 0; ev u (bitOf (u.n E.hostcmdWorlds) 3 = false ∧ u.ringRuns 29))] = true := by decide +kernel

/-- `Obligations.SpiCommands`: values that meet the hypotheses of each of its clauses. -/
theorem witness_SpiCommands : allHold [
    ev (z.set E.bindSpit 0 0) (((z.set E.bindSpit 0 0).read .spit ⟨0x200, 0, false, true⟩ .plain).1.1 = 0),
    ev (z.set E.bindSpit 0 0) (((z.set E.bindSpit 0 0).writeAt .spit ⟨0x200, 0, false, true⟩ [500] .plain).1 = 0),
    ev (z.set E.bindSpit 0 0) (((z.set E.bindSpit 0 0).writeAt .spit ⟨0x1000, 1, false, true⟩ [5] (.guarded (~~~5))).1 = 0),
    ev z true,
    ev { z with host := { z.host with spiReplies := [[1, 2]] } } true,
    ev z (z.host.spiReplies = []),
    ev z (1 ≤ [(7 : Byte)].length ∧ [(7 : Byte)].length ≤ 256 ∧ 0 + [(7 : Byte)].length ≤ 4194304),
    ev { z with host := { z.host with spiEvents := [zeros 32] } } true,
    ev z (z.host.spiEvents = []),
    ev z true,
    ev z (spiCrc [7] + 1 ≠ spiCrc [7])] = true := by decide +kernel

/-- Instance 0 has MASTER port 2 and upstream port 3; first lock and bring-up are past. -/
def zPtp : State :=
  let s := (((z.set E.bootStage 0 8).set E.firstLock 0 1).set E.ptpEnable 0 1).set E.ptpPortsMaster 0 4
  (((s.set E.ptpTransport 0 0).set E.ptpPortsUpstream 0 8).set E.portCalState 2 2).set E.portCalState 3 2 |>.set E.copyState 20 1 |>.set E.copyState 21 1 |>.set E.copyState 36 1

/-- Sender 1 of 1234. -/
def peer : List Byte := be 8 1234 ++ be 2 1

/-- A parent on port 3. -/
def par : ParentSet := ⟨3, peer, 1234, 128, 6, 0x21, 0, 128, 0, 0x20, 0x3C, 0⟩

/-- Instance 0 with a parent and this exchange. -/
def zSlave (e : List Exchange) (x : PtpInst := {}) : State := zPtp.setPtpInst 0 { x with parent := some par, exchanges := e, lost := false }

/-- The peer-to-peer profile on instance 0 with this exchange. -/
def zP2p (e : List Exchange) : State := (zPtp.set E.ptpProfile 0 1).setPtpInst 0 { exchanges := e }

/-- The unicast profile on instance 0, for which client slot 0 holds a Delay_Resp grant and a Sync grant. -/
def zUni (held : Bool) : State :=
  let s := zPtp.set E.ptpUnicast 0 1
  if held then s.setClient 0 { used := true, inst := 0, port := 2, addr := zeros 16, portId := peer, sync := some ⟨0, 10 ^ 9, 0⟩, delay := some ⟨0, 10 ^ 9, 0⟩ }
  else s

/-- A frame with a PTP message of a type on a port: flags, sequenceId, what follows the header. -/
def ptpMsg (port kind flags seq : Nat) (body : List Byte) (uni : Bool := false) : RxFrame :=
  { bytes := be 1 (if uni then 0 else 1) ++ zeros 11 ++ be 2 0x88F7 ++ be 1 kind ++ be 1 0x12 ++ be 2 (34 + body.length) ++ be 1 0 ++
      be 1 0 ++ be 2 flags ++ zeros 12 ++ peer ++ be 2 seq ++ zeros 2 ++ body ++ zeros 4
    stamp := 0, bound := 5, flags := 0, port := port, cls := 0 }

/-- The frame waits and instance 0 accepts its message, and `c` holds of the message and the state it is handled from. -/
def took (u : State) (f : RxFrame) (c : PtpRx → State → Bool) : Bool :=
  !u.power.held && match ptpRxOf f with
  | some x => decide (((seen u f).port x.port).inbox.find? (fun g => decide (ptpRxOf g = some x)) = some f) &&
    match ((seen u f).frameTaken x.port f).ptpReceive x with | (some (0, _), v) => c x v | _ => false
  | none => false

/-- The identity instance 0 shows on a port. -/
def me (p : Nat) : List Byte := zPtp.portIdentity 0 p

/-- A Delay exchange of the epoch at reset. -/
def exOf (kind seq : Nat) : Exchange := { kind := kind, epoch := 0, seq := seq, expires := 10 ^ 9, t2 := some 5 }

/-- Instance 0 with a parent, one second of kept exchanges, and slot 3 bound to it or not. -/
def zKept (bound : Bool) : State :=
  let u := State.into (zSlave [] { done := [(5, 7, some 9)] }) secondUnit
  if bound then (u.set E.refSource 3 0x200).set E.refEnable 3 2 else u

/-- `Obligations.PtpTimers`: values that meet the hypotheses of each of its clauses. -/
theorem witness_PtpTimers : allHold [
    w spPtpProfile .seq 0 0 [3] (z.set E.ptpTransport 0 1),
    ev zPtp (zPtp.ptpMaster 0 2 ∧ zPtp.ptpQuiet = false ∧ zPtp.noTime = false ∧ (zPtp.sendTo 0 2 0 none).1 = some none ∧
    (zPtp.sendTo 0 2 0 none).2.flag E.ptpTwoStep 0 = false ∧ (zPtp.sendTo 0 2 0 none).2.stampBad 2 = false),
    let u := zPtp.set E.ptpTwoStep 0 1; ev u (u.ptpMaster 0 2 ∧ u.ptpQuiet = false ∧ u.noTime = false ∧ (u.sendTo 0 2 0 none).1 = some none ∧
    (u.sendTo 0 2 0 none).2.flag E.ptpTwoStep 0),
    let u := zPtp.set E.portCalState 2 0; ev u (u.ptpMaster 0 2 ∧ u.ptpQuiet = false ∧ u.noTime = false ∧ (u.sendTo 0 2 0 none).1 = some none ∧
    (u.sendTo 0 2 0 none).2.flag E.ptpTwoStep 0 = false ∧ (u.sendTo 0 2 0 none).2.stampBad 2),
    ev z z.noTime,
    ev zPtp (zPtp.ptpMaster 0 2 ∧ zPtp.ptpQuiet = false ∧ (zPtp.sendTo 0 2 0xB none).1 = some none ∧ (zPtp.sendTo 0 2 0xB none).2.unsync 0x400 = false),
    let u := zPtp.set E.copyState (leafFor 0x400) 0; ev u (u.ptpMaster 0 2 ∧ u.ptpQuiet = false ∧ (u.sendTo 0 2 0xB none).1 = some none ∧
    (u.sendTo 0 2 0xB none).2.unsync 0x400),
    let u := zSlave []; ev u (u.ptpUp 0 3 ∧ u.ptpQuiet = false ∧ u.flag E.ptpUnicast 0 = false ∧ (u.ptpInst 0).parent = some par ∧ par.port = 3),
    let u := State.into z secondUnit; ev u (u.atSecond ∧ u.keptExchanges 0 = []),
    let u := zKept false; ev u (u.atSecond ∧ u.keptExchanges 0 = [(5, 7, some 9)] ∧ u.ptpSlot 0 = none) &&
    (let u := zKept true; ev u (u.atSecond ∧ u.keptExchanges 0 = [(5, 7, some 9)] ∧ u.ptpSlot 0 = some 3)),
    let u := { zSlave [] with now := 10 ^ 12 }; ev u ((u.ptpInst 0).parent = some par ∧ u.resolves (u.upPaths 0) (par.last + u.announceTicks 0)),
    ev (zSlave []) (((zSlave []).ptpInst 0).parent = some par ∧ (zSlave []).resolves ((zSlave []).upPaths 0) (par.last + (zSlave []).announceTicks 0) = false),
    let u := { zSlave [] with now := 10 ^ 12 }; ev u ((u.ptpInst 0).parent.isSome ∧ (u.ptpInst 0).lost = false ∧
    u.resolves (u.upPaths 0) ((u.ptpInst 0).lastSync + u.syncTicks 0)),
    ev (zSlave []) ((zSlave []).resolves ((zSlave []).upPaths 0) (((zSlave []).ptpInst 0).lastSync + (zSlave []).syncTicks 0) = false),
    ev z true] = true := by decide +kernel

/-- An upstream port's Announce: instance 0 after it has been heard. -/
def announced (x : PtpRx) (v : State) : State :=
  let b := announceSet x (v.stampTick x.stamp)
  let w := v.announceLate 0 b
  (w.setPtpInst 0 { w.ptpInst 0 with heard := (w.ptpInst 0).heard.filter (fun c => !decide (c.port = b.port ∧ c.portId = b.portId)) ++ [b] }).chooseParent 0

/-- `Obligations.PtpMessages`: values that meet the hypotheses of each of its clauses. -/
theorem witness_PtpMessages : allHold [
    (took (zSlave []) (ptpMsg 3 0 0 1 (zeros 10)) fun x v => x.kind = 0 ∧ v.fromParent 0 x ∧ (v.ptpInst 0).lastSyncSeq = none ∧ x.flag 9 = false) &&
    took (zSlave []) (ptpMsg 3 0 0x200 1 (zeros 10)) fun x v => x.kind = 0 ∧ v.fromParent 0 x ∧ (v.ptpInst 0).lastSyncSeq = none ∧ x.flag 9,
    took zPtp (ptpMsg 3 0 0 1 (zeros 10)) fun x v => x.kind = 0 ∧ v.fromParent 0 x = false,
    took (zSlave [exOf 0 1] { lastSyncSeq := some 1 }) (ptpMsg 3 8 0 1 (zeros 10)) fun x v => x.kind = 8 ∧ v.fromParent 0 x ∧
    v.exchangeFor 0 0 x.seq (v.stampTick x.stamp) = some (exOf 0 1),
    took (zSlave []) (ptpMsg 3 8 0 1 (zeros 10)) fun x v => x.kind = 8 ∧ v.fromParent 0 x ∧ v.exchangeFor 0 0 x.seq (v.stampTick x.stamp) = none,
    took (zSlave [exOf 1 1] { lastReq := 1 }) (ptpMsg 3 9 0 1 (zeros 10 ++ me 3)) fun x v => x.kind = 9 ∧ v.fromParent 0 x ∧ v.answersUs 0 x ∧
    v.exchangeFor 0 1 x.seq (v.stampTick x.stamp) = some (exOf 1 1),
    took (zSlave []) (ptpMsg 3 9 0 1 (zeros 10 ++ me 3)) fun x v => x.kind = 9 ∧ v.fromParent 0 x ∧ v.answersUs 0 x ∧
    v.exchangeFor 0 1 x.seq (v.stampTick x.stamp) = none,
    (took (zP2p [{ exOf 2 0 with t3 := some 1, port := 3 }]) (ptpMsg 3 3 0 0 (zeros 10 ++ me 3)) fun x v => x.kind = 3 ∧ v.ptpP2p 0 ∧ v.ptpUp 0 x.port ∧ v.answersUs 0 x ∧
    v.exchangeFor 0 2 x.seq (v.stampTick x.stamp) = some { exOf 2 0 with t3 := some 1, port := 3 }) &&
    took (zP2p [{ exOf 2 0 with port := 3 }]) (ptpMsg 3 0xA 0 0 (zeros 10 ++ me 3)) fun x v => x.kind = 0xA ∧ v.ptpP2p 0 ∧ v.ptpUp 0 x.port ∧ v.answersUs 0 x ∧
    v.exchangeFor 0 2 x.seq (v.stampTick x.stamp) = some { exOf 2 0 with port := 3 },
    (took (zSlave [] { heard := [{ par with portId := be 10 77, last := 1 }] }) (ptpMsg 3 0xB 0 1 (zeros 13 ++ be 1 200 ++ be 1 200 ++ be 1 0xFE ++ zeros 14)) fun x v => x.kind = 0xB ∧ v.ptpUp 0 x.port ∧
    ((announced x v).ptpInst 0).parent ≠ some (announceSet x (v.stampTick x.stamp))) &&
    took ((zPtp.set E.refSource 3 0x200).set E.refEnable 3 2) (ptpMsg 3 0xB 0 1 (zeros 30)) fun x v => x.kind = 0xB ∧ v.ptpUp 0 x.port ∧
    ((announced x v).ptpInst 0).parent = some (announceSet x (v.stampTick x.stamp)) ∧ (announced x v).ptpSlot 0 = some 3,
    took zPtp (ptpMsg 2 1 0 1 (zeros 10) true) fun x v => x.kind = 1 ∧ v.ptpMaster 0 x.port ∧ v.ptpP2p 0 = false ∧ x.unicast ∧ v.findClient 0 x = none,
    took zPtp (ptpMsg 2 1 0 1 (zeros 10)) fun x v => x.kind = 1 ∧ v.ptpMaster 0 x.port ∧ v.ptpP2p 0 = false ∧ x.unicast = false ∧ v.noTime = false ∧
    v.flag E.ptpUnicast 0 = false,
    took (zUni true) (ptpMsg 2 1 0 1 (zeros 10) true) fun x v => x.kind = 1 ∧ v.ptpMaster 0 x.port ∧ v.ptpP2p 0 = false ∧ x.unicast ∧ v.findClient 0 x = some 0 ∧
    (v.client 0).delay = some ⟨0, 10 ^ 9, 0⟩ ∧ v.stampTick x.stamp ≤ 10 ^ 9 ∧ v.noTime = false,
    took (zP2p []) (ptpMsg 2 2 0 1 (zeros 20)) fun x v => x.kind = 2 ∧ v.ptpP2p 0 ∧ x.unicast = false ∧ v.noTime = false,
    took (zP2p []) (ptpMsg 2 2 0 1 (zeros 20) true) fun x v => x.kind = 2 ∧ v.ptpP2p 0 ∧ x.unicast] = true := by decide +kernel

/-- A Signaling message with these TLVs. -/
def sig (tlvs : List Byte) : RxFrame := ptpMsg 2 0xC 0 1 (me 2 ++ tlvs) true

/-- `Obligations.ClientCommands`: values that meet the hypotheses of each of its clauses. -/
theorem witness_ClientCommands : allHold [
    took (zUni false) (sig (be 2 4 ++ be 2 6 ++ be 1 0 ++ be 1 0 ++ be 4 300)) fun x v => x.kind = 0xC ∧ v.ptpMaster 0 x.port ∧ v.flag E.ptpUnicast 0,
    took (zUni true) (sig (be 2 6 ++ be 2 2 ++ be 2 0)) fun x v => x.kind = 0xC ∧ v.ptpMaster 0 x.port ∧ v.flag E.ptpUnicast 0 ∧ v.findClient 0 x = some 0 ∧
    ((tlvsOf x).filter (fun p => decide (p.1 = 6))).length = 1 ∧
    (clientGrant (v.client 0) 0).isSome,
    let u := { zUni true with now := 10 ^ 10 }; ev u (clientGrant (u.client 0) 9 = some ⟨0, 10 ^ 9, 0⟩ ∧ u.resolves [0x400, portIsland (u.client 0).port] (10 ^ 9)),
    ev (zUni true) (clientGrant ((zUni true).client 0) 9 = some ⟨0, 10 ^ 9, 0⟩ ∧ (zUni true).resolves [0x400, portIsland ((zUni true).client 0).port] (10 ^ 9) = false),
    ev z ((z.client 7).used = false ∧ (z.client 7).quietUntil ≤ 0),
    w spClientForce .seq 0 0 [1] z,
    w spClientSel .seq 0 0 [5] z,
    took ((zPtp.set E.ptpPartnerAccept 0 1).set E.ptpPartnerAuth 0 0) (sig (be 2 3 ++ be 2 62 ++ be 3 0xAA473E ++ be 3 2 ++ report)) fun x v => x.kind = 0xC ∧
    orgTlv x 2 = some report ∧ v.flag E.ptpPartnerAccept 0 ∧ v.flag E.ptpPartnerAuth 0 = false ∧ 56 ≤ report.length,
    let u := { z.setPartner 5 { active := true, interval := 1 } with now := 10 ^ 12 }; ev u ((u.partner 5).active ∧ u.resolves (u.partnerPaths 5) (u.partnerDeadline 5)),
    ev z ((z.partner 5).active = false ∧ (z.partner 5).quietUntil ≤ z.now),
    w spPartnerForce .seq 0 0 [1] z,
    w spPartnerSel .seq 0 0 [5] z,
    w spSaCtrl .seq 0 4 [1] (z.set E.saKey 4 (2 ^ 20)),
    w spSaCtrl .seq 0 4 [2] (z.set E.saState 4 1) fun v => v.n E.saState 4 = 1,
    ev (z.set E.saState 4 4) ((z.set E.saState 4 4).n E.saState 4 = 4 ∧ tabGet 0 4 z.ptp.saQuiet ≤ z.now)] = true := by decide +kernel

/-- The NTP engine serves port 2; first lock and bring-up are past. -/
def zNtp : State := ((zPtp.set E.ntpEnable 0 1).set E.ntpPorts 0 4).set E.steerTarget 5 0

/-- The service answers only NTS. -/
def zNtsOnly : State := zNtp.set E.ntpAuthMode 0 1

/-- No source may send (a burst of 0), with RATE answers or without. -/
def zRate (kod : Nat) : State := (zNtp.set E.ntpRateBurst 0 0).set E.ntpKodEnable 0 kod

/-- A version 4 request. -/
def plainReq : RxFrame := udp 2 123 5 (be 1 0x23 ++ zeros 47)

/-- A request of 40 bytes. -/
def shortReq : RxFrame := udp 2 123 5 (be 1 0x23 ++ zeros 39)

/-- An NTS request whose cookie names KEY_ID 9. -/
def ntsReq : RxFrame := udp 2 123 5 (be 1 0x23 ++ zeros 47 ++ (be 2 0x104 ++ be 2 36 ++ zeros 32) ++
  (be 2 0x204 ++ be 2 108 ++ be 4 9 ++ zeros 100) ++ (be 2 0x404 ++ be 2 40 ++ be 2 16 ++ be 2 16 ++ zeros 32))

/-- Slot 16 holds an AES key that the lanes of one kind may use, and provisioned slot 0 holds it CURRENT as KEY_ID 9. -/
def zKey (lane : Nat) : State :=
  let s := ((((zNtp.set E.vaultState 0 1).set E.keyState 16 3).set E.keyClass 16 1).set E.keyType 16 1).set E.keyUsage 16 3
  let s := ((s.set E.keyEngineMask 16 0xFFFF).set E.keyRef 16 0x1000001).set E.laneState 0 lane
  let s := (((s.set E.ntsKeySource 0 1).set E.ntsMkKey 0 0x1000001).set E.ntsMkId 0 9).set E.ntsMkState 0 2
  { s with vault := { s.vault with keys := [(16, shareWith (zeros 32) (zeros 32))] } }

/-- The frame waits for the service, which takes its request; its structure is this, and `c` holds of it and the state after taking it. -/
def served (u : State) (f : RxFrame) (bad nts : Bool) (c : NtpRx → State → Bool) : Bool :=
  !u.power.held && match ntpRxOf f with
  | some x => decide (((seen u f).port x.port).inbox.find? (fun g => decide (g.cls = 5 ∧ ntpRxOf g = some x)) = some f) &&
    (let g := (seen u f).frameTaken x.port f
     !g.ptpQuiet && g.ntpTakes x && ntpMalformed x == bad && isNts x == nts && c x g)
  | none => false

/-- The service after a request has been counted and charged. -/
def charged (x : NtpRx) (g : State) : Bool × State := ((g.bump E.ntpRequests).svcPacket (isNts x) true).charge x

/-- `Obligations.NtpCommands`: values that meet the hypotheses of each of its clauses. -/
theorem witness_NtpCommands : allHold [
    served zNtp plainReq false false fun x g => g.n E.ntpAuthMode ≠ 1 ∧ (charged x g).1,
    served zNtp shortReq true false fun _ _ => true,
    served zNtsOnly plainReq false false fun _ g => g.n E.ntpAuthMode = 1,
    served (zRate 0) plainReq false false fun x g => g.n E.ntpAuthMode ≠ 1 ∧ (charged x g).1 = false ∧ ((charged x g).2.bump E.ntpRateDrop).flag E.ntpKodEnable = false,
    served (zRate 1) plainReq false false fun x g => g.n E.ntpAuthMode ≠ 1 ∧ (charged x g).1 = false ∧ ((charged x g).2.bump E.ntpRateDrop).flag E.ntpKodEnable,
    served zNtp ntsReq false true fun x g => (charged x g).1 && (ntpExts x).any fun l => (fieldsOf l 0x204).head?.any fun off =>
    decide (((charged x g).2.bump E.ntpNtsRequests).ntsAccepted (beAt ((x.payload.drop (off.2.1 + 4)).take 104) 0 4) x.stamp = none),
    served (zKey 1) ntsReq false true fun x g => (charged x g).1,
    served (zKey 1) ntsReq false true fun x u => (ntpExts x).any fun l => (fieldsOf l 0x204).head?.any fun off =>
    let keyId := beAt ((x.payload.drop (off.2.1 + 4)).take 104) 0 4
    let z := (u.useKey (u.ntsUse 0 keyId).1 (u.ntsUse 0 keyId).2).2
    decide (keyId = 9 ∧ (fieldsOf l 0x404).head?.isSome ∧ u.ntsAccepted keyId x.stamp = some 0 ∧
    (u.useKey (u.ntsUse 0 keyId).1 (u.ntsUse 0 keyId).2).1 = .key (zeros 32) ∧ z.n E.drbgState = 1 ∧ z.ntsCurrent = some (9, 0) ∧
    (z.useKey (z.ntsUse 0 9).1 (z.ntsUse 0 9).2).1 = .key (zeros 32)),
    ev z true,
    let u := State.into (z.set E.ntsRotatePeriod 0 60) (60 * secondUnit); ev u (u.n E.ntsKeySource = 0 ∧ u.atWhole (u.n E.ntsRotatePeriod * secondUnit)),
    w spMkCtrl .seq 0 3 [1] ((z.set E.ntsMkKey 3 0x100001).set E.ntsMkId 3 9),
    w spMkCtrl .seq 0 3 [2] z] = true := by decide +kernel

/-- A frame on port 4, with its FCS. -/
def onTap : TapObs := ⟨4, 5, sealed (zeros 64), false⟩

/-- Port 4 is a capture port of world 3, linked and calibrated; the digest key may be usable. -/
def zTap (lane : Nat) : State :=
  let s := ((((zKey lane).set E.portRole 4 1).set E.tapWorld 4 3).set E.portLink 4 1).set E.portCalState 4 2
  (s.set E.tapDigestKey 0 0x1000001).set E.copyState 22 1

/-- A record that waits for its digest. -/
def waiting : TapRec := { world := 3, port := 4, time := 0, bound := 0, flags := 0, length := 64, seq := 0, msg := some (zeros 64) }

/-- The same in the queue. -/
def zDig (lane : Nat) : State := { zTap lane with tap := { (zTap lane).tap with records := [waiting] } }

/-- The frame is recorded; `c` holds of the state once the marks before it are, and of whether its stamp is invalid. -/
def taps (u : State) (c : State → Bool → Bool) : Bool :=
  let e := u.stampAt (portIsland 4) onTap.edge
  let a := u.inlinePass 4 e onTap.bytes
  let b := a.marksBefore 4 (a.rxStamp 4 e)
  ev u (u.n E.tapWorld 4 = 3 ∧ a.n E.portRole 4 ≠ 0 ∧ a.ptpQuiet = false ∧ a.linkIsUp 4 ∧ onTap.bytes ≠ [] ∧ fcsOk onTap.bytes) && c b (b.tapInvalid 4)

/-- `Obligations.TapCommands`: values that meet the hypotheses of each of its clauses. -/
theorem witness_TapCommands : allHold [
    ev ((zTap 2).set E.tapWorld 4 0xFF) (((zTap 2).set E.tapWorld 4 0xFF).n E.tapWorld 4 = 0xFF) &&
    (taps (zTap 2) fun b bad => bad = false ∧ (b.bump E.tapFrames 4).keyReason (b.bump E.tapFrames 4).digestUse = 0 ∧ b.tap.records = []) &&
    (taps ((zTap 2).set E.portCalState 4 1) fun b bad => bad ∧ ((b.bump E.tapFrames 4).bump E.tapInvalid 4).keyReason ((b.bump E.tapFrames 4).bump E.tapInvalid 4).digestUse = 0) &&
    (taps ((zTap 2).set E.tapDigestKey 0 0) fun b bad => bad = false ∧ (b.bump E.tapFrames 4).keyReason (b.bump E.tapFrames 4).digestUse ≠ 0),
    let u := z.set E.inlineState 4 2; ev u (u.n E.inlineState 4 = 2),
    ev (zDig 2) (((zDig 2).useKey (zDig 2).digestUse).1 = .key (zeros 32) ∧ (zDig 2).tap.records.find? (·.msg.isSome) = some waiting),
    let u := (zDig 2).set E.tapDigestKey 0 0; ev u ((u.useKey u.digestUse).1 = .refused 2 ∧ u.tap.records.find? (·.msg.isSome) = some waiting),
    ev z true,
    let u := { (zRing 28) with tap := { z.tap with losses := [⟨4, 3, 1, 0, 0⟩] } }; ev u ((u.nextLoss 3).isSome ∧ u.ringRoom 28),
    w spTapWorld .seq 0 4 [0xFF] z,
    w spInlinePeer .seq 0 4 [5] z,
    let u := z.set E.inlineState 4 2; ev u (u.n E.inlineState 4 = 2),
    let u := z.set E.inlineState 4 3; ev u (u.n E.inlineState 4 = 3)] = true := by decide +kernel

/-- Juniper runs with its GNSS slot at slot 3. -/
def zGnss : State := ((((z.set E.bootStage 0 8).set E.gnssEnable 0 1).set E.gnssSystems 0 15).set E.refSource 3 0x100).set E.refEnable 3 2

/-- Band 1 has had no strobes since this tick. -/
def zBad (now : Nat) : State := { zGnss with gnss := { zGnss.gnss with bad := [(1, some 0)] }, now := now }

/-- GPS 7 is not excluded, or excluded until tick 50. -/
def zSat (u : State) : State := u.setSat 3 (some { sys := 0, prn := 7, lost1 := false, lost2 := false, n := 0, cmc := [], fit1 := 0, fit2 := 0, exclUntil := some 50 })

/-- An epoch in which nothing was received. -/
def nothing : EpochObs := ⟨[], [], [], false, none, none, 0, none, none, none⟩

/-- Slot 5 is qualified and selected, and sleep is enabled. -/
def zSleepy : State :=
  let s := (((zGnss.set E.refSource 5 0x200).set E.refEnable 5 2).set E.hbSelected 0 5).set E.refState 5 3
  s.set E.gnssSleepEnable 0 1

/-- `Obligations.GnssEpochs`: values that meet the hypotheses of each of its clauses. -/
theorem witness_GnssEpochs : allHold [
    ev zGnss (zGnss.present 0 ∧ zGnss.gnssAsleep = false ∧ tabGet none 1 zGnss.gnss.bad = none),
    ev (zBad 7) ((zBad 7).present 0 ∧ (zBad 7).gnssAsleep = false ∧ tabGet none 1 (zBad 7).gnss.bad = some 0),
    ev (zBad (10 ^ 10)) (tabGet none 1 (zBad 7).gnss.bad = some 0 ∧ 0 + ticksMs ((zBad (10 ^ 10)).n E.gnssCoastMax) < 10 ^ 10),
    ev (zBad 7) (tabGet none 1 (zBad 7).gnss.bad = some 0 ∧ 7 ≤ 0 + ticksMs ((zBad 7).n E.gnssCoastMax)),
    ev (zBad 7) (tabGet none 1 (zBad 7).gnss.bad = some 0 ∧ 7 ≤ 0 + ticksMs ((zBad 7).n E.gnssCoastMax)),
    ev (zBad (10 ^ 10)) (tabGet none 1 (zBad 7).gnss.bad = some 0 ∧ 0 + ticksMs ((zBad (10 ^ 10)).n E.gnssCoastMax) < 10 ^ 10),
    let u := { zGnss with gnss := { zGnss.gnss with fixed := true } }; ev u (u.present 0 ∧ u.gnssAsleep = false ∧ u.quietOver ∧ bitOf (u.n E.gnssSystems) 0 ∧ prnOk 0 7 ∧
    (u.n E.gnssElevMask : Int) * 10 - 20 ≤ 450 ∧ (List.range 64).find? (fun i => (u.sat i).isNone) = some 0 ∧ (List.range 64).all (fun i => (u.sat i).isNone) ∧
    ((((u.setSat 0 (some { sys := 0, prn := 7, lost1 := u.clusterOut 0 0, lost2 := u.clusterOut 1 0, n := 0, cmc := [], fit1 := u.now, fit2 := u.now })).set
    E.gnssSvId 0 (satKey 0 7)).setInt E.gnssSvElev 0 450).set E.gnssSvAzim 0 0 |>.satRefresh 0).gnss.fixed),
    let u := State.into zGnss (5 * secondUnit); ev u (u.present 0 ∧ u.quietOver ∧ u.atWhole (secondUnit / max 1 u.gnssRate) ∧ u.gnss.lastEpoch = none ∧ u.gnssAsleep = false ∧
    (({ u with gnss := { u.gnss with lastEpoch := some (ofSec 5), rate := u.gnssRate } } : State).setT96 E.gnssEpochTime 0 (ofSec 5) |>.perfEvent 0x501 0).gnss.restart = false),
    let u := { zGnss with gnss := { zGnss.gnss with lastEpoch := some (ofSec 5) } }; ev u (u.privet.time / (secondUnit / max 1 u.gnssRate) * (secondUnit / max 1 u.gnssRate) / 2 ^ 40 ≤ ofSec 5),
    let u := { zSat zGnss with now := 50 }; ev u ((u.sat 3).any fun x => x.exclUntil.any fun d => d ≤ u.now),
    let u := { zGnss with gnss := { zGnss.gnss with trip := some 0 }, now := 10 ^ 13 }; ev u (u.gnss.trip = some 0 ∧ 0 + ticksS (u.n E.gnssSpfHold) ≤ u.now)] = true := by decide +kernel

/-- `Obligations.GnssCommands`: values that meet the hypotheses of each of its clauses. -/
theorem witness_GnssCommands : allHold [
    let u := State.into zGnss (3 * (secondUnit / 100)); ev u (u.present 0 ∧ u.gnssAsleep = false ∧ u.atWhole (secondUnit / 100)),
    let u := State.into zGnss (secondUnit / 100 + secondUnit / 200); ev u (u.atWhole (secondUnit / 100) = false),
    w spJamCal .seq 0 0 [1] zGnss,
    let u := State.into { zGnss.set E.gnssState 0 2 with gnss := { zGnss.gnss with offsets := [(ofSec 4, 0, 0)] } } (5 * secondUnit)
    ev u (u.copy56 (leafFor 0x501) * 10 ^ 6 / 2 ^ 56 = 5 * 10 ^ 15 ∧ u.gnss.pulseSec < 5 ∧ u.present 0 ∧ u.gnssAsleep = false ∧ 2 ≤ u.n E.gnssState ∧
    u.pulseOffset 5 = some 0 ∧ roundDiv ((5 : Int) * 10 ^ 15 - 0) 1000 * 1000 ≤ 5 * 10 ^ 15),
    ev z (z.n E.gnssState ≤ 1),
    let v := zSleepy.crossRefresh; ev zSleepy (v.present 0 ∧ v.gnssAsleep = false ∧ v.sleepAsked ∧ v.gnss.dwell = none ∧ v.gnss.crossOk ∧ v.gnss.wakeAt ≠ some v.now),
    let u := zGnss.set E.gnssPowerState 0 1; ev u (u.n E.gnssPowerState = 1 ∧ u.sleepAsked = false),
    ev zGnss (zGnss.n E.gnssPowerState ≠ 1),
    let u := { zGnss.set E.gnssPowerState 0 1 with now := 10 ^ 14 }; ev u (u.n E.gnssPowerState = 1 ∧ u.gnss.sleepFrom + ticksS (u.n E.gnssWakeInterval) ≤ u.now),
    w spWakeCmd .seq 0 0 [1] zGnss,
    let u := { zGnss with gnss := { zGnss.gnss with dwell := some 5 }, now := 5 }; ev u (u.gnss.dwell = some 5)] = true := by decide +kernel

/-- Slot 16 is declared for an AES key in PROVISIONED, with 32 bytes of material staged. -/
def zSlot (st : Nat) : State :=
  let s := ((z.set E.lifecycle 0 2).set E.keyState 16 st).set E.keyClass 16 1
  ((s.set E.keyType 16 1).setOct E.keyMaterial 16 (zeros 32)).set E.vaultState 0 1

/-- The same, with a wrapping key in slot 17. -/
def zWrap : State :=
  let s := (((zSlot 2).set E.keyState 17 3).set E.keyClass 17 1).set E.keyType 17 8
  (((s.set E.keyUsage 17 32).set E.keyRef 17 0x1100001).set E.keyEngineMask 17 0xFFFF).set E.laneState 0 1

/-- `Obligations.KeyCommands`: values that meet the hypotheses of each of its clauses. -/
theorem witness_KeyCommands : allHold [
    w spKeyCtrl .seq 0 16 [1] (zSlot 2),
    w spKeyCtrl .seq 0 16 [2] (zSlot 2) fun v => v.n E.drbgState = 1,
    w spKeyCtrl .seq 0 16 [2] ((zSlot 2).set E.drbgState 0 2) fun v => v.n E.drbgState ≠ 1,
    w spKeyCtrl .seq 0 16 [3] (zSlot 3),
    w spKeyCtrl .seq 0 16 [4] (zSlot 3),
    w spKeyCtrl .seq 0 16 [5] (zSlot 3),
    let v := zWrap.met spKeyCtrl .seq 0; let c : Ctx := ⟨.seq, 0, 16, [BitVec.ofNat 64 (17 * 65536 + 6)]⟩
    !zWrap.power.held && decide (zWrap.worldOf .seq = some 0 ∧ v.gateCodes spKeyCtrl c = [] ∧ v.n E.keyState 16 = 2 ∧ v.n E.keyClass 16 = 1 ∧
    tabGet 0 16 v.vault.quietUntil ≤ v.now ∧ 2 ≤ v.n E.lifecycle ∧ v.n E.keyType 16 = 1 ∧ v.keyReason (wrapUse c) = 0) && !privateType 1,
    ev z (tabGet 0 16 z.vault.quietUntil ≤ 0),
    w spVaultQuietForce .seq 0 0 [1] z,
    let u := { z with vault := { z.vault with running := [⟨16, none, []⟩] } }; ev u (u.vault.running = [⟨16, none, []⟩]),
    ev z (z.vault.running = []),
    ev (zSlot 2) (privateType ((zSlot 2).n E.keyType 16) = false),
    ev z (privateType 5 ∧ (1 : Nat) ≠ 5 ∧ (1 : Nat) ≠ 7)] = true := by decide +kernel

/-- Anchor shadow 2 in a state, for an HMAC or ECDSA key. -/
def zSh (st role : Nat) : State :=
  let s := ((z.set E.lifecycle 0 2).set E.shState 2 st).set E.shRole 2 role
  ((s.set E.shType 2 (roleType role)).setOct E.shMaterial 2 (zeros (typeLength (roleType role)))).set E.shUsage 2 (typeUsage (roleType role))

/-- An anchor commit at a step. -/
def zCommit (st : Nat) (now : Nat) : State :=
  { z.set E.anchorCommitState 0 st with vault := { z.vault with commit := some ⟨1, [], 0⟩ }, now := now }

/-- `Obligations.AnchorCommands`: values that meet the hypotheses of each of its clauses. -/
theorem witness_AnchorCommands : allHold [
    w spShCtrl .seq 0 2 [1] (zSh 0 1),
    w spShCtrl .seq 0 2 [2] (zSh 0 3) fun v => v.n E.drbgState = 1,
    w spShCtrl .seq 0 2 [2] ((zSh 0 3).set E.drbgState 0 2) fun v => v.n E.drbgState ≠ 1,
    w spShCtrl .seq 0 2 [3] ((zSh 0 1).set E.anchorState 2 1),
    w spShCtrl .seq 0 2 [4] (zSh 1 1),
    ev (zSh 1 1) ((zSh 1 1).n E.shState 2 = 1 ∧ (zSh 1 1).n E.shKcv 2 = (zSh 1 1).n E.shKcvExpect 2),
    let u := (zSh 1 1).set E.shKcvExpect 2 5; ev u (u.n E.shState 2 = 1 ∧ u.n E.shKcv 2 ≠ u.n E.shKcvExpect 2),
    ev z (z.n E.shState 2 ≠ 1),
    w spAnchorCommit .seq 0 0 [1] (zSh 2 1),
    ev (zCommit 1 0) ((zCommit 1 0).n E.anchorCommitState = 1),
    ev (zCommit 2 0) ((zCommit 2 0).n E.anchorCommitState = 2),
    ev (zCommit 3 0) ((zCommit 3 0).n E.anchorCommitState = 3),
    ev (zCommit 4 0) ((zCommit 4 0).n E.anchorCommitState = 4),
    ev (zCommit 2 0) ((zCommit 2 0).n E.anchorCommitState ≤ 3),
    ev (zCommit 2 (10 ^ 9)) (0 + ticksS 1 < 10 ^ 9),
    ev z z.vault.commit.isNone] = true := by decide +kernel

/-- `Obligations.VaultCommands`: values that meet the hypotheses of each of its clauses. -/
theorem witness_VaultCommands : allHold [
    let u := State.into (zSlot 3) (7 * (secondUnit / 1000)); ev u (u.n E.drbgState = 1 ∧ u.atMilli),
    let u := z.set E.drbgState 0 2; ev u (u.n E.drbgState ≠ 1),
    let u := State.into z secondUnit; ev u (u.n E.drbgState = 1 ∧ u.atSecond),
    let u := { z with draws := 2 ^ 20 }; ev u (u.n E.drbgState = 1 ∧ u.vault.requests + 2 ^ 20 ≤ u.draws),
    ev z true,
    ev (z.set E.drbgState 0 2) ((z.set E.drbgState 0 2).n E.drbgState = 2),
    ev z ((5 : Nat) < 1024),
    w spSelftest .seq 0 0 [1] z,
    w spCertBurn .seq 0 0 [1] (z.set E.lifecycle 0 1)] = true := by decide +kernel

/-- Fault record 3 in a state, of a source. -/
def zRec (st src : Nat) : State := z.setRecord 3 { state := st, source := src, sources := [src], gen := 1, tick := 0, sev := 1 }

/-- `Obligations.FaultCommands`: values that meet the hypotheses of each of its clauses. -/
theorem witness_FaultCommands : allHold [
    ev z (isSource 128 ∧ z.sourceAbsent 128 = false ∧ z.holly.selfFault = false),
    ev z (57 % 64 = 57 ∧ 56 % 64 = 56),
    ev z (isCondition 12 ∧ z.conditionHeld 12 = false),
    ev z (z.conditionHeld 5),
    let u := { zRec 1 128 with now := 10 ^ 10 }; ev u ((u.record 3).state = 1 ∧ (u.record 3).tick + ticksUs (u.n E.hollyMergeWindow) ≤ u.now ∧ u.holly.selfFault = false),
    ev (z.set E.fltState 128 2) ((z.set E.fltState 128 2).n E.fltState 128 = 2),
    w spFltClear .seq 0 0 [BitVec.ofNat 64 (3 * 2 ^ 24 + 1)] (zRec 2 128) fun v => v.recordOf (3 * 2 ^ 24 + 1) = some 3 ∧ (v.record 3).state ≠ 3,
    ev z z.power.oscin,
    ev { z with power := { z.power with oscin := false } } true,
    ev z (z.holly.selfFault = false),
    ev z (z.holly.selfFault = false),
    w spMaintCtrl .seq 0 0 [1] z,
    w spMaintCtrl .seq 0 0 [2] (z.raise 452)] = true := by decide +kernel

/-- `Obligations.BistCommands`: values that meet the hypotheses of each of its clauses. -/
theorem witness_BistCommands : allHold [
    w spBistStart .seq 0 0 [BitVec.ofNat 64 (0x3000 + 0x510)] z && w spBistStart .seq 0 0 [BitVec.ofNat 64 (0x3000 + 0x2FF)] (z.raise 452),
    ev z ((0x510 : Nat) % 256 ≠ 255),
    ev z (z.holly.testing.contains 0x510 = false),
    (let u := { z with holly := { z.holly with testing := [0x50F], testKind := 3 } }; ev u (u.holly.testing.contains 0x50F ∧ (0x50F : Nat) % 256 ≠ 255 ∧
    u.holly.testing.filter (· ≠ 0x50F) = [] ∧ (0x50F : Nat) < 0x510)) &&
    (let u := { z with holly := { z.holly with testing := [0x501, 0x50F], testKind := 3 } }; ev u (u.holly.testing.contains 0x50F ∧
    (u.holly.testing.filter (· ≠ 0x50F)).all (fun i => i % 256 = 255) = false))] = true := by decide +kernel

/-- `Obligations.PerfCommands`: values that meet the hypotheses of each of its clauses. -/
theorem witness_PerfCommands : allHold [
    w spPerfGlobal .seq 0 0 [1] z,
    w spPerfGlobal .seq 0 0 [2] z,
    w spPerfGlobal .seq 0 0 [3] z,
    w spPerfCtrl .seq 0 127 [1] z,
    w spSampleCtrl .seq 0 0 [1] z,
    w spSampleSel .seq 0 0 [4095] z,
    let u := State.into z (secondUnit / 10); ev u (u.atWhole (secondUnit / 10)),
    let u := State.into z (secondUnit / 10 + secondUnit / 20); ev u (u.atWhole (secondUnit / 10) = false)] = true := by decide +kernel

/-- `Obligations.JtagCommands`: values that meet the hypotheses of each of its clauses. -/
theorem witness_JtagCommands : allHold [
    State.power (if heldCold.power.held then heldCold else heldCold.runTo 5) = heldCold.power,
    (State.runTo z 5).now = 5] = true := by decide +kernel

/-- `Obligations.StepRunsCommand`: values that meet the hypotheses of each of its clauses. -/
theorem witness_StepRunsCommand : allHold [
    { z with pending := [.oscinLoss 5] }.pending = [.oscinLoss 5],
    z.pending = []] = true := by decide +kernel

/-- `Obligations.ResetState`: values that meet the hypotheses of each of its clauses. -/
theorem witness_ResetState : allHold [
    State.reset.n E.bootStage = 1 && decide (State.reset.wordAt E.hsTimeout 0 0 0 = entryDefault E.hsTimeout 0 0)] = true := by decide +kernel

/-- `Obligations.StepKeepsStore`: values that meet the hypotheses of each of its clauses. -/
theorem witness_StepKeepsStore : allHold [
    tabRising z.dict && match step { z with pending := [.oscinLoss 5] } with | .next _ => true | _ => false] = true := by decide +kernel

/-- `Obligations.ExecKeepsQueue`: values that meet the hypotheses of each of its clauses. -/
theorem witness_ExecKeepsQueue : allHold [
    match exec (.oscinLoss 5) { z with pending := [.gnssWake 9] } with | .next s' => decide (s'.pending = [.gnssWake 9]) | _ => false] = true := by decide +kernel

/-- `Obligations.WordsHold`: values that meet the hypotheses of each of its clauses. -/
theorem witness_WordsHold : allHold [
    tabRising z.dict && decide (dictKey E.refNominal 9 0 0 ≠ dictKey E.refSource 9 0 0),
    decide (2 ^ 48 * (10 ^ 9 * 65536) - 1 < 2 ^ 48 * (10 ^ 9 * 65536) ∧ ofSec (2 ^ 48 - 1) < 2 ^ 48 * (10 ^ 9 * 65536))] = true := by decide +kernel

/-- `Obligations.CorShadows`: values that meet the hypotheses of each of its clauses. -/
theorem witness_CorShadows : allHold [
    tabRising z.dict && z.corTick.isEmpty && decide ((15 : Nat) < 16 ∧ dictKey E.refused 3 0 0 ≠ dictKey E.refused 3 0 1)] = true := by decide +kernel

/-- `REF_NOMINAL` as a write-once entry. -/
def w1Entry : Special := { entry := { E.refNominal with cls := .w1 } }

/-- The write's world, and the codes it meets. -/
def codesOf (sp : Special) (m : Master) (wd i : Nat) (ws : List Word) (u : State) (c : List Nat → Bool) : Bool :=
  decide (u.worldOf m = some wd) && c ((u.met sp m wd).writeCodes sp ⟨m, wd, i, ws⟩)

/-- PCIe function 0 acts for world 3. -/
def z3 : State := z.set E.bindPcie 0 3

/-- `Obligations.WorldDenied`: values that meet the hypotheses of each of its clauses. -/
theorem witness_WorldDenied : allHold [
    codesOf (plain E.refNominal) (.pcie 0) 3 0 [5] z3 fun l => !l.contains 1 && !l.contains 2 && !(z3.met (plain E.refNominal) (.pcie 0) 3).mayWrite 3 E.refNominal 0,
    z3.worldOf (.pcie 0) = some 3 && (placeOf 0x28C0 0).isSome && !mayRead 3 0x28C0,
    zp.worldOf (.pcie 0) = some 0 && (spotOf (.bar (0xB010 * 2048 + 0x27 * 8) 8)).aligned && zp.readCodes 0 0xB010 0x27 = [] && (zp.latched (.pcie 0) 0xB010 0x27).isNone &&
    (placeOf 0xB010 0x27).any (fun p => p.entry.cls = .wo && p.k < p.entry.words)] = true := by decide +kernel

/-- `Obligations.RefusedWrites`: values that meet the hypotheses of each of its clauses. -/
theorem witness_RefusedWrites : allHold [
    codesOf (plain E.refNominal) .seq 0 0 [BitVec.ofNat 64 (2 ^ 40)] z fun l => decide (resolve l = 7),
    codesOf (plain E.bindPcie) .seq 0 1 [5] z fun l => decide (resolve (l ++ [6]) = 6),
    codesOf w1Entry .seq 0 0 [10000000] { z with control := { z.control with w1 := [dictKey E.refNominal 0 0 0] } } fun l => decide (resolve l = 5),
    codesOf (plain E.refNominal) .seq 0 0 [10000000] { z with control := { z.control with locked := true } } fun l => decide (resolve l = 4) && lockable E.refNominal] = true := by decide +kernel

/-- `Obligations.LowestCode`: values that meet the hypotheses of each of its clauses. -/
theorem witness_LowestCode : allHold [
    resolve [9, 1, 2] = 1,
    resolve [9, 2, 7] = 2,
    resolve [0, 9, 7, 0xA] = 7,
    resolve [0, 0] = 0] = true := by decide +kernel

/-- `Obligations.PlainWrites`: values that meet the hypotheses of each of its clauses. -/
theorem witness_PlainWrites : allHold [
    tabRising z.dict && E.hsTimeout.cls = .rw && E.hsTimeout.words = 1 && w (plain E.hsTimeout) .seq 0 0 [500] z && (z.write (plain E.hsTimeout) .seq 0 [500]).1 = 0] = true := by decide +kernel

/-- `Obligations.ValueRange`: values that meet the hypotheses of each of its clauses. -/
theorem witness_ValueRange : allHold [
    E.refNominal.ty = .u32 && 2 ^ tyBits .u32 ≤ (BitVec.ofNat 64 (2 ^ 32)).toNat,
    E.portRxDelay.ty = .i32 && decide ((2 : Int) ^ 31 ≤ (BitVec.ofNat 64 (2 ^ 31)).toInt),
    E.privetSmearEnable.ty = .bool && decide ((2 : Word) ≠ 0 ∧ (2 : Word) ≠ 1),
    !E.hsTimeout.vals.isEmpty && E.hsTimeout.vals.all (fun r => decide ((0 : Int) < r.1 ∨ r.2 < 0)),
    E.hsTimeout.vals.any (fun r => decide (r.1 ≤ 500 ∧ (500 : Int) ≤ r.2))] = true := by decide +kernel

/-- `Obligations.Bar0Offsets`: values that meet the hypotheses of each of its clauses. -/
theorem witness_Bar0Offsets : allHold [
    decide (2 ^ 27 + 0xFFFF * 2 ^ 11 + 255 * 2 ^ 3 < (0x10000000 : Nat)) && spotOf (.bar (2 ^ 27 + 0xFFFF * 2 ^ 11 + 255 * 2 ^ 3) 8) = ⟨0xFFFF, 255, true, true⟩,
    decide ((0x100001 : Nat) % 8 ≠ 0),
    zp.worldOf (.pcie 0) = some 0 && !(spotOf (.bar (0x200 * 2048 + 4) 8)).aligned && zp.readCodes 0 0x200 0 = [],
    zp.worldOf (.pcie 0) = some 0 && (spotOf (.bar (0x200 * 2048 + 4) 8)).aligned = false && (placeOf 0x200 0).any (fun p => wordCodes p.entry [500] = [] &&
    formCodes (.pcie 0) p.entry 500 .plain = [] && (zp.perfEvent 0x701 0).gateCodes (specialOf p.entry) ⟨.pcie 0, 0, p.i, [500]⟩ = []),
    decide ((0x10000000 : Nat) ≤ 0x10000000)] = true := by decide +kernel

/-- `Obligations.BoundSums`: values that meet the hypotheses of each of its clauses. -/
theorem witness_BoundSums : allHold [
    boundAdd 0xFFFFFFFF 3 = 0xFFFFFFFF && boundAdd 3 0xFFFFFFFF = 0xFFFFFFFF,
    boundAdd 0xFFFFFFFE 1 = 0xFFFFFFFE && boundAdd 2 3 = 5,
    [5, 0xFFFFFFFF, 7].foldl boundAdd 0 = 0xFFFFFFFF,
    [5, 0xFFFFFFF0, 70].foldl boundAdd 0 = 0xFFFFFFFE && [5, 6].foldl boundAdd 0 = 11,
    (z.boundTerms 0).length < 100] = true := by decide +kernel

/-- `Obligations.Residues`: values that meet the hypotheses of each of its clauses. -/
theorem witness_Residues : allHold [
    residueOk (be 4 255) (res (be 4 255)) && res (be 4 255) = 0 && (be 4 255)[3]? = some 0xFF,
    decide (ofSec 5 + ofNs 999999999 < 2 ^ 48 * (10 ^ 9 * 65536)),
    decide (ofNs 7 ≤ ofSec 5 ∧ ofSec 5 < 2 ^ 48 * (10 ^ 9 * 65536)),
    decide (5 * 10 ^ 12 < 256 ^ 8 ∧ (5 : Nat) < 256 ^ 4 ∧ 10 ^ 12 < 256 ^ 6),
    decide ((0xFFFFFFF0 : Bound) < 0xFFFFFFFF ∧ (70 : Bound) < 0xFFFFFFFF)] = true := by decide +kernel

/-- A release from 1000 to 400 over 512 ticks. -/
def rel : Release := { e0 := 1000, b0 := 400, t0 := 0, period := 512, first := 0 }

/-- `Obligations.ReleaseLine`: values that meet the hypotheses of each of its clauses. -/
theorem witness_ReleaseLine : allHold [
    rel.b0 ≤ rel.e0 && 0 < rel.period && rel.t0 ≤ 256 && releaseLine rel 256 = 700,
    (releaseStep 1000 1000 none 400 0 512).1 ≥ 400,
    releaseStep 300 300 none 400 0 512 = (400, none),
    (releaseStep 0xFFFFFFFF 0xFFFFFFFF none 400 0 512).1 = 0xFFFFFFFE] = true := by decide +kernel

/-- `Obligations.EmittedBound`: values that meet the hypotheses of each of its clauses. -/
theorem witness_EmittedBound : allHold [
    !z.flag E.firstLock,
    { z with holly := { z.holly with safe := true } }.holly.safe,
    { z with bound := { z.bound with coreHeld := true } }.bound.coreHeld,
    (z.set E.firstLock 0 1).flag E.firstLock && !(z.set E.firstLock 0 1).holly.safe && !(z.set E.firstLock 0 1).bound.coreHeld,
    z.stampMode 2 ≤ 1] = true := by decide +kernel

/-- `Obligations.ClockAccuracy`: values that meet the hypotheses of each of its clauses. -/
theorem witness_ClockAccuracy : allHold [
    accuracyCode 25000 = 0x20 && accuracyCode 25001 = 0x21 && accuracyCode 2500000000 ≤ 0x2A,
    accuracyCode 2500000001 = 0x2B && accuracyCode 0xFFFFFFFD = 0x2B,
    (z.set E.firstLock 0 1).noTime = false && (z.set E.firstLock 0 1).holly.safe = false] = true := by decide +kernel

/-- `Obligations.PrivetRuns`: values that meet the hypotheses of each of its clauses. -/
theorem witness_PrivetRuns : allHold [
    let p : Privet := { slew := 5120 }; decide (p.slewFrom ≤ 0 ∧ (0 : Int) ≤ ((p.time + 7 * p.incr : Nat) : Int) - (min p.retard (7 * (p.incr - p.incr / 2)) : Nat) + ((if p.retarding then p.slewDone else slewAfter p.slew (0 + 7 - p.slewFrom)) - p.slewDone)),
    let p : Privet := {}; p.retard = 0 && p.slew = 0 && p.slewDone = 0,
    let p : Privet := { slew := -5120, slewFrom := 5, slewDone := -20, retard := 10 ^ 12 }; decide (p.slewFrom ≤ 7 ∧ p.slewDone = slewAfter p.slew (7 - p.slewFrom) ∧ p.slew.natAbs / 512 + 1 < p.incr / 2)] = true := by decide +kernel

/-- `Obligations.RemaskKeeps`: values that meet the hypotheses of each of its clauses. -/
theorem witness_RemaskKeeps : allHold [
    (shareWith (zeros 32) (zeros 32)).a.length = (shareWith (zeros 32) (zeros 32)).b.length && (shareWith (zeros 32) (zeros 32)).key = zeros 32] = true := by decide +kernel

/-! ### Ill-formed commands

One for each part of the check: an offset outside BAR0, a size of 0, the other transport's target, an index above 16
bits, a subindex above 8 bits. -/

theorem test_wf_offset : wellFormed (.registerWrite 0 (.pcie 0) (.bar 0x10000000 8) 0) = false := by decide
theorem test_wf_size0 : wellFormed (.corRead 0 (.pcie 0) (.bar 0 0)) = false := by decide
theorem test_wf_obj_on_pcie : wellFormed (.stagedWordWrite 0 (.pcie 0) (.obj 0x1000 0) 0) = false := by decide
theorem test_wf_bar_off_pcie : wellFormed (.registerWrite 0 .spit (.bar 0 8) 0) = false := by decide
theorem test_wf_guarded : wellFormed (.guardedValueWrite 0 7 (.bar 0x10000000 8) 0) = false ∧
    wellFormed (.guardedComplementWrite 0 7 (.obj 0 0) 0) = false := by decide
theorem test_wf_index : wellFormed (.spiRead 0 65536 0 0) = false := by decide
theorem test_wf_sub : wellFormed (.spiWrite 0 0 256 0 0) = false ∧ wellFormed (.spiGuarded 0 0 256 0 0 0) = false := by decide
theorem test_wf_taken : wellFormed (.registerWrite 0 (.pcie 0) (.bar 0x0FFFFFF8 64) 0) = true ∧
    wellFormed (.spiRead 0 65535 255 0) = true := by decide
/-- What is ill-formed leaves the state as it is. -/
theorem test_wf_kept : exec (.registerWrite 0 .spit (.bar 0 8) 0) z = .next z := rfl

/-! ### The worked examples of the spec -/

/-- R470's examples: `PORT_STAMP_MODE` of port 5, `REF_STATE` of slot 8, `KEY_CTRL` of slot 300, the complement of `TRIM_PROFILE`. -/
theorem test_bar0 : spotOf (.bar 0x03121000 8) = ⟨0x6242, 0, false, true⟩ ∧ spotOf (.bar 0x018C4000 8) = ⟨0x3188, 0, false, true⟩ ∧
    spotOf (.bar 0x05896238 8) = ⟨0xB12C, 0x47, false, true⟩ ∧ spotOf (.bar 0x08020000 8) = ⟨0x0040, 0, true, true⟩ := by decide
/-- The same entries of the dictionary. -/
theorem test_places : (placeOf 0x6242 0).any (fun p => p.entry == E.portStampMode && p.i == 5) ∧
    (placeOf 0x3188 0).any (fun p => p.entry == E.refState && p.i == 8) ∧
    (placeOf 0xB12C 0x47).any (fun p => p.entry == E.keyCtrl && p.i == 300) ∧
    (placeOf 0x0040 0).any (fun p => p.entry == E.trimProfile) := by decide +kernel
/-- World 3's write of `TRIM_PROFILE` is refused with 0x03 and leaves 0x0040_0003 in its `LAST_ABORT` (the example of R42). -/
theorem test_lastAbort : (((z3.write (specialOf E.trimProfile) (.pcie 0) 0 [1]).1 = 3) ∧
    (z3.write (specialOf E.trimProfile) (.pcie 0) 0 [1]).2.n E.lastAbort 3 = 0x00400003) := by decide +kernel
/-- A reserved part's unit: the `UNIT_PRESENT` of a PKY9612 is JUNIPER alone, and a Bramble entry is then refused with 0x02. -/
theorem test_absent : ((({ State.reset with otp := { State.reset.otp with mask := 1 } } : State).write (specialOf E.tapWorld) .seq 3 [2]).1 = 2) := by decide +kernel
/-- The rubidium pair of R126's example: B_hold after 3,600 s, 7,200 s and 28,800 s. -/
theorem test_hold : [3600, 7200, 28800].map (fun t => holdGrowth ⟨0, 0, 4850, 200000, 1000, 30, 3000000, 20000⟩ (t * 500000000)) =
    [6159, 7194, 13332] := by decide +kernel
/-- R130's example: 32 s into a release from 51,364 ps to 7,364 ps over 64 s the line stands at 29,364 ps. -/
theorem test_release : releaseLine ⟨51364, 7364, 0, 64 * 500000000, 0, none⟩ (32 * 500000000) = 29364 := by decide +kernel
/-- R210's example: a nominal of 156.25 MHz is prescaled by 16; one of 10 MHz by 1. -/
theorem test_prescale : prescaleFrom 156250000 1 8 = 16 ∧ prescaleFrom 10000000 1 8 = 1 := by decide
/-- R96's example: a slew of 2.048 ps a strobe interval is 4 fs a tick; both in 2⁻⁵⁶ ns. -/
theorem test_slew : slewAfter 147573953 512 = 147573953 ∧ slewAfter 147573953 1 = 288230 := by decide
/-- R256's example: .567 ns is 0x9126 in 2⁻¹⁶ ns. -/
theorem test_correction : 567 * 65536 / 1000 = 0x9126 ∧ corrBytes 0x9126 = 0x9126 ∧ corrBytes (-1) = 2 ^ 64 - 1 := by decide
/-- R319's and R418's handles. -/
theorem test_handles : partnerHandle 37 { gen := 5 } = 0x02500005 ∧ partnerHandle 38 { gen := 2 } = 0x02600002 ∧
    (z.setRecord 17 { gen := 41 }).recordHandle 17 = 0x11000029 := by decide +kernel
/-- R334's example: the DERIVED KEY_ID of second 1,812,400,300 under parent generation 3 and P = 86,400 s. -/
theorem test_keyId : (((z.set E.ntsParentKey 0 (16 * 2 ^ 20 + 3)).set E.keyRef 16 (16 * 2 ^ 20 + 3)).set E.ntsRotatePeriod 0 86400).derivedKeyId
    1812400300 = 0x030051F0 := by decide +kernel
/-- R328's example: 2,000 ps and 5,100 ps are each 1 unit of 2⁻¹⁶ s. -/
theorem test_ntpShort : ntpShort 2000 = 1 ∧ ntpShort 5100 = 1 ∧ ntpShort 0 = 0 := by decide
/-- R349's LOSS record of the example: first 50,824, last 51,112, 289 records. -/
theorem test_tapLoss : tapLossBytes ⟨6, 2, 0xC688, 0xC7A8, 289⟩ =
    be 4 0xC688 ++ be 4 0xC7A8 ++ be 4 0 ++ be 4 0xFFFFFFFF ++ be 1 6 ++ be 1 0x40 ++ be 2 0 ++ be 8 289 ++ be 4 0 := by decide +kernel

/-! ### Check values and corners -/

/-- The published check values of CRC-32C and of CRC-16 with polynomial 0x1021 from 0xFFFF, over `123456789`. -/
theorem test_crc : crc32c ((List.range 9).map (fun i => BitVec.ofNat 8 (0x31 + i))) = 0xE3069283 ∧
    spiCrc ((List.range 9).map (fun i => BitVec.ofNat 8 (0x31 + i))) = 0x29B1 := by decide +kernel
/-- R60's window: 64 below the highest is the last one taken, once; 65 below is not. -/
theorem test_window : seqWindow 100 0 36 = some (100, 2 ^ 63) ∧ seqWindow 100 (2 ^ 63) 36 = none ∧ seqWindow 100 0 35 = none := by decide
/-- R156's limits: code 0x20 says 25 ns, 0x21 says 100 ns. -/
theorem test_accuracy : accuracyBound 0x20 = 25000 ∧ accuracyBound 0x21 = 100000 := by decide
/-- No row of the command table has bits, so no word spells a command. -/
theorem test_noWords : decodeTableWord 16 0x1234 = none ∧ (State.reset.withFetchWord 16 0x1234).pending = [] := by decide
/-- On an empty queue one tick passes; a command is taken from the front. -/
theorem test_step : (match step State.reset with | .next s => decide (s.now = 1) | _ => false) = true ∧
    (match step { State.reset with pending := [.oscinLoss 3, .gnssWake 4] } with
      | .next s => decide (s.pending = [.gnssWake 4] ∧ s.power.oscin = false ∧ s.now = 3) | _ => false) = true := by decide +kernel
/-- SHA-256 of `abc`, the value of FIPS 180-4's example. -/
theorem test_sha256 : ofBe (sha256 [0x61, 0x62, 0x63]) = 0xba7816bf8f01cfea414140de5dae2223b00361a396177a9cb410ff61f20015ad := by decide +kernel
/-- `Obligations.NtpCommands`, the RATE answer: the bucket of a request over its limit has sent none, whatever the bucket is. -/
theorem witness_rateAnswer (x : NtpRx) (g v y : State) (hb : g.ntp.buckets = []) (h0 : g.n E.ntpRateBurst = 0)
    (hv : g.charge x = (false, v)) (hy : v.bump E.ntpRateDrop = y) :
    (y.bucketAt (y.bucketNo x) (y.stampTick x.stamp)).kod = none := by
  have hk : ∀ x : State, ∀ k b, x.ntp.buckets = [(k, b)] → b.kod = none → ∀ j tick, (x.bucketAt j tick).kod = none := by
    intro x k b hx hn j tick
    unfold State.bucketAt
    rw [hx]
    by_cases e : k = j <;> simp [e, hn]
  have hc : g.bucketAt (g.bucketNo x) (g.stampTick x.stamp) = ⟨0, g.stampTick x.stamp, none⟩ := by
    simp [State.bucketAt, hb, h0]
  have : ¬ ticksS 1 ≤ 0 := by decide
  simp only [State.charge, hc, this, if_false, Prod.mk.injEq, true_and] at hv
  subst hv hy
  refine hk _ (g.bucketNo x) ⟨0, g.stampTick x.stamp, none⟩ ?_ rfl _ _
  obtain ⟨d, c, h⟩ := (g.setBucket (g.bucketNo x) ⟨0, g.stampTick x.stamp, none⟩).bump_eq E.ntpRateDrop 0 1
  rw [h]
  simp [State.setBucket, hb, tabInsert]

/-- An entry of the ledger. -/
def noted : LedgerEntry := ⟨0, 1, 0, 0, 0, 0, 0, 0, zeros 32⟩

/-- A full ledger. -/
def zFull : State := { z with bound := { z.bound with ledger := List.replicate 16383 noted ++ [noted] } }

/-- `Obligations.LedgerWraps`: a full ledger in a canonical store. -/
theorem witness_LedgerWraps : tabRising zFull.dict = true ∧ zFull.bound.ledger = List.replicate 16383 noted ++ [noted] ∧
    (List.replicate 16383 noted).length = 16383 ∧ noted.chain.length = 32 :=
  ⟨by decide +kernel, rfl, List.length_replicate, by decide⟩

/-- `Obligations.LedgerChained`: a ledger of two entries that is chained. -/
theorem witness_LedgerChained : ∃ x : LedgerEntry, ∀ i a b, [x, noted][i]? = some a → [x, noted][i + 1]? = some b →
    a.chain = sha256 (b.chain ++ ledgerHead a) := by
  refine ⟨{ noted with seq := 1, chain := sha256 (noted.chain ++ ledgerHead { noted with seq := 1 }) }, ?_⟩
  intro i a b ha hb
  match i with
  | 0 => simp only [List.getElem?_cons_zero, Option.some.injEq] at ha; simp at hb; subst ha hb; exact congrArg (fun l => sha256 (noted.chain ++ l)) (by simp only [ledgerHead])
  | i + 1 => simp at hb
end Sys2Proof.Tests
end

section
/-! A step takes the command at the front of the queue (log 2). -/

namespace Sys2Proof.Machine

theorem step_cons {c : Instr} {rest : List Instr} {s : State} (h : s.pending = c :: rest) :
    step s = exec c { s with pending := rest } := by
  rw [step, h]

theorem step_nil {s : State} (h : s.pending = []) : step s = .next s.tick := by
  rw [step, h]

/-- Settles O39: the two branches of the step. -/
theorem stepRunsCommand : Obligations.StepRunsCommand := ⟨fun _ _ _ => step_cons, fun _ => step_nil⟩

end Sys2Proof.Machine
end

section
/-! Residues (R25, R26): the residue of R25 is the value modulo 255, which is its bytes' sum modulo 255, since 256 leaves 1. -/

namespace Sys2Proof.Machine

/-- The sum of a message's bytes. -/
def byteSum (l : List Byte) : Nat := (l.map BitVec.toNat).sum

@[simp] theorem byteSum_nil : byteSum [] = 0 := rfl
@[simp] theorem byteSum_cons (b : Byte) (l : List Byte) : byteSum (b :: l) = b.toNat + byteSum l := by simp [byteSum]
@[simp] theorem byteSum_append (l k : List Byte) : byteSum (l ++ k) = byteSum l + byteSum k := by simp [byteSum]

/-- 256 is 1 modulo 255, so a value leaves what its bytes' sum leaves. -/
theorem ofBe_mod_255 (l : List Byte) : ofBe l % 255 = byteSum l % 255 := by
  have h : ∀ a, l.foldl (fun a (b : Byte) => a * 256 + b.toNat) a % 255 = (a + byteSum l) % 255 := by
    induction l with
    | nil => simp
    | cons b l ih =>
      intro a
      rw [List.foldl_cons, ih, byteSum_cons]
      omega
  simpa [ofBe] using h 0

/-- One subtraction of 255 a byte keeps the residue canonical, so it is the sum modulo 255. -/
theorem residue_eq_byteSum (l : List Byte) : residue l = byteSum l % 255 := by
  have h : ∀ r < 255, l.foldl (fun s (b : Byte) => let x := s + b.toNat; if x ≥ 255 then x - 255 else x) r =
      (r + byteSum l) % 255 := by
    induction l with
    | nil => intro r hr; simp [Nat.mod_eq_of_lt hr]
    | cons b l ih =>
      intro r hr
      have hb : b.toNat < 256 := b.isLt
      rw [List.foldl_cons, ih _ (by dsimp only; split <;> omega), byteSum_cons]
      dsimp only
      split <;> omega
  simpa [residue] using h 0 (by decide)

/-- The residue formed byte by byte is the value modulo 255 (R25). -/
theorem residue_eq_ofBe (l : List Byte) : residue l = ofBe l % 255 := by
  rw [residue_eq_byteSum, ofBe_mod_255]

/-- `n` bytes spell the value modulo 256 ^ n. -/
theorem ofBe_be (n v : Nat) : ofBe (be n v) = v % 256 ^ n := by
  have h : ∀ a, (be n v).foldl (fun a (b : Byte) => a * 256 + b.toNat) a = a * 256 ^ n + v % 256 ^ n := by
    induction n with
    | zero => simp [be, Nat.mod_one]
    | succ n ih =>
      intro a
      rw [be, List.foldl_cons, ih, Nat.mod_pow_succ, BitVec.toNat_ofNat, Nat.add_mul, Nat.mul_assoc, Nat.pow_succ' (m := 256),
        Nat.mul_comm (256 ^ n) (_ % _), Nat.add_assoc, Nat.add_comm (v % 256 ^ n)]
  simpa [ofBe] using h 0

/-- The residue of a number that fits its bytes is the number modulo 255. -/
theorem residue_be {n v : Nat} (h : v < 256 ^ n) : residue (be n v) = v % 255 := by
  rw [residue_eq_ofBe, ofBe_be, Nat.mod_eq_of_lt h]

/-- 0xFF is no residue, so it never agrees (R25). -/
theorem residueOk_ff (l : List Byte) : residueOk l 0xFF = false := by
  have : byteSum l % 255 < 255 := Nat.mod_lt _ (by decide)
  simp only [residueOk, residue_eq_byteSum, decide_eq_false_iff_not, BitVec.reduceToNat]
  omega

/-- A flipped bit adds its weight to the byte, or takes it away. -/
theorem toNat_flipBit (x : Byte) (b : Fin 8) :
    (x ^^^ (1#8 <<< b.val)).toNat = x.toNat + 2 ^ b.val ∨ x.toNat = (x ^^^ (1#8 <<< b.val)).toNat + 2 ^ b.val := by
  revert x b
  decide +kernel

/-- A single flipped bit changes the bytes' sum by its weight, which is below 255: the residue no longer agrees (R25). -/
theorem residueOk_flipBit {l : List Byte} {i : Nat} {x r : Byte} (b : Fin 8) (hx : l[i]? = some x) (hr : residueOk l r = true) :
    residueOk (l.set i (x ^^^ (1#8 <<< b.val))) r = false := by
  obtain ⟨hi, rfl⟩ := List.getElem?_eq_some_iff.1 hx
  have split (y : Byte) : byteSum (l.set i y) = byteSum (l.take i) + y.toNat + byteSum (l.drop (i + 1)) := by
    rw [List.set_eq_take_append_cons_drop, if_pos hi]
    simp [Nat.add_assoc]
  have whole : byteSum l = byteSum (l.take i) + l[i].toNat + byteSum (l.drop (i + 1)) := by
    rw [← split, List.set_getElem_self]
  have weight : 0 < 2 ^ b.val ∧ 2 ^ b.val < 255 := by revert b; decide
  simp only [residueOk, residue_eq_byteSum, decide_eq_true_eq, decide_eq_false_iff_not] at hr ⊢
  rw [split]
  rw [whole] at hr
  rcases toNat_flipBit l[i] b with h | h <;> omega

/-- The residue of a TIME96: its seconds and the rest of it, since 65536 units to a nanosecond are 1 modulo 255. -/
theorem residue_t96Bytes {t : Nat} (h : t < 2 ^ 48 * (10 ^ 9 * 65536)) :
    residue (t96Bytes t) = (t / (10 ^ 9 * 65536) + t % (10 ^ 9 * 65536)) % 255 := by
  have hs : secOf t < 256 ^ 6 := Nat.div_lt_of_lt_mul (by omega)
  have hn : nsOf t < 256 ^ 4 := Nat.lt_trans (Nat.mod_lt (t / 65536) (by decide : 0 < 10 ^ 9)) (by decide)
  have hf : fracOf t < 256 ^ 2 := Nat.mod_lt _ (by decide)
  have rest : t % (10 ^ 9 * 65536) = nsOf t * 65536 + fracOf t := by
    rw [Nat.mul_comm (10 ^ 9), Nat.mod_mul]
    unfold nsOf fracOf
    omega
  have part {n v : Nat} (hv : v < 256 ^ n) : byteSum (be n v) % 255 = v % 255 := by
    rw [← residue_eq_byteSum, residue_be hv]
  rw [residue_eq_byteSum, t96Bytes, byteSum_append, byteSum_append, rest, ← secOf]
  have := part hs
  have := part hn
  have := part hf
  omega

/-- The predicted residue of a TIME96 sum (R26): a carry into the seconds takes 10⁹ · 65536 away and adds 1, which is 96. -/
theorem residue_t96_add {a b : Nat} (h : a + b < 2 ^ 48 * (10 ^ 9 * 65536)) : residue (t96Bytes (a + b)) =
    residueSum (residue (t96Bytes a)) (residue (t96Bytes b))
      (ofBool (decide (10 ^ 9 * 65536 ≤ a % (10 ^ 9 * 65536) + b % (10 ^ 9 * 65536)))) := by
  have hq := Nat.add_div (a := a) (b := b) (c := 10 ^ 9 * 65536) (by decide)
  have hr := Nat.add_mod_eq_ite (k := 10 ^ 9 * 65536) (m := a) (n := b)
  rw [residue_t96Bytes h, residue_t96Bytes (t := a) (by omega), residue_t96Bytes (t := b) (by omega), hq, hr, residueSum]
  generalize a / (10 ^ 9 * 65536) = p, a % (10 ^ 9 * 65536) = x, b / (10 ^ 9 * 65536) = q, b % (10 ^ 9 * 65536) = y
  by_cases hc : 10 ^ 9 * 65536 ≤ x + y
  · simp only [hc, if_true, ofBool, decide_true]
    omega
  · simp only [hc, if_false, ofBool, decide_false, Bool.false_eq_true]
    omega

/-- The predicted residue of a TIME96 difference (R26): a borrow from the seconds is the carry's opposite, 159. -/
theorem residue_t96_sub {a b : Nat} (hb : b ≤ a) (h : a < 2 ^ 48 * (10 ^ 9 * 65536)) : residue (t96Bytes (a - b)) =
    residueDifference (residue (t96Bytes a)) (residue (t96Bytes b))
      (ofBool (decide (a % (10 ^ 9 * 65536) < b % (10 ^ 9 * 65536)))) := by
  obtain ⟨c, rfl⟩ := Nat.exists_eq_add_of_le hb
  have hlt : c % (10 ^ 9 * 65536) < 10 ^ 9 * 65536 := Nat.mod_lt _ (by decide)
  have hq := Nat.add_div (a := b) (b := c) (c := 10 ^ 9 * 65536) (by decide)
  have hr := Nat.add_mod_eq_ite (k := 10 ^ 9 * 65536) (m := b) (n := c)
  rw [Nat.add_sub_cancel_left, residue_t96Bytes (t := c) (by omega), residue_t96Bytes h, residue_t96Bytes (t := b) (by omega),
    hq, hr, residueDifference]
  revert hlt
  generalize b / (10 ^ 9 * 65536) = p, b % (10 ^ 9 * 65536) = x, c / (10 ^ 9 * 65536) = q, c % (10 ^ 9 * 65536) = y
  intro hlt
  by_cases hc : 10 ^ 9 * 65536 ≤ x + y
  · have borrow : x + y - 10 ^ 9 * 65536 < x := by omega
    simp only [hc, if_true, borrow, ofBool, decide_true]
    omega
  · have noBorrow : ¬ x + y < x := by omega
    simp only [hc, if_false, noBorrow, ofBool, decide_false, Bool.false_eq_true]
    omega

/-- The predicted residue of a product (R26). -/
theorem residue_mul {m n k x y : Nat} (hx : x < 256 ^ m) (hy : y < 256 ^ n) (hk : x * y < 256 ^ k) :
    residue (be k (x * y)) = residueProduct (residue (be m x)) (residue (be n y)) := by
  rw [residue_be hx, residue_be hy, residue_be hk, residueProduct, ← Nat.mul_mod]

/-- The predicted residue of a BOUND32 sum (R26, R121): that of 0xFFFF_FFFE where the sum saturates. -/
theorem residue_boundAdd {a b : Nat} (ha : a < 0xFFFFFFFF) (hb : b < 0xFFFFFFFF) : residue (be 4 (boundAdd a b)) =
    residueBoundSum (residue (be 4 a)) (residue (be 4 b)) (decide (0xFFFFFFFE < a + b)) := by
  have hs : boundAdd a b = min (a + b) 0xFFFFFFFE := if_neg (not_or.2 ⟨Nat.not_le.2 ha, Nat.not_le.2 hb⟩)
  rw [hs]
  by_cases hc : 0xFFFFFFFE < a + b
  · rw [Nat.min_eq_right (Nat.le_of_lt hc)]
    simp [residueBoundSum, hc]
  · rw [Nat.min_eq_left (by omega), residue_be (n := 4) (v := a) (by omega), residue_be (n := 4) (v := b) (by omega),
      residue_be (by omega)]
    simp [residueBoundSum, hc, Nat.add_mod]

/-- Settles O53: every clause goes through the residue as the bytes' sum modulo 255. -/
theorem residues : Obligations.Residues :=
  ⟨residue_eq_ofBe, residueOk_ff, fun _ _ b _ _ => residueOk_flipBit b, fun _ _ => residue_t96_add,
    fun _ _ => residue_t96_sub, fun _ _ _ _ _ => residue_mul, fun _ _ => residue_boundAdd⟩

end Sys2Proof.Machine
end

section
/-! Domains, islands and memory protection (R12 to R30): what each command does on its conditions. -/

namespace Sys2Proof.Machine

/-! ### What the operations do on their conditions -/

/-- A waiting request's item is delivered, whatever the command offers (R12). -/
theorem State.delivered_of_request {u : State} {chan dom rose : Nat} {x item : HsItem}
    (h : (u.channel4 chan dom).request = some (rose, x)) : u.delivered chan dom item = x := by
  simp [State.delivered, h]

/-- Without a waiting request the offered item is delivered (R12). -/
theorem State.delivered_of_none {u : State} {chan dom : Nat} {item : HsItem} (h : (u.channel4 chan dom).request = none) :
    u.delivered chan dom item = item := by
  simp [State.delivered, h]

/-- A request past its deadline, neither stalled nor acknowledged since, raises its domain's stall (R13). -/
theorem State.stall_late {u : State} {chan dom island rose rose' : Nat} {item x : HsItem}
    (hx : (u.channel4 chan dom).request.getD (rose, item) = (rose', x)) (hlate : rose' + u.n E.hsTimeout < u.now)
    (hs : (u.channel4 chan dom).stalled = false) (ha : ∀ a, (u.channel4 chan dom).acked = some a → a < rose') :
    u.stall chan dom island rose item =
      (u.setChannel4 chan dom { u.channel4 chan dom with request := some (rose', x), stalled := true }).raise
        (64 * dom + 58) none island := by
  have hacked : (u.channel4 chan dom).acked.all (fun a => decide (a < rose')) = true := by
    simpa [Option.all_eq_true] using ha
  simp only [State.stall, hx]
  exact if_pos ⟨hlate, by simp [hs], hacked⟩

/-- A request that has been acknowledged since it rose raises no stall (R13). -/
theorem State.stall_acknowledged {u : State} {chan dom island rose a : Nat} {item : HsItem}
    (hr : (u.channel4 chan dom).request = none) (ha : (u.channel4 chan dom).acked = some a) (hle : rose ≤ a) :
    u.stall chan dom island rose item = u := by
  simp [State.stall, hr, ha, Nat.not_lt.2 hle]

/-- The forward delay of a leaf is not the drift limit: setting the one leaves the other. -/
theorem State.treeDriftLimit_set_leafFwdDelay (u : State) (leaf v : Nat) :
    (u.set E.leafFwdDelay leaf v).n E.treeDriftLimit = u.n E.treeDriftLimit := by
  refine State.n_set_ne _ _ _ _ _ _ ?_
  simp only [dictKey, E.leafFwdDelay, E.treeDriftLimit]
  omega

/-- A word to read again is the one the scrubber reads next (R29). -/
theorem State.scrubWord_of_rescrub {u : State} {bank word : Nat}
    (h : u.islands.rescrub.find? (fun p => p.1 == bank) = some (bank, word)) : u.scrubWord bank = word := by
  simp [State.scrubWord, h]

/-- A clean re-read takes its word off the list; the patrol pass does not advance (R29). -/
theorem State.scrub_clean_again {u : State} {bank word : Nat}
    (h : u.islands.rescrub.find? (fun p => p.1 == bank) = some (bank, word)) :
    u.scrub bank .clean =
      { u with islands := { u.islands with rescrub := u.islands.rescrub.filter (· ≠ (bank, word)) } } := by
  have again : u.islands.rescrub.any (fun p => p.1 == bank) = true :=
    List.any_eq_true.2 ⟨_, List.mem_of_find?_eq_some h, by simp⟩
  simp [State.scrub, State.scrubWord_of_rescrub h, again]

/-- A clean read of the patrol pass advances it by one word (R28). -/
theorem State.scrub_clean_patrol {u : State} {bank : Nat} (h : ∀ p ∈ u.islands.rescrub, p.1 ≠ bank) :
    (u.scrub bank .clean).islands.scrubbed = tabPut 0 bank (tabGet 0 bank u.islands.scrubbed + 1) u.islands.scrubbed := by
  have first : u.islands.rescrub.any (fun p => p.1 == bank) = false := by
    simpa [List.any_eq_false] using fun a b hp => h (a, b) hp
  simp [State.scrub, first]

/-- What the receiver of a transfer does with the item that is delivered (R12, R15, R30). -/
def State.received (u : State) (h : Handshake) (item : HsItem) : State :=
  let v := u.acknowledge h.chan h.dom item (itemOk item)
  match item with
  | .time x _ => if itemOk item then v else v.residueRx h.dom h.island (fun f => f.stamp == x)
  | .bound x _ => if itemOk item then v else v.residueRx h.dom h.island (fun f => f.bound == x)
  | .sched i => v.schedReach i
  | .data _ => v

/-! ### The commands at their tick -/

section
variable {t : Nat} {s u : State} (hAt : At t s u)
include hAt

theorem exec_handshakeTransfer (h : Handshake) {item : HsItem} (hd : u.delivered h.chan h.dom h.item = item) :
    exec (.handshakeTransfer t h) s = .next (u.received h item) := by
  change execHandshakeTransfer t h s = _
  rw [execHandshakeTransfer, timed_at hAt, hd]
  cases item <;> rfl

theorem exec_hsStall (chan : Nat) (dom : Fin 8) (island rose : Nat) (item : HsItem) :
    exec (.hsStall t chan dom island (rose, item)) s = .next (u.stall chan dom island rose item) := by
  change execHsStall t chan dom island (rose, item) s = _
  rw [execHsStall, timed_at hAt]

theorem exec_epochStrobe_due (x : StrobeObs) (hnow : u.now % 512 = 16) (hat : u.islands.strobeAt ≠ some u.now) :
    exec (.epochStrobe t x) s = .next (u.strobe x) := by
  change execEpochStrobe t x s = _
  rw [execEpochStrobe, timed_at hAt, if_pos ⟨hnow, hat⟩]

theorem exec_epochStrobe_taken (x : StrobeObs) (hat : u.islands.strobeAt = some u.now) :
    exec (.epochStrobe t x) s = .next u := by
  change execEpochStrobe t x s = _
  rw [execEpochStrobe, timed_at hAt, if_neg fun h => h.2 hat]

/-- After the edge a value that its leaf has not yet had is judged at once (R17). -/
theorem exec_namedValueArrival {leaf : Fin 64} (value : T96) (r : Byte) (hon : u.leafOn leaf.val = true)
    (hnow : 16 ≤ u.now % 512) (harr : (u.leaf leaf).arrived = false) :
    exec (.namedValueArrival t leaf value r) s = .next (u.nameArrives leaf value r) := by
  change execNamedValueArrival t leaf value r s = _
  rw [execNamedValueArrival, timed_at hAt, if_neg fun h => h hon, if_neg fun h => Nat.not_lt.2 hnow h.1,
    if_neg (Bool.eq_false_iff.1 harr)]

theorem exec_copyMissLimitReached {leaf : Fin 64} (hon : u.leafOn leaf.val = true)
    (hm : u.n E.copyMissLimit ≤ (u.leaf leaf).misses) :
    exec (.copyMissLimitReached t leaf) s = .next (u.leafUnsync leaf) := by
  change execCopyMissLimitReached t leaf s = _
  rw [execCopyMissLimitReached, timed_at hAt, if_pos ⟨hon, hm⟩]

/-- A re-measurement that finds the drift inside its limit moves the pad by at most 1 ps, and no more (R19). -/
theorem exec_treeRemeasure_within {leaf : Fin 64} {rtt : Nat} (hon : u.leafOn leaf.val = true)
    (hdue : (u.leaf leaf).remeasured < u.islands.strobes / 1024)
    (hdrift : (u.leafForward leaf rtt - (u.leaf leaf).fwd0).natAbs ≤ u.n E.treeDriftLimit * 1000) :
    exec (.treeRemeasure t leaf rtt) s =
      .next ((u.set E.leafFwdDelay leaf (fwdWord (u.leafForward leaf rtt))).setLeaf leaf { u.leaf leaf with
        pad := ((u.leaf leaf).pad + max (-1) (min 1 (padFor (u.leafForward leaf rtt) - (u.leaf leaf).pad))).toNat
        remeasured := u.islands.strobes / 1024 }) := by
  change execTreeRemeasure t leaf rtt s = _
  rw [execTreeRemeasure, timed_at hAt]
  refine congrArg _ ((if_pos ⟨hon, hdue⟩).trans (if_neg (Nat.not_lt.2 ?_)))
  exact Nat.le_trans hdrift (Nat.le_of_eq (congrArg (· * 1000) (u.treeDriftLimit_set_leafFwdDelay leaf _).symm))

theorem exec_treeRemeasure_notDue {leaf : Fin 64} (rtt : Nat) (hdone : u.islands.strobes / 1024 ≤ (u.leaf leaf).remeasured) :
    exec (.treeRemeasure t leaf rtt) s = .next u := by
  change execTreeRemeasure t leaf rtt s = _
  rw [execTreeRemeasure, timed_at hAt]
  exact congrArg _ (if_neg fun h => Nat.not_lt.2 hdone h.2)

theorem exec_eccWriteback {array : Fin 8} {word : Nat} (functional : Bool) (hw : (array.val, word) ∈ u.islands.writeBack) :
    exec (.eccWriteback t array word functional) s = .next { u with islands := { u.islands with
      writeBack := u.islands.writeBack.filter (· ≠ (array.val, word))
      rescrub := if functional = true ∧ array.val < 5 then (array.val, word) :: u.islands.rescrub else u.islands.rescrub } } := by
  change execEccWriteback t array word functional s = _
  rw [execEccWriteback, timed_at hAt]
  exact congrArg _ (if_pos (List.contains_iff_mem.2 hw))

theorem exec_scrubRead_due {bank : Fin 5} (ecc : Ecc) (hr : u.scrubReady bank 0 = true) :
    exec (.scrubRead t bank (u.scrubWord bank) ecc) s = .next (u.scrub bank ecc) := by
  change execScrubRead t bank (u.scrubWord bank) ecc s = _
  rw [execScrubRead, timed_at hAt, if_pos ⟨hr, rfl⟩]

theorem exec_scrubForced_due {bank : Fin 5} (ecc : Ecc) (hr : u.scrubReady bank 500 = true) :
    exec (.scrubForced t bank (u.scrubWord bank) ecc) s = .next (u.scrub bank ecc) := by
  change execScrubForced t bank (u.scrubWord bank) ecc s = _
  rw [execScrubForced, timed_at hAt, if_pos ⟨hr, rfl⟩]

theorem exec_scrubRead_notDue {bank : Fin 5} {word : Nat} (ecc : Ecc)
    (hn : u.scrubReady bank 0 = false ∨ word ≠ u.scrubWord bank) : exec (.scrubRead t bank word ecc) s = .next u := by
  change execScrubRead t bank word ecc s = _
  rw [execScrubRead, timed_at hAt, if_neg]
  rintro ⟨hr, hw⟩
  exact hn.elim (Bool.eq_false_iff.1 · hr) (· hw)
end

/-- Settles O1: each clause is the lemma of its command. -/
theorem domainCommands : Obligations.DomainCommands := by
  intro t s u hAt
  refine ⟨fun h rose x => State.delivered_of_request, fun h => State.delivered_of_none, ?_, ?_, ?_, ?_, ?_, ?_, ?_, ?_,
    exec_epochStrobe_due hAt, exec_epochStrobe_taken hAt, ?_, ?_, fun leaf => exec_copyMissLimitReached hAt,
    fun leaf rtt => exec_treeRemeasure_within hAt, fun leaf => exec_treeRemeasure_notDue hAt,
    fun array word functional => exec_eccWriteback hAt functional, fun bank ecc => exec_scrubRead_due hAt ecc,
    fun bank ecc => exec_scrubForced_due hAt ecc, fun bank word ecc => exec_scrubRead_notDue hAt ecc,
    fun bank word => State.scrub_clean_again, fun bank => State.scrub_clean_patrol⟩
  · intro h v r hd hr
    rw [exec_handshakeTransfer hAt h hd]
    simp [State.received, itemOk, hr]
  · intro h v r hd hr
    rw [exec_handshakeTransfer hAt h hd]
    simp [State.received, itemOk, hr]
  · intro h b hd
    exact exec_handshakeTransfer hAt h hd
  · intro h v r hd hr
    rw [exec_handshakeTransfer hAt h hd]
    simp [State.received, itemOk, hr]
  · intro h v r hd hr
    rw [exec_handshakeTransfer hAt h hd]
    simp [State.received, itemOk, hr]
  · intro h slot x v hd hv hx
    rw [exec_handshakeTransfer hAt h hd]
    simp only [State.received, itemOk, hv, State.schedReach, hx]
  · intro chan dom island rose rose' item x hx hlate hs ha
    rw [exec_hsStall hAt, State.stall_late hx hlate hs ha]
  · intro chan dom island rose a item hr ha hle
    rw [exec_hsStall hAt, State.stall_acknowledged hr ha hle]
  · intro leaf value r hon hnow harr hv hr
    rw [exec_namedValueArrival hAt value r hon hnow harr]
    simp [State.nameArrives, hr, ← hv]
  · intro leaf value r hon hnow harr hr
    rw [exec_namedValueArrival hAt value r hon hnow harr]
    simp [State.nameArrives, hr]

/-! ### Emitted bounds (R124, R125) -/

theorem State.emitted_of_unbounded {s : State} (h : s.unbounded = true) (add : Nat) : s.emitted add = 0xFFFFFFFF := if_pos h

/-- Settles O55: each of the three causes makes the outputs unbounded, and without them the emitted bound is the sum. -/
theorem emittedBound : Obligations.EmittedBound := by
  intro s add
  refine ⟨fun h => State.emitted_of_unbounded ?_ add, fun h => State.emitted_of_unbounded ?_ add,
    fun h => State.emitted_of_unbounded ?_ add, fun hl hs hc => ?_, fun p h => ?_, fun p h => ?_⟩
  · simp [State.unbounded, h]
  · simp [State.unbounded, h]
  · simp [State.unbounded, h]
  · simp [State.emitted, State.unbounded, hl, hs, hc]
  · simp [State.portAdd, h]
  · simp [State.portAdd, h]

end Sys2Proof.Machine
end

section
/-! Every command completes and leaves the queue (log 2): an operation keeps the store's order and the queue, so a row made of
operations does. One lemma per command that is not the write of one entry. -/

namespace Sys2Proof.Machine

open State

/-- The outcome is a next state, which keeps the store's order and the queue of `s`. -/
def Completes (s : State) (o : Host.Outcome State Fault Refusal) : Prop := ∃ s', o = .next s' ∧ Keeps s s'

/-- An update that leaves the store and the queue: where it is made is read off the goal. -/
theorem Keeps.same {t x : State} {v0 v2 v3 v4 v5 v6 v7 v8 v9 v10 v11 v12 v13 v14 v15 v16 v17 v18 v19 v20 v21 v22 v23 v24 v25 v26}
    (h : Keeps t x) : Keeps t ⟨v0, x.dict, v2, v3, v4, v5, v6, v7, v8, v9, v10, v11, v12, v13, v14, v15, v16, v17, v18, v19,
      v20, v21, v22, v23, v24, v25, v26, x.pending⟩ :=
  (Keeps.upd ..).2 h

/-! ### The rows' common shapes -/

theorem timed_completes {t : Nat} {s : State} {f : State → State} (hf : ∀ {u}, Keeps s u → Keeps s (f u)) :
    Completes s (timed t s f) :=
  ⟨_, rfl, Keeps.ite (Keeps.rfl' s) (hf (runTo_keeps (Keeps.rfl' s) t))⟩

theorem writeRow_completes {sp : Special} (h : sp.Tame) {t : Nat} {m : Master} {i : Nat} {ws : List Word} {s : State} :
    Completes s (writeRow sp t m i ws s) :=
  timed_completes fun hu => write_keeps' h hu m i ws []

theorem accessRow_completes {t : Nat} {m : Master} {a : Target} {s : State} {f : Spot → State → State}
    (hf : ∀ {u}, Keeps s u → ∀ x, Keeps s (f x u)) : Completes s (accessRow t m a s f) :=
  timed_completes fun hu => Keeps.ite (hf hu _) hu

theorem spiRow_completes {t index sub : Nat} {s : State} {f : State → State} (hf : ∀ {u}, Keeps s u → Keeps s (f u)) :
    Completes s (spiRow t index sub s f) :=
  timed_completes fun hu => Keeps.ite (hf hu) hu

theorem ptpRow_completes {t : Nat} {x : PtpRx} {kinds : List Nat} {s : State} {f : Nat → Bool → State → State}
    {msg : Option Nat} (hf : ∀ {u}, Keeps s u → ∀ i auth, Keeps s (f i auth u)) :
    Completes s (ptpRow t x kinds s f msg) := by
  refine timed_completes fun hu => Keeps.ite hu (frameTake_keeps hu _ _ _ fun v hv => ?_)
  split
  · exact packetEnd_keeps (hf (ptpReceive_keepsE ‹_› hv) _ _) _ _ _ _ _ _ _ _
  · exact ptpReceive_keepsE ‹_› hv

theorem jtagRow_completes {t ir : Nat} {tdi reg : List Bool} {s : State} {update : List Bool → Jtag → Jtag} :
    Completes s (jtagRow t ir tdi s reg update) :=
  ⟨_, rfl, Keeps.same (emit_keeps (Keeps.ite (Keeps.rfl' s) (runTo_keeps (Keeps.rfl' s) t)) _)⟩

/-! ### Domains, islands and the epoch strobe (R10 to R31) -/

theorem execHandshakeTransfer_completes (t : Nat) (h : Handshake) (s : State) : Completes s (execHandshakeTransfer t h s) := by
  refine timed_completes fun hu => ?_
  extract_lets item v
  have hv : Keeps s v := acknowledge_keeps hu _ _ _ _
  clear_value v item
  split
  · exact Keeps.ite hv (residueRx_keeps hv _ _ _)
  · exact Keeps.ite hv (residueRx_keeps hv _ _ _)
  · exact schedReach_keeps hv _
  · exact hv

theorem execHsStall_completes (t chan : Nat) (dom : Fin 8) (island : Nat) (request : Nat × HsItem) (s : State) :
    Completes s (execHsStall t chan dom island request s) :=
  timed_completes fun h => stall_keeps h _ _ _ _ _

theorem execEpochStrobe_completes (t : Nat) (x : StrobeObs) (s : State) : Completes s (execEpochStrobe t x s) :=
  timed_completes fun h => Keeps.ite (strobe_keeps h _) h

theorem execNamedValueArrival_completes (t : Nat) (leaf : Fin 64) (value : T96) (res : Byte) (s : State) :
    Completes s (execNamedValueArrival t leaf value res s) :=
  timed_completes fun h => Keeps.ite h (Keeps.ite (setLeaf_keeps h _ _) (Keeps.ite h (nameArrives_keeps h _ _ _)))

theorem execCopyMissLimitReached_completes (t : Nat) (leaf : Fin 64) (s : State) :
    Completes s (execCopyMissLimitReached t leaf s) :=
  timed_completes fun h => Keeps.ite (leafUnsync_keeps h _) h

theorem execTreeRemeasure_completes (t : Nat) (leaf : Fin 64) (roundTripFs : Nat) (s : State) :
    Completes s (execTreeRemeasure t leaf roundTripFs s) :=
  timed_completes fun h =>
    have hpad := setLeaf_keeps (set_keeps h _ _ _) _ _
    Keeps.ite (Keeps.ite (raise_keeps (leafUnsync_keeps hpad _) _ _ _ _) hpad) h

theorem execEccWriteback_completes (t : Nat) (array : Fin 8) (word : Nat) (functional : Bool) (s : State) :
    Completes s (execEccWriteback t array word functional s) :=
  timed_completes fun h => Keeps.ite h h

theorem execScrubRead_completes (t : Nat) (bank : Fin 5) (word : Nat) (ecc : Ecc) (s : State) :
    Completes s (execScrubRead t bank word ecc s) :=
  timed_completes fun h => Keeps.ite (scrub_keeps h _ _) h

theorem execScrubForced_completes (t : Nat) (bank : Fin 5) (word : Nat) (ecc : Ecc) (s : State) :
    Completes s (execScrubForced t bank word ecc s) :=
  timed_completes fun h => Keeps.ite (scrub_keeps h _ _) h

/-! ### The object dictionary, Irlin and the worlds (R32 to R67) -/

theorem execRegisterWrite_completes (t : Nat) (m : Master) (a : Target) (v : Word) (s : State) :
    Completes s (execRegisterWrite t m a v s) :=
  accessRow_completes fun h _ => writeAnswer_keeps h _ _ _

theorem execCorRead_completes (t : Nat) (m : Master) (a : Target) (s : State) : Completes s (execCorRead t m a s) :=
  accessRow_completes fun h _ => readAnswer_keeps h _ _

theorem execLatchRead_completes (t : Nat) (m : Master) (a : Target) (s : State) : Completes s (execLatchRead t m a s) :=
  accessRow_completes fun h _ => readAnswer_keeps h _ _

theorem execStagedWordWrite_completes (t : Nat) (m : Master) (a : Target) (v : Word) (s : State) :
    Completes s (execStagedWordWrite t m a v s) :=
  accessRow_completes fun h _ => writeAnswer_keeps h _ _ _

theorem execGuardedValueWrite_completes (t : Nat) (f : Fin 8) (a : Target) (v : Word) (s : State) :
    Completes s (execGuardedValueWrite t f a v s) :=
  accessRow_completes fun h _ => writeAnswer_keeps h _ _ _

theorem execGuardedComplementWrite_completes (t : Nat) (f : Fin 8) (a : Target) (v : Word) (s : State) :
    Completes s (execGuardedComplementWrite t f a v s) :=
  accessRow_completes fun h _ => writeAnswer_keeps h _ _ _

theorem execGuardDeadlineExpiry_completes (t : Nat) (s : State) : Completes s (execGuardDeadlineExpiry t s) :=
  timed_completes fun h => Keeps.ite (pairDiscard_keeps h) h

theorem execIrlinDatagram_completes (t port udpPort : Nat) (b : List Byte) (s : State) :
    Completes s (execIrlinDatagram t port udpPort b s) :=
  timed_completes fun h => frameTake_keeps h _ _ _ (fun _ h => Keeps.ite (bump_keeps h _ _ _) (irlinMessageIn_keeps h _ _))

theorem execIrlinRead_completes (t : Nat) (k : Fin 16) (via : Via) (tag : Nat) (peek : Bool) (items : List Item) (s : State) :
    Completes s (execIrlinRead t k via tag peek items s) :=
  timed_completes fun h => irlinRead_keeps h _ _ _ _ _

theorem execIrlinWrite_completes (t : Nat) (k : Fin 16) (via : Via) (tag : Nat) (items : List Item) (s : State) :
    Completes s (execIrlinWrite t k via tag items s) :=
  timed_completes fun h => irlinWrite_keeps h _ _ _ _

theorem execIrlinGuardedWrite_completes (t : Nat) (k : Fin 16) (via : Via) (tag index sub words : Nat) (v c : Word)
    (s : State) : Completes s (execIrlinGuardedWrite t k via tag index sub words v c s) :=
  timed_completes fun h => irlinGuardedWrite_keeps h _ _ _ _ _ _ _ _

theorem execIrlinBlockRead_completes (t : Nat) (k : Fin 16) (via : Via) (tag : Nat) (peek : Bool) (index sub count : Nat)
    (s : State) : Completes s (execIrlinBlockRead t k via tag peek index sub count s) :=
  timed_completes fun h => irlinBlockRead_keeps h _ _ _ _ _ _ _

theorem execIrlinCommit_completes (t : Nat) (k : Fin 16) (via : Via) (tag ref compl lock : Nat) (s : State) :
    Completes s (execIrlinCommit t k via tag ref compl lock s) :=
  timed_completes fun h => irlinCommit_keeps h _ _ _ _ _ _

theorem execIrlinSubscribe_completes (t : Nat) (k : Fin 16) (via : Via) (tag domains minSev duration : Nat) (s : State) :
    Completes s (execIrlinSubscribe t k via tag domains minSev duration s) :=
  timed_completes fun h => irlinSubscribe_keeps h _ _ _ _ _ _

theorem execIrlinSubscriptionExpiry_completes (t n : Nat) (s : State) : Completes s (execIrlinSubscriptionExpiry t n s) := by
  refine timed_completes fun h => ?_
  split
  · exact Keeps.ite h h
  · exact h

theorem execIrlinReport_completes (t : Nat) (k : Fin 16) (via : Via) (tag : Nat) (report : List Byte) (s : State) :
    Completes s (execIrlinReport t k via tag report s) :=
  timed_completes fun h => irlinReport_keeps h _ _ _ _

theorem execIrlinDiscover_completes (t : Nat) (k : Fin 16) (via : Via) (tag : Nat) (s : State) :
    Completes s (execIrlinDiscover t k via tag s) :=
  timed_completes fun h => irlinDiscover_keeps h _ _ _

theorem execIrlinRenew_completes (t : Nat) (k : Fin 16) (via : Via) (tag : Nat) (s : State) :
    Completes s (execIrlinRenew t k via tag s) :=
  timed_completes fun h => irlinRenew_keeps h _ _ _

theorem execPewterSweep_completes (t : Nat) (s : State) : Completes s (execPewterSweep t s) :=
  timed_completes fun h => Keeps.ite h h

theorem execSweepComplete_completes (t : Nat) (seen : List (Nat × Nat × Word)) (s : State) :
    Completes s (execSweepComplete t seen s) := by
  refine timed_completes fun h => ?_
  extract_lets result c v w
  have hw : Keeps s w := set_keeps (Keeps.same h) _ _ _
  clear_value w
  refine Keeps.ite h ?_
  split
  · exact Keeps.ite (settleCommit_keeps hw _ _) (checkSweep_keeps hw _)
  · exact checkSweep_keeps hw _

theorem execEditTimeoutExpiry_completes (t : Nat) (s : State) : Completes s (execEditTimeoutExpiry t s) :=
  timed_completes fun h => Keeps.ite h h

/-! ### Power-up, lifecycle, images, trim profiles (R68 to R88, R452) -/

theorem execResetRelease_completes (s : State) : Completes s (execResetRelease s) :=
  ⟨_, rfl, Keeps.ite (restart_keeps (Keeps.rfl' s)) (Keeps.rfl' s)⟩

theorem execPwrgoodFall_completes (t : Nat) (s : State) : Completes s (execPwrgoodFall t s) :=
  ⟨_, rfl, hold_keeps (runHeld_keeps (Keeps.rfl' s) _) _⟩

theorem execResetAssert_completes (t : Nat) (s : State) : Completes s (execResetAssert t s) :=
  ⟨_, rfl, hold_keeps (runHeld_keeps (Keeps.rfl' s) _) _⟩

theorem execVddaoOutOfRange_completes (t : Nat) (s : State) : Completes s (execVddaoOutOfRange t s) :=
  ⟨_, rfl, Keeps.same (hold_keeps (runHeld_keeps (Keeps.rfl' s) _) _)⟩

theorem execOtpLoad_completes (t : Nat) (ok : Bool) (s : State) : Completes s (execOtpLoad t ok s) :=
  timed_completes fun h =>
    have hreset := drawReset_keeps (loadBist_keeps (keepLoad_keeps (set_keeps (loadIdentity_keeps (Keeps.same h)) _ _ _)))
    have hlife := Keeps.ite (enterLifecycle_keeps hreset _) (set_keeps hreset _ _ _)
    Keeps.ite h (Keeps.ite h (Keeps.ite (set_keeps hlife _ _ _) (afterRoot_keeps hlife)))

theorem execRootGen_completes (t : Nat) (health : List Bool) (writes : Bool) (s : State) :
    Completes s (execRootGen t health writes s) := by
  refine timed_completes fun h => Keeps.ite h (Keeps.ite (set_keeps h _ _ _) ?_)
  extract_lets root region
  split
  rename_i masked v hshare
  have hv := share_keepsE hshare (drew_keeps h)
  exact Keeps.ite (set_keeps (Keeps.same hv) _ _ _) (afterRoot_keeps (set_keeps (enterLifecycle_keeps (Keeps.same hv) _) _ _ _))

theorem execStageBist_completes (t : Nat) (sigs : List (Nat × Nat × Nat)) (s : State) : Completes s (execStageBist t sigs s) :=
  timed_completes fun h =>
    have htested := Keeps.foldl (fun _ _ h => bistResult_keeps (arraysZero_keeps h _) _ _ _ _) _ h
    have hlanes := Keeps.foldl (fun _ _ h => Keeps.ite (set_keeps h _ _ _) h) _ htested
    Keeps.ite h (Keeps.ite (set_keeps hlanes _ _ _) (toCalibrate_keeps (set_keeps hlanes _ _ _)))

theorem execStageImageLoad_completes (t : Nat) (x : FlashObs) (s : State) : Completes s (execStageImageLoad t x s) :=
  timed_completes fun h =>
    have htests := Keeps.ite (selfTests_keeps h _) h
    have hjournal := Keeps.ite (journalLoad_keeps htests _ _ _) htests
    Keeps.ite h (Keeps.ite (toCalibrate_keeps (set_keeps (Keeps.same hjournal) _ _ _)) (set_keeps (Keeps.same hjournal) _ _ _))

theorem execImageApply_completes (x : ApplyObs) (s : State) : Completes s (execImageApply x s) := by
  refine timed_completes fun h => ?_
  split
  · exact h
  · refine Keeps.ite h ?_
    split
    · refine Keeps.ite (imageRun_keeps h _) ?_
      split
      · exact Keeps.ite (imageRun_keeps (Keeps.same h) _) (imageFailed_keeps h _)
      · exact imageFailed_keeps h _
    · exact imageRun_keeps h _

theorem execCalibrate_completes (t : Nat) (x : CalObs) (s : State) : Completes s (execCalibrate t x s) :=
  timed_completes fun h =>
    have hcal := calConverters_keeps (calTree_keeps h _) _
    have hstart := Keeps.same (mdllsStart_keeps hcal)
    Keeps.ite h (Keeps.ite (raise_keeps (calFail_keeps hcal _) _ _ _ _)
      (Keeps.ite (calFail_keeps hcal _) (set_keeps hstart _ _ _)))

theorem execQuietEnd_completes (t : Nat) (s : State) : Completes s (execQuietEnd t s) :=
  timed_completes fun h =>
    have hrunning := set_keeps (set_keeps h _ _ _) _ _ _
    Keeps.ite (ppsRefreshAll_keeps (clkQuietEnd_keeps (outputRefresh_keeps hrunning))) h

theorem execImageLoad_completes (t : Nat) (m : Master) (v : Word) (dma : Option (List Byte)) (s : State) :
    Completes s (execImageLoad t m v dma s) :=
  timed_completes fun h =>
    have hwrite := write_keeps' spImageLoad_tame h _ _ _ _
    Keeps.ite (dmaArrive_keeps hwrite _) hwrite

theorem execFirstLock_completes (t : Nat) (s : State) : Completes s (execFirstLock t s) :=
  timed_completes fun h =>
    have hlock := set_keeps (acceptStep_keeps h _ _) _ _ _
    have hstage := Keeps.ite (set_keeps hlock _ _ _) hlock
    Keeps.ite h (Keeps.ite (Keeps.ite h (raise_keeps (Keeps.same h) _ _ _ _))
      (outputRefresh_keeps (yewRefresh_keeps (steerInteg_keeps (trackClear_keeps hstage)))))

theorem execLifecycleBurnComplete_completes (t : Nat) (s : State) : Completes s (execLifecycleBurnComplete t s) := by
  refine timed_completes fun h => ?_
  split
  · exact enterLifecycle_keeps h _
  · exact h

theorem execTrimApply_completes (t : Nat) (s : State) : Completes s (execTrimApply t s) := by
  refine timed_completes fun h => ?_
  split
  · exact Keeps.ite (Keeps.ite h (trimChange_keeps (Keeps.same h) _)) h
  · exact h

/-! ### Privet (R89 to R119) -/

theorem execPermitTimeout_completes (t : Nat) (s : State) : Completes s (execPermitTimeout t s) := by
  refine timed_completes fun h => ?_
  split
  · exact Keeps.ite (set_keeps (Keeps.same h) _ _ _) h
  · exact h

theorem execRetardEnd_completes (t : Nat) (s : State) : Completes s (execRetardEnd t s) :=
  timed_completes fun h => Keeps.ite (synthStep_keeps (Keeps.same h) _ _) h

theorem execLeapAnnounce_completes (t tL : Nat) (offset : Int) (s : State) : Completes s (execLeapAnnounce t tL offset s) :=
  timed_completes fun h => leapAnnounced_keeps h _ _

theorem execLeapWithdraw_completes (t tL : Nat) (s : State) : Completes s (execLeapWithdraw t tL s) :=
  timed_completes fun h => leapWithdrawn_keeps h _

theorem execLeapStateChange_completes (t : Nat) (s : State) : Completes s (execLeapStateChange t s) :=
  timed_completes fun h => leapRefresh_keeps h

theorem execLeapDue_completes (t : Nat) (j : Fin 64) (s : State) : Completes s (execLeapDue t j s) :=
  timed_completes fun h => Keeps.ite (leapFree_keeps (setInt_keeps (Keeps.same h) _ _ _) _) h

theorem execPrivetSnapshot_completes (t : Nat) (m : Master) (s : State) : Completes s (execPrivetSnapshot t m s) :=
  timed_completes fun h => readAnswer_keeps h _ _

theorem execSchedEvent_completes (t : Nat) (slot : Fin 256) (s : State) : Completes s (execSchedEvent t slot s) :=
  timed_completes fun h => schedAct_keeps h _ _ _ (fun _ _ h => noteOut_keeps (schedPerform_keeps h _ _ _) _)

theorem execPpsoutSet_completes (t : Nat) (slot : Fin 256) (s : State) : Completes s (execPpsoutSet t slot s) :=
  timed_completes fun h => ppsSched_keeps h _ _ _ (fun _ _ _ h => ppsPlace_keeps h _ _ _)

theorem execPpsoutClear_completes (t : Nat) (slot : Fin 256) (s : State) : Completes s (execPpsoutClear t slot s) :=
  timed_completes fun h => ppsSched_keeps h _ _ _ (fun _ _ _ h => ppsPlace_keeps h _ _ _)

theorem execPpsoutPulse_completes (t : Nat) (slot : Fin 256) (s : State) : Completes s (execPpsoutPulse t slot s) :=
  timed_completes fun h => ppsSched_keeps h _ _ _ (fun _ _ _ h => ppsLead_keeps h _ _ _)

theorem execTapMark_completes (t : Nat) (slot : Fin 256) (s : State) : Completes s (execTapMark t slot s) := by
  refine timed_completes fun h => ?_
  split
  · exact markPut_keeps h _ _
  · exact Keeps.ite (schedMiss_keeps h _ _) h
  · exact h

theorem execDeadlineResolve_completes (t : Nat) (d : Deadline) (at_ : Nat) (s : State) :
    Completes s (execDeadlineResolve t d at_ s) :=
  timed_completes fun h => Keeps.ite (deadlineActs_keeps h _) h

theorem execSmearWindowEnd_completes (t : Nat) (s : State) : Completes s (execSmearWindowEnd t s) := by
  refine timed_completes fun h => ?_
  split
  · exact Keeps.ite h h
  · exact h

/-! ### The error bound, the ledger and attestation (R120 to R142) -/

theorem execReleaseEnd_completes (t : Nat) (s : State) : Completes s (execReleaseEnd t s) := by
  refine timed_completes fun h => ?_
  split
  · split
    · exact ledgerAdd_keeps (Keeps.same h) _ _ _ _ _ _ _
    · exact h
  · exact h

theorem execOotExit_completes (t : Nat) (s : State) : Completes s (execOotExit t s) := by
  refine timed_completes fun h => ?_
  split
  · exact Keeps.ite (deassert_keeps (ledgerNote_keeps (Keeps.same (attestAccrue_keeps h)) _ _ _) _) h
  · exact h

theorem execLedgerEntryRead_completes (t : Nat) (m : Master) (w : Fin 16) (s : State) :
    Completes s (execLedgerEntryRead t m w s) :=
  timed_completes fun h => readAnswer_keeps h _ _

theorem execAttestBoundary_completes (t : Nat) (s : State) : Completes s (execAttestBoundary t s) :=
  timed_completes fun h =>
    have hacc := attestAccrue_keeps h
    Keeps.ite h (ledgerNote_keeps (attestNext_keeps (Keeps.same hacc) _) _ _ _)

theorem execAttestSigned_completes (t : Nat) (i : Fin 16) (s : State) : Completes s (execAttestSigned t i s) := by
  refine timed_completes fun h => ?_
  split
  · exact Keeps.ite (attestSign_keeps (Keeps.same h) _ _) h
  · exact h

/-! ### Hornbeam (R143 to R178) -/

theorem execActivityTimeout_completes (t : Nat) (n : Fin 32) (s : State) : Completes s (execActivityTimeout t n s) :=
  timed_completes fun h => activityLost_keeps h _

theorem execRateCheck_completes (t : Nat) (s : State) : Completes s (execRateCheck t s) :=
  timed_completes fun h => Keeps.ite (settle_keeps (Keeps.foldl (fun _ _ h => rateChannel_keeps h _ _) _ (Keeps.same h)) _) h

theorem execHornbeamSecond_completes (t : Nat) (s : State) : Completes s (execHornbeamSecond t s) :=
  timed_completes fun h =>
    have hslots := transitions_keeps (Keeps.foldl (fun _ _ h => slotSecond_keeps h _) _ h)
    have hpairs := select_keeps (disSecond_keeps (Keeps.foldl (fun _ _ h => pairSecond_keeps h _ _) _ hslots)) _
    have hdrift := Keeps.foldl (fun _ _ h => driftSecond_keeps h _) _ hpairs
    Keeps.ite (Keeps.foldl (fun _ _ h => elapsedSecond_keeps h _) _ hdrift) h

theorem execQualTimeExpiry_completes (t : Nat) (n : Fin 32) (s : State) : Completes s (execQualTimeExpiry t n s) :=
  timed_completes fun h => Keeps.ite
    (Keeps.ite (settle_keeps (qualifiedNow_keeps (set_keeps (setT96_keeps (set_keeps h _ _ _) _ _ _) _ _ _) _) _)
      (Keeps.ite (settle_keeps (termsRefresh_keeps (qualifiedNow_keeps (setSlot_keeps (set_keeps h _ _ _) _ _) _) _) _) h)) h

theorem execWtrExpiry_completes (t : Nat) (s : State) : Completes s (execWtrExpiry t s) :=
  timed_completes fun h => select_keeps h _

theorem execAutoAccept_completes (t : Nat) (n : Fin 32) (s : State) : Completes s (execAutoAccept t n s) :=
  timed_completes fun h => Keeps.ite (decide'_keeps (closeConflict_keeps (coreRelease_keeps h) _ _) _) h

theorem execEsmcPdu_completes (t port : Nat) (event : Bool) (ssm : Nat) (essm : Option Nat) (s : State) :
    Completes s (execEsmcPdu t port event ssm essm s) :=
  timed_completes fun h => Keeps.foldl (fun _ _ h => quality_keeps (Keeps.ite h (setSlot_keeps h _ _)) _ _ _) _ h

theorem execEsmcTimeout_completes (t : Nat) (n : Fin 32) (s : State) : Completes s (execEsmcTimeout t n s) :=
  timed_completes fun h => esmcLost_keeps h _

theorem execTodLine_completes (t : Nat) (p : Fin 4) (bytes : List Byte) (low : List Nat) (s : State) :
    Completes s (execTodLine t p bytes low s) := by
  refine timed_completes fun h => ?_
  split
  · exact h
  · exact Keeps.ite (Keeps.foldl (fun _ _ h => todByte_keeps h _ _) _ h) h

theorem execTodMiss_completes (t : Nat) (p : Fin 4) (s : State) : Completes s (execTodMiss t p s) := by
  refine timed_completes fun h => ?_
  split
  · exact h
  · exact Keeps.ite (settle_keeps (todRefresh_keeps (setSlot_keeps h _ _) _) _) h

/-! ### Yew (R179 to R202) -/

theorem execLoopUpdate_completes (t res : Nat) (s : State) : Completes s (execLoopUpdate t res s) :=
  timed_completes fun h =>
    have hhold := Keeps.ite (yRefHold_keeps h _) h
    Keeps.ite (Keeps.same (Keeps.ite (loopStep_keeps (perfEvent_keeps hhold _ _ _) _ _ _) hhold)) h

theorem execEnsembleUpdate_completes (t res : Nat) (s : State) : Completes s (execEnsembleUpdate t res s) :=
  timed_completes fun h => Keeps.ite h (Keeps.ite (sendIncr_keeps (ensembleSecond_keeps h)) (yewResidue_keeps h))

theorem execModelRefit_completes (t : Nat) (m : Fin 5) (a b d : Nat) (s : State) : Completes s (execModelRefit t m a b d s) :=
  timed_completes fun h => Keeps.ite (ensembleRefresh_keeps (set_keeps (set_keeps (setMember_keeps h _ _) _ _ _) _ _ _)) h

theorem execAmbiguityClose_completes (t : Nat) (s : State) : Completes s (execAmbiguityClose t s) :=
  timed_completes fun h =>
    have hcauses := Keeps.foldl (fun _ _ h => Keeps.ite (set_keeps h _ _ _) h) _ (Keeps.same h)
    Keeps.ite (ensembleRefresh_keeps (deassert_keeps hcauses _)) h

/-! ### The interval counters (R203 to R219) -/

theorem execChannelEdge_completes (t : Nat) (x : EdgeObs) (s : State) : Completes s (execChannelEdge t x s) := by
  refine timed_completes fun h => ?_
  extract_lets c pol y p v e
  have hv : Keeps s v := setChan_keeps (set_keeps h _ _ _) _ _
  clear_value v
  refine Keeps.ite h (Keeps.ite hv ?_)
  split
  · exact Keeps.ite (setChan_keeps (perfEvent_keeps (bump_keeps hv _ _ _) _ _ _) _ _) (stampEdge_keeps hv _)
  · exact stampEdge_keeps hv _

theorem execCounterWrap_completes (t : Nat) (bank : Fin 4) (s : State) : Completes s (execCounterWrap t bank s) :=
  timed_completes fun h =>
    have hbank := setBank_keeps h _ _
    Keeps.ite (Keeps.ite (set_keeps hbank _ _ _) hbank) h

theorem execConverterCal_completes (t : Nat) (c : Fin 26) (b : Bool) (q h : Nat) (s : State) :
    Completes s (execConverterCal t c b q h s) :=
  timed_completes fun h => calibrated_keeps h _ _ _ _

theorem execConverterSwap_completes (t : Nat) (c : Fin 26) (s : State) : Completes s (execConverterSwap t c s) := by
  refine timed_completes fun h => ?_
  split
  · exact Keeps.ite (staleRefresh_keeps (setChBit_keeps h _ _ _) _) h
  · exact h

theorem execCalStale_completes (t : Nat) (c : Fin 26) (s : State) : Completes s (execCalStale t c s) :=
  timed_completes fun h => staleRefresh_keeps h _

theorem execPairTimeout_completes (t : Nat) (u : Fin 16) (s : State) : Completes s (execPairTimeout t u s) :=
  timed_completes fun h => Keeps.foldl (fun _ w h => by
    split
    · exact pairResult_keeps h _ _ _
    · exact bump_keeps h _ _ _) _ (setPairUnit_keeps h _ _)

theorem execChannelActivityLoss_completes (t : Nat) (c : Fin 26) (s : State) : Completes s (execChannelActivityLoss t c s) := by
  refine timed_completes fun h => Keeps.foldl (fun _ _ h => Keeps.ite (ppsSourceLost_keeps h _) h) _
    (Keeps.foldl (fun _ _ h => Keeps.ite (mdllRefFail_keeps h _) h) _ ?_)
  split
  · exact Keeps.ite (memberInputBad_keeps h _) h
  · exact h

/-! ### Synthesis: MDLLs, clocks, pulses, Time Lanes (R220 to R246) -/

theorem execMdllWindow_completes (t : Nat) (i : Fin 4) (count : Nat) (w : WindowObs) (s : State) :
    Completes s (execMdllWindow t i count w s) :=
  timed_completes fun h =>
    have hcount := setMdll_keeps (setInt_keeps h _ _ _) _ _
    Keeps.ite h (Keeps.ite (Keeps.ite (set_keeps hcount _ _ _) hcount)
      (Keeps.ite (lockEvents_keeps (acquire_keeps (bump_keeps hcount _ _ _) _)) hcount))

theorem execMdllAligned_completes (t : Nat) (i : Fin 4) (phaseErr : Int) (s : State) :
    Completes s (execMdllAligned t i phaseErr s) :=
  timed_completes fun h =>
    have hfed := Keeps.foldl (fun _ _ h => Keeps.ite (toMdll_keeps h _) h) _ (setInt_keeps (set_keeps h _ _ _) _ _ _)
    Keeps.ite (Keeps.ite (lanesRealign_keeps hfed) hfed) h

theorem execMdllReturnHold_completes (t : Nat) (i : Fin 4) (s : State) : Completes s (execMdllReturnHold t i s) :=
  timed_completes fun h => Keeps.ite (acquire_keeps h _) h

theorem execBypassSwitch_completes (t : Nat) (k : Fin 16) (s : State) : Completes s (execBypassSwitch t k s) := by
  refine timed_completes fun h => ?_
  extract_lets x v
  have hv : Keeps s v := Keeps.ite (perfEvent_keeps h _ _ _) h
  clear_value v
  split
  · exact hv
  · exact set_keeps (clkRefresh_keeps (bump_keeps (setClkout_keeps hv _ _) _ _ _) _) _ _ _
  · exact
      have hswitch := lockEvents_keeps (mdllSettle_keeps (clkTake_keeps (bump_keeps (setClkout_keeps hv _ _) _ _ _) _) _)
      Keeps.ite (toMdll_keeps hswitch _) hswitch

theorem execClkoutEdgeReport_completes (t : Nat) (k : Fin 16) (edge : Nat) (s : State) :
    Completes s (execClkoutEdgeReport t k edge s) :=
  timed_completes fun h => Keeps.ite (emit_keeps (noteOut_keeps (set_keeps (setT96_keeps h _ _ _) _ _ _) _) _) h

theorem execPpsEdge_completes (t : Nat) (p : Fin 8) (s : State) : Completes s (execPpsEdge t p s) := by
  refine timed_completes fun h => ?_
  extract_lets x moved trailed width y led
  have hmoved : Keeps s moved := setPulse_keeps h _ _
  have htrailed : Keeps s trailed := by
    subst trailed
    split
    · exact Keeps.ite (Keeps.ite hmoved (ppsPlace_keeps hmoved _ _ _)) h
    · exact h
  clear_value trailed
  have hled : Keeps s led := by
    subst led
    split
    · split
      · exact ppsLead_keeps htrailed _ _ _
      · exact htrailed
    · split
      · exact ppsLead_keeps (setPulse_keeps htrailed _ _) _ _ _
      · exact htrailed
    · exact htrailed
  exact pulseFault_keeps hled

theorem execTlFrame_completes (t : Nat) (s : State) : Completes s (execTlFrame t s) :=
  timed_completes fun h => Keeps.foldl (fun _ _ h => laneSend_keeps h _) _ (set_keeps h _ _ _)

theorem execTlUnderrun_completes (t : Nat) (l : Fin 8) (s : State) : Completes s (execTlUnderrun t l s) :=
  timed_completes fun h => Keeps.ite (laneRefresh_keeps (laneRealign_keeps (bump_keeps h _ _ _) _) _) h

theorem execTlClockLoss_completes (t : Nat) (l : Fin 8) (s : State) : Completes s (execTlClockLoss t l s) :=
  timed_completes fun h => Keeps.ite (laneRefresh_keeps (setLane_keeps (bump_keeps h _ _ _) _ _) _) h

theorem execTlClockReturn_completes (t : Nat) (l : Fin 8) (s : State) : Completes s (execTlClockReturn t l s) :=
  timed_completes fun h => Keeps.ite (laneRefresh_keeps (laneRealign_keeps (setLane_keeps h _ _) _) _) h

theorem execTlRealignEnd_completes (t : Nat) (l : Fin 8) (s : State) : Completes s (execTlRealignEnd t l s) :=
  timed_completes fun h => Keeps.ite (laneRefresh_keeps (setLane_keeps h _ _) _) h

/-! ### Ports, the MAC and port stamping (R247 to R268) -/

theorem execLinkUp_completes (t : Nat) (p : Fin 18) (partnerOk : Bool) (s : State) : Completes s (execLinkUp t p partnerOk s) :=
  timed_completes fun h => Keeps.ite h (Keeps.ite (bump_keeps h _ _ _) (set_keeps (set_keeps (setPort_keeps h _ _) _ _ _) _ _ _))

theorem execLinkDown_completes (t : Nat) (p : Fin 18) (s : State) : Completes s (execLinkDown t p s) :=
  timed_completes fun h =>
    have hmissed := Keeps.foldl (fun _ _ h => launchMiss_keeps h _ _) _ h
    Keeps.ite (ptpPortDown_keeps (set_keeps (set_keeps hmissed _ _ _) _ _ _) _) h

theorem execPortCalDone_completes (t : Nat) (p : Fin 18) (s : State) : Completes s (execPortCalDone t p s) :=
  timed_completes fun h => Keeps.ite (set_keeps h _ _ _) h

theorem execPortRxFrame_completes (t : Nat) (x : RxObs) (s : State) : Completes s (execPortRxFrame t x s) := by
  refine timed_completes fun h => Keeps.ite h ?_
  extract_lets v
  have hv : Keeps s v := perfEvent_keeps h _ _ _
  clear_value v
  split
  · exact bump_keeps hv _ _ _
  · exact rxTake_keeps hv _

theorem execPauseResend_completes (t : Nat) (p : Fin 18) (prio : Fin 8) (s : State) :
    Completes s (execPauseResend t p prio s) :=
  timed_completes fun h => Keeps.ite (sendXoff_keeps h _ _) h

theorem execPauseXon_completes (t : Nat) (p : Fin 18) (prio : Fin 8) (s : State) : Completes s (execPauseXon t p prio s) :=
  timed_completes fun h => Keeps.ite (setXoff_keeps (sendPause_keeps h _ _ _) _ _ _) h

theorem execPauseReceived_completes (t : Nat) (p : Fin 18) (prio : Fin 8) (quanta : Nat) (s : State) :
    Completes s (execPauseReceived t p prio quanta s) :=
  timed_completes fun h =>
    have hcount := bump_keeps h _ _ _
    Keeps.ite h (Keeps.ite hcount (Keeps.foldl (fun _ _ h => launchMiss_keeps h _ _) _ (setPort_keeps hcount _ _)))

theorem execPauseExpiry_completes (t : Nat) (p : Fin 18) (prio : Fin 8) (s : State) :
    Completes s (execPauseExpiry t p prio s) :=
  timed_completes fun h => Keeps.ite (setPort_keeps h _ _) h

theorem execLaunchRequest_completes (t : Nat) (p : Fin 18) (slack : Nat) (s : State) :
    Completes s (execLaunchRequest t p slack s) := by
  refine timed_completes fun h => ?_
  extract_lets x
  split
  · exact h
  rename_i f rest _
  extract_lets took v
  have hv : Keeps s v := setPort_keeps h _ _
  have hbuilt : Keeps s (if f.stale ∨ v.ntsRevoked f.origin then v.rebuild f else (some f, v)).2 :=
    Keeps.ite2 (rebuild_keeps hv _) hv
  refine Keeps.ite (launchGone_keeps hv _ _) (Keeps.ite h (Keeps.ite (Keeps.ite (ptpSuppress_keeps hv _) hv) ?_))
  generalize (if f.stale ∨ v.ntsRevoked f.origin then v.rebuild f else (some f, v)) = r at hbuilt
  obtain ⟨_ | g, w⟩ := r
  · exact hbuilt
  · dsimp only
    split
    · exact holdLaunch_keepsO ‹_› hbuilt
    · exact frameDone_keeps hbuilt _ _ _

theorem execFrameLaunch_completes (t : Nat) (p : Fin 18) (s : State) : Completes s (execFrameLaunch t p s) := by
  refine timed_completes fun h => ?_
  dsimp only
  split
  · exact h
  · exact Keeps.ite h (Keeps.ite (launchMiss_keeps h _ _) (launchOut_keeps h _ _ _))

theorem execLaunchMissed_completes (t : Nat) (p : Fin 18) (handle : Nat) (late : Bool) (s : State) :
    Completes s (execLaunchMissed t p handle late s) := by
  refine timed_completes fun h => ?_
  split
  · exact h
  · exact Keeps.ite (launchMiss_keeps h _ _) h

theorem execPortTxFrame_completes (t : Nat) (p : Fin 18) (edgeFs : Nat) (s : State) :
    Completes s (execPortTxFrame t p edgeFs s) := by
  refine timed_completes fun h => ?_
  dsimp only
  split
  · exact h
  · refine
      have hsent := setPort_keeps h _ _
      Keeps.ite h (Keeps.ite ?_ (txSend_keeps hsent _ _ _ _))
    split
    · exact txSend_keeps (ptpRebuild_keepsE ‹_› hsent) _ _ _ _
    · exact ptpRebuild_keepsE ‹_› hsent

theorem execStampQueueDrain_completes (t : Nat) (p : Fin 18) (s : State) : Completes s (execStampQueueDrain t p s) := by
  refine timed_completes fun h => ?_
  dsimp only
  split
  · exact h
  · exact
      have htaken := portRefresh_keeps (setPort_keeps h _ _) _
      have hquiet := Keeps.ite htaken (quietHandle_keeps htaken _ _)
      Keeps.ite h (Keeps.ite (ptpEntry_keeps hquiet _ _) (ringWrite_keeps hquiet _ _))

theorem execStampLossEntry_completes (t : Nat) (p : Fin 18) (s : State) : Completes s (execStampLossEntry t p s) :=
  timed_completes fun h => lossEntry_keeps h _

theorem execHandleQuietExpiry_completes (t : Nat) (p : Fin 18) (index : Fin 4096) (s : State) :
    Completes s (execHandleQuietExpiry t p index s) :=
  timed_completes fun h => Keeps.ite (setHandle_keeps h _ _ _) h

/-! ### Host links, rings, commands and the SPI target (R269 to R290) -/

theorem execPcieLinkUp_completes (t : Nat) (l : Fin 4) (speed width : Nat) (s : State) :
    Completes s (execPcieLinkUp t l speed width s) :=
  timed_completes fun h => Keeps.ite (set_keeps (set_keeps (set_keeps h _ _ _) _ _ _) _ _ _) h

theorem execPcieFlr_completes (t : Nat) (f : Fin 8) (s : State) : Completes s (execPcieFlr t f s) :=
  timed_completes fun h => functionReset_keeps (bump_keeps h _ _ _) _

theorem execPcieLinkDown_completes (t : Nat) (l : Fin 4) (s : State) : Completes s (execPcieLinkDown t l s) :=
  timed_completes fun h => functionReset_keeps (functionReset_keeps (set_keeps (set_keeps (set_keeps h _ _ _) _ _ _) _ _ _) _) _

theorem execBusMasterClear_completes (t : Nat) (f : Fin 8) (s : State) : Completes s (execBusMasterClear t f s) :=
  timed_completes fun h => functionReset_keeps h _

theorem execRingQuietExpiry_completes (t : Nat) (w : Fin 16) (k : Fin 8) (s : State) :
    Completes s (execRingQuietExpiry t w k s) :=
  timed_completes fun h => Keeps.ite (set_keeps h _ _ _) h

theorem execRxmFrame_completes (t : Nat) (w : Fin 16) (descs : List DmaDesc) (s : State) :
    Completes s (execRxmFrame t w descs s) := by
  refine timed_completes fun h => ?_
  dsimp only
  split
  · exact h
  · refine
      have hfreed := occSub_keeps (setRing_keeps h _ _) _ _ _
      Keeps.ite hfreed (Keeps.ite (bump_keeps hfreed _ _ _) ?_)
    split
    · exact rxmWrite_keeps hfreed _ _ _
    · exact ringError_keeps hfreed _ _ _ _
    · exact bump_keeps hfreed _ _ _

theorem execTxFrame_completes (t : Nat) (w : Fin 16) (ds : List DmaDesc) (s : State) : Completes s (execTxFrame t w ds s) := by
  refine timed_completes fun h => ?_
  dsimp only
  split
  · exact h
  · refine Keeps.ite h ?_
    split
    · exact ringError_keeps h _ _ _ _
    · exact
        have hsent := setRing_keeps h _ _
        Keeps.ite h (Keeps.ite (frameDone_keeps hsent _ _ _) (Keeps.ite (frameDone_keeps hsent _ _ _)
          (Keeps.ite (toLaunch_keeps hsent _ _) (toSend_keeps hsent _ _ _))))

theorem execRingLossRecord_completes (t : Nat) (w : Fin 16) (s : State) : Completes s (execRingLossRecord t w s) :=
  timed_completes fun h => ringFlushLoss_keeps h _

theorem execRingIrqTimeExpiry_completes (t : Nat) (w : Fin 16) (k : Fin 8) (s : State) :
    Completes s (execRingIrqTimeExpiry t w k s) :=
  timed_completes fun h => ringSignal_keeps h _

theorem execCmdIrlin_completes (t : Nat) (w : Fin 16) (d : DmaDesc) (s : State) : Completes s (execCmdIrlin t w d s) :=
  timed_completes fun h => cmdNext_keeps h _ _

theorem execNtsMint_completes (t : Nat) (w : Fin 16) (d : DmaDesc) (s : State) : Completes s (execNtsMint t w d s) :=
  timed_completes fun h => cmdNext_keeps h _ _

theorem execNtsKeyStatus_completes (t : Nat) (w : Fin 16) (d : DmaDesc) (s : State) : Completes s (execNtsKeyStatus t w d s) :=
  timed_completes fun h => cmdNext_keeps h _ _

theorem execGnssCorr_completes (t : Nat) (w : Fin 16) (d : DmaDesc) (s : State) : Completes s (execGnssCorr t w d s) :=
  timed_completes fun h => cmdNext_keeps h _ _

theorem execSpiRead_completes (t index sub crc : Nat) (s : State) : Completes s (execSpiRead t index sub crc s) :=
  spiRow_completes fun h => spiFrame_keeps h _ _ _ _ (fun _ h => spiRespond_keeps (read_keeps h _ _ _) _)

theorem execSpiWrite_completes (t index sub : Nat) (v : Word) (crc : Nat) (s : State) :
    Completes s (execSpiWrite t index sub v crc s) :=
  spiRow_completes fun h => spiFrame_keeps h _ _ _ _ (fun _ h => spiRespond_keeps (writeAt_keeps h _ _ _ _) _)

theorem execSpiGuarded_completes (t index sub : Nat) (v c : Word) (crc : Nat) (s : State) :
    Completes s (execSpiGuarded t index sub v c crc s) :=
  spiRow_completes fun h => spiFrame_keeps h _ _ _ _ (fun _ h => spiRespond_keeps (writeAt_keeps h _ _ _ _) _)

theorem execSpiIrlin_completes (t : Nat) (message : List Byte) (crc : Nat) (s : State) :
    Completes s (execSpiIrlin t message crc s) :=
  timed_completes fun h => spiFrame_keeps h _ _ _ _ (fun _ h => spiRespond_keeps (irlinMessageIn_keeps h _ _) _)

theorem execSpiIrlinPop_completes (t crc : Nat) (s : State) : Completes s (execSpiIrlinPop t crc s) :=
  timed_completes fun h => spiFrame_keeps h _ _ _ _ (fun _ h => by
    split
    · exact spiRespond_keeps (Keeps.same h) _
    · exact spiRespond_keeps h _)

theorem execSpiImage_completes (t off : Nat) (data : List Byte) (crc : Nat) (s : State) :
    Completes s (execSpiImage t off data crc s) :=
  timed_completes fun h => spiFrame_keeps h _ _ _ _ (fun _ h =>
    Keeps.ite (spiRespond_keeps h _) (Keeps.ite (spiRespond_keeps h _) (spiRespond_keeps (Keeps.same h) _)))

theorem execSpiEventPop_completes (t crc : Nat) (s : State) : Completes s (execSpiEventPop t crc s) :=
  timed_completes fun h => spiFrame_keeps h _ _ _ _ (fun _ h => by
    split
    · exact spiRespond_keeps (setRing_keeps (Keeps.same h) _ _) _
    · exact spiRespond_keeps h _)

theorem execSpiAborted_completes (t : Nat) (s : State) : Completes s (execSpiAborted t s) :=
  timed_completes fun h => bump_keeps h _ _ _

/-! ### PTP, its clients, associations and partners (R291 to R325) -/

theorem execSyncInterval_completes (t : Nat) (i : Fin 16) (p : Fin 18) (client : Option Nat) (s : State) :
    Completes s (execSyncInterval t i p client s) := by
  refine timed_completes fun h => Keeps.ite h ?_
  split
  · exact sendTo_keepsE ‹_› h
  · have hto := sendTo_keepsE ‹_› h
    exact Keeps.ite (ptpSuppress_keeps hto _)
      (Keeps.ite (ptpSend_keeps (sendSeq_keeps hto _ _ _ _) _ _) (ptpLaunch_keeps (sendSeq_keeps hto _ _ _ _) _))

theorem execAnnounceInterval_completes (t : Nat) (i : Fin 16) (p : Fin 18) (client : Option Nat) (s : State) :
    Completes s (execAnnounceInterval t i p client s) := by
  refine timed_completes fun h => Keeps.ite h ?_
  split
  · exact sendTo_keepsE ‹_› h
  · have hto := sendTo_keepsE ‹_› h
    exact Keeps.ite (ptpSuppress_keeps hto _) (ptpSend_keeps (sendSeq_keeps hto _ _ _ _) _ _)

theorem execDelayReqInterval_completes (t : Nat) (i : Fin 16) (p : Fin 18) (um : Option (Fin 4)) (s : State) :
    Completes s (execDelayReqInterval t i p um s) :=
  timed_completes fun h => Keeps.ite h (ptpSend_keeps (setPtpInst_keeps (nextReq_keeps h _ _) _ _) _ _)

theorem execSyncReceived_completes (t : Nat) (x : PtpRx) (s : State) : Completes s (execSyncReceived t x s) :=
  ptpRow_completes fun h _ _ =>
    have hepoch := Keeps.ite (syncEpochUp_keeps h _) h
    have hsync := setPtpInst_keeps (syncLate_keeps (tlvNote_keeps hepoch _ _ _) _ _) _ _
    Keeps.ite h (Keeps.ite (setPtpInst_keeps hsync _ _) (pairDone_keeps hsync _ _ _ _ _))

theorem execFollowUpReceived_completes (t : Nat) (x : PtpRx) (s : State) : Completes s (execFollowUpReceived t x s) := by
  refine ptpRow_completes fun h _ _ => Keeps.ite h ?_
  split
  · exact pairDone_keeps (tlvNote_keeps (setPtpInst_keeps h _ _) _ _ _) _ _ _ _ _
  · exact bump_keeps h _ _ _

theorem execDelayReqReceived_completes (t : Nat) (x : PtpRx) (s : State) : Completes s (execDelayReqReceived t x s) :=
  ptpRow_completes fun h _ _ => Keeps.ite h (Keeps.ite (bump_keeps h _ _ _) (Keeps.ite h (ptpSend_keeps h _ _)))

theorem execDelayRespReceived_completes (t : Nat) (x : PtpRx) (s : State) : Completes s (execDelayRespReceived t x s) := by
  refine ptpRow_completes fun h _ _ => Keeps.ite h ?_
  split
  · exact exchangeSet_keeps (tlvNote_keeps h _ _ _) _ _ _
  · exact bump_keeps h _ _ _

theorem execPdelayReqReceived_completes (t : Nat) (x : PtpRx) (s : State) : Completes s (execPdelayReqReceived t x s) :=
  ptpRow_completes fun h _ _ => Keeps.ite h (Keeps.ite (bump_keeps h _ _ _) (Keeps.ite h (ptpSend_keeps h _ _)))

theorem execPdelayRespReceived_completes (t : Nat) (x : PtpRx) (s : State) : Completes s (execPdelayRespReceived t x s) := by
  refine ptpRow_completes fun h _ _ => Keeps.ite h ?_
  split
  · exact Keeps.ite (exchangeSet_keeps h _ _ _) (exchangeSet_keeps h _ _ _)
  · exact bump_keeps h _ _ _

theorem execAnnounceReceived_completes (t : Nat) (x : PtpRx) (s : State) : Completes s (execAnnounceReceived t x s) := by
  refine ptpRow_completes fun h _ _ => Keeps.ite h ?_
  extract_lets a v y heard w
  have hw : Keeps s w := chooseParent_keeps (setPtpInst_keeps (announceLate_keeps h _ _) _ _) _
  clear_value w
  split
  · exact
      have hquality := parentQuality_keeps hw _
      Keeps.ite (Keeps.ite (announceLeap_keeps hquality _) hquality) hw
  · exact hw

theorem execPtpSecond_completes (t : Nat) (i : Fin 16) (s : State) : Completes s (execPtpSecond t i s) := by
  refine timed_completes fun {u} h => ?_
  extract_lets kept
  refine Keeps.ite h ?_
  split
  · exact h
  · split
    extract_lets v w
    have hw : Keeps s w := setInt_keeps (setInt_keeps (setPtpInst_keeps h _ _) _ _ _) _ _ _
    clear_value w
    split
    · exact
        have hterms := termsRefresh_keeps (setSlot_keeps hw _ _) _
        (settle_keeps (Keeps.foldl (fun _ _ h => slotMeasure_keeps h _ _ _ _ _ _) _ hterms) _)
    · exact hw

theorem execAnnounceTimeout_completes (t : Nat) (i : Fin 16) (s : State) : Completes s (execAnnounceTimeout t i s) :=
  timed_completes fun h => announceLost_keeps h _

theorem execSyncTimeout_completes (t : Nat) (i : Fin 16) (s : State) : Completes s (execSyncTimeout t i s) :=
  timed_completes fun h => syncLost_keeps h _

theorem execRespTimeout_completes (t : Nat) (i : Fin 16) (s : State) : Completes s (execRespTimeout t i s) :=
  timed_completes fun h => setPtpInst_keeps h _ _

theorem execRequestUnicastTransmission_completes (t : Nat) (x : PtpRx) (s : State) :
    Completes s (execRequestUnicastTransmission t x s) :=
  ptpRow_completes fun h _ _ => Keeps.ite (Keeps.foldl (fun _ _ h => requestGrant_keeps h _ _ _ _ _ _) _ h) h

theorem execCancelUnicastTransmission_completes (t : Nat) (x : PtpRx) (s : State) :
    Completes s (execCancelUnicastTransmission t x s) :=
  ptpRow_completes fun h _ _ => Keeps.ite (Keeps.foldl (fun _ _ h => signal_keeps (by
    split
    · exact Keeps.ite (endGrant_keeps h _ _) h
    · exact h) _ _ _ _ _ _ _) _ h) h

theorem execGrantExpiry_completes (t slot kind : Nat) (s : State) : Completes s (execGrantExpiry t slot kind s) :=
  timed_completes fun h => grantExpired_keeps h _ _

theorem execClientQuietExpiry_completes (t slot : Nat) (s : State) : Completes s (execClientQuietExpiry t slot s) :=
  timed_completes fun h => Keeps.ite (setClient_keeps h _ _) h

theorem execPartnerReport_completes (t : Nat) (x : PtpRx) (s : State) : Completes s (execPartnerReport t x s) := by
  refine ptpRow_completes fun h _ _ => ?_
  split
  · exact Keeps.ite h (signal_keeps (partnerReport_keeps h _ _ _) _ _ _ _ _ _ _)
  · exact h

theorem execPartnerAgeOut_completes (t : Nat) (i : Fin 4096) (s : State) : Completes s (execPartnerAgeOut t i s) :=
  timed_completes fun h => partnerAge_keeps h _

theorem execPartnerQuietExpiry_completes (t : Nat) (i : Fin 4096) (s : State) : Completes s (execPartnerQuietExpiry t i s) :=
  timed_completes fun h => Keeps.ite (setPartner_keeps h _ _) h

theorem execSaQuietExpiry_completes (t : Nat) (a : Fin 1024) (s : State) : Completes s (execSaQuietExpiry t a s) :=
  timed_completes fun h => Keeps.ite (set_keeps h _ _ _) h

/-! ### NTP and NTS (R326 to R341) -/

theorem execNtpRequest_completes (t : Nat) (x : NtpRx) (s : State) : Completes s (execNtpRequest t x s) :=
  timed_completes fun h => Keeps.ite h (ntpTakeFrame_keeps h _ _ (fun _ h => ntpSend_keeps h _ _ _))

theorem execNtsRequest_completes (t : Nat) (x : NtpRx) (s : State) : Completes s (execNtsRequest t x s) :=
  timed_completes fun h => Keeps.ite (ntpTakeFrame_keeps h _ _ (fun _ h => ntsServe_keeps (bump_keeps h _ _ _) _)) h

theorem execNtsRotation_completes (t : Nat) (s : State) : Completes s (execNtsRotation t s) :=
  timed_completes fun h => Keeps.ite (set_keeps (set_keeps h _ _ _) _ _ _) h

/-! ### Tap and inline capture (R342 to R358) -/

theorem execTapFrame_completes (t : Nat) (x : TapObs) (s : State) : Completes s (execTapFrame t x s) :=
  timed_completes fun h =>
    have hpass := inlinePass_keeps h _ _ _
    have hframe := bump_keeps (marksBefore_keeps hpass _ _) _ _ _
    have hwhole := Keeps.ite (bump_keeps hframe _ _ _) (Keeps.ite (bump_keeps hframe _ _ _) hframe)
    have hvalid := Keeps.ite (bump_keeps hwhole _ _ _) hwhole
    have hdigest := Keeps.ite (bump_keeps hvalid _ _ _) (Keeps.ite (bump_keeps hvalid _ _ _) hvalid)
    Keeps.ite hpass (tapRelease_keeps (perfEvent_keeps (noteOut_keeps (Keeps.same (tapSeq_keeps hdigest _)) _) _ _ _))

theorem execTapDigestComplete_completes (t : Nat) (s : State) : Completes s (execTapDigestComplete t s) := by
  refine timed_completes fun h => ?_
  split
  · exact h
  · dsimp only
    split
    · exact tapRelease_keeps (Keeps.same (useKey_keepsE ‹_› h))
    · exact tapRelease_keeps (Keeps.same (bump_keeps (useKey_keepsE ‹_› h) _ _ _))

theorem execTapLossRecord_completes (t : Nat) (w : Fin 16) (s : State) : Completes s (execTapLossRecord t w s) :=
  timed_completes fun h => tapFlush_keeps h _ _

theorem execInlineLockLoss_completes (t : Nat) (p : Fin 16) (s : State) : Completes s (execInlineLockLoss t p s) :=
  timed_completes fun h => Keeps.ite (inlineRefresh_keeps (set_keeps (set_keeps (bump_keeps (Keeps.same h) _ _ _) _ _ _) _ _ _)) h

theorem execInlineLockReturn_completes (t : Nat) (p : Fin 16) (s : State) : Completes s (execInlineLockReturn t p s) :=
  timed_completes fun h =>
    have hport := setPort_keeps (Keeps.same h) _ _
    Keeps.ite (inlineRefresh_keeps (set_keeps (set_keeps hport _ _ _) _ _ _)) h

/-! ### GNSS (R359 to R384) -/

theorem execGnssStrobeFault_completes (t : Nat) (b : Fin 2) (monitor : Fin 3) (since : Nat) (s : State) :
    Completes s (execGnssStrobeFault t b monitor since s) :=
  timed_completes fun h => Keeps.ite h (raise_keeps (bump_keeps (Keeps.ite h (Keeps.same h)) _ _ _) _ _ _ _)

theorem execGnssCoastTimeout_completes (t : Nat) (b : Fin 2) (s : State) : Completes s (execGnssCoastTimeout t b s) := by
  refine timed_completes fun h => ?_
  split
  · exact Keeps.ite (coastOut_keeps h _) h
  · exact h

theorem execGnssStrobeReturn_completes (t : Nat) (b : Fin 2) (s : State) : Completes s (execGnssStrobeReturn t b s) := by
  refine timed_completes fun h => ?_
  split
  · exact smoothRestart_keeps (Keeps.same (Keeps.ite (coastOut_keeps h _) h)) _
  · exact h

theorem execGnssAcquisition_completes (t : Nat) (sys : Fin 4) (prn : Nat) (elev : Int) (azim : Nat) (s : State) :
    Completes s (execGnssAcquisition t sys prn elev azim s) := by
  refine timed_completes fun h => Keeps.ite h ?_
  dsimp only
  split
  · exact h
  · exact
      have hsat := satRefresh_keeps (set_keeps (setInt_keeps (set_keeps (setSat_keeps h _ _) _ _ _) _ _ _) _ _ _) _
      Keeps.ite hsat (set_keeps hsat _ _ _)

theorem execMeasurementEpoch_completes (t : Nat) (x : EpochObs) (s : State) : Completes s (execMeasurementEpoch t x s) :=
  timed_completes fun h =>
    have hepoch := Keeps.same h
    have htime := perfEvent_keeps (setT96_keeps hepoch _ _ _) _ _ _
    have hstart := Keeps.ite (smoothRestart_keeps (Keeps.same htime) _) htime
    Keeps.ite h (Keeps.ite (epochToSlot_keeps (set_keeps hepoch _ _ _) _ _ _)
      (epochSolve_keeps (corrRefresh_keeps (Keeps.same (epochSats_keeps (epochDecode_keeps hstart _) _))) _ _ _))

theorem execExclusionHoldExpiry_completes (t : Nat) (slot : Fin 64) (s : State) :
    Completes s (execExclusionHoldExpiry t slot s) := by
  refine timed_completes fun h => ?_
  split
  · split
    · exact Keeps.ite (satRefresh_keeps (setSat_keeps h _ _) _) h
    · exact h
  · exact h

theorem execSpfHoldExpiry_completes (t : Nat) (s : State) : Completes s (execSpfHoldExpiry t s) := by
  refine timed_completes fun h => ?_
  split
  · exact Keeps.ite (deassert_keeps (set_keeps (Keeps.same h) _ _ _) _) h
  · exact h

theorem execSpectrum_completes (t : Nat) (b : Fin 2) (x : SpectrumObs) (s : State) : Completes s (execSpectrum t b x s) :=
  timed_completes fun h =>
    have hnotch := notchRefresh_keeps (notchesAssign_keeps (notchesTrack_keeps (Keeps.same h) _ _) _ _) _
    Keeps.ite h (jamRefresh_keeps (set_keeps hnotch _ _ _))

theorem execSolutionPulse_completes (t : Nat) (s : State) : Completes s (execSolutionPulse t s) := by
  refine timed_completes fun h => Keeps.ite h ?_
  dsimp only
  split
  · exact Keeps.same h
  · exact h

theorem execGnssSleep_completes (t : Nat) (s : State) : Completes s (execGnssSleep t s) :=
  timed_completes fun h =>
    have hcross := crossRefresh_keeps h
    Keeps.ite hcross (Keeps.same (set_keeps (satsFree_keeps (bump_keeps hcross _ _ _)) _ _ _))

theorem execGnssWake_completes (t : Nat) (s : State) : Completes s (execGnssWake t s) :=
  timed_completes fun h => Keeps.ite (gnssWakes_keeps h) h

theorem execWakeIntervalExpiry_completes (t : Nat) (s : State) : Completes s (execWakeIntervalExpiry t s) :=
  timed_completes fun h => Keeps.ite (gnssWakes_keeps h) h

theorem execWakeDwellExpiry_completes (t : Nat) (s : State) : Completes s (execWakeDwellExpiry t s) := by
  refine timed_completes fun h => ?_
  split
  · exact Keeps.ite (crossRefresh_keeps (Keeps.same h)) h
  · exact h

/-! ### The key vault (R385 to R412) -/

theorem execDerivationComplete_completes (t : Nat) (s : State) : Completes s (execDerivationComplete t s) := by
  refine timed_completes fun h => ?_
  split
  · exact Keeps.foldl (fun _ _ h => keyResume_keeps h _) _ (derivationDone_keeps (Keeps.same h) _)
  · exact h

theorem execVaultSlotQuietExpiry_completes (t : Nat) (k : Fin 4080) (s : State) :
    Completes s (execVaultSlotQuietExpiry t k s) :=
  timed_completes fun h => Keeps.ite h h

theorem execShadowKcvCheck_completes (t : Nat) (a : Fin 15) (s : State) : Completes s (execShadowKcvCheck t a s) :=
  timed_completes fun h => Keeps.ite h (Keeps.ite (set_keeps h _ _ _) (bump_keeps (set_keeps h _ _ _) _ _ _))

theorem execAnchorEraseDone_completes (t : Nat) (s : State) : Completes s (execAnchorEraseDone t s) :=
  timed_completes fun h => anchorStep_keeps h _ _ (fun _ _ h => emit_keeps h _)

theorem execAnchorWriteDone_completes (t : Nat) (s : State) : Completes s (execAnchorWriteDone t s) :=
  timed_completes fun h => anchorStep_keeps h _ _ (fun _ _ h => emit_keeps h _)

theorem execAnchorMarkDone_completes (t : Nat) (s : State) : Completes s (execAnchorMarkDone t s) :=
  timed_completes fun h => anchorStep_keeps h _ _ (fun _ _ h =>
    Keeps.foldl (fun _ _ h => Keeps.ite h (shadowEmpty_keeps h _)) _ (setAnchors_keeps h _))

theorem execAnchorBurnDone_completes (t : Nat) (s : State) : Completes s (execAnchorBurnDone t s) :=
  timed_completes fun h => anchorStep_keeps h _ _ (fun _ _ h => set_keeps (set_keeps (Keeps.same h) _ _ _) _ _ _)

theorem execAnchorFlashTimeout_completes (t : Nat) (readBackFails : Bool) (s : State) :
    Completes s (execAnchorFlashTimeout t readBackFails s) := by
  refine timed_completes fun h => ?_
  split
  · exact Keeps.ite (set_keeps (Keeps.same h) _ _ _) h
  · exact h

theorem execRemaskPass_completes (t : Nat) (s : State) : Completes s (execRemaskPass t s) := by
  refine timed_completes fun h => Keeps.ite ?_ h
  split
  rename_i keys v hkeys
  split
  rename_i shadows w hshadows
  have hw := remaskTab_keepsE hshadows (remaskTab_keepsE hkeys h)
  refine set_keeps (Keeps.same (Keeps.foldr2 (s := ([], w)) ?_ _ hw)) _ _ _
  exact fun _ _ h => drew_keeps h

theorem execDrbgReseed_completes (t : Nat) (s : State) : Completes s (execDrbgReseed t s) :=
  timed_completes fun h => Keeps.ite (reseed_keeps h) h

theorem execEntropyHealthFail_completes (t : Nat) (s : State) : Completes s (execEntropyHealthFail t s) :=
  timed_completes fun h => raise_keeps (bump_keeps (set_keeps h _ _ _) _ _ _) _ _ _ _

theorem execDrbgRecover_completes (t passed : Nat) (s : State) : Completes s (execDrbgRecover t passed s) :=
  timed_completes fun h => Keeps.ite (deassert_keeps (reseed_keeps (set_keeps h _ _ _)) _) h

theorem execSelftestCmd_completes (t : Nat) (m : Master) (failed : Nat) (s : State) :
    Completes s (execSelftestCmd t m failed s) :=
  writeRow_completes (sp := { spSelftest with apply := fun _ s => s.selfTests failed })
    ⟨fun _ h => selfTests_keeps h _, fun _ _ h => h⟩

/-! ### Holly, the safe state and self-test (R413 to R434) -/

theorem execFaultEvent_completes (t : Nat) (src : Fin 512) (severity : Option (Fin 4)) (what : FaultWhat) (world : Nat)
    (s : State) : Completes s (execFaultEvent t src severity what world s) :=
  timed_completes fun h => Keeps.ite h (raise_keeps (faultCounters_keeps (strike_keeps h _ _) _) _ _ _ _)

theorem execConditionEnd_completes (t : Nat) (src : Fin 512) (s : State) : Completes s (execConditionEnd t src s) :=
  timed_completes fun h => Keeps.ite (deassert_keeps h _) h

theorem execHandlingEnd_completes (t : Nat) (rec : Fin 256) (s : State) : Completes s (execHandlingEnd t rec s) :=
  timed_completes fun h =>
    have hsent := setRecord_keeps (Keeps.ite h (sendRecord_keeps h _ _)) _ _
    Keeps.ite (Keeps.ite (clearRecord_keeps hsent _) hsent) h

theorem execPromotionExpiry_completes (t : Nat) (src : Fin 512) (s : State) : Completes s (execPromotionExpiry t src s) :=
  timed_completes fun h => Keeps.ite (sourceRefresh_keeps h _) h

theorem execOscinLoss_completes (t : Nat) (s : State) : Completes s (execOscinLoss t s) :=
  timed_completes fun h => Keeps.ite (raise_keeps (Keeps.same h) _ _ _ _) h

theorem execHollySelf_completes (t : Nat) (cause : SelfCause) (s : State) : Completes s (execHollySelf t cause s) := by
  refine timed_completes fun h => Keeps.ite h (set_keeps (set_keeps (Keeps.same (enterSafe_keeps ?_ _ _)) _ _ _) _ _ _)
  split
  · exact bump_keeps h _ _ _
  · exact bump_keeps h _ _ _

theorem execBistComplete_completes (t island sigLogic sigMem : Nat) (s : State) :
    Completes s (execBistComplete t island sigLogic sigMem s) :=
  timed_completes fun h =>
    have harrays := Keeps.ite (arraysZero_keeps (Keeps.same h) _) (Keeps.same h)
    have hresult := bistResult_keeps (maskRefresh_keeps harrays _) _ _ _ _
    have hlanes := Keeps.ite (set_keeps hresult _ _ _) (Keeps.ite (set_keeps hresult _ _ _) hresult)
    Keeps.ite h (Keeps.ite (set_keeps hlanes _ _ _) hlanes)

/-! ### Performance monitoring (R435 to R443) -/

/-! ### Temperatures and JTAG (R463, R464) -/

theorem execTempReading_completes (t : Nat) (die : Int) (diode0 diode1 : Option Int) (s : State) :
    Completes s (execTempReading t die diode0 diode1 s) :=
  timed_completes fun h =>
    have hdie := corMax_keeps (setInt_keeps h _ _ _) _ _ _
    Keeps.ite h (Keeps.same (setInt_keeps (setInt_keeps hdie _ _ _) _ _ _))

theorem execJtagBypass_completes (t : Nat) (tdi : List Bool) (s : State) : Completes s (execJtagBypass t tdi s) :=
  jtagRow_completes

theorem execJtagIdcode_completes (t : Nat) (tdi : List Bool) (s : State) : Completes s (execJtagIdcode t tdi s) :=
  jtagRow_completes

theorem execJtagSamplePreload_completes (t : Nat) (pins tdi : List Bool) (s : State) :
    Completes s (execJtagSamplePreload t pins tdi s) :=
  jtagRow_completes

theorem execJtagExtest_completes (t : Nat) (pins tdi : List Bool) (s : State) : Completes s (execJtagExtest t pins tdi s) :=
  jtagRow_completes

/-! ### ==== Sys2Proof/Machine/Step.lean ==== -/

/-! ### All commands -/

/-- Every command completes; the store's order and the queue are kept. -/
theorem exec_completes (c : Instr) (s : State) : Completes s (exec c s) := by
  cases c with
  | handshakeTransfer t h => exact execHandshakeTransfer_completes t h s
  | hsStall t chan dom island request => exact execHsStall_completes t chan dom island request s
  | epochStrobe t x => exact execEpochStrobe_completes t x s
  | namedValueArrival t leaf value res => exact execNamedValueArrival_completes t leaf value res s
  | copyMissLimitReached t leaf => exact execCopyMissLimitReached_completes t leaf s
  | treeRemeasure t leaf roundTripFs => exact execTreeRemeasure_completes t leaf roundTripFs s
  | eccWriteback t array word functional => exact execEccWriteback_completes t array word functional s
  | scrubRead t bank word ecc => exact execScrubRead_completes t bank word ecc s
  | scrubForced t bank word ecc => exact execScrubForced_completes t bank word ecc s
  | registerWrite t m a v => exact execRegisterWrite_completes t m a v s
  | corRead t m a => exact execCorRead_completes t m a s
  | latchRead t m a => exact execLatchRead_completes t m a s
  | stagedWordWrite t m a v => exact execStagedWordWrite_completes t m a v s
  | guardedValueWrite t f a v => exact execGuardedValueWrite_completes t f a v s
  | guardedComplementWrite t f a v => exact execGuardedComplementWrite_completes t f a v s
  | guardDeadlineExpiry t => exact execGuardDeadlineExpiry_completes t s
  | lockCtrl t m v => exact writeRow_completes spLockCtrl_tame
  | bindPcie t m j v => exact writeRow_completes spBindPcie_tame
  | irlinDatagram t port udpPort bytes => exact execIrlinDatagram_completes t port udpPort bytes s
  | irlinRead t k via tag peek items => exact execIrlinRead_completes t k via tag peek items s
  | irlinWrite t k via tag items => exact execIrlinWrite_completes t k via tag items s
  | irlinGuardedWrite t k via tag index sub words v c => exact execIrlinGuardedWrite_completes t k via tag index sub words v c s
  | irlinBlockRead t k via tag peek index sub count => exact execIrlinBlockRead_completes t k via tag peek index sub count s
  | irlinCommit t k via tag ref compl lock => exact execIrlinCommit_completes t k via tag ref compl lock s
  | irlinSubscribe t k via tag domains minSev duration => exact execIrlinSubscribe_completes t k via tag domains minSev duration s
  | irlinSubscriptionExpiry t n => exact execIrlinSubscriptionExpiry_completes t n s
  | irlinReport t k via tag report => exact execIrlinReport_completes t k via tag report s
  | irlinDiscover t k via tag => exact execIrlinDiscover_completes t k via tag s
  | irlinRenew t k via tag => exact execIrlinRenew_completes t k via tag s
  | commitRef t m v => exact writeRow_completes spCommitRef_tame
  | pewterSweep t => exact execPewterSweep_completes t s
  | sweepComplete t seen => exact execSweepComplete_completes t seen s
  | editOpen t m => exact writeRow_completes spEditCtrl_tame
  | editClose t m => exact writeRow_completes spEditCtrl_tame
  | editTimeoutExpiry t => exact execEditTimeoutExpiry_completes t s
  | resetRelease => exact execResetRelease_completes s
  | pwrgoodFall t => exact execPwrgoodFall_completes t s
  | resetAssert t => exact execResetAssert_completes t s
  | vddaoOutOfRange t => exact execVddaoOutOfRange_completes t s
  | otpLoad t ok => exact execOtpLoad_completes t ok s
  | rootGen t health writes => exact execRootGen_completes t health writes s
  | stageBist t sigs => exact execStageBist_completes t sigs s
  | stageImageLoad t x => exact execStageImageLoad_completes t x s
  | imageApply x => exact execImageApply_completes x s
  | calibrate t x => exact execCalibrate_completes t x s
  | quietEnd t => exact execQuietEnd_completes t s
  | imageLoad t m v dma => exact execImageLoad_completes t m v dma s
  | firstLock t => exact execFirstLock_completes t s
  | lifecycleReq t m v => exact writeRow_completes spLifecycleReq_tame
  | lifecycleBurnComplete t => exact execLifecycleBurnComplete_completes t s
  | bootOptionsBurn t m v => exact writeRow_completes spBootOptionsBurn_tame
  | trimProfile t m v => exact writeRow_completes spTrimProfile_tame
  | trimApply t => exact execTrimApply_completes t s
  | privetMode t m v => exact writeRow_completes spPrivetMode_tame
  | privetIncrNs t m v => exact writeRow_completes spIncrNs_tame
  | privetIncrFrac t m v => exact writeRow_completes spIncrFrac_tame
  | privetSlewCmd t m v => exact writeRow_completes spSlewCmd_tame
  | privetStepCmd t m v => exact writeRow_completes spStepCmd_tame
  | privetStepPermit t m v => exact writeRow_completes spStepPermit_tame
  | permitTimeout t => exact execPermitTimeout_completes t s
  | retardEnd t => exact execRetardEnd_completes t s
  | privetInitTime t m lo hi => exact writeRow_completes spInitTime_tame
  | leapTai t m j v => exact writeRow_completes spLeapTai_tame
  | leapAnnounce t tL offset => exact execLeapAnnounce_completes t tL offset s
  | leapWithdraw t tL => exact execLeapWithdraw_completes t tL s
  | leapStateChange t => exact execLeapStateChange_completes t s
  | leapDue t j => exact execLeapDue_completes t j s
  | privetSnapshot t m => exact execPrivetSnapshot_completes t m s
  | schedArm t m slot => exact writeRow_completes spSchedArm_tame
  | schedDisarm t m slot => exact writeRow_completes spSchedArm_tame
  | schedEvent t slot => exact execSchedEvent_completes t slot s
  | ppsoutSet t slot => exact execPpsoutSet_completes t slot s
  | ppsoutClear t slot => exact execPpsoutClear_completes t slot s
  | ppsoutPulse t slot => exact execPpsoutPulse_completes t slot s
  | tapMark t slot => exact execTapMark_completes t slot s
  | deadlineResolve t d e => exact execDeadlineResolve_completes t d e s
  | smearWindowEnd t => exact execSmearWindowEnd_completes t s
  | releaseEnd t => exact execReleaseEnd_completes t s
  | ootExit t => exact execOotExit_completes t s
  | ledgerEntryRead t m w => exact execLedgerEntryRead_completes t m w s
  | attestBoundary t => exact execAttestBoundary_completes t s
  | attestSigned t j => exact execAttestSigned_completes t j s
  | activityTimeout t n => exact execActivityTimeout_completes t n s
  | rateCheck t => exact execRateCheck_completes t s
  | hornbeamSecond t => exact execHornbeamSecond_completes t s
  | refEnable t m n v => exact writeRow_completes spRefEnable_tame
  | refType t m n v => exact writeRow_completes spRefType_tame
  | hbPreferred t m v => exact writeRow_completes spHbPreferred_tame
  | qualTimeExpiry t n => exact execQualTimeExpiry_completes t n s
  | wtrExpiry t => exact execWtrExpiry_completes t s
  | conflictAcceptSlew t m n => exact writeRow_completes spConflictCmd_tame
  | conflictAcceptStep t m n => exact writeRow_completes spConflictCmd_tame
  | conflictReject t m n => exact writeRow_completes spConflictCmd_tame
  | autoAccept t n => exact execAutoAccept_completes t n s
  | esmcPdu t port event ssm essm => exact execEsmcPdu_completes t port event ssm essm s
  | esmcTimeout t n => exact execEsmcTimeout_completes t n s
  | todLine t p bytes low => exact execTodLine_completes t p bytes low s
  | todMiss t p => exact execTodMiss_completes t p s
  | loopUpdate t res => exact execLoopUpdate_completes t res s
  | ensembleUpdate t res => exact execEnsembleUpdate_completes t res s
  | modelRefit t m a b d => exact execModelRefit_completes t m a b d s
  | ambiguityClose t => exact execAmbiguityClose_completes t s
  | ensEnable t m j v => exact writeRow_completes spEnsEnable_tame
  | loopBw t m k v => exact writeRow_completes spLoopBw_tame
  | loopDamp t m k v => exact writeRow_completes spLoopDamp_tame
  | channelEdge t x => exact execChannelEdge_completes t x s
  | counterWrap t bank => exact execCounterWrap_completes t bank s
  | converterCal t c b q h => exact execConverterCal_completes t c b q h s
  | converterSwap t c => exact execConverterSwap_completes t c s
  | calStale t c => exact execCalStale_completes t c s
  | pairTimeout t u => exact execPairTimeout_completes t u s
  | pairClear t m u => exact writeRow_completes spPairClear_tame
  | channelActivityLoss t c => exact execChannelActivityLoss_completes t c s
  | mdllEnable t m j v => exact writeRow_completes spMdllEnable_tame
  | mdllMultN t m j v => exact writeRow_completes spMdllMultN_tame
  | mdllMultF t m j v => exact writeRow_completes spMdllMultF_tame
  | mdllWindow t j count x => exact execMdllWindow_completes t j count x s
  | mdllAligned t j phaseErr => exact execMdllAligned_completes t j phaseErr s
  | mdllReturnHold t j => exact execMdllReturnHold_completes t j s
  | bypassSwitch t k => exact execBypassSwitch_completes t k s
  | clkoutDiv t m k v => exact writeRow_completes spClkoutDiv_tame
  | clkoutEdgeReport t k edge => exact execClkoutEdgeReport_completes t k edge s
  | synRealign t m => exact writeRow_completes spSynRealign_tame
  | ppsEdge t p => exact execPpsEdge_completes t p s
  | tlFrame t => exact execTlFrame_completes t s
  | tlUnderrun t l => exact execTlUnderrun_completes t l s
  | tlClockLoss t l => exact execTlClockLoss_completes t l s
  | tlClockReturn t l => exact execTlClockReturn_completes t l s
  | tlRealignEnd t l => exact execTlRealignEnd_completes t l s
  | portMode t m p v => exact writeRow_completes spPortMode_tame
  | linkUp t p partnerOk => exact execLinkUp_completes t p partnerOk s
  | linkDown t p => exact execLinkDown_completes t p s
  | portCalDone t p => exact execPortCalDone_completes t p s
  | portRxFrame t x => exact execPortRxFrame_completes t x s
  | pauseResend t p prio => exact execPauseResend_completes t p prio s
  | pauseXon t p prio => exact execPauseXon_completes t p prio s
  | pauseReceived t p prio quanta => exact execPauseReceived_completes t p prio quanta s
  | pauseExpiry t p prio => exact execPauseExpiry_completes t p prio s
  | launchRequest t p slack => exact execLaunchRequest_completes t p slack s
  | frameLaunch t p => exact execFrameLaunch_completes t p s
  | launchMissed t p handle late => exact execLaunchMissed_completes t p handle late s
  | portTxFrame t p edge => exact execPortTxFrame_completes t p edge s
  | stampQueueDrain t p => exact execStampQueueDrain_completes t p s
  | stampLossEntry t p => exact execStampLossEntry_completes t p s
  | handleQuietExpiry t p index => exact execHandleQuietExpiry_completes t p index s
  | portHandleForce t m p => exact writeRow_completes spHandleForce_tame
  | pcieLinkUp t l speed width => exact execPcieLinkUp_completes t l speed width s
  | pcieFlr t f => exact execPcieFlr_completes t f s
  | pcieLinkDown t l => exact execPcieLinkDown_completes t l s
  | busMasterClear t f => exact execBusMasterClear_completes t f s
  | ringEnable t m w k => exact writeRow_completes spRingCtrl_tame
  | ringHalt t m w k => exact writeRow_completes spRingCtrl_tame
  | ringReset t m w k => exact writeRow_completes spRingCtrl_tame
  | ringResetEndQuiet t m w k => exact writeRow_completes spRingCtrl_tame
  | ringQuietExpiry t w k => exact execRingQuietExpiry_completes t w k s
  | ringDoorbell t m w k v => exact writeRow_completes spDoorbell_tame
  | rxmFrame t w descs => exact execRxmFrame_completes t w descs s
  | txFrame t w descs => exact execTxFrame_completes t w descs s
  | ringLossRecord t w => exact execRingLossRecord_completes t w s
  | ringIrqTimeExpiry t w k => exact execRingIrqTimeExpiry_completes t w k s
  | cmdIrlin t w d => exact execCmdIrlin_completes t w d s
  | ntsMint t w d => exact execNtsMint_completes t w d s
  | ntsKeyStatus t w d => exact execNtsKeyStatus_completes t w d s
  | gnssCorr t w d => exact execGnssCorr_completes t w d s
  | spiRead t index sub crc => exact execSpiRead_completes t index sub crc s
  | spiWrite t index sub v crc => exact execSpiWrite_completes t index sub v crc s
  | spiGuarded t index sub v c crc => exact execSpiGuarded_completes t index sub v c crc s
  | spiIrlin t message crc => exact execSpiIrlin_completes t message crc s
  | spiIrlinPop t crc => exact execSpiIrlinPop_completes t crc s
  | spiImage t off data crc => exact execSpiImage_completes t off data crc s
  | spiEventPop t crc => exact execSpiEventPop_completes t crc s
  | spiAborted t => exact execSpiAborted_completes t s
  | ptpProfile t m j v => exact writeRow_completes spPtpProfile_tame
  | syncInterval t j p client => exact execSyncInterval_completes t j p client s
  | announceInterval t j p client => exact execAnnounceInterval_completes t j p client s
  | delayReqInterval t j p um => exact execDelayReqInterval_completes t j p um s
  | syncReceived t x => exact execSyncReceived_completes t x s
  | followUpReceived t x => exact execFollowUpReceived_completes t x s
  | delayReqReceived t x => exact execDelayReqReceived_completes t x s
  | delayRespReceived t x => exact execDelayRespReceived_completes t x s
  | pdelayReqReceived t x => exact execPdelayReqReceived_completes t x s
  | pdelayRespReceived t x => exact execPdelayRespReceived_completes t x s
  | announceReceived t x => exact execAnnounceReceived_completes t x s
  | ptpSecond t j => exact execPtpSecond_completes t j s
  | announceTimeout t j => exact execAnnounceTimeout_completes t j s
  | syncTimeout t j => exact execSyncTimeout_completes t j s
  | respTimeout t j => exact execRespTimeout_completes t j s
  | requestUnicastTransmission t x => exact execRequestUnicastTransmission_completes t x s
  | cancelUnicastTransmission t x => exact execCancelUnicastTransmission_completes t x s
  | grantExpiry t slot kind => exact execGrantExpiry_completes t slot kind s
  | clientQuietExpiry t slot => exact execClientQuietExpiry_completes t slot s
  | ptpClientForce t m => exact writeRow_completes spClientForce_tame
  | ptpClientSel t m w v => exact writeRow_completes spClientSel_tame
  | partnerReport t x => exact execPartnerReport_completes t x s
  | partnerAgeOut t j => exact execPartnerAgeOut_completes t j s
  | partnerQuietExpiry t j => exact execPartnerQuietExpiry_completes t j s
  | ptpPartnerForce t m => exact writeRow_completes spPartnerForce_tame
  | ptpPartnerSel t m w v => exact writeRow_completes spPartnerSel_tame
  | saActivate t m a => exact writeRow_completes spSaCtrl_tame
  | saFree t m a => exact writeRow_completes spSaCtrl_tame
  | saQuietExpiry t a => exact execSaQuietExpiry_completes t a s
  | ntpRequest t x => exact execNtpRequest_completes t x s
  | ntsRequest t x => exact execNtsRequest_completes t x s
  | ntsRotation t => exact execNtsRotation_completes t s
  | ntsMkCurrent t m j => exact writeRow_completes spMkCtrl_tame
  | ntsMkRetire t m j => exact writeRow_completes spMkCtrl_tame
  | tapFrame t x => exact execTapFrame_completes t x s
  | tapDigestComplete t => exact execTapDigestComplete_completes t s
  | tapLossRecord t w => exact execTapLossRecord_completes t w s
  | tapWorld t m p v => exact writeRow_completes spTapWorld_tame
  | inlinePeer t m p v => exact writeRow_completes spInlinePeer_tame
  | inlineLockLoss t p => exact execInlineLockLoss_completes t p s
  | inlineLockReturn t p => exact execInlineLockReturn_completes t p s
  | gnssStrobeFault t b monitor since => exact execGnssStrobeFault_completes t b monitor since s
  | gnssCoastTimeout t b => exact execGnssCoastTimeout_completes t b s
  | gnssStrobeReturn t b => exact execGnssStrobeReturn_completes t b s
  | gnssAcquisition t sys prn elev azim => exact execGnssAcquisition_completes t sys prn elev azim s
  | measurementEpoch t x => exact execMeasurementEpoch_completes t x s
  | exclusionHoldExpiry t slot => exact execExclusionHoldExpiry_completes t slot s
  | spfHoldExpiry t => exact execSpfHoldExpiry_completes t s
  | spectrum t b x => exact execSpectrum_completes t b x s
  | gnssJamCal t m => exact writeRow_completes spJamCal_tame
  | solutionPulse t => exact execSolutionPulse_completes t s
  | gnssSleep t => exact execGnssSleep_completes t s
  | gnssWake t => exact execGnssWake_completes t s
  | wakeIntervalExpiry t => exact execWakeIntervalExpiry_completes t s
  | gnssWakeCmd t m => exact writeRow_completes spWakeCmd_tame
  | wakeDwellExpiry t => exact execWakeDwellExpiry_completes t s
  | keyLoad t m k => exact writeRow_completes spKeyCtrl_tame
  | keyGenerate t m k => exact writeRow_completes spKeyCtrl_tame
  | keyInvalidate t m k => exact writeRow_completes spKeyCtrl_tame
  | keyRevoke t m k => exact writeRow_completes spKeyCtrl_tame
  | keyFree t m k => exact writeRow_completes spKeyCtrl_tame
  | keyLoadWrapped t m k wrap => exact writeRow_completes spKeyCtrl_tame
  | derivationComplete t => exact execDerivationComplete_completes t s
  | vaultSlotQuietExpiry t k => exact execVaultSlotQuietExpiry_completes t k s
  | vaultQuietForce t m => exact writeRow_completes spVaultQuietForce_tame
  | shLoad t m a => exact writeRow_completes spShCtrl_tame
  | shadowKcvCheck t a => exact execShadowKcvCheck_completes t a s
  | shGenerate t m a => exact writeRow_completes spShCtrl_tame
  | shRemoval t m a => exact writeRow_completes spShCtrl_tame
  | shDiscard t m a => exact writeRow_completes spShCtrl_tame
  | anchorCommit t m v => exact writeRow_completes spAnchorCommit_tame
  | anchorEraseDone t => exact execAnchorEraseDone_completes t s
  | anchorWriteDone t => exact execAnchorWriteDone_completes t s
  | anchorMarkDone t => exact execAnchorMarkDone_completes t s
  | anchorBurnDone t => exact execAnchorBurnDone_completes t s
  | anchorFlashTimeout t readBackFails => exact execAnchorFlashTimeout_completes t readBackFails s
  | remaskPass t => exact execRemaskPass_completes t s
  | drbgReseed t => exact execDrbgReseed_completes t s
  | entropyHealthFail t => exact execEntropyHealthFail_completes t s
  | drbgRecover t passed => exact execDrbgRecover_completes t passed s
  | selftestCmd t m failed => exact execSelftestCmd_completes t m failed s
  | boxCertBurn t m v => exact writeRow_completes spCertBurn_tame
  | faultEvent t src severity what world => exact execFaultEvent_completes t src severity what world s
  | conditionEnd t src => exact execConditionEnd_completes t src s
  | handlingEnd t rec => exact execHandlingEnd_completes t rec s
  | promotionExpiry t src => exact execPromotionExpiry_completes t src s
  | fltClear t m v => exact writeRow_completes spFltClear_tame
  | oscinLoss t => exact execOscinLoss_completes t s
  | hollySelf t cause => exact execHollySelf_completes t cause s
  | maintEnter t m => exact writeRow_completes spMaintCtrl_tame
  | maintLeave t m => exact writeRow_completes spMaintCtrl_tame
  | bistStart t m v => exact writeRow_completes spBistStart_tame
  | bistComplete t island sigLogic sigMem => exact execBistComplete_completes t island sigLogic sigMem s
  | perfStart t m => exact writeRow_completes spPerfGlobal_tame
  | perfStop t m => exact writeRow_completes spPerfGlobal_tame
  | perfClear t m => exact writeRow_completes spPerfGlobal_tame
  | perfCtrl t m c => exact writeRow_completes spPerfCtrl_tame
  | perfSampleCtrl t m => exact writeRow_completes spSampleCtrl_tame
  | perfSampleSel t m w v => exact writeRow_completes spSampleSel_tame
  | tempReading t die diode0 diode1 => exact execTempReading_completes t die diode0 diode1 s
  | jtagBypass t tdi => exact execJtagBypass_completes t tdi s
  | jtagIdcode t tdi => exact execJtagIdcode_completes t tdi s
  | jtagSamplePreload t pins tdi => exact execJtagSamplePreload_completes t pins tdi s
  | jtagExtest t pins tdi => exact execJtagExtest_completes t pins tdi s

/-- Settles O43: what keeps the queue is part of what every command keeps. -/
theorem execKeepsQueue : Obligations.ExecKeepsQueue := by
  intro c s
  obtain ⟨s', he, hk⟩ := exec_completes c s
  exact ⟨s', he, hk.2⟩

end Sys2Proof.Machine
end

section
/-! The dictionary store (R32, R33, log 6): every step keeps its canonical order, a word just set reads as set, and what the state
after reset reads. -/

namespace Sys2Proof.Machine

/-- Settles O42: a tick keeps the store's order, and every command keeps it. -/
theorem stepKeepsStore : Obligations.StepKeepsStore := by
  intro s s' hs hstep
  cases hp : s.pending with
  | nil =>
    obtain rfl : s.tick = s' := by simpa [step_nil hp] using hstep
    exact (State.tick_keeps (Keeps.rfl' s)).1 hs
  | cons c rest =>
    obtain ⟨v, hv, hk⟩ := exec_completes c { s with pending := rest }
    obtain rfl : v = s' := by simpa [step_cons hp, hv] using hstep
    exact hk.1 hs

/-! ### Words of two-word entries -/

/-- The two words of a TIME96 entry have places of their own. -/
theorem dictKey_second_ne_first (e : Entry) (i w : Nat) : dictKey e i 1 w ≠ dictKey e i 0 w := by
  simp only [dictKey]
  omega

/-- A TIME96 whose seconds fit 48 bits is what its two words hold (R33). -/
theorem t96OfWords_t96Lo_t96Hi {t : Nat} (h : t < 2 ^ 48 * (10 ^ 9 * 65536)) : t96OfWords (t96Lo t) (t96Hi t) = t := by
  have hfrac : fracOf t < 65536 := Nat.mod_lt _ (by decide)
  have hns : nsOf t < 10 ^ 9 := Nat.mod_lt _ (by decide)
  have hsec : secOf t < 2 ^ 48 := Nat.div_lt_of_lt_mul (by omega)
  have whole : secOf t * (10 ^ 9 * 65536) + nsOf t * 65536 + fracOf t = t := by
    unfold secOf nsOf fracOf
    omega
  have lo : (t96Lo t).toNat = fracOf t * 2 ^ 32 + nsOf t := by
    rw [t96Lo, BitVec.toNat_ofNat]
    omega
  have hi : (t96Hi t).toNat = secOf t := by
    rw [t96Hi, Nat.mod_eq_of_lt hsec, BitVec.toNat_ofNat]
    exact Nat.mod_eq_of_lt (Nat.lt_trans hsec (by decide))
  have frac : bitsOf (t96Lo t).toNat 47 32 = fracOf t := by
    have high : (fracOf t * 2 ^ 32 + nsOf t) / 2 ^ 32 = fracOf t := by omega
    rw [lo, bitsOf, high]
    exact Nat.mod_eq_of_lt hfrac
  have ns : (t96Lo t).toNat % 2 ^ 32 = nsOf t := by
    rw [lo]
    omega
  rw [t96OfWords, frac, ns, hi, Nat.mod_eq_of_lt hsec, ofSec, whole]

/-- A TIME96 just set reads as set. -/
theorem State.t96_setT96_self (s : State) (e : Entry) (i : Nat) {t : T96} (hs : s.stored) (ht : t < 2 ^ 48 * (10 ^ 9 * 65536)) :
    (s.setT96 e i t).t96 e i = t := by
  have h0 : (s.setWordAt e i 0 0 (t96Lo t)).stored := s.setWordAt_rising _ _ _ _ _ hs
  rw [State.t96, State.setT96, State.wordAt_setWordAt_self _ _ _ _ _ _ h0,
    State.wordAt_setWordAt_ne _ _ _ _ _ _ _ _ _ _ (dictKey_second_ne_first e i 0).symm,
    State.wordAt_setWordAt_self _ _ _ _ _ _ hs, t96OfWords_t96Lo_t96Hi ht]

/-- Settles O44: the laws of the store's words. -/
theorem wordsHold : Obligations.WordsHold :=
  ⟨fun s e i k w v hs => ⟨s.setWordAt_rising e i k w v hs, s.wordAt_setWordAt_self e i k w v hs,
      fun e' i' k' w' => s.wordAt_setWordAt_ne e e' i k w i' k' w' v⟩,
    fun s e i _ => s.t96_setT96_self e i⟩

/-! ### The state after reset -/

/-- Settles O41: nothing is listed. -/
theorem resetStored : Obligations.ResetStored := rfl

/-- After reset every word of every entry reads as its default (R32). -/
theorem State.wordAt_reset (e : Entry) (i k w : Nat) : State.reset.wordAt e i k w = entryDefault e i k := rfl

/-- An entry of a present unit, neither write-only nor clear-on-read, reads as its view forms it (R32). -/
theorem State.live_of_view {s : State} {e : Entry} {i w : Nat} {v : View} (ha : s.absentIdx (e.addr i 0).1 = false)
    (hw : e.cls ≠ .wo) (hc : e.cls ≠ .cor) (hr : e.idx ≠ 0x6A00) (hv : viewOf e = some v) : s.live e i w = v.words i s := by
  simp [State.live, ha, hw, hc, hr, hv]

/-- An index below those of the units that can be absent belongs to no absent unit (R7). -/
theorem State.absentIdx_of_low (s : State) {index : Nat} (h : index < 0x4130) : s.absentIdx index = false := by
  have range {lo hi : Nat} (hlo : 0x4130 ≤ lo) : decide (lo ≤ index ∧ index ≤ hi) = false := by
    simp only [decide_eq_false_iff_not]
    omega
  simp [State.absentIdx, range]

/-- Settles O40: the state after reset lists nothing, and what the part is has views on its OTP. -/
theorem resetState : Obligations.ResetState := by
  refine ⟨rfl, rfl, by decide, rfl, rfl, State.wordAt_reset, State.emitted_of_unbounded (by decide), fun s w => ⟨?_, ?_, ?_⟩⟩
  · exact State.live_of_view (e := E.partNumber) (s.absentIdx_of_low (by decide)) nofun nofun (by decide) rfl
  · exact State.live_of_view (e := E.tempGrade) (s.absentIdx_of_low (by decide)) nofun nofun (by decide) rfl
  · exact State.live_of_view (e := E.unitPresent) (s.absentIdx_of_low (by decide)) nofun nofun (by decide) rfl

end Sys2Proof.Machine
end

section
/-! Clear-on-read shadows (R50): what one world's shadow holds, with what of it the present tick's events have made, and how
counts and reads change both. -/

namespace Sys2Proof.Machine

/-! ### The tick's own counts -/

theorem find?_tabInsert_self {α : Type} (k : Nat) (v : α) (t : Tab α) :
    (tabInsert k v t).find? (fun p => p.1 == k) = some (k, v) := by
  induction t with
  | nil => simp [tabInsert]
  | cons p r ih =>
    obtain ⟨j, u⟩ := p
    by_cases h1 : k < j
    · simp [tabInsert, h1]
    · by_cases h2 : j = k
      · simp [tabInsert, h2]
      · simp [tabInsert, h1, h2, ih]

theorem find?_tabInsert_ne {α : Type} {k k' : Nat} (v : α) (t : Tab α) (h : k ≠ k') :
    (tabInsert k v t).find? (fun p => p.1 == k') = t.find? (fun p => p.1 == k') := by
  induction t with
  | nil => simp [tabInsert, h]
  | cons p r ih =>
    obtain ⟨j, u⟩ := p
    by_cases h1 : k < j
    · simp [tabInsert, h1, h]
    · by_cases h2 : j = k
      · subst h2
        simp [tabInsert, h]
      · simp only [tabInsert, h1, h2, if_false, List.find?_cons, ih]

/-- Shadows of two worlds have places of their own. -/
theorem dictKey_world_ne (e : Entry) (i k : Nat) {w w' : Nat} (h : w ≠ w') : dictKey e i k w ≠ dictKey e i k w' := by
  simp only [dictKey]
  omega

/-- A world's shadow as the tick's start left it, and what the tick's own events make of zero (R50). -/
def State.corParts (s : State) (e : Entry) (i w : Nat) : Nat × Nat :=
  (s.corTick.find? (fun p => p.1 == dictKey e i 0 w)).elim (s.shadow e i w, 0) (·.2)

/-- Before the tick's first event the whole shadow is from before the tick. -/
theorem State.corParts_of_nil {s : State} (h : s.corTick = []) (e : Entry) (i w : Nat) :
    s.corParts e i w = (s.shadow e i w, 0) := by
  simp [State.corParts, h]

/-! ### One world's shadow -/

theorem State.corOne_stored {s : State} (hs : s.stored) (e : Entry) (i : Nat) (f : Nat → Nat) (w : Nat) :
    (s.corOne e i f w).stored := (State.corOne_keeps (Keeps.rfl' s) e i f w).1 hs

theorem State.wordAt_corOne_ne {s : State} {e e' : Entry} {i i' k' w w' : Nat} (f : Nat → Nat)
    (h : dictKey e' i' k' w' ≠ dictKey e i 0 w) : (s.corOne e i f w).wordAt e' i' k' w' = s.wordAt e' i' k' w' :=
  s.wordAt_setWordAt_ne e e' i 0 w i' k' w' _ h

theorem State.shadow_corOne_self {s : State} (hs : s.stored) (e : Entry) (i w : Nat) {f : Nat → Nat} (hf : ∀ n, f n < 2 ^ 64) :
    (s.corOne e i f w).shadow e i w = f (s.shadow e i w) := by
  have h : (s.corOne e i f w).wordAt e i 0 w = BitVec.ofNat 64 (f (s.shadow e i w)) :=
    s.wordAt_setWordAt_self e i 0 w _ hs
  rw [State.shadow, h, BitVec.toNat_ofNat, Nat.mod_eq_of_lt (hf _)]

theorem State.corParts_corOne_self (s : State) (e : Entry) (i : Nat) (f : Nat → Nat) (w : Nat) :
    (s.corOne e i f w).corParts e i w = ((s.corParts e i w).1, f (s.corParts e i w).2) := by
  have h : (s.corOne e i f w).corTick.find? (fun p => p.1 == dictKey e i 0 w) =
      some (dictKey e i 0 w, (s.corParts e i w).1, f (s.corParts e i w).2) := find?_tabInsert_self _ _ s.corTick
  rw [State.corParts, h, Option.elim_some]

theorem State.corParts_corOne_ne {s : State} {e : Entry} {i w w' : Nat} (f : Nat → Nat) (h : w ≠ w') :
    (s.corOne e i f w).corParts e i w' = s.corParts e i w' := by
  have hword : (s.corOne e i f w).shadow e i w' = s.shadow e i w' :=
    congrArg BitVec.toNat (State.wordAt_corOne_ne f (dictKey_world_ne e i 0 h.symm))
  have htick : (s.corOne e i f w).corTick.find? (fun p => p.1 == dictKey e i 0 w') =
      s.corTick.find? (fun p => p.1 == dictKey e i 0 w') := find?_tabInsert_ne _ _ (dictKey_world_ne e i 0 h)
  rw [State.corParts, hword, htick, State.corParts]

/-! ### All worlds' shadows -/

theorem State.wordAt_foldl_corOne_ne {e e' : Entry} {i i' k' w' : Nat} (f : Nat → Nat) {l : List Nat}
    (h : ∀ w ∈ l, dictKey e' i' k' w' ≠ dictKey e i 0 w) (s : State) :
    (l.foldl (fun s w => s.corOne e i f w) s).wordAt e' i' k' w' = s.wordAt e' i' k' w' := by
  induction l generalizing s with
  | nil => rfl
  | cons w l ih =>
    rw [List.foldl_cons, ih (fun v hv => h v (List.mem_cons_of_mem _ hv)), State.wordAt_corOne_ne f (h w List.mem_cons_self)]

theorem State.corParts_foldl_corOne_ne {e : Entry} {i w : Nat} (f : Nat → Nat) {l : List Nat} (h : w ∉ l) (s : State) :
    (l.foldl (fun s w => s.corOne e i f w) s).corParts e i w = s.corParts e i w := by
  induction l generalizing s with
  | nil => rfl
  | cons v l ih =>
    obtain ⟨hv, hl⟩ := not_or.1 (mt List.mem_cons.2 h)
    rw [List.foldl_cons, ih hl, State.corParts_corOne_ne f (Ne.symm hv)]

/-- Every world listed once has its own shadow passed through the function, once. -/
theorem State.foldl_corOne_mem {e : Entry} {i w : Nat} {f : Nat → Nat} (hf : ∀ n, f n < 2 ^ 64) {l : List Nat} (hl : l.Nodup)
    (hw : w ∈ l) {s : State} (hs : s.stored) :
    (l.foldl (fun s w => s.corOne e i f w) s).shadow e i w = f (s.shadow e i w) ∧
    (l.foldl (fun s w => s.corOne e i f w) s).corParts e i w = ((s.corParts e i w).1, f (s.corParts e i w).2) := by
  induction l generalizing s with
  | nil => exact absurd hw List.not_mem_nil
  | cons v l ih =>
    obtain ⟨hv, hl⟩ := List.nodup_cons.1 hl
    rw [List.foldl_cons]
    by_cases h : v = w
    · subst h
      have others : ∀ w ∈ l, dictKey e i 0 v ≠ dictKey e i 0 w := fun w hw => dictKey_world_ne e i 0 fun h => hv (h ▸ hw)
      constructor
      · rw [State.shadow, State.wordAt_foldl_corOne_ne f others]
        exact State.shadow_corOne_self hs e i v hf
      · rw [State.corParts_foldl_corOne_ne f hv, State.corParts_corOne_self]
    · have := ih hl ((List.mem_cons.1 hw).resolve_left (Ne.symm h)) (s.corOne_stored hs e i f v)
      rwa [State.corParts_corOne_ne f h, State.shadow, State.shadow, State.wordAt_corOne_ne f (dictKey_world_ne e i 0 (Ne.symm h))]
        at this

/-- A word that is no shadow of the entry reads as before when the entry counts. -/
theorem State.wordAt_bump_ne {e e' : Entry} {i i' k' w' : Nat} (k : Nat)
    (h : ∀ w < 16, dictKey e' i' k' w' ≠ dictKey e i 0 w) (s : State) :
    (s.bump e i k).wordAt e' i' k' w' = s.wordAt e' i' k' w' := by
  rw [State.bump, State.corMap]
  exact State.wordAt_foldl_corOne_ne _ (fun w hw => h w (List.mem_range.1 hw)) s

/-- A counter's largest value fits a word. -/
theorem tyMax_lt (ty : Ty) : tyMax ty < 2 ^ 64 := by cases ty <;> decide

/-- An event counts in every world's shadow, beside what the shadow held at the tick's start (R50). -/
theorem State.bump_shadow {s : State} (hs : s.stored) (e : Entry) (i k : Nat) {w : Nat} (hw : w < 16) :
    (s.bump e i k).shadow e i w = min (s.shadow e i w + k) (tyMax e.ty) ∧
    (s.bump e i k).corParts e i w = ((s.corParts e i w).1, min ((s.corParts e i w).2 + k) (tyMax e.ty)) := by
  rw [State.bump, State.corMap]
  exact State.foldl_corOne_mem (fun _ => Nat.lt_of_le_of_lt (Nat.min_le_right ..) (tyMax_lt e.ty)) List.nodup_range
    (List.mem_range.2 hw) hs

theorem State.bump_stored {s : State} (hs : s.stored) (e : Entry) (i k : Nat) : (s.bump e i k).stored :=
  (State.bump_keeps (Keeps.rfl' s) e i k).1 hs

/-! ### Reading a shadow -/

/-- A read returns the shadow as the tick's start left it, and leaves what the tick's own events made of zero (R50). -/
theorem State.corRead_eq (s : State) (e : Entry) (i w : Nat) : ∃ c, s.corRead e i w =
    (BitVec.ofNat 64 (s.corParts e i w).1, { s.setWordAt e i 0 w (BitVec.ofNat 64 (s.corParts e i w).2) with corTick := c }) := by
  cases h : s.corTick.find? (fun p => p.1 == dictKey e i 0 w) with
  | none =>
    refine ⟨s.corTick, ?_⟩
    simp only [State.corRead, State.corParts, h, Option.elim_none, State.shadow, BitVec.ofNat_toNat, BitVec.setWidth_eq]
    rfl
  | some p => exact ⟨tabInsert (dictKey e i 0 w) (0, p.2.2) s.corTick, by simp [State.corRead, State.corParts, h]⟩

theorem State.corRead_fst (s : State) (e : Entry) (i w : Nat) :
    (s.corRead e i w).1 = BitVec.ofNat 64 (s.corParts e i w).1 := by
  obtain ⟨c, h⟩ := s.corRead_eq e i w
  rw [h]

theorem State.wordAt_corRead_self {s : State} (hs : s.stored) (e : Entry) (i w : Nat) :
    (s.corRead e i w).2.wordAt e i 0 w = BitVec.ofNat 64 (s.corParts e i w).2 := by
  obtain ⟨c, h⟩ := s.corRead_eq e i w
  rw [h]
  exact s.wordAt_setWordAt_self e i 0 w _ hs

/-- A read of a shadow changes no other word. -/
theorem State.wordAt_corRead_ne {s : State} {e e' : Entry} {i w i' k' w' : Nat} (h : dictKey e' i' k' w' ≠ dictKey e i 0 w) :
    (s.corRead e i w).2.wordAt e' i' k' w' = s.wordAt e' i' k' w' := by
  obtain ⟨c, hr⟩ := s.corRead_eq e i w
  rw [hr]
  exact s.wordAt_setWordAt_ne e e' i 0 w i' k' w' _ h

/-- Settles O45: counts and reads through the two parts of a shadow. -/
theorem corShadows : Obligations.CorShadows := by
  intro s e i w hs hw
  refine ⟨fun k => (State.bump_shadow hs e i k hw).1, fun hc => ⟨?_, ?_, fun e' i' k' w' => State.wordAt_corRead_ne⟩,
    fun k hc => ⟨?_, ?_⟩⟩
  · rw [State.corRead_fst, State.corParts_of_nil hc]
    exact BitVec.ofNat_toNat ..
  · rw [State.shadow, State.wordAt_corRead_self hs, State.corParts_of_nil hc]
    rfl
  · rw [State.corRead_fst, (State.bump_shadow hs e i k hw).2, State.corParts_of_nil hc]
    exact BitVec.ofNat_toNat ..
  · rw [State.shadow, State.wordAt_corRead_self (State.bump_stored hs e i k), (State.bump_shadow hs e i k hw).2,
      State.corParts_of_nil hc, Nat.zero_add, BitVec.toNat_ofNat]
    exact Nat.mod_eq_of_lt (Nat.lt_of_le_of_lt (Nat.min_le_right ..) (tyMax_lt e.ty))

end Sys2Proof.Machine
end

section
/-! Which code an access reports (R34, R63): 0x01, then 0x02, then the lowest of those that apply; and what values carry 0x07. -/

namespace Sys2Proof.Machine

/-! ### The code reported (R63) -/

/-- The lower of two codes, where 0 is none. -/
def lowerCode (a c : Nat) : Nat := if c = 0 then a else if a = 0 then c else min a c

theorem resolve_of_one_mem {l : List Nat} (h : 1 ∈ l) : resolve l = 1 := by simp [resolve, h]

theorem resolve_of_two_mem {l : List Nat} (h1 : 1 ∉ l) (h2 : 2 ∈ l) : resolve l = 2 := by simp [resolve, h1, h2]

theorem resolve_of_not_mem {l : List Nat} (h1 : 1 ∉ l) (h2 : 2 ∉ l) : resolve l = l.foldl lowerCode 0 := by
  simp only [resolve, List.contains_iff_mem, h1, h2, if_false]
  rfl

theorem foldl_lowerCode_mem (l : List Nat) (a : Nat) : l.foldl lowerCode a = a ∨ l.foldl lowerCode a ∈ l := by
  induction l generalizing a with
  | nil => exact .inl rfl
  | cons c l ih =>
    have hc : lowerCode a c = a ∨ lowerCode a c = c := by
      unfold lowerCode
      split
      · exact .inl rfl
      · split
        · exact .inr rfl
        · exact (Nat.le_total a c).imp Nat.min_eq_left Nat.min_eq_right
    rw [List.foldl_cons]
    rcases ih (lowerCode a c) with h | h
    · rw [h]
      exact hc.imp_right fun hc => List.mem_cons.2 (.inl hc)
    · exact .inr (List.mem_cons_of_mem _ h)

/-- Once a code applies, what is reported is a code and no higher. -/
theorem foldl_lowerCode_le {l : List Nat} {a c : Nat} (hc : c ≠ 0) (h : c = a ∨ c ∈ l) :
    l.foldl lowerCode a ≠ 0 ∧ l.foldl lowerCode a ≤ c := by
  induction l generalizing a c with
  | nil =>
    obtain rfl := h.resolve_right List.not_mem_nil
    exact ⟨hc, Nat.le_refl c⟩
  | cons x l ih =>
    rw [List.foldl_cons]
    have keep : c = a ∨ c = x → lowerCode a x ≠ 0 ∧ lowerCode a x ≤ c := by
      unfold lowerCode
      split <;> try split
      all_goals omega
    rcases h with h | h
    · obtain ⟨h0, hle⟩ := keep (.inl h)
      exact (ih h0 (.inl rfl)).imp_right (Nat.le_trans · hle)
    · rcases List.mem_cons.1 h with h | h
      · obtain ⟨h0, hle⟩ := keep (.inr h)
        exact (ih h0 (.inl rfl)).imp_right (Nat.le_trans · hle)
      · exact ih hc (.inr h)

/-- A code that applies is not below the one reported, but for 0x01 and 0x02, which come before it. -/
theorem resolve_le {l : List Nat} {c : Nat} (h : c ∈ l) (hc : 2 ≤ c) : resolve l ≠ 0 ∧ resolve l ≤ c := by
  by_cases h1 : 1 ∈ l
  · rw [resolve_of_one_mem h1]
    omega
  · by_cases h2 : 2 ∈ l
    · rw [resolve_of_two_mem h1 h2]
      omega
    · rw [resolve_of_not_mem h1 h2]
      exact foldl_lowerCode_le (by omega) (.inr h)

/-- Settles O48: the cases of `resolve`, the last two by the fold that keeps the lower code. -/
theorem lowestCode : Obligations.LowestCode := by
  intro l
  refine ⟨resolve_of_one_mem, resolve_of_two_mem, ?_, ?_⟩
  · rintro h1 h2 ⟨c, hl, hc⟩
    rw [resolve_of_not_mem h1 h2]
    have h0 := (foldl_lowerCode_le hc (a := 0) (.inr hl)).1
    exact ⟨(foldl_lowerCode_mem l 0).resolve_left h0, h0, fun c hl hc => (foldl_lowerCode_le hc (.inr hl)).2⟩
  · intro h
    have h1 : 1 ∉ l := fun hl => absurd (h 1 hl) (by decide)
    have h2 : 2 ∉ l := fun hl => absurd (h 2 hl) (by decide)
    rw [resolve_of_not_mem h1 h2]
    exact (foldl_lowerCode_mem l 0).elim id (h _)

/-- 0x03 is reported where it applies and neither 0x01 nor 0x02 does: no code is lower. -/
theorem resolve_eq_three {l : List Nat} (h1 : 1 ∉ l) (h2 : 2 ∉ l) (h3 : 3 ∈ l) : resolve l = 3 := by
  obtain ⟨hmem, h0, hle⟩ := (lowestCode l).2.2.1 h1 h2 ⟨3, h3, by decide⟩
  have : resolve l ≠ 1 := fun h => h1 (h ▸ hmem)
  have : resolve l ≠ 2 := fun h => h2 (h ▸ hmem)
  have := hle 3 h3 (by decide)
  omega

/-! ### Values (R34) -/

/-- The layout and the stated ranges of a one-word entry's value, read as an unsigned number (R33, R34). -/
theorem valueOk_unsigned {e : Entry} (v : Word) (hoct : e.ty ≠ .octstr) (ht : e.ty ≠ .time96) (h32 : e.ty ≠ .i32)
    (h64 : e.ty ≠ .i64) : valueOk e v = true ↔
      v.toNat < 2 ^ tyBits e.ty ∧ (e.vals = [] ∨ ∃ r ∈ e.vals, r.1 ≤ (v.toNat : Int) ∧ (v.toNat : Int) ≤ r.2) := by
  cases hty : e.ty with
  | octstr => exact absurd hty hoct
  | time96 => exact absurd hty ht
  | i32 => exact absurd hty h32
  | i64 => exact absurd hty h64
  | _ => simp [valueOk, hty]

/-- A value of a one-word entry is in order or carries 0x07. -/
theorem valueCodes_one {e : Entry} (v : Word) (hoct : e.ty ≠ .octstr) (ht : e.ty ≠ .time96) :
    valueCodes e [v] = if valueOk e v then [] else [7] := by
  unfold valueCodes
  split
  · contradiction
  · contradiction
  · simp

theorem valueCodes_of_not_ok {e : Entry} {v : Word} (hoct : e.ty ≠ .octstr) (ht : e.ty ≠ .time96) (h : valueOk e v = false) :
    valueCodes e [v] = [7] := by simp [valueCodes_one v hoct ht, h]

/-- Settles O50: each clause says whether the value is in its entry's layout and ranges. -/
theorem valueRange : Obligations.ValueRange := by
  intro e v hoct ht
  have unsigned := valueOk_unsigned v hoct ht
  refine ⟨fun h32 h64 hv => ?_, fun h32 hv => ?_, fun hb h0 h1 => ?_, fun h32 h64 hvals hv => ?_, fun h32 h64 hv hvals => ?_⟩
  · refine valueCodes_of_not_ok hoct ht (Bool.eq_false_iff.2 fun h => ?_)
    exact Nat.not_lt.2 hv ((unsigned h32 h64).1 h).1
  · refine valueCodes_of_not_ok hoct ht ?_
    have layout : ¬ (-2 ^ 31 ≤ v.toInt ∧ v.toInt < 2 ^ 31) := by omega
    simp only [valueOk, h32, layout, decide_false, Bool.false_and]
  · refine valueCodes_of_not_ok hoct ht (Bool.eq_false_iff.2 fun h => ?_)
    have hv := ((unsigned (by simp [hb]) (by simp [hb])).1 h).1
    rw [hb] at hv
    have : v.toNat ≠ 0 := fun h => h0 (BitVec.eq_of_toNat_eq h)
    have : v.toNat ≠ 1 := fun h => h1 (BitVec.eq_of_toNat_eq h)
    simp only [tyBits] at hv
    omega
  · refine valueCodes_of_not_ok hoct ht (Bool.eq_false_iff.2 fun h => ?_)
    obtain ⟨r, hr, hlo, hhi⟩ := ((unsigned h32 h64).1 h).2.resolve_left hvals
    rcases hv r hr with h | h <;> omega
  · rw [valueCodes_one v hoct ht, if_pos ((unsigned h32 h64).2 ⟨hv, hvals⟩)]

end Sys2Proof.Machine
end

section
/-! Reads and writes of the dictionary (R35 to R55, R63): what a refusal records, and what an access that is let through answers and
leaves. -/

namespace Sys2Proof.Machine

/-! ### Refusals (R40, R42, R48) -/

/-- A code that is neither a guard mismatch nor a violation is counted and named, and that is all. -/
theorem State.refusal_recorded (s : State) (w index sub : Nat) (b : Bool) {code : Nat} (h : code ≠ 4 ∧ code ≠ 5 ∧ code ≠ 6) :
    s.refusal w code index sub b = (s.bump E.refused w).set E.lastAbort w (index * 65536 + sub * 256 + code) := by
  simp [State.refusal, h]

/-- A guard mismatch is counted beside, with its event. -/
theorem State.refusal_mismatch (s : State) (w index sub : Nat) (b : Bool) : s.refusal w 6 index sub b =
    (((s.bump E.refused w).set E.lastAbort w (index * 65536 + sub * 256 + 6)).bump E.guardMismatch w).raise
      450 none (index * 256 + sub) w := by
  rw [State.refusal]
  exact if_pos rfl

/-- A second write of a W1 entry and a write against the lock are violations, with their event. -/
theorem State.refusal_violation (s : State) (w index sub : Nat) {code : Nat} {b : Bool} (h : code = 5 ∨ code = 4 ∧ b = true) :
    s.refusal w code index sub b =
      (((s.bump E.refused w).set E.lastAbort w (index * 65536 + sub * 256 + code)).bump E.violations w).raise
        451 none (index * 256 + sub) w := by
  have h6 : code ≠ 6 := by omega
  simp [State.refusal, h, h6]

/-- A refused write with the codes its transport adds: the refusal is recorded, with what the entry's rules add. -/
theorem State.write_refused {sp : Special} {m : Master} {w i : Nat} {ws : List Word} {extra : List Nat} {code : Nat}
    {u v : State} (hw : u.worldOf m = some w) (hv : u.met sp m w = v)
    (hr : resolve (v.writeCodes sp ⟨m, w, i, ws⟩ ++ extra) = code) (h0 : code ≠ 0) :
    u.write sp m i ws extra = (code, sp.refused code ⟨m, w, i, ws⟩ (v.refusal w code (sp.entry.addr i 0).1
      (sp.entry.addr i 0).2 (lockable sp.entry && v.control.locked))) := by
  subst hv hr
  simp only [State.met] at h0 ⊢
  simp [State.write, hw, h0]

/-- A write of a world without the right meets 0x03 (R53). -/
theorem State.three_mem_writeCodes {s : State} {sp : Special} {c : Ctx} (h : s.mayWrite c.w sp.entry c.i = false)
    (h15 : sp.world15 = false ∨ c.w ≠ 15) : 3 ∈ s.writeCodes sp c := by
  have : (sp.world15 && decide (c.w = 15)) = false := by rcases h15 with h15 | h15 <;> simp [h15]
  simp [State.writeCodes, State.gateCodes, h, this]

/-- A write of a lockable entry while the set is locked meets 0x04 (R47). -/
theorem State.four_mem_writeCodes {s : State} {sp : Special} {c : Ctx} (h : lockable sp.entry = true)
    (hlock : s.control.locked = true) : 4 ∈ s.writeCodes sp c := by
  simp [State.writeCodes, State.gateCodes, h, hlock]

/-- Settles O47: what each range of codes records. -/
theorem refusedWrites : Obligations.RefusedWrites := by
  intro u v sp m w i ws code a y l hw hv href ha hl hy
  have refuse (extra : List Nat) (hr : resolve (l ++ extra) = code) (h0 : code ≠ 0) : u.write sp m i ws extra =
      (code, v.refusal w code a.1 a.2 (lockable sp.entry && v.control.locked)) := by
    rw [State.write_refused hw hv (hl ▸ hr) h0, href, ha]
  have refuse_nil (hr : resolve l = code) := refuse [] (by rwa [List.append_nil])
  have locked_mem (hk : lockable sp.entry = true) (hlock : v.control.locked = true) : 4 ∈ l :=
    hl ▸ State.four_mem_writeCodes hk hlock
  refine ⟨fun hr ⟨h0, h⟩ => ?_, fun h6 hr => ?_, fun hr h5 => ?_, fun hr h4 hk hlock => ?_, fun hk hlock => ⟨?_, ?_⟩⟩
  · rw [refuse_nil hr h0, State.refusal_recorded _ _ _ _ _ h, hy]
  · subst h6
    rw [refuse [6] hr (by decide), State.refusal_mismatch, hy]
  · subst h5
    rw [refuse_nil hr (by decide), State.refusal_violation _ _ _ _ (.inl rfl), hy]
  · subst h4
    rw [refuse_nil hr (by decide), State.refusal_violation _ _ _ _ (.inr ⟨rfl, by simp [hk, hlock]⟩), hy]
  · exact List.contains_iff_mem.2 (locked_mem hk hlock)
  · exact (resolve_le (locked_mem hk hlock) (by decide)).symm

/-! ### Reads (R38, R50, R53) -/

theorem State.perfEvent_readCodes (s : State) (code unit k w index sub : Nat) :
    (s.perfEvent code unit k).readCodes w index sub = s.readCodes w index sub := by
  obtain ⟨p, h⟩ := s.perfEvent_eq code unit k
  rw [h]
  rfl

theorem State.perfEvent_latched (s : State) (code unit k : Nat) (m : Master) (index sub : Nat) :
    (s.perfEvent code unit k).latched m index sub = s.latched m index sub := by
  obtain ⟨p, h⟩ := s.perfEvent_eq code unit k
  rw [h]
  rfl

theorem State.perfEvent_absentIdx (s : State) (code unit k index : Nat) :
    (s.perfEvent code unit k).absentIdx index = s.absentIdx index := by
  obtain ⟨p, h⟩ := s.perfEvent_eq code unit k
  rw [h]
  rfl

/-- An aligned plain read that meets no code reads the word at its place. -/
theorem State.read_of_readCodes_nil {u : State} {m : Master} {x : Spot} {w : Nat} {p : Place} (hw : u.worldOf m = some w)
    (hp : placeOf x.index x.sub = some p) (ha : x.aligned = true) (hc : x.compl = false) (hr : u.readCodes w x.index x.sub = []) :
    u.read m x = ((0, ((u.perfEvent 0x701 0).readPlace m w x.index x.sub p .plain).1),
      ((u.perfEvent 0x701 0).readPlace m w x.index x.sub p .plain).2) := by
  simp [State.read, hw, hp, ha, hc, hr, State.perfEvent_readCodes, resolve]

theorem State.readPlace_cor {s : State} {m : Master} {w index sub : Nat} {p : Place} (hc : p.entry.cls = .cor)
    (ha : s.absentIdx index = false) : s.readPlace m w index sub p .plain = s.corRead p.entry p.i w := by
  simp [State.readPlace, hc, ha]

theorem State.readPlace_lowest {s : State} {m : Master} {w index sub : Nat} {p : Place} (hc : p.entry.cls ≠ .cor)
    (hk : p.k = 0) (hwide : 1 < p.entry.words) : s.readPlace m w index sub p .plain =
      ((s.live p.entry p.i w).getD 0 0, s.readWide m index sub p (s.live p.entry p.i w)) := by
  simp [State.readPlace, hc, hk, hwide]

theorem State.readPlace_latched {s : State} {m : Master} {w index sub : Nat} {p : Place} {word : Word} (hc : p.entry.cls ≠ .cor)
    (hk : p.k ≠ 0) (hl : s.latched m index sub = some word) : s.readPlace m w index sub p .plain = (word, s) := by
  simp [State.readPlace, hc, hk, hl]

/-- Without a latched word a read returns the live one, whatever else it does. -/
theorem State.readPlace_unlatched {s : State} {m : Master} {w index sub : Nat} {p : Place} (hc : p.entry.cls ≠ .cor)
    (hl : s.latched m index sub = none) :
    (s.readPlace m w index sub p .plain).1 = (s.live p.entry p.i w).getD p.k 0 := by
  by_cases h : p.k = 0 ∧ 1 < p.entry.words <;> simp [State.readPlace, hc, hl, h]

/-- The words of a write-only entry read as 0 (R53). -/
theorem State.live_of_wo {s : State} {e : Entry} (h : e.cls = .wo) (i w : Nat) : s.live e i w = List.replicate e.words 0 := by
  simp [State.live, h]

/-- Settles O46: 0x03 is the lowest code but 0x01 and 0x02. -/
theorem worldDenied : Obligations.WorldDenied := by
  refine ⟨fun u v sp m w i ws hw hv hmay h15 h1 h2 => ?_, fun u m x f w p hw hp hmay => ?_,
    fun u m x w p hw hp hwo hk ha hc hr hl => ?_⟩
  · have h3 : resolve (v.writeCodes sp ⟨m, w, i, ws⟩) = 3 :=
      resolve_eq_three (by simpa using h1) (by simpa using h2) (State.three_mem_writeCodes hmay h15)
    rw [State.write_refuses ⟨hw, hv, h3, by decide⟩, State.refusal_recorded _ _ _ _ _ (by decide)]
  · have h3 : resolve ((u.perfEvent 0x701 0).readCodes w x.index x.sub ++ (if x.aligned then [] else [8])) = 3 := by
      apply resolve_eq_three <;> simp [State.readCodes, hp, hmay]
    simp [State.read, hw, h3]
  · have hcor : p.entry.cls ≠ .cor := by simp [hwo]
    rw [State.read_of_readCodes_nil hw hp ha hc hr, State.readPlace_unlatched hcor ((State.perfEvent_latched ..).trans hl),
      State.live_of_wo hwo]
    simp [hk]

/-! ### Plain writes (R35) -/

/-- A write of an RW entry starts from the state it came in, but for the performance monitor. -/
theorem Opens.eq_of_rw {e : Entry} {m : Master} {w i : Nat} {ws : List Word} {u v : State} (he : e.cls = .rw)
    (h : Opens (plain e) m w i ws u v) : ∃ p, v = { u with perf := p } := by
  obtain ⟨-, -, rfl⟩ := h
  obtain ⟨p, hp⟩ := u.perfEvent_eq 0x701 0 1
  exact ⟨p, by simp [State.met, State.marked, plain, he, hp]⟩

/-- Settles O49: the effect of a plain entry sets its word. -/
theorem plainWrites : Obligations.PlainWrites := by
  intro u v e m w i x hs he h1 ho s' hwrite
  obtain ⟨p, rfl⟩ := ho.eq_of_rw he
  rw [State.write_opens ho] at hwrite
  obtain rfl : State.setWordAt { u with perf := p } e i 0 0 x = s' := congrArg Prod.snd hwrite
  exact ⟨State.wordAt_setWordAt_self _ _ _ _ _ _ hs, fun e' i' k' w' => State.wordAt_setWordAt_ne _ _ _ _ _ _ _ _ _ _, p, rfl⟩

end Sys2Proof.Machine
end

section
/-! The access commands (R35 to R45, R50): plain writes, latched and clear-on-read reads, staged words and guarded pairs. -/

namespace Sys2Proof.Machine

/-! ### What a word's write does by its place and form (R39, R41, R42) -/

/-- A pair is not late up to its deadline tick (R42). -/
theorem State.pairLate_of_le {s : State} {q : Pair} (hq : s.control.pair = some q) (h : s.now ≤ q.tick + 500) :
    s.pairLate = false := by simpa [State.pairLate, hq] using h

/-- A plain write of an entry that is not guarded, or of the sequencer, is no half of a pair (R41, R45). -/
theorem valueHalf_plain {e : Entry} {m : Master} (h : e.cls = .grd → m = .seq) : valueHalf e m .plain = false := by
  cases m with
  | pcie f =>
    have hg : e.cls ≠ .grd := fun hg => nomatch h hg
    simp [valueHalf, hg]
  | _ => rfl

section
variable {u : State} {m : Master} {x : Spot} {w : Nat} {p : Place} (hw : u.worldOf m = some w)
  (hp : placeOf x.index x.sub = some p) (ha : x.aligned = true)
include hw hp ha

/-- Plain words of an entry that is not guarded apply with no further code; the sequencer's apply to any entry (R45). -/
theorem State.writeAt_apply {ws : List Word} (hc : x.compl = false) (hk : p.k = 0) (h0 : ws ≠ [])
    (hl : ws.length ≤ p.entry.words) (hg : p.entry.cls = .grd → m = .seq) :
    u.writeAt m x ws = u.applyWords m x.index x.sub p ws [] := by
  have form : formCodes m p.entry (ws.headD 0) .plain = [] := by simpa [formCodes] using hg
  rw [State.writeAt_lowest hw hp ha hc hk h0 hl (valueHalf_plain hg), form]

/-- A higher word of an entry is staged where no code applies (R39). -/
theorem State.writeAt_stage {v : Word} (hc : x.compl = false) (hk : p.k ≠ 0) (hl : p.k < p.entry.words)
    (hg : p.entry.cls ≠ .grd)
    (hr : resolve ((u.perfEvent 0x701 0).gateCodes (specialOf p.entry) ⟨m, w, p.i, [v]⟩ ++ wordCodes p.entry [v]) = 0) :
    u.writeAt m x [v] = (0, (u.perfEvent 0x701 0).stage m x.index x.sub [v]) := by
  have half := valueHalf_plain (m := m) (absurd · hg)
  have fits : ¬ p.entry.words < p.k + 1 := by omega
  simp [State.writeAt, hw, hp, ha, hc, hk, half, fits, formCodes, hg, hr]

/-- The value half of a guarded pair becomes pending where no code applies (R42). -/
theorem State.writeAt_value {f : Fin 8} {v : Word} (hm : m = .pcie f) (hc : x.compl = false) (hk : p.k = 0)
    (h1 : p.entry.words = 1) (hg : p.entry.cls = .grd)
    (hr : resolve (((u.perfEvent 0x701 0).pairMeets m w).gateCodes (specialOf p.entry) ⟨m, w, p.i, [v]⟩) = 0) :
    u.writeAt m x [v] = (0, { (u.perfEvent 0x701 0).pairMeets m w with
      control := { ((u.perfEvent 0x701 0).pairMeets m w).control with
        pair := some ⟨w, f, x.index, x.sub, v, ((u.perfEvent 0x701 0).pairMeets m w).now⟩ } }) := by
  subst hm
  simp [State.writeAt, hw, hp, ha, hc, hk, h1, valueHalf, hg, State.guardValue, hr]

/-- A matching complement in time writes the pending pair's value (R42). -/
theorem State.writeAt_complement {q : Pair} (hc : x.compl = true) (hk : p.k = 0) (h1 : p.entry.words = 1)
    (hq : u.control.pair = some q) (hlate : u.now ≤ q.tick + 500) (hqw : q.world = w) (hqi : q.index = x.index)
    (hqs : q.sub = x.sub) : u.writeAt m x [~~~q.value] =
      ({ u with control := { u.control with pair := none } }).write (specialOf p.entry) m p.i [q.value] := by
  simp [State.writeAt, hw, hp, ha, hc, hk, h1, State.guardComplement, State.pairLate_of_le hq hlate, hq, hqw, hqi, hqs]
end

/-- Words that apply have the entry's effect; those of a wide entry clear what their master has staged (R39). -/
theorem State.applyWords_opens {u v : State} {m : Master} {w index sub : Nat} {p : Place} {ws : List Word}
    (h : Opens (specialOf p.entry) m w p.i (u.wholeWords m index sub p ws) u v) : u.applyWords m index sub p ws [] =
      (0, if 1 < p.entry.words
        then ((specialOf p.entry).apply ⟨m, w, p.i, u.wholeWords m index sub p ws⟩ v).unstage m
        else (specialOf p.entry).apply ⟨m, w, p.i, u.wholeWords m index sub p ws⟩ v) := by
  rw [State.applyWords, State.write_opens h]
  by_cases h1 : 1 < p.entry.words <;> simp [h1]

/-- The lowest word of a wide entry that is neither the snapshot nor the ledger's is latched, and nothing else happens (R38). -/
theorem State.readWide_latches {s : State} {m : Master} {index sub : Nat} {p : Place} (hs : p.entry ≠ E.privetSnapshot)
    (hl : p.entry ≠ E.ledgerEntry) (ws : List Word) : s.readWide m index sub p ws = s.setLatch m index sub ws := by
  simp [State.readWide, hs, hl]

/-- Counting the access changes nothing of what a shadow returns. -/
theorem State.perfEvent_corRead_fst (s : State) (code unit k : Nat) (e : Entry) (i w : Nat) :
    ((s.perfEvent code unit k).corRead e i w).1 = (s.corRead e i w).1 := by
  obtain ⟨p, h⟩ := s.perfEvent_eq code unit k
  rw [State.corRead_fst, State.corRead_fst, h]
  rfl

/-! ### The access rows -/

/-- PCIe writes are posted: what is left is the state after the write (R40). -/
theorem State.writeAnswer_pcie {u s' : State} {f : Fin 8} {x : Spot} {v : Word} {code : Nat}
    (h : u.writeAt (.pcie f) x [v] = (code, s')) : u.writeAnswer (.pcie f) x v = s' := by
  rw [State.writeAnswer, h]

/-- Every other master is answered the code (R40). -/
theorem State.writeAnswer_answered {u s' : State} {m : Master} {x : Spot} {v : Word} {code : Nat} (hm : ∀ f, m ≠ .pcie f)
    (h : u.writeAt m x [v] = (code, s')) : u.writeAnswer m x v = s'.emit (.answer m code 0) := by
  cases m with
  | pcie f => exact absurd rfl (hm f)
  | _ => simp only [State.writeAnswer, h]

section
variable {t : Nat} {s u : State} {m : Master} {a : Target} (hAt : At t s u) (hm : targetOk m a = true)
include hAt hm

/-- A target that its master's transport carries is accessed. -/
theorem accessRow_at (f : Spot → State → State) : accessRow t m a s f = .next (f (spotOf a) u) := by
  rw [accessRow, timed_at hAt, if_pos hm]

theorem accessRow_read {word : Word} {s' : State} (h : u.read m (spotOf a) = ((0, word), s')) :
    accessRow t m a s (fun x s => s.readAnswer m x) = .next (s'.emit (.answer m 0 word)) := by
  rw [accessRow_at hAt hm, State.readAnswer, h]

theorem accessRow_write_pcie {f : Fin 8} {v : Word} {code : Nat} {s' : State} (hf : m = .pcie f)
    (h : u.writeAt m (spotOf a) [v] = (code, s')) : accessRow t m a s (fun x s => s.writeAnswer m x v) = .next s' := by
  subst hf
  rw [accessRow_at hAt hm, State.writeAnswer_pcie h]
end

/-- Settles O2: each access goes through what its word's place and form do. -/
theorem accessCommands : Obligations.AccessCommands := by
  rintro t s u hAt m a x w p hm rfl ha hw hp
  have read (hc : (spotOf a).compl = false) (hr : u.readCodes w (spotOf a).index (spotOf a).sub = []) :=
    State.read_of_readCodes_nil hw hp ha hc hr
  refine ⟨fun v v' hc h1 hk hg ho => ?_, fun hc hcor habs hr => ?_, fun hc hk hwide hcor hsnap hled hr => ?_,
    fun word hc hk hcor hr hl => ?_, fun f v hf hc hk hlt hg hr => ?_, fun f v v' hf hc hk hwide hg ho => ?_,
    fun f v hf hc hk h1 hg hr => ?_, fun f q v' hf hc hk h1 hq hlate hqw hqi hqs ho => ?_⟩
  · have one := u.wholeWords_one m (spotOf a).index (spotOf a).sub h1 v
    have write : u.writeAt m (spotOf a) [v] = (0, (specialOf p.entry).apply ⟨m, w, p.i, [v]⟩ v') := by
      rw [State.writeAt_apply hw hp ha hc hk (List.cons_ne_nil v []) (Nat.le_of_eq h1.symm) hg,
        State.applyWords_opens (one.symm ▸ ho), one, if_neg (by simp [h1])]
    change accessRow t m a s (fun x s => s.writeAnswer m x v) = _
    refine (accessRow_at hAt hm _).trans (congrArg _ ?_)
    cases m with
    | pcie f => exact State.writeAnswer_pcie write
    | _ => exact State.writeAnswer_answered nofun write
  · exact accessRow_read hAt hm (by
      rw [read hc hr, State.readPlace_cor hcor ((State.perfEvent_absentIdx ..).trans habs), State.perfEvent_corRead_fst])
  · exact accessRow_read hAt hm (by
      rw [read hc hr, State.readPlace_lowest hcor hk hwide, State.readWide_latches hsnap hled])
  · exact accessRow_read hAt hm (by
      rw [read hc hr, State.readPlace_latched hcor hk ((State.perfEvent_latched ..).trans hl)])
  · exact accessRow_write_pcie hAt hm hf (State.writeAt_stage hw hp ha hc hk hlt hg hr)
  · refine accessRow_write_pcie hAt hm hf (code := 0) ?_
    rw [State.writeAt_apply hw hp ha hc hk (List.cons_ne_nil v []) (Nat.le_of_lt hwide) (absurd · hg),
      State.applyWords_opens ho, if_pos hwide]
  · subst hf
    exact accessRow_write_pcie hAt hm rfl (State.writeAt_value hw hp ha rfl hc hk h1 hg hr)
  · subst hf
    refine accessRow_write_pcie hAt hm rfl (code := 0) ?_
    rw [State.writeAt_complement hw hp ha hc hk h1 hq hlate hqw hqi hqs]
    exact State.write_opens ho

/-! ### Guarded writes out of range (R44) -/

/-- Recording a refusal touches no world's count of guard mismatches. -/
theorem State.guardMismatch_of_refused (u : State) {w x i w' : Nat} (hw' : w' < 16) :
    ((u.bump E.refused w).set E.lastAbort w x).shadow E.guardMismatch i w' = u.shadow E.guardMismatch i w' := by
  have abort : dictKey E.guardMismatch i 0 w' ≠ dictKey E.lastAbort w 0 0 := by
    simp only [dictKey, E.guardMismatch, E.lastAbort]
    omega
  have refused : ∀ v < 16, dictKey E.guardMismatch i 0 w' ≠ dictKey E.refused w 0 v := by
    intro v hv
    simp only [dictKey, E.guardMismatch, E.refused]
    omega
  rw [State.shadow, State.shadow, State.set, State.wordAt_setWordAt_ne _ _ _ _ _ _ _ _ _ _ abort,
    State.wordAt_bump_ne 1 refused]

/-- Settles O3: 0x07 is all that applies, and it is recorded as any other code. -/
theorem guardedOutOfRange : Obligations.GuardedOutOfRange := by
  refine ⟨fun u v sp m w i value hg hw hv hgate hcodes hoct ht hval => ⟨hw, hv, ?_, by decide⟩,
    fun t s u v' f a x w p q hAt hm hx ha hc hw hp hk h1 hq hlate hqw hqi hqs href => ?_,
    fun u w x i w' _ hw' _ => u.guardMismatch_of_refused hw'⟩
  · have writable : ¬ (sp.entry.cls = .ro ∨ sp.entry.cls = .cor) := by simp [hg]
    rw [State.writeCodes, hgate, hcodes, if_neg writable, valueCodes_of_not_ok hoct ht hval]
    rfl
  · subst hx
    refine accessRow_write_pcie hAt hm rfl (code := 7) ?_
    rw [State.writeAt_complement hw hp ha hc hk h1 hq hlate hqw hqi hqs, State.write_refuses href,
      State.refusal_recorded _ _ _ _ _ (by decide)]

end Sys2Proof.Machine
end

section
/-! Pending pairs, locking, bindings, commits, the edit window and the running check (R42, R47, R54, R64 to R66): what each command
does on its condition. -/

namespace Sys2Proof.Machine

/-- The commit reference is not the request for locking: setting the one leaves the other. -/
theorem State.lockCtrl_set_commitRef (u : State) (v : Nat) :
    (u.set E.commitRef 0 v).flag E.lockCtrl = u.flag E.lockCtrl := by
  have h : dictKey E.lockCtrl 0 0 0 ≠ dictKey E.commitRef 0 0 0 := by decide
  rw [State.flag, State.flag, State.n_set_ne _ _ _ _ _ _ h]

/-- 0 unlocks now (R47). -/
theorem spLockCtrl_apply_zero {c : Ctx} (v : State) (h : c.v = 0) : spLockCtrl.apply c v =
    { v.set E.lockCtrl 0 0 with control := { v.control with locked := false } } := by
  refine (if_pos h).trans ?_
  rw [h]
  rfl

/-- A commit reference's write puts the commit in hand, with the lock that `LOCK_CTRL` asks for (R65). -/
theorem spCommitRef_apply (c : Ctx) (v : State) : spCommitRef.apply c v = (({ v with control := { v.control with
    commit := some { ref := c.v, lock := (v.set E.commitRef 0 c.v).flag E.lockCtrl } } }).set E.commitRef 0 c.v).set
      E.commitState 0 1 := by
  rw [State.lockCtrl_set_commitRef]
  rfl

section
variable {t : Nat} {s u : State} (hAt : At t s u)
include hAt

theorem exec_guardDeadlineExpiry_late {q : Pair} (hq : u.control.pair = some q) (hlate : q.tick + 500 < u.now) :
    exec (.guardDeadlineExpiry t) s =
      .next (({ u with control := { u.control with pair := none } }).refusal q.world 6 q.index q.sub false) := by
  have late : u.pairLate = true := by simpa [State.pairLate, hq] using hlate
  change execGuardDeadlineExpiry t s = _
  rw [execGuardDeadlineExpiry, timed_at hAt, if_pos late, State.pairDiscard, hq]

theorem exec_guardDeadlineExpiry_notLate (h : u.pairLate = false) : exec (.guardDeadlineExpiry t) s = .next u := by
  change execGuardDeadlineExpiry t s = _
  rw [execGuardDeadlineExpiry, timed_at hAt, if_neg (Bool.eq_false_iff.1 h)]

theorem exec_editTimeoutExpiry_closed (h : u.editing = false) :
    exec (.editTimeoutExpiry t) s = .next { u with control := { u.control with editUntil := none } } := by
  change execEditTimeoutExpiry t s = _
  rw [execEditTimeoutExpiry, timed_at hAt, if_neg (Bool.eq_false_iff.1 h)]

theorem exec_pewterSweep_due (hm : u.atMilli = true) (hs : u.control.sweep = none) :
    exec (.pewterSweep t) s = .next { u with control := { u.control with
      sweep := some u.now, commit := u.control.commit.map (fun c => { c with sweeping := true }) } } := by
  change execPewterSweep t s = _
  rw [execPewterSweep, timed_at hAt, if_pos ⟨hm, by rw [hs]; rfl⟩]

/-- A sweep that completes sets the running check, and decides the commit it was begun for (R64, R65). -/
theorem exec_sweepComplete (seen : List (Nat × Nat × Word)) (hs : u.control.sweep.isSome = true) {v : State}
    (hv : ({ u with control := { u.control with sweep := none } }).set E.runningCheck 0 (u.sweepResult seen) = v) :
    exec (.sweepComplete t seen) s = .next (match u.control.commit with
      | some c => if c.sweeping then v.settleCommit c (u.sweepResult seen) else v.checkSweep (u.sweepResult seen)
      | none => v.checkSweep (u.sweepResult seen)) := by
  subst hv
  change execSweepComplete t seen s = _
  rw [execSweepComplete, timed_at hAt]
  refine congrArg _ (if_neg ?_)
  rwa [Option.isNone_iff_eq_none, ← ne_eq, ← Option.isSome_iff_ne_none]
end

/-- Settles O4: each clause is its command's row, or the effect of its entry's write. -/
theorem controlCommands : Obligations.ControlCommands := by
  intro t s u hAt
  refine ⟨fun q hq hlate => ?_, fun q hq hlate => exec_guardDeadlineExpiry_notLate hAt (State.pairLate_of_le hq hlate),
    fun hq => exec_guardDeadlineExpiry_notLate hAt (by rw [State.pairLate, hq]), fun m w x v ho hx => ?_, fun m w x v ho hx => ?_,
    fun m w f x v ho hx => ?_, fun m w f x v ho hx => ?_, fun m w x v ho => ?_, fun m w v ho => ?_, fun m w v ho => ?_,
    exec_editTimeoutExpiry_closed hAt, exec_pewterSweep_due hAt, fun seen hs hc => ?_, fun seen c hs hc hsweep => ?_⟩
  · rw [exec_guardDeadlineExpiry_late hAt hq hlate, State.refusal_mismatch]
  · exact (writeRow_opens hAt ho).trans (congrArg _ (if_neg hx))
  · exact (writeRow_opens hAt ho).trans (congrArg _ (spLockCtrl_apply_zero v hx))
  · exact (writeRow_opens hAt ho).trans (congrArg _ (if_pos hx))
  · exact (writeRow_opens hAt ho).trans (congrArg _ (if_neg hx))
  · exact (writeRow_opens hAt ho).trans (congrArg _ (spCommitRef_apply _ v))
  · exact writeRow_opens hAt ho
  · exact writeRow_opens hAt ho
  · rw [exec_sweepComplete hAt seen hs rfl, hc]
  · rw [exec_sweepComplete hAt seen hs rfl, hc]
    exact congrArg _ (if_pos hsweep)

end Sys2Proof.Machine
end

section
/-! The sequence window of an Irlin binding (R60): bit `d - 1` of what has been seen stands for the number `d` below the highest. -/

namespace Sys2Proof.Machine

/-- The number `d` below the highest is taken no more: it is the highest itself, lies too far below, or has been seen (R60). -/
def seqSpent (seen d : Nat) : Bool := decide (d = 0 ∨ 64 < d) || bitOf seen (d - 1)

theorem seqSpent_iff {seen d : Nat} : seqSpent seen d = true ↔ d = 0 ∨ 64 < d ∨ seen.testBit (d - 1) = true := by
  simp [seqSpent, bitOf, Nat.testBit_eq_decide_div_mod_eq, or_assoc]

theorem seqSpent_eq_false_iff {seen d : Nat} : seqSpent seen d = false ↔ d ≠ 0 ∧ d ≤ 64 ∧ seen.testBit (d - 1) = false := by
  rw [← Bool.not_eq_true, seqSpent_iff]
  simp

/-! ### When the window takes a number -/

/-- A number above the highest becomes the highest, and what has been seen moves on by the difference. -/
theorem seqWindow_above {high seen seq : Nat} (h : high < seq) (hh : high ≠ 0xFFFFFFFF) : seqWindow high seen seq =
    some (seq, if high = 0 ∨ 64 < seq - high then 0
      else (seen * 2 ^ (seq - high) + 2 ^ (seq - high - 1)) % 2 ^ 64) := by
  have h0 : ¬ (seq = 0 ∨ high = 0xFFFFFFFF) := by omega
  rw [seqWindow, if_neg h0, if_pos h]

/-- A number not above the highest leaves the highest; it is taken where it is not spent, and is then seen. -/
theorem seqWindow_below {high seen seq : Nat} (h : seq ≤ high) : seqWindow high seen seq =
    if seq = 0 ∨ high = 0xFFFFFFFF ∨ seqSpent seen (high - seq) = true then none
    else some (high, seen + 2 ^ (high - seq - 1)) := by
  rw [seqWindow, if_neg (Nat.not_lt.2 h)]
  by_cases h0 : seq = 0 ∨ high = 0xFFFFFFFF
  · rw [if_pos h0, if_pos (h0.imp_right .inl)]
  · have hspent : (seq = 0 ∨ high = 0xFFFFFFFF ∨ seqSpent seen (high - seq) = true) ↔
        (high - seq = 0 ∨ 64 < high - seq ∨ bitOf seen (high - seq - 1) = true) := by
      rw [← or_assoc, or_iff_right h0]
      simp [seqSpent, or_assoc]
    rw [if_neg h0]
    simp only [hspent]

theorem seqWindow_below_eq_none {high seen seq : Nat} (h : seq ≤ high) :
    seqWindow high seen seq = none ↔ seq = 0 ∨ high = 0xFFFFFFFF ∨ seqSpent seen (high - seq) = true := by
  rw [seqWindow_below h]
  split <;> simp_all

/-- What a taken number that is not above the highest leaves. -/
theorem seqWindow_below_eq_some {high seen seq h' s' : Nat} (h : seq ≤ high) (hs : seqWindow high seen seq = some (h', s')) :
    seqSpent seen (high - seq) = false ∧ h' = high ∧ s' = seen + 2 ^ (high - seq - 1) := by
  rw [seqWindow_below h] at hs
  split at hs
  · contradiction
  · rename_i hn
    obtain ⟨rfl, rfl⟩ := Prod.mk.inj (Option.some.inj hs)
    exact ⟨Bool.eq_false_iff.2 fun h => hn (.inr (.inr h)), rfl, rfl⟩

/-- A number is taken only while its binding is not exhausted. -/
theorem high_ne_of_seqWindow_eq_some {high seen seq : Nat} {r : Nat × Nat} (hs : seqWindow high seen seq = some r) :
    high ≠ 0xFFFFFFFF := by
  rintro rfl
  simp [seqWindow] at hs

/-! ### What has been seen stays seen -/

/-- Adding the weight of a bit that is not set sets it. -/
theorem add_two_pow_eq_or {n b : Nat} (h : n.testBit b = false) : n + 2 ^ b = n ||| 2 ^ b := by
  have hlow : n % 2 ^ b < 2 ^ b := Nat.mod_lt _ (Nat.two_pow_pos b)
  have hmod : n % 2 ^ (b + 1) = n % 2 ^ b := by
    have hbit : n / 2 ^ b % 2 = 0 := by simpa [Nat.testBit_eq_decide_div_mod_eq] using h
    rw [Nat.mod_pow_succ, hbit, Nat.mul_zero, Nat.add_zero]
  have hn : 2 ^ (b + 1) * (n / 2 ^ (b + 1)) + n % 2 ^ b = n := hmod ▸ Nat.div_add_mod n (2 ^ (b + 1))
  calc n + 2 ^ b = 2 ^ (b + 1) * (n / 2 ^ (b + 1)) + (n % 2 ^ b + 2 ^ b) := by omega
    _ = 2 ^ (b + 1) * (n / 2 ^ (b + 1)) ||| n % 2 ^ b ||| 2 ^ b := by
      rw [Nat.two_pow_add_eq_or_of_lt (by omega), ← Nat.or_two_pow_eq_add_of_lt hlow, Nat.or_assoc]
    _ = n ||| 2 ^ b := by rw [← Nat.two_pow_add_eq_or_of_lt (by omega), hn]

theorem testBit_add_two_pow {n b : Nat} (h : n.testBit b = false) (j : Nat) :
    (n + 2 ^ b).testBit j = (n.testBit j || decide (b = j)) := by
  rw [add_two_pow_eq_or h, Nat.testBit_or, Nat.testBit_two_pow]

/-- Taking the number `d` below the highest spends it, and every number spent before stays spent. -/
theorem seqSpent_add {seen d d' : Nat} (hd : seqSpent seen d = false) (h : d' = d ∨ seqSpent seen d' = true) :
    seqSpent (seen + 2 ^ (d - 1)) d' = true := by
  rw [seqSpent_iff, testBit_add_two_pow (seqSpent_eq_false_iff.1 hd).2.2]
  rcases h with rfl | h
  · simp
  · exact (seqSpent_iff.1 h).imp_right (Or.imp_right fun h => by simp [h])

/-- A new highest number `e` above the former one leaves every spent number spent, the former highest among them. -/
theorem seqSpent_shift {seen d e : Nat} (he : e ≠ 0) (he64 : e ≤ 64) (h : seqSpent seen d = true) :
    seqSpent ((seen * 2 ^ e + 2 ^ (e - 1)) % 2 ^ 64) (d + e) = true := by
  rw [seqSpent_iff]
  by_cases hfar : 64 < d + e
  · exact .inr (.inl hfar)
  · refine .inr (.inr ?_)
    have inside : d + e - 1 < 64 := by omega
    have weight : 2 ^ (e - 1) < 2 ^ e := Nat.pow_lt_pow_right (by decide) (by omega)
    rw [Nat.testBit_mod_two_pow, Nat.mul_comm, Nat.testBit_two_pow_mul_add _ weight]
    by_cases h0 : d = 0
    · subst h0
      have below : e - 1 < e := by omega
      rw [Nat.zero_add] at inside ⊢
      simp only [inside, below, decide_true, Bool.true_and, if_true, Nat.testBit_two_pow_self]
    · have hd : seen.testBit (d - 1) = true := ((seqSpent_iff.1 h).resolve_left h0).resolve_left (by omega)
      have above : ¬ d + e - 1 < e := by omega
      have index : d + e - 1 - e = d - 1 := by omega
      simp [inside, above, index, hd]

/-- A number that has been taken is never taken again; the highest does not fall, and the window keeps its 64 bits. -/
theorem seqWindow_again {high seen seq h' s' : Nat} (hseen : seen < 2 ^ 64) (hs : seqWindow high seen seq = some (h', s')) :
    seqWindow h' s' seq = none ∧ high ≤ h' ∧ s' < 2 ^ 64 := by
  rcases Nat.lt_or_ge high seq with h | h
  · have hh := high_ne_of_seqWindow_eq_some hs
    obtain ⟨rfl, rfl⟩ := Prod.mk.inj (Option.some.inj ((seqWindow_above h hh).symm.trans hs))
    refine ⟨(seqWindow_below_eq_none (Nat.le_refl _)).2 (.inr (.inr (seqSpent_iff.2 (.inl (Nat.sub_self _))))), Nat.le_of_lt h, ?_⟩
    split
    · decide
    · exact Nat.mod_lt _ (by decide)
  · obtain ⟨hspent, rfl, rfl⟩ := seqWindow_below_eq_some h hs
    refine ⟨(seqWindow_below_eq_none h).2 (.inr (.inr (seqSpent_add hspent (.inl rfl)))), Nat.le_refl _, ?_⟩
    obtain ⟨-, hnear, hbit⟩ := seqSpent_eq_false_iff.1 hspent
    rw [add_two_pow_eq_or hbit]
    exact Nat.or_lt_two_pow hseen (Nat.pow_lt_pow_right (by decide) (by omega))

/-- A number that is refused and not above the highest stays refused when another is taken. -/
theorem seqWindow_stays_none {high seen seq seq' h' s' : Nat} (h0 : high ≠ 0) (hnone : seqWindow high seen seq' = none)
    (hle : seq' ≤ high) (hs : seqWindow high seen seq = some (h', s')) : seqWindow h' s' seq' = none := by
  have hh := high_ne_of_seqWindow_eq_some hs
  have spent' : seq' = 0 ∨ seqSpent seen (high - seq') = true :=
    ((seqWindow_below_eq_none hle).1 hnone).imp_right fun h => h.resolve_left hh
  rcases Nat.lt_or_ge high seq with h | h
  · obtain ⟨rfl, rfl⟩ := Prod.mk.inj (Option.some.inj ((seqWindow_above h hh).symm.trans hs))
    refine (seqWindow_below_eq_none (by omega)).2 (spent'.imp_right fun hsp => .inr ?_)
    have distance : seq - seq' = high - seq' + (seq - high) := by omega
    rw [distance]
    split
    · exact seqSpent_iff.2 (by omega)
    · exact seqSpent_shift (by omega) (by omega) hsp
  · obtain ⟨hspent, rfl, rfl⟩ := seqWindow_below_eq_some h hs
    exact (seqWindow_below_eq_none hle).2 (spent'.imp_right fun hsp => .inr (seqSpent_add hspent (.inr hsp)))

/-- Settles O6: the window's two cases, and that what is spent stays spent through both. -/
theorem irlinSequence : Obligations.IrlinSequence := by
  refine ⟨fun high seen seq _ hseen _ h' s' => seqWindow_again hseen,
    fun high seen seq seq' _ _ _ _ h0 hnone hle h' s' => seqWindow_stays_none h0 hnone hle,
    fun high seen => by simp [seqWindow], fun high seen seq h => ?_, fun high seen seq h hh => ⟨_, seqWindow_above h hh⟩⟩
  exact (seqWindow_below_eq_none (by omega)).2 (.inr (.inr (seqSpent_iff.2 (by omega))))

end Sys2Proof.Machine
end

section
/-! The operations of Irlin messages (R51, R57, R60, R61): each command is its operation at its tick. -/

namespace Sys2Proof.Machine

/-- A COMMIT of world 0 with its complement, a lock of 0 or 1, and nothing in its way meets no code (R65). -/
theorem State.commitCodes_eq_nil {s : State} {ref lock : Nat} (href : ref < 2 ^ 32) (hlock : lock < 2)
    (hc : s.control.commit = none) (hp : s.control.pair = none) : s.commitCodes 0 ref (0xFFFFFFFF - ref) lock = [] := by
  simp only [State.commitCodes, href, hlock, hc, hp, and_self, if_true, Option.isSome_none, Bool.false_eq_true, or_self, if_false,
    List.append_nil]

/-- A message within its size whose MAC is valid under a binding is taken under it (R57). -/
theorem State.irlinMessageIn_authentic {s v : State} {via : Via} {b : List Byte} {k : Fin 16} (hmin : 40 ≤ b.length)
    (hmax : b.length ≤ 8192) (h : s.irlinAuth via b (List.range 16) = (some k.val, v)) :
    s.irlinMessageIn via b = v.irlinTake k via b := by
  have size : ¬ (b.length < 40 ∨ 8192 < b.length) := by omega
  have index : (⟨k.val % 16, Nat.mod_lt _ (by decide)⟩ : Fin 16) = k := Fin.ext (Nat.mod_eq_of_lt k.isLt)
  simp only [State.irlinMessageIn, if_neg size, h, index]

/-- A frame that an engine wants leaves its port for it. -/
theorem State.frameTake_of_find {s : State} {p : Nat} {want : RxFrame → Bool} {f : RxFrame} (act : State → State)
    (h : (s.port p).inbox.find? want = some f) : s.frameTake p want act = act (s.frameTaken p f) := by
  rw [State.frameTake, h]

section
variable {t : Nat} {s u : State} (hAt : At t s u)
include hAt

/-- A waiting datagram to the Irlin port is taken; a port that may not carry Irlin has it dropped (R57, R84). -/
theorem exec_irlinDatagram {port udp : Nat} {b : List Byte} {f : RxFrame}
    (h : (u.port port).inbox.find? (fun f => decide (f.cls = 10 ∧ (layersOf f.bytes).dport = udp ∧ (layersOf f.bytes).body = b)) =
      some f) : exec (.irlinDatagram t port udp b) s =
    .next (if 18 ≤ port ∨ ¬ bitOf ((u.frameTaken port f).n E.irlinPortMask) port then (u.frameTaken port f).bump E.irlinDropAuth
      else (u.frameTaken port f).irlinMessageIn (.udp port) b) := by
  change execIrlinDatagram t port udp b s = _
  rw [execIrlinDatagram, timed_at hAt, State.frameTake_of_find _ h]

theorem exec_irlinCommit_taken (k : Fin 16) (via : Via) (tag : Nat) {ref lock : Nat} (hp : u.control.pair = none)
    (hc : u.control.commit = none) (hw : u.worldOf (.irlin k) = some 0) (href : ref < 2 ^ 32) (hlock : lock < 2) :
    exec (.irlinCommit t k via tag ref (0xFFFFFFFF - ref) lock) s = .next ((u.set E.commitRef 0 ref).startCommit
      { ref := ref, lock := decide (lock = 1), reply := some (k.val, via, tag) }) := by
  have late : ¬ u.pairLate = true := by simp [State.pairLate, hp]
  change execIrlinCommit t k via tag ref (0xFFFFFFFF - ref) lock s = _
  rw [execIrlinCommit, timed_at hAt, State.irlinCommit, if_neg late]
  simp only [hw, State.commitCodes_eq_nil href hlock hc hp]
  rfl

theorem exec_irlinSubscribe_granted (k : Fin 16) (via : Via) (tag domains : Nat) {minSev duration : Nat}
    {subs : List Subscription} (hs : minSev ≤ 3) (hd : 0 < duration)
    (hsubs : subs = u.control.subs.filter (fun x => !decide (x.key = k.val ∧ x.via = via)) ++
      [⟨k.val, via, domains, minSev, u.now + duration * 500000000⟩]) :
    exec (.irlinSubscribe t k via tag domains minSev duration) s =
      .next (({ u with control := { u.control with subs := subs } }).irlinReply k via 6 tag 0
        (subscribeBody domains minSev duration)) := by
  subst hsubs
  change execIrlinSubscribe t k via tag domains minSev duration s = _
  rw [execIrlinSubscribe, timed_at hAt, State.irlinSubscribe, if_neg (Nat.not_lt.2 hs)]
  simp only [if_neg (Nat.ne_of_gt hd), ticksS]

theorem exec_irlinSubscriptionExpiry_over {n : Nat} {x : Subscription} (hx : u.control.subs[n]? = some x)
    (hover : x.expires ≤ u.now) : exec (.irlinSubscriptionExpiry t n) s =
      .next { u with control := { u.control with subs := u.control.subs.eraseIdx n } } := by
  change execIrlinSubscriptionExpiry t n s = _
  rw [execIrlinSubscriptionExpiry, timed_at hAt]
  simp only [hx, if_pos hover]
end

/-- Settles O5: each clause is its command's operation, on what the operation itself answers. -/
theorem irlinCommands : Obligations.IrlinCommands := by
  intro t s u hAt k via tag
  refine ⟨fun port udp b f v hf hport hmask hmin hmax hauth => ?_, fun port udp b f hf hmask => ?_, fun peek items b v hr => ?_,
    fun items b v hall hr => ?_, fun index sub x v hr => ?_, fun peek index sub count ws v hr => ?_,
    fun ref lock hp hc hw href hlock => ?_, fun domains minSev duration subs hs hd hsubs => ?_,
    fun n x => exec_irlinSubscriptionExpiry_over hAt, fun report handle interval v hlen hr => ?_, ?_, fun hdrbg => ?_⟩
  · rw [exec_irlinDatagram hAt hf, if_neg (by simp [hmask, hport]), State.irlinMessageIn_authentic hmin hmax hauth]
  · rw [exec_irlinDatagram hAt hf, if_pos (by simp [hmask])]
  · change execIrlinRead t k via tag peek items s = _
    rw [execIrlinRead, timed_at hAt, State.irlinRead, hr]
  · change execIrlinWrite t k via tag items s = _
    rw [execIrlinWrite, timed_at hAt, State.irlinWrite, if_pos (by simpa using hall), hr]
  · change execIrlinGuardedWrite t k via tag index sub 1 x (~~~x) s = _
    rw [execIrlinGuardedWrite, timed_at hAt]
    exact congrArg (fun r : Nat × State => Host.Outcome.next (r.2.irlinReply k via 3 tag 0 (replyItem index sub 1 r.1))) hr
  · change execIrlinBlockRead t k via tag peek index sub count s = _
    rw [execIrlinBlockRead, timed_at hAt, State.irlinBlockRead, hr]
    rfl
  · rw [exec_irlinCommit_taken hAt k via tag hp hc hw href hlock]
    rfl
  · exact exec_irlinSubscribe_granted hAt k via tag domains hs hd hsubs
  · change execIrlinReport t k via tag report s = _
    rw [execIrlinReport, timed_at hAt, State.irlinReport, if_neg (not_not_intro hlen), hr]
    rfl
  · change execIrlinDiscover t k via tag s = _
    rw [execIrlinDiscover, timed_at hAt, State.irlinDiscover]
  · change execIrlinRenew t k via tag s = _
    rw [execIrlinRenew, timed_at hAt, State.irlinRenew, if_neg (not_not_intro hdrbg)]

end Sys2Proof.Machine
end

section
/-! Reset (R69, R70, R464): what a held engine takes, and what holding it leaves of its pulses. -/

namespace Sys2Proof.Machine

/-! ### A held engine (R70) -/

/-- Every command but the release, the holds and JTAG's is an operation at its tick, and a held engine takes none. -/
theorem exec_of_held {c : Instr} {s : State} (hheld : s.power.held = true) (h : actsInReset c = false) :
    exec c s = .next s := by
  cases c with
  | resetRelease => contradiction
  | pwrgoodFall t => contradiction
  | resetAssert t => contradiction
  | vddaoOutOfRange t => contradiction
  | jtagBypass t tdi => contradiction
  | jtagIdcode t tdi => contradiction
  | jtagSamplePreload t pins tdi => contradiction
  | jtagExtest t pins tdi => contradiction
  | _ => exact congrArg Host.Outcome.next (if_pos hheld)

/-- Settles O8: the engine takes no other command while it is held. -/
theorem heldInReset : Obligations.HeldInReset := fun _ _ hheld _ => exec_of_held hheld

/-! ### The pulses of a held engine (R70) -/

/-- Output `p` is at its inactive level with no trailing edge to come. -/
def Pulse.stopped (x : Pulse) : Prop := x.active = false ∧ x.trail = none

/-- Stopping the outputs of a list stops them all and starts none, where the table of pulses is in its canonical order. -/
theorem State.stopped_foldl_setPulse (l : List Nat) {f : State → Nat → Pulse} (hf : ∀ s p, (f s p).stopped) {s : State}
    {q : Nat} (hs : tabRising s.synth.pulses = true) (hq : q ∈ l ∨ (s.pulse q).stopped) :
    ((l.foldl (fun s p => s.setPulse p (f s p)) s).pulse q).stopped := by
  induction l generalizing s with
  | nil => exact hq.resolve_left List.not_mem_nil
  | cons p l ih =>
    refine ih (tabPut_rising _ _ _ _ hs) ?_
    change q ∈ l ∨ (tabGet {} q (tabPut {} p (f s p) s.synth.pulses)).stopped
    by_cases hp : q = p
    · subst hp
      rw [tabGet_tabPut_self _ _ _ _ hs]
      exact .inr (hf s q)
    · rw [tabGet_tabPut_ne _ _ _ _ _ _ hp]
      exact hq.imp_left fun h => (List.mem_cons.1 h).resolve_left hp

/-- Setting clock outputs leaves the pulses. -/
theorem State.pulses_foldl_setClkout (l : List Nat) (f : State → Nat → Clkout) (s : State) :
    (l.foldl (fun s k => s.setClkout k (f s k)) s).synth.pulses = s.synth.pulses := by
  induction l generalizing s with
  | nil => rfl
  | cons k l ih => exact ih _

/-- Where the table of pulses is in its canonical order, a hold stops every pulse output (R70). -/
theorem State.hold_stopped {s : State} (hs : tabRising s.synth.pulses = true) (g : Bool) {p : Nat} (hp : p < 8) :
    ((s.hold g).pulse p).stopped := by
  unfold State.hold State.pulse
  rw [State.pulses_foldl_setClkout]
  exact State.stopped_foldl_setPulse (List.range 8) (fun _ _ => ⟨rfl, rfl⟩) hs (.inl (List.mem_range.2 hp))

/-- Refutes O7: its clause on the pulses speaks of every table, and one that lists output 0 twice, which no canonical table does,
has an active pulse behind the one that the hold takes out. `State.hold_stopped` is that clause for
canonical tables. -/
theorem not_resetCommands : ¬ Obligations.ResetCommands := by
  rintro ⟨-, -, -, -, -, -, -, -, stops, -⟩
  have runs : ((State.hold { synth := { pulses := [(0, { active := true }), (0, { active := true })] } } false).pulse 0).active =
      true := by decide
  exact Bool.eq_false_iff.1 (stops _ false 0 (by decide)).1 runs

end Sys2Proof.Machine
end

section
/-! What a fault's report, the safe line and the clock switches leave alone (R223 to R229, R393, R413 to R426). -/

namespace Sys2Proof.Machine

/-- What is left alone: Privet's part, and what start-up, Hornbeam, Yew, the counters, the protocol engines, GNSS and JTAG keep. -/
def State.aside (s : State) : Nat × Islands × Otp × Boot × Power × Privet × Tab Sched × Hornbeam × Yew × Counters × Ptp ×
    Ntp × Capture × Gnss × Jtag × List Instr :=
  (s.now, s.islands, s.otp, s.boot, s.power, s.privet, s.sched, s.hornbeam, s.yew, s.counters, s.ptp, s.ntp, s.tap, s.gnss,
    s.jtag, s.pending)

namespace State

theorem boot_of_aside {s v : State} (h : v.aside = s.aside) : v.boot = s.boot := congrArg (·.2.2.2.1) h

/-- An update of the other parts leaves these. -/
theorem upd_aside {s x : State} {dict corTick control bound synth ports host vault holly perf draws emits}
    (h : x.aside = s.aside) : aside ⟨x.now, dict, corTick, x.islands, control, x.otp, x.boot, x.power, x.privet, x.sched, bound,
      x.hornbeam, x.yew, x.counters, synth, ports, host, x.ptp, x.ntp, x.tap, x.gnss, vault, holly, perf, x.jtag, draws, emits,
      x.pending⟩ = s.aside := h

theorem ite_aside {c : Prop} [Decidable c] {s a b : State} (ha : a.aside = s.aside) (hb : b.aside = s.aside) :
    (if c then a else b).aside = s.aside := by split <;> assumption

theorem foldl_aside {α : Type} {f : State → α → State} (hf : ∀ s x, (f s x).aside = s.aside) (l : List α) (s : State) :
    (l.foldl f s).aside = s.aside := by
  induction l generalizing s with
  | nil => rfl
  | cons x l ih => exact (ih _).trans (hf s x)

theorem set_aside (s : State) (e : Entry) (i v : Nat) : (s.set e i v).aside = s.aside := rfl
theorem setT96_aside (s : State) (e : Entry) (i : Nat) (t : T96) : (s.setT96 e i t).aside = s.aside := rfl

theorem bump_aside (s : State) (e : Entry) (i k : Nat) : (s.bump e i k).aside = s.aside := by
  obtain ⟨d, c, h⟩ := s.bump_eq e i k
  rw [h]
  rfl

theorem perfEvent_aside (s : State) (code unit k : Nat) : (s.perfEvent code unit k).aside = s.aside := by
  obtain ⟨p, h⟩ := s.perfEvent_eq code unit k
  rw [h]
  rfl

theorem emit_aside (s : State) (x : Emit) : (s.emit x).aside = s.aside := by
  cases x with
  | dma f a b => exact perfEvent_aside s 0x702 (f / 2) (ceilDiv b.length 64)
  | _ => rfl

/-! ### Clock switches and MDLLs (R223 to R229, R245) -/

theorem clkRefresh_aside (s : State) (k : Nat) : (s.clkRefresh k).aside = s.aside := ite_aside rfl rfl
theorem toBypass_aside (s : State) (k : Nat) : (s.toBypass k).aside = s.aside := clkRefresh_aside _ k
theorem clkTake_aside (s : State) (k : Nat) : (s.clkTake k).aside = s.aside := clkRefresh_aside _ k
theorem clkDrop_aside (s : State) (k : Nat) : (s.clkDrop k).aside = s.aside := clkTake_aside _ k

theorem mdllLeave_aside (s : State) (m st : Nat) : (s.mdllLeave m st).aside = s.aside :=
  have bypassed := foldl_aside toBypass_aside
  ite_aside (bypassed _ _) (bypassed _ _)

theorem acquire_aside (s : State) (m : Nat) : (s.acquire m).aside = s.aside := mdllLeave_aside s m _
theorem takeReference_aside (s : State) (m : Nat) : (s.takeReference m).aside = s.aside := rfl

theorem mdllSettle_aside (s : State) (m : Nat) : (s.mdllSettle m).aside = s.aside := by
  refine ite_aside rfl (ite_aside (foldl_aside toBypass_aside _ _) ?_)
  split
  · exact ite_aside (foldl_aside clkRefresh_aside _ _) (acquire_aside _ m)
  · rfl

theorem synthSafe_aside (s : State) : s.synthSafe.aside = s.aside :=
  have clocks := foldl_aside (f := fun (s : State) k =>
    if s.n E.synSafeClocks = 0 then (s.setClkout k { s.clkout k with stopped := true }).clkDrop k else s.toBypass k)
    fun s k => ite_aside (clkDrop_aside _ k) (toBypass_aside s k)
  have pulses := foldl_aside (f := fun (s : State) p =>
    (s.setPulse p { s.pulse p with active := false, trail := none, follow := [] }).ppsRefresh p) fun _ _ => rfl
  (foldl_aside mdllSettle_aside _ _).trans ((clocks _ _).trans (pulses _ _))

/-! ### Rings, Irlin and the vault's uses (R272 to R283, R393) -/

theorem launchesSafe_aside (s : State) : s.launchesSafe.aside = s.aside := by
  refine foldl_aside (fun s p => ?_) _ _
  extract_lets x limit gone again v late kept
  exact (foldl_aside (fun s f => emit_aside s _) gone s : v.aside = s.aside)

theorem ringSignal_aside (s : State) (r : Nat) : (s.ringSignal r).aside = s.aside :=
  ite_aside (ite_aside rfl (ite_aside (emit_aside _ _) rfl)) rfl

theorem ringAdvance_aside (s : State) (r k : Nat) : (s.ringAdvance r k).aside = s.aside :=
  (ringSignal_aside _ r).trans ((emit_aside _ _).trans (perfEvent_aside _ _ _ k))

theorem ringWrite_aside (s : State) (r : Nat) (b : List Byte) : (s.ringWrite r b).aside = s.aside :=
  (ringAdvance_aside _ r 1).trans (emit_aside s _)

theorem ringFlushLoss_aside (s : State) (r : Nat) : (s.ringFlushLoss r).aside = s.aside :=
  ite_aside rfl (foldl_aside (fun s b => ringWrite_aside s r b) _ _)

theorem ringPut_aside (s : State) (r : Nat) (b : List Byte) : (s.ringPut r b).aside = s.aside := by
  have flushed := ringFlushLoss_aside s r
  have counted := ite_aside (c := (s.ringFlushLoss r).n E.ringState r = 1 ∨ (s.ringFlushLoss r).n E.ringState r = 2 ∨ r % 8 = 4)
    ((bump_aside _ E.ringLost r 1).trans flushed) flushed
  exact ite_aside ((ringWrite_aside _ r b).trans flushed) (ite_aside counted counted)

theorem event_aside (s : State) (w : Nat) (b : List Byte) : (s.event w b).aside = s.aside := by
  unfold event
  extract_lets r host v
  exact ite_aside (ringPut_aside s r b) (ite_aside rfl (upd_aside (bump_aside s E.ringLost r 1)))

theorem keyRefused_aside (s : State) (u : KeyUse) (reason : Nat) : (s.keyRefused u reason).aside = s.aside := by
  unfold keyRefused
  split <;> exact bump_aside _ _ _ _

theorem cacheFind_aside {s v : State} {k : Nat} {label : Option (List Byte)} {m : List Byte}
    (h : s.cacheFind k label = some (m, v)) : v.aside = s.aside := by
  unfold cacheFind at h
  extract_lets chain at h
  split at h
  · cases h
    rfl
  · contradiction

theorem useKey_aside (s : State) (u : KeyUse) (label : Option (List Byte)) : (s.useKey u label).2.aside = s.aside := by
  unfold useKey
  extract_lets k reason count
  have counted (v : State) : (count v).aside = v.aside := by
    have own := ite_aside (c := 16 ≤ k ∧ label.isNone = true) (bump_aside v E.keyUses k 1) rfl
    change State.aside (match State.laneFor _ _ u with | some l => State.perfEvent _ 0x601 l 1 | none => _) = _
    split
    · exact (perfEvent_aside _ _ _ _).trans own
    · exact own
  clear_value count
  split
  · exact keyRefused_aside s u reason
  · split
    · split
      · rename_i h
        exact (counted _).trans (cacheFind_aside h)
      · have missed := (perfEvent_aside (s.bump E.cacheMisses) 0x602 0 1).trans (bump_aside s E.cacheMisses 0 1)
        dsimp only
        exact ite_aside missed (upd_aside missed)
    · exact counted s

theorem irlinMessage_aside (s : State) (k : Nat) (via : Via) (op flags tag status : Nat) (body : List Byte) :
    (s.irlinMessage k via op flags tag status body).2.aside = s.aside := by
  have used := useKey_aside s (s.irlinUse k via) none
  unfold irlinMessage
  split
  · rename_i h
    rw [h] at used
    exact used
  · rename_i h
    rw [h] at used
    exact used

theorem irlinSend_aside (s : State) (k : Nat) (via : Via) (op flags tag status : Nat) (body : List Byte) :
    (s.irlinSend k via op flags tag status body).aside = s.aside := by
  have sent := irlinMessage_aside s k via op flags tag status body
  unfold irlinSend
  split
  · rename_i h
    rw [h] at sent
    split
    · exact sent
    · exact (emit_aside _ _).trans sent
  · rename_i h
    rw [h] at sent
    exact sent

/-! ### Holly (R413 to R426) -/

theorem sendRecord_aside (s : State) (l : Nat) (clear : Bool) : (s.sendRecord l clear).aside = s.aside :=
  (foldl_aside (fun _ _ => irlinSend_aside _ _ _ _ _ _ _ _) _ _).trans (foldl_aside (fun _ _ => event_aside _ _ _) _ _)

theorem mergeRecord_aside (s : State) (l src sev : Nat) (promoted : Bool) :
    (s.mergeRecord l src sev promoted).aside = s.aside := ite_aside (sendRecord_aside _ l false) rfl

theorem openRecord_aside (s : State) (l src sev : Nat) (promoted : Bool) (detail world : Nat) :
    (s.openRecord l src sev promoted detail world).aside = s.aside := ite_aside rfl (sendRecord_aside _ l false)

theorem enterSafe_aside (s : State) (src sev : Nat) : (s.enterSafe src sev).aside = s.aside := by
  unfold enterSafe
  extract_lets core accrued b old held at' v
  have heldAside : held.aside = s.aside := ite_aside (ite_aside rfl rfl) (ite_aside rfl rfl)
  exact ite_aside heldAside ((launchesSafe_aside _).trans ((synthSafe_aside _).trans heldAside))

theorem raiseOne_aside (s : State) (src : Nat) (sev : Option Nat) (detail world : Nat) :
    (s.raiseOne src sev detail world).aside = s.aside := by
  unfold raiseOne
  extract_lets own hist holly asserted prom g noted a bound charged refreshed recorded shown
  have hcounted : ((asserted.bump E.fltCount src 1).bump E.hollyEvents g 1).aside = s.aside :=
    (bump_aside _ E.hollyEvents g 1).trans ((bump_aside asserted E.fltCount src 1).trans (upd_aside rfl))
  have hnoted : noted.aside = s.aside := (perfEvent_aside _ 0x705 0 1).trans ((setT96_aside _ _ _ _).trans hcounted)
  have hrefreshed : refreshed.aside = s.aside := (set_aside charged _ _ _).trans (upd_aside hnoted)
  clear_value refreshed
  have hrecorded : recorded.aside = s.aside := by
    subst recorded
    split
    · exact (mergeRecord_aside ..).trans hrefreshed
    · split
      · exact (openRecord_aside ..).trans hrefreshed
      · split
        · exact (bump_aside ..).trans ((mergeRecord_aside ..).trans hrefreshed)
        · exact hrefreshed
  clear_value recorded
  exact ite_aside rfl (ite_aside rfl (ite_aside ((enterSafe_aside shown src g).trans hrecorded) hrecorded))

theorem lockEvents_aside (s : State) : s.lockEvents.aside = s.aside := foldl_aside (fun _ _ => raiseOne_aside _ _ _ _ _) _ _

/-- Beginning to acquire touches no more than the MDLLs, their outputs and the reports of those that leave LOCKED. -/
theorem mdllsStart_aside (s : State) : s.mdllsStart.aside = s.aside :=
  (lockEvents_aside _).trans
    (foldl_aside (fun s m => ite_aside ((acquire_aside _ m).trans (takeReference_aside s m)) rfl) _ _)

end State

end Sys2Proof.Machine
end

section
/-! The start-up stages (R71 to R80): what each leaves where it succeeds, and where it stops. -/

namespace Sys2Proof.Machine

/-! ### Stages 1 to 3 -/

/-- Where no island has failed, every lane keeps its state (R430). -/
theorem State.lanes_of_none_failed {v : State} (h : v.holly.failed = []) (l : List Nat) :
    l.foldl (fun s x => if s.holly.failed.contains (0x610 + x) then s.set E.laneState x 0 else s) v = v := by
  induction l with
  | nil => rfl
  | cons x l ih =>
    have kept : ¬ v.holly.failed.contains (0x610 + x) = true := by
      rw [h, List.contains_nil]
      exact Bool.false_ne_true
    rwa [List.foldl_cons, if_neg kept]

section
variable {t : Nat} {s u : State} (hAt : At t s u)
include hAt

theorem exec_otpLoad_fails (hstage : u.n E.bootStage = 1) (hfail : u.power.otpFail = false) :
    exec (.otpLoad t false) s = .next { u with power := { u.power with otpFail := true } } := by
  change execOtpLoad t false s = _
  rw [execOtpLoad, timed_at hAt, if_neg (by simp [hstage, hfail]), if_pos Bool.false_ne_true]

/-- A load with no half-burnt pair for RETIRED enters no lifecycle state of its own (R71, R82). -/
theorem exec_otpLoad_loads {v x : State} (hstage : u.n E.bootStage = 1) (hfail : u.power.otpFail = false)
    (hburn : u.otp.halfBurnt ≠ some 4)
    (hv : ({ u with otp := { u.otp with halfBurnt := none } }.loadIdentity.set E.drbgState 0 1).keepLoad.loadBist.drawReset = v)
    (hx : v.set E.vaultState 0 (if v.n E.lifecycle = 0 then 0 else if v.n E.lifecycle = 4 then 3 else 1) = x) :
    exec (.otpLoad t true) s = .next (if x.n E.lifecycle = 0 then x.set E.bootStage 0 2 else x.afterRoot) := by
  subst hx hv
  change execOtpLoad t true s = _
  rw [execOtpLoad, timed_at hAt, if_neg (by simp [hstage, hfail]), if_neg (not_not_intro rfl), decide_eq_false hburn]
  rfl

theorem exec_rootGen_unhealthy {health : List Bool} (writes : Bool) (hstage : u.n E.bootStage = 2)
    (hresult : u.n E.bootResult ≠ 6) (hh : (health.take 4).any id = false) :
    exec (.rootGen t health writes) s = .next (u.set E.bootResult 0 6) := by
  change execRootGen t health writes s = _
  rw [execRootGen, timed_at hAt, if_neg (by simp [hstage, hresult]), if_pos (.inl (Bool.eq_false_iff.1 hh))]

/-- A root is drawn, masked and written with its marker, and PROVISIONED begins (R72, R385). -/
theorem exec_rootGen_writes {health : List Bool} {masked : Shares} {v : State} (hstage : u.n E.bootStage = 2)
    (hresult : u.n E.bootResult ≠ 6) (hh : (health.take 4).any id = true) (hfree : u.otp.rootWritten < 2)
    (hshare : u.drew.share (u.randomBytes 32) = (masked, v)) :
    exec (.rootGen t health true) s = .next (((({ v with otp := { v.otp with
      rootWritten := u.otp.rootWritten + 1, rootMarked := u.otp.rootWritten + 1,
      root := masked } }).enterLifecycle 1).set E.vaultState 0 1).afterRoot) := by
  change execRootGen t health true s = _
  rw [execRootGen, timed_at hAt, if_neg (by simp [hstage, hresult]), if_neg (by simp [hh, hfree])]
  simp only [hshare]
  rfl

/-- Where no island fails, every lane keeps its state and stage 4 begins (R71, R430). -/
theorem exec_stageBist_passes {sigs : List (Nat × Nat × Nat)} {v : State} (hstage : u.n E.bootStage = 3)
    (hv : u.islandList.foldl (fun (x : State) i =>
      (x.arraysZero i).bistResult i 3 (((sigs.find? (fun p => p.1 == i)).map (·.2)).getD (0, 0)).1
        (((sigs.find? (fun p => p.1 == i)).map (·.2)).getD (0, 0)).2) u = v) (hok : v.holly.failed = []) :
    exec (.stageBist t sigs) s = .next (v.set E.bootStage 0 4) := by
  change execStageBist t sigs s = _
  rw [execStageBist, timed_at hAt, if_neg (not_not_intro hstage)]
  simp only [hv, State.lanes_of_none_failed hok, hok]
  rfl

/-! ### Stages 4 and 5 -/

/-- A flash that does not answer gives no image, and stage 6 begins with nothing loaded (R71, R74). -/
theorem exec_stageImageLoad_silent {x : FlashObs} (hstage : u.n E.bootStage = 4) (hcert : u.flag E.boxCertMode = false)
    (hvault : u.n E.vaultState ≠ 1) (hx : x.answers = false) (hi : u.boot.images = []) :
    exec (.stageImageLoad t x) s = .next (u.set E.bootResult 0 1).toCalibrate := by
  have same : { u with boot := { u.boot with images := [] } } = u := by rw [← hi]
  change execStageImageLoad t x s = _
  rw [execStageImageLoad, timed_at hAt, if_neg (not_not_intro hstage)]
  simp [hcert, hvault, hx, hi, same]

/-- The images that the flash gives go before those in hand, and stage 5 begins (R73, R74). -/
theorem exec_stageImageLoad_images {x : FlashObs} {l : List (Nat × List Byte)} (hstage : u.n E.bootStage = 4)
    (hcert : u.flag E.boxCertMode = false) (hvault : u.n E.vaultState ≠ 1) (hx : x.answers = true)
    (hopt : bitOf (u.n E.bootOptions) 1 = false)
    (hl : flashImages (flashPart x 0 slotSize) (flashPart x slotSize slotSize) ++ u.boot.images = l) (h0 : l ≠ []) :
    exec (.stageImageLoad t x) s = .next (({ u with boot := { u.boot with images := l } }).set E.bootStage 0 5) := by
  change execStageImageLoad t x s = _
  rw [execStageImageLoad, timed_at hAt, if_neg (not_not_intro hstage)]
  simp [hcert, hvault, hx, hopt, hl, h0]
end

/-! ### Images (R73, R76) -/

/-- An image whose records, signature, part and mask agree passes checks 1 to 3 (R76). -/
theorem State.imageChecks_pass {u x v : State} {b k : List Byte} {l : List ImageRecord} (hr : imageRecords b = some l)
    (hk : u.useKey (imageUse b) = (.key k, x)) (hv : x.perfEvent 0x603 0 = v)
    (hsig : ecdsaVerify k (imageDigest b) (imageSig b) = true)
    (hpart : beAt b 8 4 = 0 ∨ beAt b 8 4 = v.otp.part.number) (hmask : beAt b 12 8 = v.otp.mask) :
    u.imageChecks b = (0, l, v) := by
  have fits : ¬ ((beAt b 8 4 ≠ 0 ∧ beAt b 8 4 ≠ v.otp.part.number) ∨ beAt b 12 8 ≠ v.otp.mask) := by
    rintro (⟨h0, hp⟩ | hm)
    · exact hpart.elim h0 hp
    · exact hm hmask
  simp only [State.imageChecks, hr, hk, hv]
  rw [if_neg (not_not_intro hsig), if_neg fits]

/-- An image that passes its checks and whose records are all written puts its commit in hand (R76). -/
theorem State.imageRun_commits {u v w : State} {b : List Byte} {l : List ImageRecord} (hc : u.imageChecks b = (0, l, v))
    (hw : v.writeRecords l = (true, w)) : u.imageRun b = (w.set E.commitRef 0 (beAt b 24 4)).startCommit
      { ref := beAt b 24 4, lock := bitOf (beAt b 6 2) 0, image := true } := by
  rw [State.imageRun, hc]
  simp only [hw]

/-- An image that does not pass its checks fails with their result (R76). -/
theorem State.imageRun_fails {u v : State} {b : List Byte} {code : Nat} {l : List ImageRecord}
    (hc : u.imageChecks b = (code, l, v)) (h0 : code ≠ 0) : u.imageRun b = v.imageFailed code := by
  rw [State.imageRun, hc]
  split
  · rename_i h
    exact absurd (congrArg Prod.fst h) h0
  · rename_i h
    cases h
    rfl

section
variable {t : Nat} {s u : State} {src : Nat} {b : List Byte} {rest : List (Nat × List Byte)} (hAt : At t s u)
  (hi : u.boot.images = (src, b) :: rest) (hstage : 5 ≤ u.n E.bootStage) (hc : u.control.commit = none)
  (hp : u.control.pair = none)
include hAt hi hstage hc hp

/-- With no commit in progress and no pair pending, the image in hand is run where no read is waited for (R76). -/
theorem exec_imageApply_inHand (hd : u.boot.dma = none) : exec (.imageApply ⟨t, none⟩) s = .next (u.imageRun b) := by
  change execImageApply ⟨t, none⟩ s = _
  rw [execImageApply, timed_at hAt]
  simp only [hi, hd]
  rw [if_neg (by simp [hc, hp, Nat.not_lt.2 hstage])]

/-- A host's image that its read brings whole is run (R73). -/
theorem exec_imageApply_read {f a : Nat} {d : List Byte} (h3 : src = 3) (hd : u.boot.dma = some (f, a, d.length)) :
    exec (.imageApply ⟨t, some d⟩) s =
      .next (({ u with boot := { u.boot with images := (3, d) :: rest, dma := none } }).imageRun d) := by
  subst h3
  change execImageApply ⟨t, some d⟩ s = _
  rw [execImageApply, timed_at hAt]
  simp only [hi, hd]
  rw [if_neg (by simp [hc, hp, Nat.not_lt.2 hstage]), if_neg (not_not_intro rfl), if_pos trivial]

/-- A host's image whose read fails has result 1. -/
theorem exec_imageApply_readFails {f a n : Nat} (h3 : src = 3) (hd : u.boot.dma = some (f, a, n)) :
    exec (.imageApply ⟨t, none⟩) s = .next (u.imageFailed 1) := by
  subst h3
  change execImageApply ⟨t, none⟩ s = _
  rw [execImageApply, timed_at hAt]
  simp only [hi, hd]
  rw [if_neg (by simp [hc, hp, Nat.not_lt.2 hstage]), if_neg (not_not_intro rfl)]
end

/-! ### Stage 6 (R18 to R20, R71) -/

/-- With every fitted leaf inside the pad range, all of them are calibrated and the tree is DONE. -/
theorem State.calTree_inRange {u : State} {x : CalObs}
    (h : ∀ n < 64, u.leafFitted n = true → padInRange (u.calForward x n) = true) :
    u.calTree x = ((((List.range 64).filter u.leafFitted).foldl (fun (y : State) n => y.calLeaf x n) u).set E.treeLeaves 0
      (maskOf ((List.range 64).filter u.leafFitted))).set E.treeCalState 0 2 := by
  have all : ((List.range 64).filter u.leafFitted).filter (fun n => padInRange (u.calForward x n)) =
      (List.range 64).filter u.leafFitted := by
    refine List.filter_eq_self.2 fun n hn => ?_
    obtain ⟨hlt, hfit⟩ := List.mem_filter.1 hn
    exact h n (List.mem_range.1 hlt) hfit
  simp only [State.calTree, all, Nat.lt_irrefl, if_false]

/-- What is not the default reads as written in any table. -/
theorem tabGet_tabPut_self_of_ne {α : Type} [DecidableEq α] {d v : α} (hv : v ≠ d) (k : Nat) (l : Tab α) :
    tabGet d k (tabPut d k v l) = v := by
  induction l with
  | nil => simp [tabPut, tabGet, hv]
  | cons p l ih =>
    obtain ⟨j, x⟩ := p
    rcases Nat.lt_trichotomy j k with h | h | h
    · simp [tabPut, tabGet, h, Nat.ne_of_lt h, ih]
    · simp [tabPut, tabGet, h, hv]
    · simp [tabPut, tabGet, Nat.not_lt.2 (Nat.le_of_lt h), Nat.ne_of_gt h, hv]

/-- A fitted leaf outside the pad range leaves the tree FAILED. -/
theorem State.treeCalState_calTree_outOfRange {u : State} {x : CalObs} {n : Nat} (hn : n < 64) (hfit : u.leafFitted n = true)
    (hout : padInRange (u.calForward x n) = false) : (u.calTree x).n E.treeCalState = 3 := by
  have fewer : (((List.range 64).filter u.leafFitted).filter (fun n => padInRange (u.calForward x n))).length <
      ((List.range 64).filter u.leafFitted).length :=
    List.length_filter_lt_length_iff_exists.2
      ⟨n, List.mem_filter.2 ⟨List.mem_range.2 hn, hfit⟩, Bool.eq_false_iff.1 hout⟩
  simp only [State.calTree, if_pos fewer]
  exact congrArg BitVec.toNat (tabGet_tabPut_self_of_ne (by decide) _ _)

section
variable {t : Nat} {s u : State} {x : CalObs} (hAt : At t s u) (hstage : u.n E.bootStage = 6)
  (hfail : u.boot.calFailed = false)
include hAt hstage hfail

theorem exec_calibrate_treeFails (htree : ((u.calTree x).calConverters x).n E.treeCalState = 3) :
    exec (.calibrate t x) s = .next ((((u.calTree x).calConverters x).calFail 8).raise 3) := by
  change execCalibrate t x s = _
  rw [execCalibrate, timed_at hAt, if_neg (by simp [hstage, hfail]), if_pos htree]

theorem exec_calibrate_mdllFails {m : Nat} (htree : ((u.calTree x).calConverters x).n E.treeCalState = 2) (hm : m < 4)
    (hbad : mdllOk x m = false) : exec (.calibrate t x) s = .next (((u.calTree x).calConverters x).calFail 9) := by
  have bad : ¬ (List.range 4).all (mdllOk x) = true := fun h =>
    Bool.eq_false_iff.1 hbad (List.all_eq_true.1 h m (List.mem_range.2 hm))
  change execCalibrate t x s = _
  rw [execCalibrate, timed_at hAt, if_neg (by simp [hstage, hfail]), if_neg (by simp [htree]), if_pos bad]

theorem exec_calibrate_done {w : State} (hw : (u.calTree x).calConverters x = w) (htree : w.n E.treeCalState = 2)
    (hok : ∀ m < 4, mdllOk x m = true) : exec (.calibrate t x) s =
      .next (({ w.mdllsStart with boot := { w.mdllsStart.boot with stage6 := true } }).set E.bootStage 0 7) := by
  subst hw
  have good : (List.range 4).all (mdllOk x) = true := List.all_eq_true.2 fun m hm => hok m (List.mem_range.1 hm)
  change execCalibrate t x s = _
  rw [execCalibrate, timed_at hAt, if_neg (by simp [hstage, hfail]), if_neg (by simp [htree]), if_neg (not_not_intro good),
    State.boot_of_aside (State.mdllsStart_aside _)]
end

/-! ### Stages 7 to 9 (R78, R80) -/

section
variable {t : Nat} {s u : State} (hAt : At t s u)
include hAt

/-- The Quiet state ends once stage 6 has completed and a commit has matched (R78). -/
theorem exec_quietEnd_matched (hstage : u.n E.bootStage = 7) (h6 : u.boot.stage6 = true) (hm : u.control.matched = true) :
    exec (.quietEnd t) s = .next ((((u.set E.bootStage 0 (if u.flag E.firstLock then 9 else 8)).set E.bootTime 0
      (min (u.now / 500) (2 ^ 32 - 1))).outputRefresh).clkQuietEnd.ppsRefreshAll) := by
  change execQuietEnd t s = _
  rw [execQuietEnd, timed_at hAt, if_pos ⟨hstage, h6, hm⟩]
  rfl

/-- A selected QUALIFIED slot that is measured gives first lock; a step ahead is taken whatever its size (R80, R101). -/
theorem exec_firstLock_ahead {n : Nat} (hn : u.n E.hbSelected = n) (hfirst : u.flag E.firstLock = false) (hlt : n < 32)
    (hq : u.qualified n = true) (htime : u.timeCapable n = true) (hmeas : u.measured n = true)
    (hstep : u.privet.pendStep = none) (hret : u.privet.retarding = false) (hahead : 0 ≤ unitsOfFs (u.phaseNow n))
    (hstage : 8 ≤ ((u.acceptStep (unitsOfFs (u.phaseNow n)) 0).set E.firstLock 0 1).n E.bootStage) :
    exec (.firstLock t) s = .next (((((u.acceptStep (unitsOfFs (u.phaseNow n)) 0).set
      E.firstLock 0 1).set E.bootStage 0 9).trackClear.steerInteg.yewRefresh).outputRefresh) := by
  subst hn
  change execFirstLock t s = _
  rw [execFirstLock, timed_at hAt, if_neg (by simp [hfirst, hlt, hq, htime, hmeas, hstep, hret]),
    if_neg fun h => Int.not_lt.2 hahead h.1]
  simp only [if_pos hstage]
end

/-- Settles O9: each clause is the lemma of its stage. -/
theorem stageCommands : Obligations.StageCommands := by
  intro t s u hAt
  refine ⟨exec_otpLoad_fails hAt, fun v x => exec_otpLoad_loads hAt, fun health => exec_rootGen_unhealthy hAt true,
    fun health root masked v hstage hresult hh hfree hroot hshare => ?_, fun sigs v => exec_stageBist_passes hAt,
    fun x => exec_stageImageLoad_silent hAt, fun x a b hstage hcert hvault hx hopt ha hb h0 => ?_,
    fun b rest l k x v w hi hd hstage hc hp hr hk hv hsig hpart hmask hw => ?_,
    fun b rest code l v hi hd hstage hc hp hchecks h0 => ?_, fun f a n d rest hi hd hstage hc hp hn => ?_,
    fun f a n rest hi hd hstage hc hp => exec_imageApply_readFails hAt hi hstage hc hp rfl hd,
    fun x v w hstage hfail hleaves hok hv hw htree => ?_, fun x n _ hstage hfail _ _ => exec_calibrate_treeFails hAt hstage hfail,
    fun x m hm hstage hfail htree => exec_calibrate_mdllFails hAt hstage hfail htree hm,
    fun x n => State.treeCalState_calTree_outOfRange, fun f => decide_eq_true_iff, exec_quietEnd_matched hAt,
    exec_firstLock_ahead hAt rfl⟩
  · subst hroot
    exact exec_rootGen_writes hAt hstage hresult hh hfree hshare
  · subst ha hb
    exact exec_stageImageLoad_images hAt hstage hcert hvault hx hopt rfl h0
  · rw [exec_imageApply_inHand hAt hi hstage hc hp hd,
      State.imageRun_commits (State.imageChecks_pass hr hk hv hsig hpart hmask) hw]
  · rw [exec_imageApply_inHand hAt hi hstage hc hp hd, State.imageRun_fails hchecks h0]
  · subst hn
    exact exec_imageApply_read hAt hi hstage hc hp rfl hd
  · subst hv
    exact exec_calibrate_done hAt hstage hfail ((congrArg (·.calConverters x) (State.calTree_inRange hleaves)).trans hw) htree hok

end Sys2Proof.Machine
end

section
/-! Lifecycle, boot options, host images and trim profiles (R73, R81, R82, R86 to R88). -/

namespace Sys2Proof.Machine

section
variable {t : Nat} {s u : State} (hAt : At t s u)
include hAt

/-- A burn that completes makes its lifecycle state take effect (R82). -/
theorem exec_lifecycleBurnComplete {l e : Nat} (hb : u.boot.burning = some (l, e)) :
    exec (.lifecycleBurnComplete t) s = .next (u.enterLifecycle l) := by
  change execLifecycleBurnComplete t s = _
  rw [execLifecycleBurnComplete, timed_at hAt, hb]

/-- A host image's write that is let through has its effect, and what the row's reads bring arrives with it (R73). -/
theorem exec_imageLoad_opens {m : Master} {w : Nat} {x : Word} {v : State} (ho : Opens spImageLoad m w 0 [x] u v)
    (dma : Option (List Byte)) :
    exec (.imageLoad t m x dma) s = .next ((spImageLoad.apply ⟨m, w, 0, [x]⟩ v).dmaArrive dma) := by
  change execImageLoad t m x dma s = _
  rw [execImageLoad, timed_at hAt, State.write_opens ho]
  rfl

/-- A trim write before this tick is taken up at a whole second (R87). -/
theorem exec_trimApply_due {wr : Nat} (hw : u.boot.trimAt = some wr) (hlt : wr < u.now) (hsec : u.atSecond = true) :
    exec (.trimApply t) s = .next (if u.n E.trimProfile = u.n E.trimActive
      then { u with boot := { u.boot with trimAt := none } }
      else ({ u with boot := { u.boot with trimAt := none } }).trimChange (u.n E.trimProfile)) := by
  change execTrimApply t s = _
  rw [execTrimApply, timed_at hAt, hw]
  exact congrArg _ (if_pos ⟨hlt, hsec⟩)
end

/-- Without a read's octets nothing arrives. -/
theorem State.dmaArrive_none (s : State) : s.dmaArrive none = s := rfl

/-- As many octets as were asked for are the host's image (R73). -/
theorem State.dmaArrive_whole {s : State} {d : List Byte} {f a n : Nat} {b : List (Nat × List Byte)}
    (hd : s.boot.dma = some (f, a, n)) (hi : s.boot.images = (3, []) :: b) (hn : d.length = n) :
    s.dmaArrive (some d) = { s with boot := { s.boot with images := (3, d) :: b, dma := none } } := by
  simp only [State.dmaArrive, hd, hi]
  exact if_pos hn

/-- Settles O10: each clause is its command's row, or the effect of its entry's write. -/
theorem lifecycleCommands : Obligations.LifecycleCommands := by
  intro t s u hAt
  refine ⟨fun m w x v ho => writeRow_opens hAt ho, fun l e hb hl => ?_, fun e hb => ?_,
    fun m w x v ho => writeRow_opens hAt ho, fun f w x v ho => ?_, fun f w x v y d ho hd hy => ?_, fun w x v ho hwhole => ?_,
    fun m w x v ho => writeRow_opens hAt ho, fun wr hw hlt hsec heq => ?_, fun wr hw hlt hsec hne => ?_⟩
  · rw [exec_lifecycleBurnComplete hAt hb]
    exact congrArg _ (if_neg hl)
  · rw [exec_lifecycleBurnComplete hAt hb]
    rfl
  · rw [exec_imageLoad_opens hAt ho, State.dmaArrive_none]
    rfl
  · subst hy
    rw [exec_imageLoad_opens hAt ho]
    exact congrArg _ (State.dmaArrive_whole rfl rfl hd)
  · rw [exec_imageLoad_opens hAt ho, State.dmaArrive_none]
    exact congrArg _ (if_pos hwhole)
  · rw [exec_trimApply_due hAt hw hlt hsec, if_pos heq]
  · rw [exec_trimApply_due hAt hw hlt hsec, if_neg hne]

end Sys2Proof.Machine
end

section
/-! Privet from tick to tick (R91, R96, R100): what a run gives back in a retard, what of the interval's slew it absorbs, and where
its time comes to. -/

namespace Sys2Proof.Machine

/-- The part of its offset that a retard gives up in the next `n` ticks (R100). -/
def Privet.gives (p : Privet) (n : Nat) : Nat := min p.retard (n * (p.incr - p.incr / 2))

/-- The part of the interval's slew absorbed after `n` more ticks; a retard suspends it (R96, R100). -/
def Privet.absorbs (p : Privet) (now n : Nat) : Int := if p.retarding then p.slewDone else slewAfter p.slew (now + n - p.slewFrom)

/-- Where `n` more ticks take the time, below zero too. -/
def Privet.goes (p : Privet) (now n : Nat) : Int :=
  ((p.time + n * p.incr : Nat) : Int) - (p.gives n : Nat) + (p.absorbs now n - p.slewDone)

theorem privetAfter_eq (p : Privet) (now n : Nat) : privetAfter p now n = { p with
    time := (p.goes now n).toNat
    retard := p.retard - p.gives n
    remain := p.remain - (p.absorbs now n - p.slewDone)
    slewDone := p.absorbs now n
    moved := p.moved + (p.absorbs now n - p.slewDone) - p.gives n } := rfl

theorem privetRun_time (p : Privet) (now n : Nat) : (privetRun p now n).time = (p.goes now n).toNat := rfl

/-! ### A run that is cut -/

/-- What a retard gives up in one run it gives up in its two parts. -/
theorem Privet.gives_add (p : Privet) (now a b : Nat) :
    p.gives a + (privetAfter p now a).gives b = p.gives (a + b) := by
  simp only [privetAfter_eq, Privet.gives, Nat.add_mul]
  omega

/-- What is absorbed depends on the tick reached alone. -/
theorem Privet.absorbs_add (p : Privet) (now a b : Nat) :
    (privetAfter p now a).absorbs (now + a) b = p.absorbs now (a + b) := by
  rw [privetAfter_eq]
  by_cases h : p.retarding = true
  · simp [Privet.absorbs, h]
  · simp [Privet.absorbs, h, Nat.add_assoc]

/-- A run whose first part stays above zero comes to where its second part does. -/
theorem Privet.goes_add {p : Privet} {now a : Nat} (h : 0 ≤ p.goes now a) (b : Nat) :
    (privetAfter p now a).goes (now + a) b = p.goes now (a + b) := by
  have hgives := p.gives_add now a b
  have htime : ((privetAfter p now a).time : Int) = p.goes now a := Int.toNat_of_nonneg h
  have hdone : (privetAfter p now a).slewDone = p.absorbs now a := rfl
  have hincr : (privetAfter p now a).incr = p.incr := rfl
  rw [Privet.goes, Privet.absorbs_add, hdone, hincr, Int.natCast_add, htime]
  simp only [Privet.goes, ← hgives, Nat.add_mul, Int.natCast_add]
  omega

theorem privetAfter_privetAfter {p : Privet} {now a : Nat} (h : 0 ≤ p.goes now a) (b : Nat) :
    privetAfter (privetAfter p now a) (now + a) b = privetAfter p now (a + b) := by
  have hgives := p.gives_add now a b
  rw [privetAfter_eq (privetAfter p now a), Privet.goes_add h, Privet.absorbs_add, privetAfter_eq p now (a + b)]
  have hretard : (privetAfter p now a).retard - (privetAfter p now a).gives b = p.retard - p.gives (a + b) := by
    rw [← hgives, privetAfter_eq p now a, Nat.sub_sub]
  have hremain : (privetAfter p now a).remain - (p.absorbs now (a + b) - (privetAfter p now a).slewDone) =
      p.remain - (p.absorbs now (a + b) - p.slewDone) := by
    simp only [privetAfter_eq p now a]
    omega
  have hmoved : (privetAfter p now a).moved + (p.absorbs now (a + b) - (privetAfter p now a).slewDone) -
      (privetAfter p now a).gives b = p.moved + (p.absorbs now (a + b) - p.slewDone) - p.gives (a + b) := by
    rw [← hgives]
    simp only [privetAfter_eq p now a]
    omega
  rw [hretard, hremain, hmoved]
  rfl

/-- The value one tick before is the run's own once it has run on (R90). -/
theorem privetRun_privetRun {p : Privet} {now a b : Nat} (h : 0 ≤ p.goes now a) (hb : 1 ≤ b) :
    privetRun (privetRun p now a) (now + a) b = privetRun p now (a + b) := by
  change { privetAfter (privetAfter p now a) (now + a) b with
    prev := (privetAfter (privetAfter p now a) (now + a) (b - 1)).time } = privetRun p now (a + b)
  rw [privetAfter_privetAfter h, privetAfter_privetAfter h, ← Nat.add_sub_assoc hb]
  rfl

/-! ### A run that rises -/

/-- One more part of a slew moves its truncated share of 512 ticks by at most a part's share, rounded up. -/
theorem natAbs_tdiv_add_sub_tdiv_le (x y : Int) :
    (Int.tdiv (x + y) 512 - Int.tdiv x 512).natAbs ≤ y.natAbs / 512 + 1 := by
  rw [Int.tdiv_eq_ediv, Int.tdiv_eq_ediv, Int.sign_eq_one_of_pos (by decide : (0 : Int) < 512)]
  split <;> split <;> omega

theorem natAbs_slewAfter_succ_sub_le (slew : Int) (j : Nat) :
    (slewAfter slew (j + 1) - slewAfter slew j).natAbs ≤ slew.natAbs / 512 + 1 := by
  rcases Nat.lt_or_ge j 512 with h | h
  · have hj : min j 512 = j := Nat.min_eq_left (Nat.le_of_lt h)
    have hj1 : min (j + 1) 512 = j + 1 := Nat.min_eq_left h
    rw [slewAfter, slewAfter, hj, hj1, Int.natCast_add, Int.mul_add, Int.natCast_one, Int.mul_one]
    exact natAbs_tdiv_add_sub_tdiv_le _ _
  · have same : min (j + 1) 512 = min j 512 := by omega
    simp [slewAfter, same]

/-- In `n` ticks at most `n` times one tick's slew is absorbed (R96). -/
theorem natAbs_slewAfter_add_sub_le (slew : Int) (j n : Nat) :
    (slewAfter slew (j + n) - slewAfter slew j).natAbs ≤ n * (slew.natAbs / 512 + 1) := by
  induction n with
  | zero => simp
  | succ n ih =>
    have one := natAbs_slewAfter_succ_sub_le slew (j + n)
    rw [← Nat.add_assoc, Nat.succ_mul]
    omega

/-- A retard leaves at least half the increment each tick (R100). -/
theorem Privet.gives_le (p : Privet) (n : Nat) : p.gives n + n * (p.incr / 2) ≤ n * p.incr := by
  have hmin : p.gives n ≤ n * (p.incr - p.incr / 2) := Nat.min_le_right _ _
  have halves : n * (p.incr - p.incr / 2) + n * (p.incr / 2) = n * p.incr := by
    rw [← Nat.mul_add, Nat.sub_add_cancel (Nat.div_le_self _ _)]
  omega

/-- A run absorbs at most one tick's slew each tick. -/
theorem Privet.natAbs_absorbs_sub_le {p : Privet} {now : Nat} (hfrom : p.slewFrom ≤ now)
    (hdone : p.slewDone = slewAfter p.slew (now - p.slewFrom)) (n : Nat) :
    (p.absorbs now n - p.slewDone).natAbs ≤ n * (p.slew.natAbs / 512 + 1) := by
  by_cases h : p.retarding = true
  · simp [Privet.absorbs, h]
  · rw [Privet.absorbs, if_neg h, hdone, Nat.sub_add_comm hfrom]
    exact natAbs_slewAfter_add_sub_le _ _ _

/-- Settles O59: a run composes from its parts; without retard and slew only the increments are left; and each tick's slew is less
than the half increment that a retard leaves. -/
theorem privetRuns : Obligations.PrivetRuns := by
  refine ⟨fun p now a b _ hb h => privetRun_privetRun h hb, fun p now n hretard hslew hdone => ?_,
    fun p now n hfrom hn hdone hsmall => ?_⟩
  · have hgives : p.gives n = 0 := by simp [Privet.gives, hretard]
    have habsorbs : p.absorbs now n = 0 := by simp [Privet.absorbs, slewAfter, hslew, hdone]
    rw [privetRun_time, Privet.goes, hgives, habsorbs, hdone]
    exact Int.toNat_natCast _
  · have hgives := p.gives_le n
    have habsorbs := Privet.natAbs_absorbs_sub_le hfrom hdone n
    have hless : n * (p.slew.natAbs / 512 + 1) < n * (p.incr / 2) := Nat.mul_lt_mul_of_pos_left hsmall hn
    rw [privetRun_time, Privet.goes]
    omega

end Sys2Proof.Machine
end

section
/-! Privet's writes (R92 to R112): where an entry's effect branches, one equation for each branch. -/

namespace Sys2Proof.Machine

/-- A write that is let through leaves what its entry's effect is worked out to be. -/
theorem writeRow_applies {sp : Special} {t : Nat} {m : Master} {w i : Nat} {ws : List Word} {s u v x : State} (hAt : At t s u)
    (ho : Opens sp m w i ws u v) (hx : sp.apply ⟨m, w, i, ws⟩ v = x) : writeRow sp t m i ws s = .next x :=
  hx ▸ writeRow_opens hAt ho

/-! ### The mode (R92) -/

theorem spPrivetMode_apply_same {c : Ctx} {v : State} (h : c.v = v.n E.privetMode) : spPrivetMode.apply c v = v := if_pos h

theorem spPrivetMode_apply_manual {c : Ctx} {v : State} (h : c.v = 1) (hne : v.n E.privetMode ≠ 1) :
    spPrivetMode.apply c v = v.enterManual :=
  (if_neg fun same => hne (same.symm.trans h)).trans (if_pos h)

theorem spPrivetMode_apply_auto {c : Ctx} {v : State} (h : c.v = 0) (hne : v.n E.privetMode ≠ 0) :
    spPrivetMode.apply c v = v.leaveManual :=
  (if_neg fun same => hne (same.symm.trans h)).trans (if_neg (by simp [h]))

/-! ### Steps (R98, R99, R102) -/

/-- Before first lock a step needs no permit, and leaves one alone. -/
theorem State.acceptStep_beforeFirstLock {v : State} (h : v.flag E.firstLock = false) (off : Int) (requester : Nat) :
    v.acceptStep off requester = { v with privet := { v.privet with pendStep := some (off, v.now, requester) } } := by
  simp [State.acceptStep, h]

/-- After first lock an accepted step uses the permit up. -/
theorem State.acceptStep_afterFirstLock {v : State} (h : v.flag E.firstLock = true) (off : Int) (requester : Nat) :
    v.acceptStep off requester = ({ v with privet := { v.privet with
      pendStep := some (off, v.now, requester), permitUntil := none } }).set E.privetStepPermit 0 0 := by
  simp [State.acceptStep, h]

/-- An initial time is a step without a permit, from the time the write finds (R102). -/
theorem spInitTime_apply {m : Master} {w : Nat} {lo hi : Word} {v x : State} (hx : v.setWords E.privetInitTime 0 [lo, hi] = x)
    (h : x.flag E.firstLock = false) : spInitTime.apply ⟨m, w, 0, [lo, hi]⟩ v = { x with privet := { x.privet with
      pendStep := some ((t96OfWords lo hi : Int) - x.tai, x.now, 1), initWritten := true } } := by
  subst hx
  change ({ State.acceptStep _ _ _ with privet := _ } : State) = _
  rw [State.acceptStep_beforeFirstLock h]
  rfl

/-! ### Schedule slots (R112) -/

/-- Arming gives the slot a new handle and has it wait for its time. -/
theorem spSchedArm_apply_arm {c : Ctx} {v x : State} (h : c.v = 1)
    (hx : v.set E.schedHandle c.i (c.i * 2 ^ 24 + (v.n E.schedHandle c.i + 1) % 2 ^ 24) = x) :
    spSchedArm.apply c v = (x.set E.schedState c.i 1).setArmed c.i (some { at_ := x.t96 E.schedTime c.i }) := by
  subst hx
  exact if_pos h

theorem spSchedArm_apply_disarm {c : Ctx} {v : State} (h : c.v = 2) :
    spSchedArm.apply c v = (v.set E.schedState c.i 0).setArmed c.i none :=
  if_neg (by simp [h])

/-- Settles O11: each write that is let through has its entry's effect. -/
theorem privetWrites : Obligations.PrivetWrites := by
  intro t s u hAt m w
  refine ⟨fun x v ho hx => writeRow_applies hAt ho (spPrivetMode_apply_same hx),
    fun x v ho hx hne => writeRow_applies hAt ho (spPrivetMode_apply_manual hx hne),
    fun x v ho hx hne => writeRow_applies hAt ho (spPrivetMode_apply_auto hx hne),
    fun x v ho => writeRow_applies hAt ho rfl, fun x v ho => writeRow_applies hAt ho rfl, fun x v ho => writeRow_applies hAt ho rfl,
    fun x v ho hfirst => writeRow_applies hAt ho (State.acceptStep_beforeFirstLock hfirst _ _),
    fun x v ho hfirst => writeRow_applies hAt ho (State.acceptStep_afterFirstLock hfirst _ _),
    fun x v d ho hd => writeRow_applies hAt ho (hd ▸ rfl),
    fun lo hi v p ho _ hfirst hp => writeRow_applies hAt ho (hp ▸ spInitTime_apply rfl hfirst),
    fun j x v ho hx => writeRow_applies hAt ho (if_neg hx), fun j x v ho hx => writeRow_applies hAt ho (if_pos hx),
    fun i v v' ho hv => writeRow_applies hAt ho (spSchedArm_apply_arm rfl hv),
    fun i v ho => writeRow_applies hAt ho (spSchedArm_apply_disarm rfl)⟩

end Sys2Proof.Machine
end

section
/-! Privet's events (R99 to R116): a permit, a retard, the leap table, the snapshot, the schedule slots, and the deadlines. -/

namespace Sys2Proof.Machine

/-! ### The leap table (R107) -/

section
variable {v w : State} {tL : Nat} {off : Int} {j : Nat} (hsrc : v.n E.privetLeapSource = 0) (hw : v.leapReplace tL off = w)
  (hnew : w.leaps.any (fun p => decide (p.2.1 = tL ∧ p.2.2 = off)) = false)
  (hfree : (List.range 64).find? (fun j => decide (w.n E.leapTai j = 0)) = some j)
include hsrc hw hnew hfree

/-- A leap second that is new and finds a free entry is entered where the checks of R106 pass, and ignored where they do not. -/
theorem State.leapAnnounced_free : v.leapAnnounced tL off =
    if w.leapOk j tL off then ({ w with privet := { w.privet with leapMismatch := none } }).leapSet j tL off 1
    else w.leapIgnored tL off := by
  subst hw
  simp only [State.leapAnnounced, if_neg (not_not_intro hsrc), hnew, hfree]
  rfl

theorem State.leapAnnounced_enters (hok : w.leapOk j tL off = true) : v.leapAnnounced tL off =
    ({ w with privet := { w.privet with leapMismatch := none } }).leapSet j tL off 1 := by
  rw [State.leapAnnounced_free hsrc hw hnew hfree, if_pos hok]

/-- An announcement that a check refuses raises its event once while it persists. -/
theorem State.leapAnnounced_mismatch (hbad : w.leapOk j tL off = false) (hfirst : w.privet.leapMismatch ≠ some (tL, off)) :
    v.leapAnnounced tL off = ({ w with privet := { w.privet with leapMismatch := some (tL, off) } }).raise 11 := by
  rw [State.leapAnnounced_free hsrc hw hnew hfree, if_neg (Bool.eq_false_iff.1 hbad), State.leapIgnored, if_neg hfirst]
end

/-! ### The snapshot (R110) -/

theorem placeOf_privetSnapshot : placeOf 0x2000 0 = some ⟨E.privetSnapshot, 0, 0⟩ := rfl

/-- The lowest word of the snapshot latches the time with its bound and its status. -/
theorem State.readPlace_privetSnapshot (s : State) (m : Master) (w : Nat) :
    s.readPlace m w 0x2000 0 ⟨E.privetSnapshot, 0, 0⟩ .plain = ((s.live E.privetSnapshot 0 w).getD 0 0,
      (s.setLatch m 0x2000 0 (s.live E.privetSnapshot 0 w ++ s.live E.privetSnapBound 0 0 ++
        s.live E.privetSnapStatus 0 0)).noteOut (s.emitted 0)) :=
  State.readPlace_lowest (p := ⟨E.privetSnapshot, 0, 0⟩) (by decide) rfl (by decide)

theorem State.readAnswer_privetSnapshot {u : State} {m : Master} {w : Nat} (hw : u.worldOf m = some w)
    (hr : u.readCodes w 0x2000 0 = []) {v : State} (hv : u.perfEvent 0x701 0 = v) : u.readAnswer m ⟨0x2000, 0, false, true⟩ =
      ((v.setLatch m 0x2000 0 (v.live E.privetSnapshot 0 w ++ v.live E.privetSnapBound 0 0 ++
        v.live E.privetSnapStatus 0 0)).noteOut (v.emitted 0)).emit
          (.answer m 0 ((v.live E.privetSnapshot 0 w).getD 0 0)) := by
  rw [State.readAnswer, State.read_of_readCodes_nil hw placeOf_privetSnapshot rfl rfl hr, hv, State.readPlace_privetSnapshot]

/-! ### Schedule slots at their islands (R111, R113, R114) -/

theorem State.schedAct_due {s : State} {i kind : Nat} {x : Sched} (h : s.schedDue i kind = some x)
    (act : Sched → State → State) : s.schedAct i kind act = act x s := by
  rw [State.schedAct, h]

theorem State.schedAct_late {s : State} {i kind : Nat} {x : Sched} (h : s.schedDue i kind = none)
    (hl : s.schedLate i kind = some x) (act : Sched → State → State) : s.schedAct i kind act = s.schedMiss i x := by
  rw [State.schedAct, h, hl]

/-- A due action on an output in scheduled mode that is free for it and driven has its effect there, with its record. -/
theorem State.ppsSched_acts {u v : State} {i kind p at' : Nat} {x : Sched} (hdue : u.schedDue i kind = some x)
    (hp : u.schedTarget i = p) (hat : psNearest (if x.stepped then u.copy (pulseIsland p) else x.at_) = at')
    (hmode : u.n E.ppsMode p = 2) (hfree : (u.pulse p).notBefore ≤ at')
    (hv : (u.setPulse p { u.pulse p with squelched := u.ppsSquelch }).ppsRefresh p = v) (hdrives : v.n E.ppsState p ≠ 0)
    (hsafe : v.holly.safe = false) (act : State → Nat → Nat → State) :
    u.ppsSched i kind act = ((act v p at').schedPerform i x (u.ppsBound p)).pulseFault := by
  subst hp hat hv
  have on : decide (u.n E.ppsMode (u.schedTarget i) = 2 ∧ (u.pulse (u.schedTarget i)).notBefore ≤
      psNearest (if x.stepped then u.copy (pulseIsland (u.schedTarget i)) else x.at_)) = true := decide_eq_true ⟨hmode, hfree⟩
  rw [State.ppsSched, State.schedAct_due hdue]
  simp only [on, if_true, true_and]
  rw [if_pos ⟨hdrives, Bool.eq_false_iff.1 hsafe⟩]

/-- The MARK record of a slot's action `x` at port `p`, formed in `v` with the number `q` after its
stamp's bound in `u` (R355). -/
def markRecord (u v : State) (i p q : Nat) (x : Sched) : TapRec :=
  ⟨u.n E.tapWorld p, p, if x.stepped then v.copy (portIsland p) else x.at_, u.emitted (u.portAdd p),
    0x80 + ofBool x.stepped + 16 * ofBool (decide (u.stampMode p = 1)), 0, be 8 (v.n E.schedHandle i), q, none⟩

/-- A mark on a port that captures for a world, with a valid stamp, is recorded with the port's next number. -/
theorem State.markPut_records {u v : State} {i p q : Nat} {x : Sched} (hp : u.schedTarget i = p) (hlt : p < 16)
    (hrole : u.n E.portRole p ≠ 0) (hworld : u.n E.tapWorld p ≠ 0xFF) (hquiet : u.ptpQuiet = false)
    (hvalid : u.tapInvalid p = false) (hseq : u.tapSeq p = (q, v)) :
    u.markPut i x = (((({ v with tap := { v.tap with records := v.tap.records ++ [markRecord u v i p q x] } }).noteOut
      (u.emitted (u.portAdd p))).schedNext i x 2).perfEvent 0x305 p).tapRelease := by
  subst hp
  have captures : ¬ (16 ≤ u.schedTarget i ∨ u.n E.portRole (u.schedTarget i) = 0 ∨
      u.n E.tapWorld (u.schedTarget i) = 0xFF ∨ u.ptpQuiet = true) := by simp [hlt, hrole, hworld, hquiet]
  rw [State.markPut]
  simp only [if_neg captures, hvalid, Bool.false_eq_true, if_false, hseq]
  rfl

/-! ### Deadlines (R116) -/

/-- No deadline resolves before its tick has passed. -/
theorem State.resolves_of_now_le {s : State} {e : Nat} (h : s.now ≤ e) (l : List Nat) : s.resolves l e = false := by
  simp [State.resolves, Nat.not_lt.2 h]

/-- Nor does one while a path's order mark is neither beyond it nor stopped for `HS_TIMEOUT`. -/
theorem State.resolves_of_mark_le {s : State} {l : List Nat} {e i : Nat} (hi : i ∈ l) (hleaf : leafIslandOf (leafFor i) = i)
    (hon : s.leafOn (leafFor i) = true) (hmark : (s.leaf (leafFor i)).mark ≤ e)
    (hrun : s.now ≤ (s.leaf (leafFor i)).mark + s.n E.hsTimeout) : s.resolves l e = false := by
  have waits : leafFor i ∈ (l.map leafFor).filter (fun n => l.contains (leafIslandOf n)) :=
    List.mem_filter.2 ⟨List.mem_map_of_mem hi, by simpa [hleaf] using hi⟩
  have behind : s.marksPast ((l.map leafFor).filter (fun n => l.contains (leafIslandOf n))) e = false :=
    Bool.eq_false_iff.2 fun h => by
      simpa [hon, Nat.not_lt.2 hmark, Nat.not_lt.2 hrun] using List.all_eq_true.1 h _ waits
  rw [State.resolves, behind, Bool.and_false]

/-! ### The commands at their tick -/

section
variable {t : Nat} {s u : State} (hAt : At t s u)
include hAt

theorem exec_permitTimeout_over {d : Nat} (hd : u.privet.permitUntil = some d) (hover : d ≤ u.now) : exec (.permitTimeout t) s =
    .next (({ u with privet := { u.privet with permitUntil := none } }).set E.privetStepPermit 0 0) := by
  change execPermitTimeout t s = _
  rw [execPermitTimeout, timed_at hAt, hd]
  exact congrArg _ (if_pos hover)

theorem exec_retardEnd_spent (hr : u.privet.retarding = true) (h0 : u.privet.retard = 0) : exec (.retardEnd t) s =
    .next (({ u with
      privet := { u.privet with retarding := false, retardFull := 0 }
      gnss := { u.gnss with broken := some u.now, restart := true, fresh := true } }).synthStep
        (-(u.privet.retardFull : Int)) false) := by
  change execRetardEnd t s = _
  rw [execRetardEnd, timed_at hAt]
  exact congrArg _ (if_pos ⟨hr, h0⟩)

theorem exec_leapAnnounce (tL : Nat) (off : Int) : exec (.leapAnnounce t tL off) s = .next (u.leapAnnounced tL off) := by
  change execLeapAnnounce t tL off s = _
  rw [execLeapAnnounce, timed_at hAt]

theorem exec_leapWithdraw (tL : Nat) : exec (.leapWithdraw t tL) s = .next (u.leapWithdrawn (fun x => x == tL)) := by
  change execLeapWithdraw t tL s = _
  rw [execLeapWithdraw, timed_at hAt]

theorem exec_leapStateChange : exec (.leapStateChange t) s = .next (u.set E.privetLeapState 0 u.leapState) := by
  change execLeapStateChange t s = _
  rw [execLeapStateChange, timed_at hAt, State.leapRefresh]

theorem exec_leapDue_due {j : Fin 64} (h0 : u.n E.leapTai j ≠ 0) (hreached : u.n E.leapTai j ≤ secOf u.tai)
    (hfirst : u.leaps.all (fun p => decide (u.n E.leapTai j ≤ p.2.1)) = true) : exec (.leapDue t j) s =
      .next ((({ u with privet := { u.privet with
        smearLeap := some (u.n E.leapTai j,
          max (ofSec (u.n E.leapTai j) - ofSec u.smearSettings.2 / 2) (tabGet 0 j u.privet.leapValidAt),
          u.int E.leapOffset j - u.int E.privetTaiUtc, u.smearSettings.2),
        lastLeap := some (u.n E.leapTai j, u.int E.leapOffset j - u.int E.privetTaiUtc) } }).setInt E.privetTaiUtc 0
          (u.int E.leapOffset j)).leapFree j) := by
  change execLeapDue t j s = _
  rw [execLeapDue, timed_at hAt]
  exact congrArg _ (if_pos ⟨h0, hreached, hfirst⟩)

theorem exec_privetSnapshot (m : Master) :
    exec (.privetSnapshot t m) s = .next (u.readAnswer m ⟨0x2000, 0, false, true⟩) := by
  change execPrivetSnapshot t m s = _
  rw [execPrivetSnapshot, timed_at hAt]

theorem exec_schedEvent (i : Fin 256) : exec (.schedEvent t i) s =
    .next (u.schedAct i 1 (fun x s => (s.schedPerform i x (s.emitted 0)).noteOut (s.emitted 0))) := by
  change execSchedEvent t i s = _
  rw [execSchedEvent, timed_at hAt]

theorem exec_ppsoutSet (i : Fin 256) : exec (.ppsoutSet t i) s =
    .next (u.ppsSched i 2 (fun s p x => s.ppsPlace p x (decide (s.n E.ppsPolarity p = 0)))) := by
  change execPpsoutSet t i s = _
  rw [execPpsoutSet, timed_at hAt]

theorem exec_ppsoutClear (i : Fin 256) : exec (.ppsoutClear t i) s =
    .next (u.ppsSched i 3 (fun s p x => s.ppsPlace p x (decide (s.n E.ppsPolarity p ≠ 0)))) := by
  change execPpsoutClear t i s = _
  rw [execPpsoutClear, timed_at hAt]

theorem exec_ppsoutPulse (i : Fin 256) : exec (.ppsoutPulse t i) s =
    .next (u.ppsSched i 4 (fun s p x => s.ppsLead p x (s.n E.ppsWidth p))) := by
  change execPpsoutPulse t i s = _
  rw [execPpsoutPulse, timed_at hAt]

theorem exec_tapMark_due {i : Fin 256} {x : Sched} (h : u.markDue i = some x) : exec (.tapMark t i) s = .next (u.markPut i x) := by
  change execTapMark t i s = _
  rw [execTapMark, timed_at hAt, h]

theorem exec_deadlineResolve {d : Deadline} {e : Nat} (hd : u.deadlineTick d = some e) : exec (.deadlineResolve t d e) s =
    .next (if u.resolves (u.deadlinePaths d) e = true then u.deadlineActs d else u) := by
  change execDeadlineResolve t d e s = _
  rw [execDeadlineResolve, timed_at hAt]
  simp only [hd, true_and]

theorem exec_smearWindowEnd_reached {tL tS : Nat} {d : Int} (hs : u.smear = some (tL, tS, d)) (hend : u.smearEnd tL ≤ u.tai) :
    exec (.smearWindowEnd t) s = .next { u with privet := { u.privet with smearLeap := none, smearDefer := none } } := by
  change execSmearWindowEnd t s = _
  rw [execSmearWindowEnd, timed_at hAt, hs]
  exact congrArg _ (if_pos hend)
end

/-- Settles O12: each clause is its event's row on the state at its tick. -/
theorem privetEvents : Obligations.PrivetEvents := by
  intro t s u hAt
  refine ⟨fun d => exec_permitTimeout_over hAt, exec_retardEnd_spent hAt, fun tL off j v hsrc hv hnew hfree hok => ?_,
    fun tL off j v hsrc hv hnew hfree hbad hfirst => ?_, fun tL _ => exec_leapWithdraw hAt tL, exec_leapStateChange hAt,
    fun j tL tS d htL h0 hreached hfirst hd htS => ?_, fun m w v ws hw hr hv hws => ?_, fun i x hdue => ?_,
    fun i x hnot hlate => ?_, fun i kind p at' x v hdue hp hat hmode hfree hv hdrives hsafe => ?_,
    fun i x p q v r hdue hp hlt hrole hworld hquiet hvalid hseq hr => ?_, fun d e hd hres => ?_, fun d e hd hres => ?_,
    fun l e h => State.resolves_of_now_le h l, fun l e i => State.resolves_of_mark_le,
    fun tL tS d => exec_smearWindowEnd_reached hAt⟩
  · rw [exec_leapAnnounce hAt, State.leapAnnounced_enters hsrc hv hnew hfree hok]
  · rw [exec_leapAnnounce hAt, State.leapAnnounced_mismatch hsrc hv hnew hfree hbad hfirst]
  · subst htL hd htS
    exact exec_leapDue_due hAt h0 hreached hfirst
  · rw [exec_privetSnapshot hAt, State.readAnswer_privetSnapshot hw hr hv, hws]
  · rw [exec_schedEvent hAt, State.schedAct_due hdue]
  · rw [exec_schedEvent hAt, State.schedAct_late hnot hlate]
  · have acts (act : State → Nat → Nat → State) := State.ppsSched_acts hdue hp hat hmode hfree hv hdrives hsafe act
    refine ⟨?_, ?_, ?_⟩
    · rintro rfl
      rw [exec_ppsoutSet hAt, acts]
    · rintro rfl
      rw [exec_ppsoutClear hAt, acts]
    · rintro rfl
      rw [exec_ppsoutPulse hAt, acts]
  · subst hr
    rw [exec_tapMark_due hAt hdue, State.markPut_records hp hlt hrole hworld hquiet hvalid hseq]
    rfl
  · rw [exec_deadlineResolve hAt hd, if_pos hres]
  · rw [exec_deadlineResolve hAt hd, if_neg (Bool.eq_false_iff.1 hres)]

end Sys2Proof.Machine
end

section
/-! Bound sums and the release of the bound (R121, R122, R130): a sum of any length from its terms, the line that a release falls
along, and the core bound that one evaluation leaves. -/

namespace Sys2Proof.Machine

/-! ### Bound sums (R121) -/

theorem boundAdd_of_unbounded {a b : Nat} (h : 0xFFFFFFFF ≤ a ∨ 0xFFFFFFFF ≤ b) : boundAdd a b = 0xFFFFFFFF := if_pos h

theorem boundAdd_of_lt {a b : Nat} (ha : a < 0xFFFFFFFF) (hb : b < 0xFFFFFFFF) : boundAdd a b = min (a + b) 0xFFFFFFFE :=
  if_neg (not_or.2 ⟨Nat.not_le.2 ha, Nat.not_le.2 hb⟩)

/-- An unbounded term, or an unbounded start, makes a sum of any length unbounded. -/
theorem foldl_boundAdd_of_unbounded {l : List Nat} {a : Nat} (h : a = 0xFFFFFFFF ∨ ∃ x ∈ l, 0xFFFFFFFF ≤ x) :
    l.foldl boundAdd a = 0xFFFFFFFF := by
  induction l generalizing a with
  | nil => simpa using h
  | cons y l ih =>
    refine ih ?_
    obtain rfl | ⟨x, hx, hge⟩ := h
    · exact .inl (boundAdd_of_unbounded (.inl (Nat.le_refl _)))
    · obtain rfl | hx := List.mem_cons.1 hx
      · exact .inl (boundAdd_of_unbounded (.inr hge))
      · exact .inr ⟨x, hx, hge⟩

/-- Without an unbounded term the sum is the terms' sum, cut once at the end. -/
theorem foldl_boundAdd_of_lt {l : List Nat} (h : ∀ x ∈ l, x < 0xFFFFFFFF) {a : Nat} (ha : a ≤ 0xFFFFFFFE) :
    l.foldl boundAdd a = min (a + l.sum) 0xFFFFFFFE := by
  induction l generalizing a with
  | nil => simp [ha]
  | cons y l ih =>
    obtain ⟨hy, hl⟩ := List.forall_mem_cons.1 h
    have cut (m n : Nat) : min (min m 0xFFFFFFFE + n) 0xFFFFFFFE = min (m + n) 0xFFFFFFFE := by omega
    have hadd : boundAdd a y = min (a + y) 0xFFFFFFFE := boundAdd_of_lt (Nat.lt_succ_of_le ha) hy
    rw [List.foldl_cons, hadd, ih hl (Nat.min_le_right ..), List.sum_cons, ← Nat.add_assoc]
    exact cut (a + y) l.sum

/-- A term is at most the sum, by what the list holds without it. -/
theorem le_sum_of_term {l : List Nat} {x : Nat} (hx : x ∈ l) : x ≤ l.sum := by
  obtain ⟨before, after, rfl⟩ := List.append_of_mem hx
  rw [List.sum_append, List.sum_cons]
  omega

/-- A sum is never below a term that is a bound. -/
theorem le_foldl_boundAdd {l : List Nat} {x : Nat} (hx : x ∈ l) (hle : x ≤ 0xFFFFFFFF) : x ≤ l.foldl boundAdd 0 := by
  by_cases h : ∃ y ∈ l, 0xFFFFFFFF ≤ y
  · rwa [foldl_boundAdd_of_unbounded (.inr h)]
  · have lt : ∀ y ∈ l, y < 0xFFFFFFFF := fun y hy => Nat.not_le.1 fun hge => h ⟨y, hy, hge⟩
    have sum : x ≤ l.sum := le_sum_of_term hx
    have top := lt x hx
    rw [foldl_boundAdd_of_lt lt (Nat.zero_le _)]
    omega

/-- Settles O52: a sum of any length by whether one of its terms is unbounded. -/
theorem boundSums : Obligations.BoundSums := by
  refine ⟨fun a b => boundAdd_of_unbounded, fun a b => boundAdd_of_lt, fun l h => foldl_boundAdd_of_unbounded (.inr h),
    fun l h => ?_, fun s upto x hx hle => ?_⟩
  · rw [foldl_boundAdd_of_lt h (Nat.zero_le _), Nat.zero_add]
  · rw [State.boundTarget]
    split
    · exact le_foldl_boundAdd hx hle
    · exact hle

/-! ### The release (R130) -/

theorem releaseLine_of_over {r : Release} {tick : Nat} (h : r.period ≤ tick - r.t0) : releaseLine r tick = r.b0 := if_pos h

theorem releaseLine_of_within {r : Release} {tick : Nat} (h : tick - r.t0 < r.period) :
    releaseLine r tick = r.e0 - (r.e0 - r.b0) * (tick - r.t0) / r.period := if_neg (Nat.not_le.2 h)

theorem releaseLine_le_e0 {r : Release} (hb : r.b0 ≤ r.e0) (tick : Nat) : releaseLine r tick ≤ r.e0 := by
  obtain h | h := Nat.lt_or_ge (tick - r.t0) r.period
  · rw [releaseLine_of_within h]
    exact Nat.sub_le ..
  · rwa [releaseLine_of_over h]

/-- Within its period a line has given up no more than it has to give. -/
theorem b0_le_releaseLine {r : Release} (hb : r.b0 ≤ r.e0) (tick : Nat) : r.b0 ≤ releaseLine r tick := by
  obtain h | h := Nat.lt_or_ge (tick - r.t0) r.period
  · have fallen : (r.e0 - r.b0) * (tick - r.t0) / r.period ≤ r.e0 - r.b0 :=
      Nat.div_le_of_le_mul (Nat.mul_comm r.period _ ▸ Nat.mul_le_mul_left _ (Nat.le_of_lt h))
    rw [releaseLine_of_within h]
    exact Nat.le_sub_of_add_le (Nat.add_le_of_le_sub' hb fallen)
  · exact Nat.le_of_eq (releaseLine_of_over h).symm

theorem releaseLine_antitone {r : Release} (hb : r.b0 ≤ r.e0) {a b : Nat} (hab : a ≤ b) :
    releaseLine r b ≤ releaseLine r a := by
  obtain h | h := Nat.lt_or_ge (b - r.t0) r.period
  · have le : a - r.t0 ≤ b - r.t0 := Nat.sub_le_sub_right hab _
    rw [releaseLine_of_within h, releaseLine_of_within (Nat.lt_of_le_of_lt le h)]
    exact Nat.sub_le_sub_left (Nat.div_le_div_right (Nat.mul_le_mul_left _ le)) _
  · rw [releaseLine_of_over h]
    exact b0_le_releaseLine hb a

/-- With no release in force, a target at or above E is taken at once. -/
theorem releaseStep_none_rises {e prev target : Nat} (now period : Nat) (hle : e ≤ target) (he : e < 0xFFFFFFFF)
    (ht : target < 0xFFFFFFFF) : releaseStep e prev none target now period = (target, none) := by
  simp only [releaseStep, if_neg (Nat.ne_of_lt ht)]
  exact if_pos ⟨he, hle⟩

/-- With no release in force, a target below E, or any target of an unbounded E, begins one. -/
theorem releaseStep_none_starts {e prev target : Nat} (now period : Nat) (h : ¬ (e < 0xFFFFFFFF ∧ e ≤ target))
    (ht : target < 0xFFFFFFFF) : releaseStep e prev none target now period =
      (min e 0xFFFFFFFE, some ⟨min e 0xFFFFFFFE, target, now, period, now, none⟩) := by
  simp only [releaseStep, if_neg (Nat.ne_of_lt ht)]
  exact if_neg h

/-- With a release in force E stays at or above the target: it is the target, a line above it, or the E that is above it. -/
theorem target_le_releaseStep_some (e prev : Nat) (r : Release) (target : Nat) (now period : Nat) :
    target ≤ (releaseStep e prev (some r) target now period).1 := by
  have above {x : Nat} (h : ¬ x ≤ target) : target ≤ x := Nat.le_of_lt (Nat.not_le.1 h)
  simp only [releaseStep]
  split
  · exact Nat.le_refl _
  · split
    · split
      · exact Nat.le_refl _
      · next hle => exact above hle
    · split
      · exact Nat.le_refl _
      · split
        · exact Nat.le_refl _
        · next hline => split <;> exact above hline

/-- One evaluation never leaves E below the target. -/
theorem target_le_releaseStep (e prev : Nat) (r : Option Release) {target : Nat} (now period : Nat)
    (ht : target ≤ 0xFFFFFFFF) : target ≤ (releaseStep e prev r target now period).1 := by
  cases r with
  | some r => exact target_le_releaseStep_some e prev r target now period
  | none =>
    obtain rfl | hlt := Nat.eq_or_lt_of_le ht
    · exact Nat.le_refl _
    · by_cases h : e < 0xFFFFFFFF ∧ e ≤ target
      · exact Nat.le_of_eq (congrArg Prod.fst (releaseStep_none_rises now period h.2 h.1 hlt)).symm
      · rw [releaseStep_none_starts now period h hlt]
        show target ≤ min e 0xFFFFFFFE
        omega

/-- Settles O54: the line by whether its period is over, E by the branches of one evaluation. -/
theorem Release.releaseLine : Obligations.ReleaseLine := by
  refine ⟨fun r a b hb _ _ hab => ⟨releaseLine_antitone hb hab, b0_le_releaseLine hb b, releaseLine_le_e0 hb a⟩,
    fun e prev r target now period ht _ => target_le_releaseStep e prev r now period ht,
    fun e prev target now period hle he ht => releaseStep_none_rises now period hle he ht, fun prev target now period ht => ?_⟩
  have unbounded : ¬ ((0xFFFFFFFF : Bound) < 0xFFFFFFFF ∧ 0xFFFFFFFF ≤ target) := fun h => Nat.lt_irrefl _ h.1
  exact ⟨_, releaseStep_none_starts now period unbounded ht, rfl, rfl, rfl, rfl⟩

end Sys2Proof.Machine
end

section
/-! The audit ledger (R134, R136): octet strings and the words that hold them (R33), what an added entry leaves of the ledger, and
what a full ledger keeps of the entry it gives up. -/

namespace Sys2Proof.Machine

/-! ### Octet strings (R33) -/

theorem ofLe_lt (l : List Byte) : ofLe l < 256 ^ l.length := by
  induction l with
  | nil => simp [ofLe]
  | cons b l ih =>
    have hb := b.isLt
    simp only [ofLe, List.foldr_cons, List.length_cons, Nat.pow_succ] at ih ⊢
    omega

/-- The bytes that spell a number give it back. -/
theorem le_ofLe (l : List Byte) : le l.length (ofLe l) = l := by
  induction l with
  | nil => rfl
  | cons b l ih =>
    have hb := b.isLt
    have hcons : ofLe (b :: l) = ofLe l * 256 + b.toNat := rfl
    have hlow : BitVec.ofNat 8 (ofLe l * 256 + b.toNat) = b := BitVec.eq_of_toNat_eq (by rw [BitVec.toNat_ofNat]; omega)
    have hhigh : (ofLe l * 256 + b.toNat) / 256 = ofLe l := by omega
    rw [List.length_cons, le, hcons, hlow, hhigh, ih]

@[simp] theorem length_padTo (n : Nat) (l : List Byte) : (padTo n l).length = n := by
  simp only [padTo, zeros, List.length_append, List.length_take, List.length_replicate]
  omega

/-- Eight bytes of a word read as they were written. -/
theorem le_ofNat_ofLe (l : List Byte) (h : l.length = 8) : le 8 (BitVec.ofNat 64 (ofLe l)).toNat = l := by
  have fits : ofLe l < 2 ^ 64 := by simpa [h] using ofLe_lt l
  rw [BitVec.toNat_ofNat, Nat.mod_eq_of_lt fits, ← h, le_ofLe]

theorem padTo_append_padTo_drop (a b : Nat) (l : List Byte) : padTo a l ++ padTo b (l.drop a) = padTo (a + b) l := by
  obtain h | h := Nat.le_total a l.length
  · have full : a - l.length = 0 := Nat.sub_eq_zero_of_le h
    have pad : b - (l.length - a) = a + b - l.length := by omega
    simp [padTo, zeros, full, List.take_add, pad]
  · have rest : l.drop a = [] := List.drop_eq_nil_of_le h
    have pad : a - l.length + b = a + b - l.length := by omega
    simp [padTo, zeros, rest, List.take_of_length_le h, List.take_of_length_le (Nat.le_add_right_of_le h), pad]

/-- Pieces of eight bytes after the first seven make up one padded string. -/
theorem padTo_append_pieces (l : List Byte) (n : Nat) :
    padTo 7 l ++ (List.range n).flatMap (fun k => padTo 8 (l.drop (7 + 8 * k))) = padTo (7 + 8 * n) l := by
  induction n with
  | zero => simp
  | succ n ih =>
    rw [List.range_succ, List.flatMap_append, ← List.append_assoc, ih, List.flatMap_singleton, padTo_append_padTo_drop]
    rfl

theorem take_length_padTo {n : Nat} {l : List Byte} (h : l.length ≤ n) : (padTo n l).take l.length = l := by
  rw [padTo, List.take_of_length_le h, List.take_left]

theorem length_octWords {n : Nat} (hn : n ≠ 0) (l : List Byte) : (octWords n l).length = n := by
  rw [octWords, List.length_cons, List.length_map, List.length_range]
  exact Nat.sub_add_cancel (Nat.pos_of_ne_zero hn)

/-- The words of an octet string hold its bytes. -/
theorem octBytes_octWords {n : Nat} {l : List Byte} (hfit : l.length ≤ 7 + 8 * (n - 1)) (hlen : l.length < 256) :
    octBytes (octWords n l) = l := by
  have first : (BitVec.ofNat 64 (ofLe (BitVec.ofNat 8 l.length :: padTo 7 l))).toNat = ofLe (padTo 7 l) * 256 + l.length := by
    have hlt : ofLe (padTo 7 l) < 256 ^ 7 := by simpa using ofLe_lt (padTo 7 l)
    have hcons : ofLe (BitVec.ofNat 8 l.length :: padTo 7 l) = ofLe (padTo 7 l) * 256 + l.length % 256 := rfl
    rw [hcons, BitVec.toNat_ofNat]
    omega
  have head : le 7 (ofLe (padTo 7 l)) = padTo 7 l := by simpa using le_ofLe (padTo 7 l)
  have hdiv : (ofLe (padTo 7 l) * 256 + l.length) / 256 = ofLe (padTo 7 l) := by omega
  have hmod : (ofLe (padTo 7 l) * 256 + l.length) % 256 = l.length := by omega
  simp only [octWords, octBytes, first, hdiv, hmod, head, List.flatMap_map, le_ofNat_ofLe _ (length_padTo ..),
    padTo_append_pieces, take_length_padTo hfit]

/-! ### Entries of several words -/

/-- The words of an entry have places of their own. -/
theorem dictKey_word_ne (e : Entry) (i w : Nat) {k k' : Nat} (h : k ≠ k') : dictKey e i k w ≠ dictKey e i k' w := by
  simp only [dictKey]
  omega

/-- A word at no listed place reads as before. -/
theorem State.wordAt_foldl_setWordAt_ne {e e' : Entry} {i i' k' w' : Nat} {l : List (Word × Nat)}
    (h : ∀ p ∈ l, dictKey e' i' k' w' ≠ dictKey e i p.2 0) (s : State) :
    (l.foldl (fun s p => s.setWordAt e i p.2 0 p.1) s).wordAt e' i' k' w' = s.wordAt e' i' k' w' := by
  induction l generalizing s with
  | nil => rfl
  | cons p l ih =>
    rw [List.foldl_cons, ih (fun q hq => h q (List.mem_cons_of_mem _ hq)),
      State.wordAt_setWordAt_ne _ _ _ _ _ _ _ _ _ _ (h p List.mem_cons_self)]

theorem State.wordAt_setWords_ne {e e' : Entry} {i i' k' w' : Nat} {ws : List Word}
    (h : ∀ k < ws.length, dictKey e' i' k' w' ≠ dictKey e i k 0) (s : State) :
    (s.setWords e i ws).wordAt e' i' k' w' = s.wordAt e' i' k' w' :=
  State.wordAt_foldl_setWordAt_ne (fun p hp => h p.2 (by simpa using List.snd_lt_of_mem_zipIdx hp)) s

/-- Words set from word `j` on read as set. -/
theorem State.wordAt_foldl_zipIdx {s : State} (hs : s.stored) (e : Entry) (i : Nat) {ws : List Word} {j k : Nat}
    (hk : k < ws.length) :
    ((ws.zipIdx j).foldl (fun s p => s.setWordAt e i p.2 0 p.1) s).wordAt e i (j + k) 0 = ws[k] := by
  induction ws generalizing s j k with
  | nil => exact absurd hk (Nat.not_lt_zero k)
  | cons v ws ih =>
    have hv : (s.setWordAt e i j 0 v).stored := s.setWordAt_rising e i j 0 v hs
    rw [List.zipIdx_cons, List.foldl_cons]
    cases k with
    | zero =>
      have later : ∀ p ∈ ws.zipIdx (j + 1), dictKey e i (j + 0) 0 ≠ dictKey e i p.2 0 := fun p hp =>
        dictKey_word_ne e i 0 (Nat.ne_of_lt (List.le_snd_of_mem_zipIdx hp))
      rw [State.wordAt_foldl_setWordAt_ne later]
      exact s.wordAt_setWordAt_self e i j 0 v hs
    | succ k =>
      have := ih hv (j := j + 1) (k := k) (Nat.lt_of_succ_lt_succ hk)
      rwa [Nat.succ_add_eq_add_succ] at this

theorem State.wordAt_setWords_self {s : State} (hs : s.stored) (e : Entry) (i : Nat) {ws : List Word} {k : Nat}
    (hk : k < ws.length) : (s.setWords e i ws).wordAt e i k 0 = ws[k] := by
  have := State.wordAt_foldl_zipIdx hs e i (j := 0) hk
  rwa [Nat.zero_add] at this

theorem State.words_setWords_self {s : State} (hs : s.stored) {e : Entry} (i : Nat) {ws : List Word} (h : ws.length = e.words) :
    (s.setWords e i ws).words e i = ws := by
  refine List.ext_getElem (by simp [State.words, h]) fun k _ hk => ?_
  simp [State.words, State.wordAt_setWords_self hs e i hk]

/-- Setting words changes the store alone. -/
theorem State.setWords_eq (s : State) (e : Entry) (i : Nat) (ws : List Word) : ∃ d, s.setWords e i ws = { s with dict := d } := by
  have h : ∀ (l : List (Word × Nat)) (u : State), (∃ d, u = { s with dict := d }) →
      ∃ d, l.foldl (fun s p => s.setWordAt e i p.2 0 p.1) u = { s with dict := d } := by
    intro l
    induction l with
    | nil => exact fun _ hu => hu
    | cons p l ih =>
      rintro _ ⟨d, rfl⟩
      exact ih _ ⟨_, rfl⟩
  exact h _ s ⟨_, rfl⟩

theorem State.setOct_stored {s : State} (hs : s.stored) (e : Entry) (i : Nat) (l : List Byte) : (s.setOct e i l).stored :=
  (State.setOct_keeps (Keeps.rfl' s) e i l).1 hs

theorem State.wordAt_setOct_ne {e e' : Entry} {i i' k' w' : Nat} (hw : e.words ≠ 0)
    (h : ∀ k < e.words, dictKey e' i' k' w' ≠ dictKey e i k 0) (l : List Byte) (s : State) :
    (s.setOct e i l).wordAt e' i' k' w' = s.wordAt e' i' k' w' :=
  State.wordAt_setWords_ne (fun k hk => h k (by rwa [length_octWords hw] at hk)) s

/-- An octet string just set reads as set. -/
theorem State.oct_setOct_self {s : State} (hs : s.stored) {e : Entry} (i : Nat) {l : List Byte} (hw : e.words ≠ 0)
    (hfit : l.length ≤ 7 + 8 * (e.words - 1)) (hlen : l.length < 256) : (s.setOct e i l).oct e i = l := by
  rw [State.oct, State.setOct, State.words_setWords_self hs i (length_octWords hw l), octBytes_octWords hfit hlen]

/-! ### An added entry (R134) -/

/-- The CHAIN that the next entry's own is formed over: the newest entry's, zeros before the first. -/
def ledgerPrev : List LedgerEntry → List Byte
  | [] => List.replicate 32 0#8
  | x :: _ => x.chain

/-- Every entry but the oldest is chained to the one before it. -/
def LedgerChain (l : List LedgerEntry) : Prop :=
  ∀ i x y, l[i]? = some x → l[i + 1]? = some y → x.chain = sha256 (y.chain ++ ledgerHead x)

@[simp] theorem length_be (n v : Nat) : (be n v).length = n := by
  induction n with
  | zero => rfl
  | succ n ih => rw [be, List.length_cons, ih]

theorem length_ledgerHead (x : LedgerEntry) : (ledgerHead x).length = 32 := by simp [ledgerHead, t96Bytes]

/-- An entry chained to the newest one goes before a chained ledger's newest entries. -/
theorem ledgerChain_cons_take {x : LedgerEntry} {l : List LedgerEntry} (hx : x.chain = sha256 (ledgerPrev l ++ ledgerHead x))
    (hl : LedgerChain l) (n : Nat) : LedgerChain (x :: l.take n) := by
  have kept {j : Nat} {z : LedgerEntry} (h : (l.take n)[j]? = some z) : l[j]? = some z := by
    rw [List.getElem?_take, Option.ite_none_right_eq_some] at h
    exact h.2
  intro i a b ha hb
  rw [List.getElem?_cons_succ] at hb
  cases i with
  | zero =>
    obtain rfl : x = a := by simpa using ha
    cases l with
    | nil => simp at hb
    | cons y r =>
      obtain rfl : y = b := by simpa using kept hb
      exact hx
  | succ i =>
    rw [List.getElem?_cons_succ] at ha
    exact hl i a b (kept ha) (kept hb)

@[simp] theorem State.setOct_bound (s : State) (e : Entry) (i : Nat) (l : List Byte) : (s.setOct e i l).bound = s.bound := by
  obtain ⟨d, h⟩ := s.setWords_eq e i (octWords e.words l)
  rw [State.setOct, h]

@[simp] theorem State.bump_bound (s : State) (e : Entry) (i k : Nat) : (s.bump e i k).bound = s.bound := by
  obtain ⟨d, c, h⟩ := s.bump_eq e i k
  rw [h]

/-- The dictionary's part of an entry added to a full ledger: the newest and the oldest SEQ, the lost CHAIN, and the count (R136). -/
def State.ledgerFull (s : State) (seq oldest : Nat) (l : List Byte) : State :=
  (((s.set E.ledgerHeadSeq 0 seq).set E.ledgerOldestSeq 0 oldest).setOct E.ledgerBaseChain 0 l).bump E.ledgerOverwritten

@[simp] theorem State.ledgerFull_bound (s : State) (seq oldest : Nat) (l : List Byte) :
    (s.ledgerFull seq oldest l).bound = s.bound := by
  rw [State.ledgerFull, State.bump_bound, State.setOct_bound, State.set_bound, State.set_bound]

section
variable (s : State) (kind term source : Nat) (old new : Bound) (detail : Nat) (time : T96)

/-- The entry that `ledgerAdd` puts before the others. -/
def State.ledgerNext : LedgerEntry :=
  ⟨s.bound.written % 2 ^ 32, kind, term, source % 65536, time, old, new, detail % 2 ^ 32,
    sha256 (ledgerPrev s.bound.ledger ++ ledgerHead ⟨s.bound.written % 2 ^ 32, kind, term, source % 65536, time, old, new,
      detail % 2 ^ 32, []⟩)⟩

theorem State.ledgerNext_chain : (s.ledgerNext kind term source old new detail time).chain =
    sha256 (ledgerPrev s.bound.ledger ++ ledgerHead (s.ledgerNext kind term source old new detail time)) := rfl

/-- While there is room the entry goes before the others. -/
theorem State.ledgerAdd_of_room (h : s.bound.ledger.length < 16384) : ∃ b : BoundUnit,
    s.ledgerAdd kind term source old new detail time =
      ({ s with bound := b }).set E.ledgerHeadSeq 0 (s.ledgerNext kind term source old new detail time).seq ∧
    b.ledger = s.ledgerNext kind term source old new detail time :: s.bound.ledger.take 16383 := by
  have room : ¬ decide (ledgerSize ≤ s.bound.ledger.length) = true := mt of_decide_eq_true (Nat.not_le.2 h)
  exact ⟨_, if_neg room, rfl⟩

/-- In a full ledger it takes the oldest entry's place, whose CHAIN is kept, and the loss is counted (R136). -/
theorem State.ledgerAdd_of_full (h : 16384 ≤ s.bound.ledger.length) : ∃ (b : BoundUnit) (oldest : Nat),
    s.ledgerAdd kind term source old new detail time =
      ({ s with bound := b }).ledgerFull (s.ledgerNext kind term source old new detail time).seq oldest b.baseChain ∧
    b.ledger = s.ledgerNext kind term source old new detail time :: s.bound.ledger.take 16383 ∧
    ∀ g, (s.bound.ledger.drop 16383).head? = some g → b.baseChain = g.chain := by
  have full : decide (ledgerSize ≤ s.bound.ledger.length) = true := decide_eq_true h
  refine ⟨_, _, if_pos full, rfl, fun g hg => ?_⟩
  have gone : (s.bound.ledger.drop (ledgerSize - 1)).head? = some g := hg
  simp only [gone]

theorem State.ledgerAdd_ledger : (s.ledgerAdd kind term source old new detail time).bound.ledger =
    s.ledgerNext kind term source old new detail time :: s.bound.ledger.take 16383 := by
  obtain h | h := Nat.lt_or_ge s.bound.ledger.length 16384
  · obtain ⟨b, hs, hb⟩ := s.ledgerAdd_of_room kind term source old new detail time h
    rw [hs, ← hb, State.set_bound]
  · obtain ⟨b, oldest, hs, hb, -⟩ := s.ledgerAdd_of_full kind term source old new detail time h
    rw [hs, ← hb, State.ledgerFull_bound]
end

/-- Settles O56: the added entry is chained to the newest one, and the entries it goes before are as they were. -/
theorem ledgerChained : Obligations.LedgerChained := by
  refine ⟨length_ledgerHead, ?_⟩
  rintro s _ kind term source old new detail time rfl
  have hl := s.ledgerAdd_ledger kind term source old new detail time
  have hc := s.ledgerNext_chain kind term source old new detail time
  exact ⟨⟨_, hl, rfl, rfl, rfl, rfl, rfl, rfl, hc⟩, fun h => hl ▸ ledgerChain_cons_take hc h 16383⟩

/-! ### A full ledger (R136) -/

/-- An octet string reads as before where none of its words is a shadow of the entry that counts. -/
theorem State.oct_bump_ne {e e' : Entry} {i i' : Nat} (k : Nat)
    (h : ∀ j < e'.words, ∀ w < 16, dictKey e' i' j 0 ≠ dictKey e i 0 w) (s : State) : (s.bump e i k).oct e' i' = s.oct e' i' := by
  have hwords : (s.bump e i k).words e' i' = s.words e' i' :=
    List.map_congr_left fun j hj => State.wordAt_bump_ne k (h j (List.mem_range.1 hj)) s
  rw [State.oct, hwords, State.oct]

/-- The ledger's other entries lie below the shadows of LEDGER_OVERWRITTEN. -/
theorem ne_dictKey_ledgerOverwritten {n : Nat} (h : n < 0x2881000) (w : Nat) : n ≠ dictKey E.ledgerOverwritten 0 0 w :=
  have base : dictKey E.ledgerOverwritten 0 0 w = 0x2881000 + w := rfl
  base ▸ Nat.ne_of_lt (Nat.lt_add_right w h)

theorem dictKey_ledgerBaseChain_lt {k : Nat} (h : k < 32) : dictKey E.ledgerBaseChain 0 k 0 < 0x2881000 := by
  simp only [dictKey, E.ledgerBaseChain]
  omega

section
variable {s : State} (hs : s.stored) (seq oldest : Nat) (l : List Byte)

include hs

theorem State.seqs_stored : ((s.set E.ledgerHeadSeq 0 seq).set E.ledgerOldestSeq 0 oldest).stored :=
  State.setWordAt_rising _ _ _ _ _ _ (State.setWordAt_rising _ _ _ _ _ _ hs)

/-- The loss counts in every world's shadow. -/
theorem State.shadow_ledgerFull {w : Nat} (hw : w < 16) : (s.ledgerFull seq oldest l).shadow E.ledgerOverwritten 0 w =
    min (s.shadow E.ledgerOverwritten 0 w + 1) (tyMax E.ledgerOverwritten.ty) := by
  have chain : ∀ k < E.ledgerBaseChain.words, dictKey E.ledgerOverwritten 0 0 w ≠ dictKey E.ledgerBaseChain 0 k 0 :=
    fun k hk => (ne_dictKey_ledgerOverwritten (dictKey_ledgerBaseChain_lt hk) w).symm
  have head : dictKey E.ledgerOverwritten 0 0 w ≠ dictKey E.ledgerHeadSeq 0 0 0 :=
    (ne_dictKey_ledgerOverwritten (by decide) w).symm
  have last : dictKey E.ledgerOverwritten 0 0 w ≠ dictKey E.ledgerOldestSeq 0 0 0 :=
    (ne_dictKey_ledgerOverwritten (by decide) w).symm
  rw [State.ledgerFull, (State.bump_shadow (State.setOct_stored (State.seqs_stored hs seq oldest) _ _ _) _ _ _ hw).1,
    State.shadow, State.wordAt_setOct_ne (by decide) chain, State.set, State.wordAt_setWordAt_ne _ _ _ _ _ _ _ _ _ _ last,
    State.set, State.wordAt_setWordAt_ne _ _ _ _ _ _ _ _ _ _ head, State.shadow]

theorem State.oct_ledgerFull (hl : l.length = 32) : (s.ledgerFull seq oldest l).oct E.ledgerBaseChain 0 = l := by
  have fits : l.length ≤ 7 + 8 * (E.ledgerBaseChain.words - 1) ∧ l.length < 256 := by
    rw [hl]
    decide
  have shadows : ∀ j < E.ledgerBaseChain.words, ∀ w < 16,
      dictKey E.ledgerBaseChain 0 j 0 ≠ dictKey E.ledgerOverwritten 0 0 w := fun j hj w _ =>
    ne_dictKey_ledgerOverwritten (dictKey_ledgerBaseChain_lt hj) w
  rw [State.ledgerFull, State.oct_bump_ne 1 shadows]
  exact State.oct_setOct_self (State.seqs_stored hs seq oldest) 0 (by decide) fits.1 fits.2
end

/-- Settles O57: a full ledger's entry, with what it leaves of the shadows and of LEDGER_BASE_CHAIN. -/
theorem ledgerWraps : Obligations.LedgerWraps := by
  rintro s _ kind term source old new detail time rest g hs hledger hrest hg rfl
  have full : 16384 ≤ s.bound.ledger.length := by simp [hledger, hrest]
  have lost : (s.bound.ledger.drop 16383).head? = some g := by simp [hledger, ← hrest]
  have kept : s.bound.ledger.take 16383 = rest := by simp [hledger, ← hrest]
  obtain ⟨b, oldest, hadd, hb, hchain⟩ := s.ledgerAdd_of_full kind term source old new detail time full
  have hstored : ({ s with bound := b } : State).stored := hs
  rw [hchain g lost] at hadd
  refine ⟨⟨_, kept ▸ s.ledgerAdd_ledger kind term source old new detail time⟩, fun w hw => ?_, ?_⟩
  · rw [hadd, State.shadow_ledgerFull hstored _ _ _ hw]
    rfl
  · rw [hadd, State.oct_ledgerFull hstored _ _ _ hg]

end Sys2Proof.Machine
end

section
/-! The bound unit's events and the ledger's readers (R130, R132, R137 to R140). -/

namespace Sys2Proof.Machine

/-! ### Reading the ledger (R137) -/

/-- Each world's LEDGER_ENTRY lies at its own index. -/
theorem placeOf_ledgerEntry (w : Fin 16) : placeOf (0x28C0 + w.val) 1 = some ⟨E.ledgerEntry, w.val, 0⟩ := by
  revert w
  decide

/-- The lowest word of a ledger entry latches the entry and moves its reader on. -/
theorem State.readPlace_ledgerEntry (s : State) (m : Master) (w index sub i : Nat) :
    s.readPlace m w index sub ⟨E.ledgerEntry, i, 0⟩ .plain = ((s.live E.ledgerEntry i w).getD 0 0,
      (s.setLatch m index sub (s.live E.ledgerEntry i w)).ledgerAdvance i) :=
  have plain : E.ledgerEntry.cls ≠ .cor := by decide
  have wide : 1 < E.ledgerEntry.words := by decide
  State.readPlace_lowest (p := ⟨E.ledgerEntry, i, 0⟩) plain rfl wide

theorem State.readAnswer_ledgerEntry {u : State} {m : Master} {w : Fin 16} {w' : Nat} (hw : u.worldOf m = some w')
    (hr : u.readCodes w' (0x28C0 + w.val) 1 = []) {v : State} (hv : u.perfEvent 0x701 0 = v) :
    u.readAnswer m ⟨0x28C0 + w.val, 1, false, true⟩ = ((v.setLatch m (0x28C0 + w.val) 1 (v.live E.ledgerEntry w w')).ledgerAdvance
      w).emit (.answer m 0 ((v.live E.ledgerEntry w w').getD 0 0)) := by
  rw [State.readAnswer, State.read_of_readCodes_nil (x := ⟨0x28C0 + w.val, 1, false, true⟩) hw (placeOf_ledgerEntry w) rfl rfl hr,
    hv, State.readPlace_ledgerEntry]

/-! ### Attestation (R138 to R140) -/

/-- FLAGS of the record in progress with PARTIAL as its ending leaves it (R139): set on the first record, and where
ATTEST_PERIOD has changed since the record began. -/
def State.attestPartial (s : State) (period : Nat) : State :=
  { s with bound := { s.bound with attest := { s.bound.attest with
    flags := setBit s.bound.attest.flags 5 (decide (s.bound.attest.nextSeq = 0 ∨ s.bound.attest.period ≠ period)) } } }

/-- A record whose key is given is signed under the key's reference. -/
theorem State.attestSign_key {s v w : State} {k h r : List Byte} {seq : Nat} {b : List Byte}
    (hk : s.useKey s.attestUse = (.key k, v))
    (hh : b.take 12 ++ be 4 (v.resolveRef (v.n E.attestKey)) ++ b.drop 16 ++ padTo 32 v.bound.attest.prev = h)
    (hr : h ++ padTo 64 (ecdsaSign k (sha256 h)) = r) (hw : v.perfEvent 0x603 0 = w) : s.attestSign seq b =
      (((({ w with bound := { w.bound with attest := { w.bound.attest with prev := sha256 r } } }).setOct E.attestRecord
        (seq % 16) r).set E.attestSeq 0 seq).event 0 (be 1 0x30 ++ be 1 (seq % 16) ++ zeros 2 ++ be 4 seq ++ zeros 24)).event 1
          (be 1 0x30 ++ be 1 (seq % 16) ++ zeros 2 ++ be 4 seq ++ zeros 24) := by
  subst hh hr hw
  rw [State.attestSign, hk]

/-! ### The commands -/

section
variable {t : Nat} {s u : State} (hAt : At t s u)
include hAt

theorem exec_releaseEnd_met {r : Release} {old : Bound} (hr : u.bound.release = some r) (hm : r.met = some old) :
    exec (.releaseEnd t) s = .next (({ u with bound := { u.bound with release := none } }).ledgerAdd 4 0 0xFFFF old
      u.bound.e ((u.now - r.first) / 500000) (u.copy 0x001)) := by
  change execReleaseEnd t s = _
  rw [execReleaseEnd, timed_at hAt, hr]
  simp only [hm]

theorem exec_ootExit_held {c : Nat} (hc : u.bound.ootClear = some c) (hoot : u.bound.oot = true)
    (hover : c + u.n E.ootClearHold * 500000000 ≤ u.now) : exec (.ootExit t) s = .next ((({ u.attestAccrue with
      bound := { u.attestAccrue.bound with oot := false, ootClear := none } }).ledgerNote 11 0xFFFF
        ((u.now - u.bound.ootAt) / 500000000)).deassert 12) := by
  change execOotExit t s = _
  rw [execOotExit, timed_at hAt, hc]
  exact congrArg _ (if_pos ⟨hoot, hover⟩)

theorem exec_ledgerEntryRead (m : Master) (w : Fin 16) :
    exec (.ledgerEntryRead t m w) s = .next (u.readAnswer m ⟨0x28C0 + w.val, 1, false, true⟩) := by
  change execLedgerEntryRead t m w s = _
  rw [execLedgerEntryRead, timed_at hAt]

/-- At its boundary the record in progress goes to be signed, the next one begins, and the ledger notes it. -/
theorem exec_attestBoundary_reached {e : T96} {v : State} (hlock : u.flag E.firstLock = true)
    (hstarted : u.bound.attest.started = true) (hwhole : u.atWhole (u.n E.attestPeriod * secondUnit) = true)
    (he : u.privet.time / (u.n E.attestPeriod * secondUnit) * (u.n E.attestPeriod * secondUnit) / 2 ^ 40 = e)
    (hlt : u.bound.attest.start < e) (hv : u.attestAccrue.attestPartial (u.n E.attestPeriod) = v) :
    exec (.attestBoundary t) s = .next ((({ v with bound := { v.bound with
      signing := v.bound.signing ++ [(v.bound.attest.nextSeq, v.attestBytes e)] } }).attestNext e).ledgerNote 19
        (v.bound.attest.nextSeq % 16) v.bound.attest.nextSeq) := by
  subst he hv
  change execAttestBoundary t s = _
  rw [execAttestBoundary, timed_at hAt]
  have due : ¬ (¬ u.flag E.firstLock = true ∨ ¬ u.bound.attest.started = true ∨
      ¬ u.atWhole (u.n E.attestPeriod * secondUnit) = true ∨
      u.privet.time / (u.n E.attestPeriod * secondUnit) * (u.n E.attestPeriod * secondUnit) / 2 ^ 40 ≤ u.bound.attest.start) := by
    rintro (h | h | h | h)
    · exact h hlock
    · exact h hstarted
    · exact h hwhole
    · exact Nat.not_le.2 hlt h
  exact congrArg _ (if_neg due)

/-- The oldest record in signing is done at its own buffer's event. -/
theorem exec_attestSigned_oldest {i : Fin 16} {seq : Nat} {b : List Byte} {rest : List (Nat × List Byte)}
    (hs : u.bound.signing = (seq, b) :: rest) (hi : seq % 16 = i) :
    exec (.attestSigned t i) s = .next (({ u with bound := { u.bound with signing := rest } }).attestSign seq b) := by
  change execAttestSigned t i s = _
  rw [execAttestSigned, timed_at hAt, hs]
  exact congrArg _ (if_pos hi)
end

/-- Settles O13: each clause is its event's row on the state at its tick. -/
theorem boundCommands : Obligations.BoundCommands := by
  intro t s u hAt
  refine ⟨fun r old => exec_releaseEnd_met hAt, fun c => exec_ootExit_held hAt, fun m w w' v ws hw hr hv hws => ?_,
    fun e v => exec_attestBoundary_reached hAt, fun i seq b rest k v h r w hs hi hk hh hr hw => ?_,
    fun i seq b rest => exec_attestSigned_oldest hAt⟩
  · rw [exec_ledgerEntryRead hAt, State.readAnswer_ledgerEntry hw hr hv, hws]
  · rw [exec_attestSigned_oldest hAt hs hi, State.attestSign_key hk hh hr hw]

end Sys2Proof.Machine
end

section
/-! Hornbeam's writes (R144, R149, R164 to R166, R173, R174): the branches of a slot's enabling and of a decision on a conflict. -/

namespace Sys2Proof.Machine

/-! ### Enabling a slot (R144, R164) -/

/-- Holding the bound's parts for the next strobe edge leaves the store alone (R123). -/
@[simp] theorem State.termTouch_dict (s : State) : s.termTouch.dict = s.dict := by
  rw [State.termTouch]
  split <;> rfl

/-- A slot's bounds that follow its source leave its state alone. -/
theorem State.refState_termsRefresh (s : State) (n : Nat) : (s.termsRefresh n).n E.refState n = s.n E.refState n := by
  have live : dictKey E.refState n 0 0 ≠ dictKey E.brefLive n 0 0 := by
    simp only [dictKey, E.refState, E.brefLive]
    omega
  have meas : dictKey E.refState n 0 0 ≠ dictKey E.bmeasLive n 0 0 := by
    simp only [dictKey, E.refState, E.bmeasLive]
    omega
  rw [State.termsRefresh, State.n_set_ne _ _ _ _ _ _ meas, State.n_set_ne _ _ _ _ _ _ live, State.n, State.word,
    State.wordAt, State.termTouch_dict]
  rfl

section
variable {c : Ctx} {v z : State}

/-- A slot that is disabled starts afresh. -/
theorem spRefEnable_apply_disable (h : c.v = 0)
    (hz : ((((v.set E.refEnable c.i 0).setCause c.i 12 false).set E.refState c.i 0).slotFresh c.i).termsRefresh c.i = z) :
    spRefEnable.apply c v = z.settle (decide (z.n E.refState c.i ≠ v.n E.refState c.i)) := by
  subst hz
  rw [State.refState_termsRefresh]
  simp [spRefEnable, h]

/-- A slot in service that is to be watched alone goes to MONITOR, with no fresh start (the model's choice, log 132). -/
theorem spRefEnable_apply_monitor (h : c.v = 1) (hold : v.n E.refState c.i ≠ 0)
    (hz : (((v.set E.refEnable c.i 1).setCause c.i 12 false).set E.refState c.i 1).termsRefresh c.i = z) :
    spRefEnable.apply c v = z.settle (decide (z.n E.refState c.i ≠ v.n E.refState c.i)) := by
  subst hz
  rw [State.refState_termsRefresh]
  simp [spRefEnable, h, hold]

/-- A disabled slot that is put in service starts afresh, and QUALIFYING. -/
theorem spRefEnable_apply_qualify (h : c.v = 2) (hold : v.n E.refState c.i = 0)
    (hz : ((((v.set E.refEnable c.i 2).setCause c.i 12 false).slotFresh c.i).slotQualify c.i).termsRefresh c.i = z) :
    spRefEnable.apply c v = z.settle (decide (z.n E.refState c.i ≠ 0)) := by
  subst hz
  rw [State.refState_termsRefresh]
  simp [spRefEnable, h, hold]
end

/-! ### Decisions on a conflict (R174) -/

section
variable {c : Ctx} {n : Fin 32}

/-- HB_CONFLICT_CMD's word: the slot above the decision. -/
theorem Ctx.conflictWord {d : Nat} (hd : d < 256) (h : c.words = [BitVec.ofNat 64 (n.val * 256 + d)]) :
    bitsOf c.v 15 8 = n.val ∧ bitsOf c.v 7 0 = d := by
  simp only [bitsOf, Ctx.v, h, List.headD_cons, BitVec.toNat_ofNat]
  omega

theorem spConflictCmd_apply_slew (h : c.words = [BitVec.ofNat 64 (n.val * 256 + 1)]) (v : State) :
    spConflictCmd.apply c v = (v.coreRelease.closeConflict n 1).decide' (some (n.val, v.now, false)) := by
  obtain ⟨hslot, hd⟩ := Ctx.conflictWord (by decide) h
  simp only [spConflictCmd, hslot, hd]

/-- A step accepted is not held against 500 ms (the model's choice, log 132). -/
theorem spConflictCmd_apply_step (h : c.words = [BitVec.ofNat 64 (n.val * 256 + 2)]) (v : State) : spConflictCmd.apply c v =
    (((v.acceptStep (unitsOfFs (v.phaseNow n)) 1).coreRelease).closeConflict n 2).decide' (some (n.val, v.now, true)) := by
  obtain ⟨hslot, hd⟩ := Ctx.conflictWord (by decide) h
  simp only [spConflictCmd, hslot, hd]

theorem spConflictCmd_apply_reject (h : c.words = [BitVec.ofNat 64 (n.val * 256 + 3)]) (v : State) :
    spConflictCmd.apply c v = (((v.setCause n 12 true).slotFail n).closeConflict n 3).settle true := by
  obtain ⟨hslot, hd⟩ := Ctx.conflictWord (by decide) h
  simp only [spConflictCmd, hslot, hd]
end

/-- Settles O14: each write that is let through has its entry's effect. -/
theorem hornbeamWrites : Obligations.HornbeamWrites := by
  intro t s u hAt m w
  refine ⟨fun n x v ho => writeRow_opens hAt ho,
    fun n x v z ho hx hz => writeRow_applies hAt ho (spRefEnable_apply_disable hx hz),
    fun n x v z ho hx hold hz => writeRow_applies hAt ho (spRefEnable_apply_monitor hx hold hz),
    fun n x v z ho hx hold hz => writeRow_applies hAt ho (spRefEnable_apply_qualify hx hold hz),
    fun x v ho => writeRow_opens hAt ho, fun n v z ho hz => writeRow_applies hAt ho (hz ▸ spConflictCmd_apply_slew rfl v),
    fun n v z ho hz => writeRow_applies hAt ho (hz ▸ spConflictCmd_apply_step rfl v),
    fun n v ho => writeRow_applies hAt ho (spConflictCmd_apply_reject rfl v)⟩

end Sys2Proof.Machine
end

section
/-! Hornbeam's events (R146, R147, R152, R154, R161 to R166, R170, R175): the time-of-day line byte by byte, and each event under
the conditions on which it acts. -/

namespace Sys2Proof.Machine

/-! ### A byte of the time-of-day line (R159) -/

section
variable {u : State} {n : Nat} {b : Byte × Bool} {l : List (Byte × Bool)}

/-- No line begins but with `$`, and not with one whose stop bit was low (the model's choice, log 100). -/
theorem State.todByte_ignored (hbegun : (u.slot n).tod.begun = []) (hb : b ≠ (0x24#8, false)) : u.todByte n b = u := by
  have noStart : b.2 = true ∨ b.1 ≠ 0x24 := by
    cases hlow : b.2 with
    | true => exact .inl rfl
    | false => exact .inr fun hbyte => hb (Prod.ext hbyte hlow)
  exact if_pos ⟨by simp [hbegun], noStart⟩

/-- What begins a line or stands in one is taken: it ends the line as LF or as the 73rd byte, or the line goes on with
it; an LF ends it with a framing error too (the model's choice, log 100). -/
theorem State.todByte_taken (hl : (u.slot n).tod.begun ++ [b] = l) (hb : (u.slot n).tod.begun ≠ [] ∨ b = (0x24#8, false)) :
    u.todByte n b = if b.1 = 0x0A ∨ 73 ≤ l.length then
        (u.setSlot n { u.slot n with tod := { (u.slot n).tod with begun := [] } }).todLine n l
      else u.setSlot n { u.slot n with tod := { (u.slot n).tod with begun := l } } := by
  subst hl
  refine if_neg ?_
  rintro ⟨hempty, hnot⟩
  obtain hbegun | rfl := hb
  · exact hbegun (List.isEmpty_iff.1 hempty)
  · simp at hnot

theorem State.todByte_goesOn (hl : (u.slot n).tod.begun ++ [b] = l) (hb : (u.slot n).tod.begun ≠ [] ∨ b = (0x24#8, false))
    (hlf : b.1 ≠ 0x0A) (hshort : l.length < 73) :
    u.todByte n b = u.setSlot n { u.slot n with tod := { (u.slot n).tod with begun := l } } := by
  rw [State.todByte_taken hl hb, if_neg (not_or.2 ⟨hlf, Nat.not_le.2 hshort⟩)]

theorem State.todByte_ends (hl : (u.slot n).tod.begun ++ [b] = l) (hbegun : (u.slot n).tod.begun ≠ [])
    (hend : b.1 = 0x0A ∨ l.length = 73) : u.todByte n b =
      (u.setSlot n { u.slot n with tod := { (u.slot n).tod with begun := [] } }).todLine n l := by
  rw [State.todByte_taken hl (.inl hbegun), if_pos (hend.imp_right fun full => Nat.le_of_eq full.symm)]

/-! ### A line that has ended (R160 to R162) -/

/-- A line with a low stop bit, or outside its layout, is discarded and counted. -/
theorem State.todLine_discarded (h : l.any (·.2) = true ∨ parseTod (l.map (·.1)) = none) :
    u.todLine n l = u.bump E.todErrors n := by
  have discard : (if l.any (·.2) then none else parseTod (l.map (·.1))) = none := by
    obtain hlow | hparse := h
    · exact if_pos hlow
    · rw [hparse, ite_self]
  rw [State.todLine, discard, State.todError]

section
variable {x : TodLine} {e : Nat} {rest : List Nat} (hlow : l.any (·.2) = false) (hparse : parseTod (l.map (·.1)) = some x)
  (hedges : (u.slot n).tod.edges = e :: rest)
include hlow hparse hedges

/-- A line that names the edge before it is kept inside its window. -/
theorem State.todLine_kept (hnames : u.n E.todNames n = 1) (hfrom : e + 5000000 ≤ u.now) (hto : u.now ≤ e + 450000000) :
    u.todLine n l = u.todKeep n x := by
  simp only [State.todLine, hlow, Bool.false_eq_true, if_false, hparse, hnames, hedges, Nat.one_ne_zero]
  exact if_pos ⟨hfrom, hto⟩

/-- A line that names the edge to come waits for it. -/
theorem State.todLine_waits (hnames : u.n E.todNames n = 0) (hfrom : e + 5000000 ≤ u.now) : u.todLine n l =
    u.setSlot n { u.slot n with tod := { (u.slot n).tod with wait := (u.slot n).tod.wait ++ [(x, u.now)] } } := by
  simp only [State.todLine, hlow, Bool.false_eq_true, if_false, hparse, hnames, hedges, if_true]
  exact if_pos hfrom
end
end

/-! ### The commands at their tick -/

section
variable {t : Nat} {s u : State} (hAt : At t s u)
include hAt

theorem exec_activityTimeout (n : Fin 32) : exec (.activityTimeout t n) s = .next (u.activityLost n) := by
  change execActivityTimeout t n s = _
  rw [execActivityTimeout, timed_at hAt]

theorem exec_activityTimeout_silent {n : Fin 32} (hon : u.n E.refEnable n ≠ 0) (hsilent : u.silent n = true) :
    exec (.activityTimeout t n) s = .next ((u.setCause n 1 true).settle) := by
  rw [exec_activityTimeout hAt, State.activityLost, if_pos ⟨hon, hsilent⟩]

theorem exec_activityTimeout_active {n : Fin 32} (hactive : u.silent n = false) : exec (.activityTimeout t n) s = .next u := by
  rw [exec_activityTimeout hAt, State.activityLost, if_neg fun h => Bool.eq_false_iff.1 hactive h.2]

/-- At a whole millisecond, once, every channel's count is latched and judged. -/
theorem exec_rateCheck_due (hm : u.atMilli = true) (hfirst : u.counters.latchAt ≠ some u.now) : exec (.rateCheck t) s =
    .next (((List.range 26).foldl (fun (x : State) c => x.rateChannel u.rateWindow c)
      { u with counters := { u.counters with latchAt := some u.now } }).settle) := by
  change execRateCheck t s = _
  rw [execRateCheck, timed_at hAt]
  exact congrArg _ (if_pos ⟨hm, hfirst⟩)

/-- The second's work, in the order of R152. -/
theorem exec_hornbeamSecond_due {x v : State} (hs : u.atSecond = true)
    (hx : ((List.range 32).foldl State.slotSecond u).transitions = x)
    (hv : ((x.pairsToWatch.foldl (fun (y : State) p => y.pairSecond p.1 p.2) x).disSecond).select = v) :
    exec (.hornbeamSecond t) s =
      .next ((List.range 32).foldl State.elapsedSecond ((List.range 32).foldl State.driftSecond v)) := by
  subst hx hv
  change execHornbeamSecond t s = _
  rw [execHornbeamSecond, timed_at hAt]
  exact congrArg _ (if_pos hs)

section
variable {n : Fin 32} (hover : (u.slot n).passSince + u.n E.hbQualTime * 500000000 ≤ u.now)
include hover

/-- A QUALIFYING slot that no monitor holds back becomes QUALIFIED (R164). -/
theorem exec_qualTimeExpiry_qualifies (hstate : u.n E.refState n = 2) (hpass : u.anyFail n = false)
    (hphase : u.phaseAllowed n = true) : exec (.qualTimeExpiry t n) s = .next (((((u.set E.refState n 3).setT96
      E.refQualifiedAt n u.tai).set E.refQualElapsed n 0).qualifiedNow n).settle true) := by
  change execQualTimeExpiry t n s = _
  rw [execQualTimeExpiry, timed_at hAt]
  exact congrArg _ ((if_pos hover).trans (if_pos ⟨hstate, Bool.eq_false_iff.1 hpass, hphase⟩))

/-- A DEGRADING slot whose cause has stayed away is QUALIFIED again (R164). -/
theorem exec_qualTimeExpiry_returns (hstate : u.n E.refState n = 4) (hdrift : (u.slot n).drifting = false)
    (hpredict : u.cause n 7 = false) (harb : u.cause n 11 = false) : exec (.qualTimeExpiry t n) s = .next
      (((((u.set E.refState n 3).setSlot n { u.slot n with excursion := 0 }).qualifiedNow n).termsRefresh n).settle true) := by
  change execQualTimeExpiry t n s = _
  rw [execQualTimeExpiry, timed_at hAt]
  have degrading : ¬ (u.n E.refState n = 2 ∧ ¬ u.anyFail n = true ∧ u.phaseAllowed n = true) := fun h => by simp [hstate] at h
  exact congrArg _ ((if_pos hover).trans ((if_neg degrading).trans
    (if_pos ⟨hstate, Bool.eq_false_iff.1 hdrift, Bool.eq_false_iff.1 hpredict, Bool.eq_false_iff.1 harb⟩)))
end

theorem exec_wtrExpiry : exec (.wtrExpiry t) s = .next u.select := by
  change execWtrExpiry t s = _
  rw [execWtrExpiry, timed_at hAt]

/-- A conflict in holdover is slewed in by itself where the slot's phase has kept within its bound for the time asked (R175). -/
theorem exec_autoAccept_steady {n : Fin 32} {lo hi : Int} {z : State} (hon : u.n E.hbAutoAccept ≠ 0) (hhold : u.inHold = true)
    (hconf : u.inConflict n = true) (hqual : u.qualified n = true)
    (hover : max (u.slot n).watchFrom (u.slot n).qualSince + 60 * u.n E.hbAutoAccept * 500000000 ≤ u.now)
    (hwatch : (u.slot n).watch = some (lo, hi)) (hstill : hi - lo ≤ 2000 * (u.n E.brefLive n : Int))
    (hslew : u.slewTooBig n = false) (hz : u.coreRelease.closeConflict n 4 = z) :
    exec (.autoAccept t n) s = .next (z.decide' (some (n.val, u.now, false))) := by
  subst hz
  change execAutoAccept t n s = _
  rw [execAutoAccept, timed_at hAt]
  simp only [hwatch]
  exact congrArg _ (if_pos ⟨hon, hhold, hconf, hqual, hover, decide_eq_true hstill, Bool.eq_false_iff.1 hslew⟩)

/-- An information PDU keeps its port's one slot alive, and gives it a quality (R154). -/
theorem exec_esmcPdu_one {n : Fin 32} {port : Nat} (ssm : Nat) (essm : Option Nat)
    (hn : (List.range 32).filter (fun k => decide (u.n E.refEnable k ≠ 0 ∧ u.refKind k = 4 ∧ u.n E.refEsmcPort k = port ∧
      port < 16)) = [n.val]) :
    exec (.esmcPdu t port false ssm essm) s = .next ((u.setSlot n { u.slot n with lastInfo := u.now }).quality n
      (essm.getD 0xFF % 256 * 256 + ssm % 256) (esmcLevel ssm essm)) := by
  change execEsmcPdu t port false ssm essm s = _
  rw [execEsmcPdu, timed_at hAt, hn]
  rfl

theorem exec_esmcTimeout_silent {n : Fin 32} (hon : u.n E.refEnable n ≠ 0) (hkind : u.refKind n = 4)
    (hport : u.n E.refEsmcPort n ≠ 0xFF)
    (hover : u.resolves [portIsland (u.n E.refEsmcPort n)] ((u.slot n).lastInfo + 5 * 500000000) = true) :
    exec (.esmcTimeout t n) s = .next (u.quality n (u.n E.refQlRx n) 0) := by
  change execEsmcTimeout t n s = _
  rw [execEsmcTimeout, timed_at hAt]
  exact congrArg _ (if_pos ⟨hon, hkind, hport, hover⟩)

section
variable {p : Fin 4} {n : Nat} (hslot : u.slotOf 3 p = some n) (hon : u.todOn n = true)
include hslot hon

theorem exec_todLine_on (bytes : List Byte) (low : List Nat) : exec (.todLine t p bytes low) s =
    .next ((bytes.zipIdx.map (fun b => (b.1, low.contains b.2))).foldl (fun (x : State) b => x.todByte n b) u) := by
  change execTodLine t p bytes low s = _
  rw [execTodLine, timed_at hAt, hslot]
  exact congrArg _ (if_pos hon)

theorem exec_todMiss_reached (hmiss : u.n E.todMissLimit n ≤ (u.slot n).tod.missed) : exec (.todMiss t p) s =
    .next (((u.setSlot n { u.slot n with tod := { (u.slot n).tod with failing := true, run := 0 } }).todRefresh n).settle) := by
  change execTodMiss t p s = _
  rw [execTodMiss, timed_at hAt, hslot]
  exact congrArg _ (if_pos ⟨hon, hmiss⟩)
end
end

/-- Settles O15: each clause is its event's row on the state at its tick, or a case of a byte or a line. -/
theorem hornbeamEvents : Obligations.HornbeamEvents := by
  intro t s u hAt
  exact ⟨fun n => exec_activityTimeout_silent hAt, fun n => exec_activityTimeout_active hAt, exec_rateCheck_due hAt,
    fun x v => exec_hornbeamSecond_due hAt, fun n => exec_qualTimeExpiry_qualifies hAt, fun n => exec_qualTimeExpiry_returns hAt,
    exec_wtrExpiry hAt, fun n lo hi z => exec_autoAccept_steady hAt, fun n port ssm essm _ => exec_esmcPdu_one hAt ssm essm,
    fun n => exec_esmcTimeout_silent hAt, fun p n bytes low hslot hon => exec_todLine_on hAt hslot hon bytes low,
    fun n b => State.todByte_ignored, fun n b l v hl hb hlf hshort hv => hv ▸ State.todByte_goesOn hl hb hlf hshort,
    fun n b l v hl hbegun hend hv => hv ▸ State.todByte_ends hl hbegun hend, fun n l => State.todLine_discarded,
    fun n l x e rest hlow hparse hnames hedges => State.todLine_kept hlow hparse hedges hnames,
    fun n l x e rest hlow hparse hnames hedges => State.todLine_waits hlow hparse hedges hnames,
    fun p n hslot hon => exec_todMiss_reached hAt hslot hon⟩

end Sys2Proof.Machine
end

section
/-! PTP messages received (R155, R295, R296, R298, R299, R316): what each message's row leaves where it is accepted. -/

namespace Sys2Proof.Machine

/-- A slot takes its quality from the Announce of its source's parent (R155). -/
theorem State.parentQuality_of_parent {s : State} {i n : Nat} {b : ParentSet} (hslot : s.ptpSlot i = some n)
    (hparent : (s.ptpInst i).parent = some b) :
    s.parentQuality i = s.quality n (b.accuracy * 256 + b.cls) (announceLevel b) := by
  rw [State.parentQuality, hslot, hparent]

/-- The frame that answers request `x`, accepted at `i`, with its ingress stamp (R299). -/
def replyOrigin (x : PtpRx) (i kind : Nat) (client : Option Nat) (peer : List Byte) : Origin :=
  { unit := 0, inst := i, kind := kind, client := client, seq := x.seq, port := x.port, peer := peer, req := replyReq x,
    stamp := x.stamp, bound := x.bound }

section
variable {t : Nat} {s u v : State} {x : PtpRx} {i : Nat} {auth : Bool} (hAt : At t s u) (ha : Accepts x i auth u v)
include hAt ha

/-- An accepted message has its row's effect, and is heard. -/
theorem ptpRow_heard {kinds : List Nat} (hk : x.kind ∈ kinds) {f : Nat → Bool → State → State} {z : State}
    (hz : f i auth v = z) : ptpRow t x kinds s f = .next (z.heard x i v) :=
  hz ▸ ptpRow_accepts hAt hk ha

/-! ### Syncs and their Follow_Ups (R296, R316) -/

section
variable (hkind : x.kind = 0)
include hkind

theorem exec_syncReceived_other (hfrom : v.fromParent i x = false) : exec (.syncReceived t x) s = .next (v.heard x i v) :=
  ptpRow_heard hAt ha (List.mem_singleton.2 hkind) (if_pos (Bool.eq_false_iff.1 hfrom))

section
variable {a : Nat} {y z : State} (hstamp : v.stampTick x.stamp = a) (hfrom : v.fromParent i x = true)
  (hfirst : (v.ptpInst i).lastSyncSeq = none) (hy : (v.tlvNote i x auth).syncLate i a = y)
  (hz : y.setPtpInst i { y.ptpInst i with lastSyncSeq := some x.seq, lastSync := a } = z)
include hstamp hfrom hfirst hy hz

/-- The first Sync of a parent advances no epoch: it is noted, and is the half of a pair or the whole of one. -/
theorem exec_syncReceived_first : exec (.syncReceived t x) s = .next (State.heard
    (if x.flag 9 then z.setPtpInst i { z.ptpInst i with exchanges := (z.ptpInst i).exchanges ++
        [{ kind := 0, epoch := z.n E.ptpSyncEpoch i, seq := x.seq, t2 := some (x.stamp : Int), corr := x.corr,
           bound := z.tlvBoundOf i x auth, expires := a + ticksMs (z.n E.ptpRespTimeout) }] }
      else z.pairDone i x.time (x.stamp : Int) x.corr (z.tlvBoundOf i x auth)) x i v) := by
  subst hstamp hy hz
  refine ptpRow_heard hAt ha (List.mem_singleton.2 hkind) ((if_neg (not_not_intro hfrom)).trans ?_)
  simp only [hfirst]
  rfl

theorem exec_syncReceived_oneStep (hone : x.flag 9 = false) : exec (.syncReceived t x) s =
    .next ((z.pairDone i x.time (x.stamp : Int) x.corr (z.tlvBoundOf i x auth)).heard x i v) := by
  rw [exec_syncReceived_first hAt ha hkind hstamp hfrom hfirst hy hz, if_neg (Bool.eq_false_iff.1 hone)]

/-- A two-step Sync waits for its Follow_Up. -/
theorem exec_syncReceived_twoStep {e : Exchange} (htwo : x.flag 9 = true)
    (he : e = { kind := 0, epoch := z.n E.ptpSyncEpoch i, seq := x.seq, t2 := some (x.stamp : Int), corr := x.corr,
                bound := z.tlvBoundOf i x auth, expires := a + ticksMs (z.n E.ptpRespTimeout) }) :
    exec (.syncReceived t x) s =
      .next ((z.setPtpInst i { z.ptpInst i with exchanges := (z.ptpInst i).exchanges ++ [e] }).heard x i v) := by
  rw [exec_syncReceived_first hAt ha hkind hstamp hfrom hfirst hy hz, if_pos htwo, he]
end
end

section
variable (hkind : x.kind = 8) (hfrom : v.fromParent i x = true)
include hkind hfrom

/-- A Follow_Up completes the pair of its Sync. -/
theorem exec_followUpReceived_matched {e : Exchange} {y : State} (he : v.exchangeFor i 0 x.seq (v.stampTick x.stamp) = some e)
    (hy : (v.setPtpInst i { v.ptpInst i with exchanges := (v.ptpInst i).exchanges.erase e }).tlvNote i x auth = y) :
    exec (.followUpReceived t x) s = .next ((y.pairDone i x.time (e.t2.getD 0) (e.corr + x.corr)
      ((y.tlvBoundOf i x auth).orElse (fun _ => e.bound))).heard x i v) := by
  subst hy
  refine ptpRow_heard hAt ha (List.mem_singleton.2 hkind) ((if_neg (not_not_intro hfrom)).trans ?_)
  simp only [he]

theorem exec_followUpReceived_unmatched (he : v.exchangeFor i 0 x.seq (v.stampTick x.stamp) = none) :
    exec (.followUpReceived t x) s = .next ((v.bump E.ptpUnmatched i).heard x i v) := by
  refine ptpRow_heard hAt ha (List.mem_singleton.2 hkind) ((if_neg (not_not_intro hfrom)).trans ?_)
  simp only [he]
end

/-! ### Answers to requests of our own (R296, R316) -/

section
variable (hkind : x.kind = 9) (hfrom : v.fromParent i x = true) (hours : v.answersUs i x = true)
include hkind hfrom hours

theorem exec_delayRespReceived_matched {e : Exchange} (he : v.exchangeFor i 1 x.seq (v.stampTick x.stamp) = some e) :
    exec (.delayRespReceived t x) s = .next (((v.tlvNote i x auth).exchangeSet i e { e with
      t4 := some x.time, corr := x.corr, bound := v.tlvBoundOf i x auth }).heard x i v) := by
  refine ptpRow_heard hAt ha (List.mem_singleton.2 hkind) ((if_neg (by simp [hfrom, hours])).trans ?_)
  simp only [he]

theorem exec_delayRespReceived_unmatched (he : v.exchangeFor i 1 x.seq (v.stampTick x.stamp) = none) :
    exec (.delayRespReceived t x) s = .next ((v.bump E.ptpUnmatched i).heard x i v) := by
  refine ptpRow_heard hAt ha (List.mem_singleton.2 hkind) ((if_neg (by simp [hfrom, hours])).trans ?_)
  simp only [he]
end

section
variable {e : Exchange} (hp2p : v.ptpP2p i = true) (hup : v.ptpUp i x.port = true) (hours : v.answersUs i x = true)
  (he : v.exchangeFor i 2 x.seq (v.stampTick x.stamp) = some e) (hport : e.port = x.port.val)
include hp2p hup hours he hport

/-- An answer on the port of its Pdelay_Req brings t2 and t4, its Follow_Up t3. -/
theorem exec_pdelayRespReceived_matched (hkind : x.kind ∈ [3, 0xA]) : exec (.pdelayRespReceived t x) s = .next (State.heard
    (if x.kind = 3 then v.exchangeSet i e { e with t2 := some x.time, t4 := some (x.stamp : Int), corr := e.corr + x.corr }
      else v.exchangeSet i e { e with t3 := some x.time, corr := e.corr + x.corr }) x i v) := by
  have waits : (v.exchangeFor i 2 x.seq (v.stampTick x.stamp)).filter (fun e => decide (e.port = x.port.val)) = some e := by
    rw [he, Option.filter_some, if_pos (decide_eq_true hport)]
  refine ptpRow_heard hAt ha hkind ((if_neg (by simp [hp2p, hup, hours])).trans ?_)
  simp only [waits]

theorem exec_pdelayRespReceived_resp (hkind : x.kind = 3) : exec (.pdelayRespReceived t x) s = .next ((v.exchangeSet i e { e with
    t2 := some x.time, t4 := some (x.stamp : Int), corr := e.corr + x.corr }).heard x i v) := by
  rw [exec_pdelayRespReceived_matched hAt ha hp2p hup hours he hport (by simp [hkind]), if_pos hkind]

theorem exec_pdelayRespReceived_followUp (hkind : x.kind = 0xA) : exec (.pdelayRespReceived t x) s =
    .next ((v.exchangeSet i e { e with t3 := some x.time, corr := e.corr + x.corr }).heard x i v) := by
  rw [exec_pdelayRespReceived_matched hAt ha hp2p hup hours he hport (by simp [hkind]), if_neg (by simp [hkind])]
end

/-! ### Announces (R155, R295) -/

section
variable {b : ParentSet} {w y : State} {l : List ParentSet} (hkind : x.kind = 0xB) (hup : v.ptpUp i x.port = true)
  (hb : announceSet x (v.stampTick x.stamp) = b) (hw : v.announceLate i b = w)
  (hl : l = (w.ptpInst i).heard.filter (fun c => !decide (c.port = b.port ∧ c.portId = b.portId)) ++ [b])
  (hy : (w.setPtpInst i { w.ptpInst i with heard := l }).chooseParent i = y)
include hkind hup hb hw hl hy

/-- An Announce is heard in the place of its sender's last one, and the parent is chosen again. -/
theorem exec_announceReceived_up : exec (.announceReceived t x) s = .next (State.heard
    (match (y.ptpInst i).parent, y.ptpSlot i with
      | some c, some n =>
        if c = b then (if (y.parentQuality i).n E.hbSelected = n then (y.parentQuality i).announceLeap b else y.parentQuality i)
        else y
      | _, _ => y) x i v) := by
  subst hb hw hl hy
  exact ptpRow_heard hAt ha (List.mem_singleton.2 hkind) (if_neg (not_not_intro hup))

theorem exec_announceReceived_notParent (hother : (y.ptpInst i).parent ≠ some b) :
    exec (.announceReceived t x) s = .next (y.heard x i v) := by
  rw [exec_announceReceived_up hAt ha hkind hup hb hw hl hy]
  split
  · next c n hc _ =>
    have other : ¬ c = b := fun same => hother (same ▸ hc)
    rw [if_neg other]
  · rfl

/-- The parent's Announce gives its slot a quality, and the selected slot's the leap second it names. -/
theorem exec_announceReceived_parent {n : Nat} {z : State} (hparent : (y.ptpInst i).parent = some b) (hslot : y.ptpSlot i = some n)
    (hz : y.quality n (b.accuracy * 256 + b.cls) (announceLevel b) = z) :
    exec (.announceReceived t x) s = .next ((if z.n E.hbSelected = n then z.announceLeap b else z).heard x i v) := by
  subst hz
  rw [exec_announceReceived_up hAt ha hkind hup hb hw hl hy, State.parentQuality_of_parent hslot hparent]
  simp only [hparent, hslot, if_true]
end

/-! ### Requests (R298, R299) -/

section
variable (hkind : x.kind = 1) (hmaster : v.ptpMaster i x.port = true) (hp2p : v.ptpP2p i = false)
include hkind hmaster hp2p

/-- A unicast Delay_Req of no client is dropped. -/
theorem exec_delayReqReceived_noClient (huni : x.unicast = true) (hclient : v.findClient i x = none) :
    exec (.delayReqReceived t x) s = .next ((v.bump E.ptpRxDrop i).heard x i v) := by
  refine ptpRow_heard hAt ha (List.mem_singleton.2 hkind) ((if_neg (by simp [hmaster, hp2p])).trans ?_)
  simp [hclient, huni]

/-- A multicast Delay_Req is answered to the group. -/
theorem exec_delayReqReceived_multicast (huni : x.unicast = false) (htime : v.noTime = false)
    (hnego : v.flag E.ptpUnicast i = false) : exec (.delayReqReceived t x) s = .next ((v.ptpSend
      (replyOrigin x i 3 none (ptpDest x.transport (v.ptpGroup i false) false x.vlan))).heard x i v) := by
  refine ptpRow_heard hAt ha (List.mem_singleton.2 hkind) ((if_neg (by simp [hmaster, hp2p])).trans ?_)
  simp [huni, htime, hnego, replyOrigin]

/-- A unicast Delay_Req is answered to the client whose grant still stands at its ingress. -/
theorem exec_delayReqReceived_granted {k : Nat} {g : Grant} (huni : x.unicast = true) (hclient : v.findClient i x = some k)
    (hgrant : (v.client k).delay = some g) (hstands : v.stampTick x.stamp ≤ g.expires) (htime : v.noTime = false) :
    exec (.delayReqReceived t x) s = .next ((v.ptpSend (replyOrigin x i 3 (some (clientHandle k (v.client k)))
      (ptpDest x.transport x.addr false x.vlan))).heard x i v) := by
  refine ptpRow_heard hAt ha (List.mem_singleton.2 hkind) ((if_neg (by simp [hmaster, hp2p])).trans ?_)
  simp [hclient, hgrant, hstands, huni, htime, replyOrigin]
end

section
variable (hkind : x.kind = 2) (hp2p : v.ptpP2p i = true)
include hkind hp2p

theorem exec_pdelayReqReceived_unicast (huni : x.unicast = true) :
    exec (.pdelayReqReceived t x) s = .next ((v.bump E.ptpRxDrop i).heard x i v) :=
  ptpRow_heard hAt ha (List.mem_singleton.2 hkind) ((if_neg (not_not_intro hp2p)).trans (if_pos huni))

/-- A Pdelay_Req is answered in two steps, with a stamp request. -/
theorem exec_pdelayReqReceived_multicast (huni : x.unicast = false) (htime : v.noTime = false) :
    exec (.pdelayReqReceived t x) s = .next ((v.ptpSend
      (replyOrigin x i 4 none (ptpDest x.transport (v.ptpGroup i true) true x.vlan)) true).heard x i v) :=
  ptpRow_heard hAt ha (List.mem_singleton.2 hkind) ((if_neg (not_not_intro hp2p)).trans
    ((if_neg (Bool.eq_false_iff.1 huni)).trans (if_neg (Bool.eq_false_iff.1 htime))))
end
end

/-- Settles O26: each clause is its message's row where the message is accepted. -/
theorem ptpMessages : Obligations.PtpMessages := by
  intro t s u hAt x i auth v a ha hstamp
  subst hstamp
  exact ⟨fun y z hkind hfrom hfirst hy hz => ⟨exec_syncReceived_oneStep hAt ha hkind rfl hfrom hfirst hy hz,
      fun e => exec_syncReceived_twoStep hAt ha hkind rfl hfrom hfirst hy hz⟩,
    exec_syncReceived_other hAt ha, fun e y hkind hfrom => exec_followUpReceived_matched hAt ha hkind hfrom,
    exec_followUpReceived_unmatched hAt ha, fun e hkind hfrom hours => exec_delayRespReceived_matched hAt ha hkind hfrom hours,
    exec_delayRespReceived_unmatched hAt ha,
    fun e hp2p hup hours he hport => ⟨exec_pdelayRespReceived_resp hAt ha hp2p hup hours he hport,
      exec_pdelayRespReceived_followUp hAt ha hp2p hup hours he hport⟩,
    fun b w y l hkind hup hb hw hl hy => ⟨exec_announceReceived_notParent hAt ha hkind hup hb hw hl hy,
      fun n z => exec_announceReceived_parent hAt ha hkind hup hb hw hl hy⟩,
    exec_delayReqReceived_noClient hAt ha, exec_delayReqReceived_multicast hAt ha,
    fun k g hkind hmaster hp2p => exec_delayReqReceived_granted hAt ha hkind hmaster hp2p,
    fun hkind hp2p => exec_pdelayReqReceived_multicast hAt ha hkind hp2p, exec_pdelayReqReceived_unicast hAt ha⟩

end Sys2Proof.Machine
end

section
/-! Yew's commands (R181 to R185, R188, R190 to R194): the loop's update and what it computes, the ensemble's second, and the settings
that gains and weights follow. -/

namespace Sys2Proof.Machine

/-! ### The loop's update (R183, R184) -/

/-- The interval that the loop's next update takes begins (R183). -/
def State.intervalBegins (v : State) : State := { v with yew := { v.yew with began := v.now } }

/-- Keeping the selected slot's estimate leaves the store alone (R180). -/
@[simp] theorem State.yRefHold_dict (s : State) (n : Nat) : (s.yRefHold n).dict = s.dict := by
  rw [State.yRefHold]
  split <;> rfl

@[simp] theorem State.yRefHold_flag (s : State) (n : Nat) (e : Entry) (i : Nat) : (s.yRefHold n).flag e i = s.flag e i := by
  have hn : (s.yRefHold n).n e i = s.n e i := by simp only [State.n, State.word, State.wordAt, State.yRefHold_dict]
  rw [State.flag, State.flag, hn]

section
variable {u : State} {n ms res : Nat}

/-- Without a valid offset, and at the tick of a preset, the loop is left as it is. -/
theorem State.loopStep_idle (h : u.intervalOffsets n = [] ∨ u.yew.presetAt = some u.now) : u.loopStep n ms res = u :=
  if_pos (h.imp_left List.isEmpty_iff.2)

section
variable {l : List Int} {v : LoopResult} (hoffsets : u.intervalOffsets n = l) (hsome : l ≠ [])
  (hpreset : u.yew.presetAt ≠ some u.now) (hresult : u.loopResult l (u.n E.refType n) ms = v)
include hoffsets hsome hpreset hresult

/-- An update is taken or discarded by the residue of its integ (R26, R30), compared at the update's own tick (the model's choice,
log 93). -/
theorem State.loopStep_checked : u.loopStep n ms res =
    if residue (be 8 (wordOfInt v.integ).toNat) = res then u.loopTake (u.n E.refType n) v else u.yewResidue := by
  subst hoffsets hresult
  have runs : ¬ ((u.intervalOffsets n).isEmpty = true ∨ u.yew.presetAt = some u.now) :=
    not_or.2 ⟨fun h => hsome (List.isEmpty_iff.1 h), hpreset⟩
  exact if_neg runs

theorem State.loopStep_takes :
    u.loopStep n ms (residue (be 8 (wordOfInt v.integ).toNat)) = u.loopTake (u.n E.refType n) v := by
  rw [State.loopStep_checked hoffsets hsome hpreset hresult, if_pos rfl]

theorem State.loopStep_discards (hres : residue (be 8 (wordOfInt v.integ).toNat) ≠ res) :
    u.loopStep n ms res = (u.bump E.resErr).raise 2 none 0x003 := by
  rw [State.loopStep_checked hoffsets hsome hpreset hresult, if_neg hres, State.yewResidue]
end

/-- Inside the tolerance an update is the integral and the proportional term of its type's gains (R183). -/
theorem State.loopResult_inTolerance {l : List Int} {k : Nat} {x i : Int}
    (hx : Int.tdiv (l.foldl (· + ·) 0) l.length - Int.tdiv (u.slewAll * 10 ^ 6) (2 ^ 56) = x)
    (hdrift : u.flag E.yewDriftFf = false) (hfine : u.yew.fine = 0)
    (hi : u.yew.integ + Int.fdiv (u.n E.loopKi k * x * ms) (10 ^ 15) = i)
    (htol : (i + roundDiv (u.n E.loopKp k * x) (10 ^ 9) - u.yRef).natAbs ≤ u.n E.privetOutTol * 10 ^ 6) :
    u.loopResult l k ms =
      ⟨x, i + roundDiv (u.n E.loopKp k * x) (10 ^ 9), i, Int.fmod (u.n E.loopKi k * x * ms) (10 ^ 15), false⟩ := by
  subst hx hi
  have within := Int.not_lt.2 (Int.ofNat_le.2 htol)
  simp only [State.loopResult, hdrift, hfine, Bool.false_eq_true, if_false, Int.zero_mul, Int.add_zero]
  exact if_neg within
end

/-! ### The loop's settings (R181, R182) -/

section
variable (u : State) (k kp : Nat)

theorem State.loopBw_set_loopKp : (u.set E.loopKp k kp).n E.loopBw k = u.n E.loopBw k := by
  refine State.n_set_ne _ _ _ _ _ _ ?_
  simp only [dictKey, E.loopKp, E.loopBw]
  omega

theorem State.loopDamp_set_loopKp : (u.set E.loopKp k kp).n E.loopDamp k = u.n E.loopDamp k := by
  refine State.n_set_ne _ _ _ _ _ _ ?_
  simp only [dictKey, E.loopKp, E.loopDamp]
  omega
end

/-- The two gains may be worked out one after the other: K_p is no setting that K_i follows. -/
theorem spLoopBw_apply {c : Ctx} {v z y : State} (hz : v.set E.loopBw c.i c.v = z)
    (hy : z.set E.loopKp c.i (gainP (z.n E.loopBw c.i) (z.n E.loopDamp c.i)) = y) :
    spLoopBw.apply c v = y.set E.loopKi c.i (gainI (y.n E.loopBw c.i) (y.n E.loopDamp c.i)) := by
  subst hz hy
  rw [State.loopBw_set_loopKp, State.loopDamp_set_loopKp]
  rfl

/-! ### A member's settings (R188 to R190) -/

/-- The deviation at 1 s of a member's model is not its class. -/
theorem State.ensClass_set_ensSigmaA (u : State) (j a : Nat) : (u.set E.ensSigmaA j a).n E.ensClass j = u.n E.ensClass j := by
  refine State.n_set_ne _ _ _ _ _ _ ?_
  simp only [dictKey, E.ensSigmaA, E.ensClass]
  omega

section
variable {c : Ctx} {v : State}

/-- A member that is disabled is in no state and has no cause. -/
theorem spEnsEnable_apply_disable (h : c.v = 0) : spEnsEnable.apply c v =
    (((v.set E.ensEnable c.i 0).set E.ensState c.i 0).set E.ensCause c.i 0).ensembleRefresh := by
  simp only [spEnsEnable, h, if_true, State.setMemberState]

/-- A disabled member that is enabled starts in WARMUP. -/
theorem spEnsEnable_apply_start (h : c.v = 1) (hoff : (v.set E.ensEnable c.i 1).n E.ensState c.i = 0) :
    spEnsEnable.apply c v = ((v.set E.ensEnable c.i 1).memberStart c.i).ensembleRefresh := by
  simp only [spEnsEnable, h, hoff, Nat.one_ne_zero, if_true, if_false]
end

/-- A member that starts takes its class's model and is in WARMUP. -/
theorem State.memberStart_eq {u x v w : State} {j : Nat} (hx : u.set E.ensSigmaA j (classA (u.n E.ensClass j)) = x)
    (hv : x.set E.ensSigmaB j (classB (x.n E.ensClass j)) = v) (hw : (v.set E.ensState j 1).set E.ensCause j 0 = w) :
    u.memberStart j =
      w.setMember j { inputSince := w.now, edge := (w.member j).edge, inputBad := (w.member j).inputBad } := by
  subst hx hv hw
  rw [State.ensClass_set_ensSigmaA]
  rfl

/-! ### The commands at their tick -/

section
variable {t : Nat} {s u : State} (hAt : At t s u)
include hAt

section
variable {n : Nat} (hsel : u.n E.hbSelected = n) (hn : n < 32) (hlock : u.flag E.firstLock = true)
include hsel hn hlock

/-- At the whole second of a time type and the whole millisecond of FREQ, the selected slot's loop takes a step over the interval
that has ended, and the next one begins. -/
theorem exec_loopUpdate_due (res : Nat) {freq : Bool} (hfreq : decide (n < 32 ∧ u.n E.refType n = 3) = freq)
    (hdue : (if freq then u.atMilli else u.atSecond) = true) :
    exec (.loopUpdate t res) s =
      .next (((u.yRefHold n).perfEvent 3 0).loopStep n (if freq then 1 else 1000) res).intervalBegins := by
  subst hsel hfreq
  change execLoopUpdate t res s = _
  rw [execLoopUpdate, timed_at hAt]
  refine congrArg _ ((if_pos hdue).trans ?_)
  simp only [hn, if_true, true_and, State.yRefHold_flag, hlock]
  rfl

theorem exec_loopUpdate_time (res : Nat) (htype : u.n E.refType n ≠ 3) (hs : u.atSecond = true) :
    exec (.loopUpdate t res) s = .next (((u.yRefHold n).perfEvent 3 0).loopStep n 1000 res).intervalBegins :=
  exec_loopUpdate_due hAt hsel hn hlock res (freq := false) (decide_eq_false fun h => htype h.2) hs

theorem exec_loopUpdate_freq (res : Nat) (htype : u.n E.refType n = 3) (hm : u.atMilli = true) :
    exec (.loopUpdate t res) s = .next (((u.yRefHold n).perfEvent 3 0).loopStep n 1 res).intervalBegins :=
  exec_loopUpdate_due hAt hsel hn hlock res (freq := true) (decide_eq_true ⟨hn, htype⟩) hm
end

section
variable {v : State} {res : Nat} (hs : u.atSecond = true) (hv : u.ensembleSecond = v)
include hs hv

/-- The ensemble's second is taken or discarded by the residue of y_OSC (R26, R30), compared at the second's own tick (the model's
choice, log 93). -/
theorem exec_ensembleUpdate_checked : exec (.ensembleUpdate t res) s =
    .next (if residue (be 8 (wordOfInt v.yew.yOsc).toNat) = res then v.sendIncr else u.yewResidue) := by
  subst hv
  change execEnsembleUpdate t res s = _
  rw [execEnsembleUpdate, timed_at hAt]
  exact congrArg _ (if_neg (not_not_intro hs))

theorem exec_ensembleUpdate_takes (hres : residue (be 8 (wordOfInt v.yew.yOsc).toNat) = res) :
    exec (.ensembleUpdate t res) s = .next v.sendIncr := by
  rw [exec_ensembleUpdate_checked hAt hs hv, if_pos hres]

theorem exec_ensembleUpdate_discards (hres : residue (be 8 (wordOfInt v.yew.yOsc).toNat) ≠ res) :
    exec (.ensembleUpdate t res) s = .next ((u.bump E.resErr).raise 2 none 0x003) := by
  rw [exec_ensembleUpdate_checked hAt hs hv, if_neg hres, State.yewResidue]
end

/-- A member past PROBATION whose model is 3,600 s old takes the fit of its Allan variances (R188; how they are fitted is the
model's choice, log 53). -/
theorem exec_modelRefit_due {j : Fin 5} {a b d : Nat} (hprob : (u.member j).probated = true)
    (hold : (u.member j).refit + 3600 * 500000000 ≤ u.now) (hfit : Config.allanFit (u.allan j) = (a, b, d)) :
    exec (.modelRefit t j a b d) s = .next ((((u.setMember j { u.member j with d := d, refit := u.now }).set
      E.ensSigmaA j a).set E.ensSigmaB j b).ensembleRefresh) := by
  change execModelRefit t j a b d s = _
  rw [execModelRefit, timed_at hAt]
  exact congrArg _ (if_pos ⟨hprob, hold, hfit⟩)

/-- After 600 s within the limit an ambiguity is over, and the members it held are without its cause (R192). -/
theorem exec_ambiguityClose_quiet (hamb : u.yew.ambiguous = true) (hquiet : u.yew.withinSince + 600 * 500000000 ≤ u.now) :
    exec (.ambiguityClose t) s = .next ((((List.range 5).foldl (fun (x : State) j =>
      if x.n E.ensCause j = 4 then x.set E.ensCause j 0 else x)
        { u with yew := { u.yew with ambiguous := false } }).deassert 18).ensembleRefresh) := by
  change execAmbiguityClose t s = _
  rw [execAmbiguityClose, timed_at hAt]
  exact congrArg _ (if_pos ⟨hamb, hquiet⟩)
end

/-- Settles O16: each clause is its command's row on the state at its tick, a case of the loop's step, or its entry's effect. -/
theorem yewCommands : Obligations.YewCommands := by
  intro t s u hAt
  exact ⟨fun n res hsel hn htype hlock => exec_loopUpdate_time hAt hsel hn hlock res htype,
    fun n res hsel hn htype hlock => exec_loopUpdate_freq hAt hsel hn hlock res htype,
    fun n ms res => State.loopStep_idle, fun n ms l v => State.loopStep_takes, fun n ms l v res => State.loopStep_discards,
    fun l k ms x i => State.loopResult_inTolerance, fun res v hs hv => exec_ensembleUpdate_takes hAt hs hv,
    fun res v hs hv => exec_ensembleUpdate_discards hAt hs hv, fun j a b d => exec_modelRefit_due hAt,
    exec_ambiguityClose_quiet hAt, fun m w j x v ho hx => writeRow_applies hAt ho (spEnsEnable_apply_disable hx),
    fun m w j x v ho hx hoff => writeRow_applies hAt ho (spEnsEnable_apply_start hx hoff),
    fun j v hv => State.memberStart_eq rfl hv rfl, fun m w k x v z ho hz => writeRow_applies hAt ho (spLoopBw_apply hz rfl),
    fun m w k x v ho => writeRow_opens hAt ho⟩

end Sys2Proof.Machine
end

section
/-! The interval counters' commands (R203, R206 to R208, R210, R213): an edge counted, missed or stamped, a bank's wrap, the
converters' swap, waits of a pair unit that end, and a channel's loss at its consumers. -/

namespace Sys2Proof.Machine

/-! ### The consumers of a channel (R187, R217, R220) -/

/-- An ensemble member's channel is no reference of an MDLL. -/
theorem State.mdllsOn_of_memberOf {c k : Nat} (h : memberOf c = some k) (s : State) : s.mdllsOn c = [] := by
  have outside : ¬ (4 ≤ c ∧ c < 12) := by
    rintro ⟨hlo, hhi⟩
    have notRefin : ¬ (12 ≤ c ∧ c < 16) := by omega
    have notOscin : ¬ c = 25 := by omega
    rw [memberOf, if_neg notRefin, if_neg notOscin] at h
    contradiction
  exact List.filter_eq_nil_iff.2 fun m _ hm => outside ((of_decide_eq_true hm).imp_right And.left)

/-- What is done at the outputs in follow mode is nothing where no output is in follow mode. -/
theorem State.foldl_followers_none {v : State} (h : ∀ p < 8, v.n E.ppsMode p ≠ 3) (q : State → Nat → Prop)
    [∀ s p, Decidable (q s p)] (f : State → Nat → State) :
    (List.range 8).foldl (fun s p => if s.n E.ppsMode p = 3 ∧ q s p then f s p else s) v = v := by
  refine List.foldlRecOn (motive := (· = v)) _ _ rfl ?_
  rintro _ rfl p hp
  exact if_neg fun hfollow => h p (List.mem_range.1 hp) hfollow.1

/-! ### A pair unit's statistics (R213) -/

/-- Cleared statistics stand in the unit and in its entry, and no result that waits for its check enters them any more. -/
theorem spPairClear_apply {c : Ctx} {v y : State} {z : PairUnit}
    (hz : z = { v.pairUnit c.i with count := 0, sum := 0, squares := 0, low := 0, high := 0 })
    (hy : y = { v with counters := { v.counters with results := v.counters.results.map (fun (r : TicResult) =>
      if r.kind = 3 ∧ r.source = c.i then { r with raw := false } else r) } }) :
    spPairClear.apply c v = (y.setPairUnit c.i z).setOct E.pairStats c.i (pairBytes z) := by
  subst hz hy
  rfl

/-! ### The commands at their tick -/

section
variable {t : Nat} {s u : State} (hAt : At t s u)
include hAt

/-- A disabled channel counts nothing. -/
theorem exec_channelEdge_disabled {x : EdgeObs} (hoff : u.flag E.chEnable x.ch = false) : exec (.channelEdge t x) s = .next u := by
  change execChannelEdge t x s = _
  rw [execChannelEdge, timed_at hAt]
  exact congrArg _ (if_pos (.inl (Bool.eq_false_iff.1 hoff)))

section
variable {x : EdgeObs} {v : State} (hon : u.flag E.chEnable x.ch = true) (hfit : u.chanFitted x.ch = true)
  (hpol : u.n E.chEdge x.ch = 0) (hrise : x.falling = false)
  (hv : (u.set E.chEdges x.ch ((u.n E.chEdges x.ch + 1) % 2 ^ 64)).setChan x.ch { u.chan x.ch with
    phase := ((u.chan x.ch).phase + 1) % u.prescale x.ch, lastEdge := u.now } = v)
include hon hfit hpol hrise hv

/-- A rising edge of a channel that takes them is counted; each P-th one is stamped (R210) unless the dead time of the stamp before
it lasts (R207). -/
theorem exec_channelEdge_taken : exec (.channelEdge t x) s = .next
    (if (u.chan x.ch).phase % u.prescale x.ch ≠ 0 then v
      else if (u.chan x.ch).last.any (fun a => decide (v.eventFs x < a.event + 64000000)) then
        ((v.bump E.chDeadtimeMissed x.ch).perfEvent 0x102 x.ch).setChan x.ch { v.chan x.ch with dead := true }
      else v.stampEdge x) := by
  subst hv
  change execChannelEdge t x s = _
  rw [execChannelEdge, timed_at hAt]
  refine congrArg _ ((if_neg (by simp [hon, hfit, hpol, hrise])).trans ?_)
  cases hlast : (u.chan x.ch).last <;> simp [hlast]

theorem exec_channelEdge_counted (hphase : (u.chan x.ch).phase % u.prescale x.ch ≠ 0) : exec (.channelEdge t x) s = .next v := by
  rw [exec_channelEdge_taken hAt hon hfit hpol hrise hv, if_pos hphase]

section
variable (hphase : (u.chan x.ch).phase % u.prescale x.ch = 0)
include hphase

theorem exec_channelEdge_first (hlast : (u.chan x.ch).last = none) : exec (.channelEdge t x) s = .next (v.stampEdge x) := by
  rw [exec_channelEdge_taken hAt hon hfit hpol hrise hv, if_neg (not_not_intro hphase), hlast]
  rfl

section
variable {a : Edge} (hlast : (u.chan x.ch).last = some a)
include hlast

theorem exec_channelEdge_stamped (hpast : a.event + 64000000 ≤ v.eventFs x) :
    exec (.channelEdge t x) s = .next (v.stampEdge x) := by
  rw [exec_channelEdge_taken hAt hon hfit hpol hrise hv, if_neg (not_not_intro hphase), hlast, Option.any_some,
    if_neg (by simpa using hpast)]

theorem exec_channelEdge_missed (hdead : v.eventFs x < a.event + 64000000) : exec (.channelEdge t x) s =
    .next (((v.bump E.chDeadtimeMissed x.ch).perfEvent 0x102 x.ch).setChan x.ch { v.chan x.ch with dead := true }) := by
  rw [exec_channelEdge_taken hAt hon hfit hpol hrise hv, if_neg (not_not_intro hphase), hlast, Option.any_some,
    if_pos (decide_eq_true hdead)]
end
end
end

/-- A bank whose counter has run through wraps (R206); bank 0's wraps are `TIC_WRAPS`. -/
theorem exec_counterWrap_due {b : Fin 4} {v : State} (hdue : wrapTicks ≤ (u.bank b).at_ u.now)
    (hv : u.setBank b { u.bank b with
      value := (u.bank b).at_ u.now - wrapTicks, tick := u.now, wraps := ((u.bank b).wraps + 1) % 65536 } = v) :
    exec (.counterWrap t b) s = .next (if b = 0 then v.set E.ticWraps 0 (((u.bank b).wraps + 1) % 65536) else v) := by
  subst hv
  change execCounterWrap t b s = _
  rw [execCounterWrap, timed_at hAt]
  exact congrArg _ (if_pos hdue)

theorem exec_converterCal (c : Fin 26) (b : Bool) (q h : Nat) :
    exec (.converterCal t c b q h) s = .next (u.calibrated c b q h) := by
  change execConverterCal t c b q h s = _
  rw [execConverterCal, timed_at hAt]

/-- At each 1,024th strobe edge from the load the converter that was calibrating goes live, where it is not excluded (R208). -/
theorem exec_converterSwap_due {c : Fin 26} {n : Nat} (hload : u.counters.loadStrobe = some n) (hlater : n < u.islands.strobes)
    (heach : (u.islands.strobes - n) % 1024 = 0) (hgood : u.chBit c (if u.chBit c 2 then 3 else 4) = false) :
    exec (.converterSwap t c) s = .next ((u.setChBit c 2 (!(u.chBit c 2))).staleRefresh c) := by
  change execConverterSwap t c s = _
  rw [execConverterSwap, timed_at hAt]
  simp only [hload]
  exact congrArg _ (if_pos ⟨hlater, heach, Bool.eq_false_iff.1 hgood⟩)

theorem exec_calStale (c : Fin 26) : exec (.calStale t c) s = .next (u.staleRefresh c) := by
  change execCalStale t c s = _
  rw [execCalStale, timed_at hAt]

section
variable {j : Fin 16} {w : Edge}
  (hover : u.resolves [0x100 + bankOf (u.n E.pairB j)] (w.tick + u.n E.pairTimeout j * 500000) = true)
include hover

/-- A unit's one wait whose deadline has resolved ends: with the stop edge it has, or as missing (R213). -/
theorem exec_pairTimeout_over {b : Option Edge} (hwait : (u.pairUnit j).waits = [(w, b)]) : exec (.pairTimeout t j) s =
    .next (b.elim ((u.setPairUnit j { u.pairUnit j with waits := [] }).bump E.pairMissing j)
      ((u.setPairUnit j { u.pairUnit j with waits := [] }).pairResult j w)) := by
  have ended : u.resolves [0x100 + bankOf (u.n E.pairB j)] (u.pairDeadline j w) = true := hover
  have parts : [(w, b)].partition (fun w => u.resolves [0x100 + bankOf (u.n E.pairB j)] (u.pairDeadline j w.1)) =
      ([(w, b)], []) := by simp [ended]
  change execPairTimeout t j s = _
  rw [execPairTimeout, timed_at hAt]
  simp only [hwait, parts, List.foldl_cons, List.foldl_nil]
  cases b with
  | none => rw [Option.elim_none]
  | some b => rw [Option.elim_some]

theorem exec_pairTimeout_missing (hwait : (u.pairUnit j).waits = [(w, none)]) :
    exec (.pairTimeout t j) s = .next ((u.setPairUnit j { u.pairUnit j with waits := [] }).bump E.pairMissing j) := by
  rw [exec_pairTimeout_over hAt hover hwait, Option.elim_none]

theorem exec_pairTimeout_found {b : Edge} (hwait : (u.pairUnit j).waits = [(w, some b)]) :
    exec (.pairTimeout t j) s = .next ((u.setPairUnit j { u.pairUnit j with waits := [] }).pairResult j w b) := by
  rw [exec_pairTimeout_over hAt hover hwait, Option.elim_some]
end

section
variable {c : Fin 26} {v : State}

/-- The loss of a channel that is no member's fails the MDLLs whose reference it is (R224). -/
theorem exec_channelActivityLoss_mdlls (hmember : memberOf c = none) (hv : (u.mdllsOn c).foldl (fun (x : State) k =>
      if u.resolves [0x100 + bankOf c] ((u.chan c).lastEdge + ceilDiv (2 * ticksS 1) (max 1 (x.mdll k).refHz)) then x.mdllRefFail k
      else x) u = v)
    (hfollow : ∀ p < 8, v.n E.ppsMode p ≠ 3) : exec (.channelActivityLoss t c) s = .next v := by
  subst hv
  change execChannelActivityLoss t c s = _
  rw [execChannelActivityLoss, timed_at hAt]
  simp only [hmember]
  exact congrArg _ (State.foldl_followers_none hfollow _ _)

/-- The loss of a member's channel fails the member's input (R190). -/
theorem exec_channelActivityLoss_member {k : Nat} (hmember : memberOf c = some k)
    (hfollow : ∀ p < 8, (u.memberInputBad k).n E.ppsMode p ≠ 3)
    (hlost : u.resolves [0x100 + bankOf c] ((u.chan c).lastEdge + max 1024 (ceilDiv (2 * ticksS 1)
      (max 1 (if k = 0 then u.chNominal c else u.n E.ensNominal k)))) = true) :
    exec (.channelActivityLoss t c) s = .next (u.memberInputBad k) := by
  change execChannelActivityLoss t c s = _
  rw [execChannelActivityLoss, timed_at hAt]
  simp only [hmember, hlost, if_true, State.mdllsOn_of_memberOf hmember, List.foldl_nil]
  exact congrArg _ (State.foldl_followers_none hfollow _ _)
end
end

/-- Settles O17: each clause is its command's row on the state at its tick. -/
theorem counterCommands : Obligations.CounterCommands := by
  intro t s u hAt
  exact ⟨fun x v hon hfit hpol hrise hv => ⟨exec_channelEdge_counted hAt hon hfit hpol hrise hv,
      exec_channelEdge_first hAt hon hfit hpol hrise hv,
      fun a hphase => exec_channelEdge_stamped hAt hon hfit hpol hrise hv hphase,
      fun a hphase => exec_channelEdge_missed hAt hon hfit hpol hrise hv hphase⟩,
    fun x => exec_channelEdge_disabled hAt,
    fun b hdue hb => (exec_counterWrap_due hAt hdue rfl).trans (congrArg _ (if_neg hb)),
    fun hdue => exec_counterWrap_due hAt (b := 0) hdue rfl, exec_converterCal hAt, fun c n => exec_converterSwap_due hAt,
    exec_calStale hAt, fun j w hwait hover => exec_pairTimeout_missing hAt hover hwait,
    fun j w b hwait hover => exec_pairTimeout_found hAt hover hwait,
    fun m w j v y z ho hz hy => writeRow_applies hAt ho (spPairClear_apply hz hy),
    fun c v => exec_channelActivityLoss_mdlls hAt, fun c k => exec_channelActivityLoss_member hAt⟩

end Sys2Proof.Machine
end

section
/-! Synthesis' writes (R220, R222, R229, R230, R232): the branches of an MDLL's enabling, and a ratio that is applied. -/

namespace Sys2Proof.Machine

section
variable {c : Ctx} {v z : State}

/-- An MDLL that is off starts with the reference written. -/
theorem spMdllEnable_apply_start (h : c.v = 1) (hz : v.set E.mdllEnable c.i 1 = z) (hoff : z.n E.mdllState c.i = 0) :
    spMdllEnable.apply c v = (z.takeReference c.i).acquire c.i := by
  subst hz
  simp only [spMdllEnable, h, hoff, Nat.one_ne_zero, if_true, if_false]

/-- An MDLL that is off stays off. -/
theorem spMdllEnable_apply_off (h : c.v = 0) (hz : v.set E.mdllEnable c.i 0 = z) (hoff : z.n E.mdllState c.i = 0) :
    spMdllEnable.apply c v = z := by
  subst hz
  simp only [spMdllEnable, h, hoff, if_true]

/-- An MDLL that runs stops once every output it feeds is on bypass. -/
theorem spMdllEnable_apply_stop (h : c.v = 0) (hz : v.set E.mdllEnable c.i 0 = z) (hon : z.n E.mdllState c.i ≠ 0) :
    spMdllEnable.apply c v = (((z.fed c.i).foldl State.toBypass (z.setMdll c.i
      { z.mdll c.i with stopping := true })).mdllSettle c.i).lockEvents := by
  subst hz
  simp only [spMdllEnable, h, hon, if_true, if_false]

/-- F applies the ratio with the N that was staged, once every output the MDLL feeds is on bypass. -/
theorem spMdllMultF_apply {y : State} (hz : v.set E.mdllMultF c.i c.v = z)
    (hy : z.setMdll c.i { z.mdll c.i with retune := some (z.n E.mdllMultN c.i, c.v) } = y) :
    spMdllMultF.apply c v = (((y.fed c.i).foldl State.toBypass y).mdllSettle c.i).lockEvents := by
  subst hz hy
  rfl

/-- A realignment takes every grid output, then the lanes. -/
theorem spSynRealign_apply : spSynRealign.apply c v = v.clksRealign.lanesRealign := by
  rw [spSynRealign]
end

/-- Settles O18: each write that is let through has its entry's effect. -/
theorem synthesisWrites : Obligations.SynthesisWrites := by
  intro t s u hAt m w
  exact ⟨fun j x v z ho hx hz hoff => writeRow_applies hAt ho (spMdllEnable_apply_start hx hz hoff),
    fun j x v z ho hx hz hoff => writeRow_applies hAt ho (spMdllEnable_apply_off hx hz hoff),
    fun j x v z ho hx hz hon => writeRow_applies hAt ho (spMdllEnable_apply_stop hx hz hon),
    fun j x v ho => writeRow_opens hAt ho, fun j x v z ho hz => writeRow_applies hAt ho (spMdllMultF_apply hz rfl),
    fun k x v ho => writeRow_opens hAt ho, fun v ho => writeRow_applies hAt ho spSynRealign_apply⟩

end Sys2Proof.Machine
end

section
/-! Synthesis' events (R223, R224, R227 to R234, R240, R243): a count window by its error, an output's armed switch, a pulse's
edges, and the lanes. -/

namespace Sys2Proof.Machine

/-! ### What setting a pulse leaves -/

@[simp] theorem State.setPulse_n (s : State) (p : Nat) (x : Pulse) (e : Entry) (i : Nat) : (s.setPulse p x).n e i = s.n e i := rfl
@[simp] theorem State.setPulse_holly (s : State) (p : Nat) (x : Pulse) : (s.setPulse p x).holly = s.holly := rfl

/-! ### The count a window expects (R224) -/

/-- Where the DTC has moved the edge by no VCO period, a window's count is 2¹⁶ times the ratio, rounded. -/
theorem State.expectCount_zero {u : State} {m n f : Nat} (h : u.ratio m = (n, f)) :
    u.expectCount m 0 = roundDiv ((n * 2 ^ 32 + f : Nat) : Int) (2 ^ 16) := by
  simp only [State.expectCount, h, Int.add_zero]

section
variable {t : Nat} {s u : State} (hAt : At t s u)
include hAt

/-! ### Count windows (R223, R224) -/

/-- An MDLL without a reference or off counts no window. -/
theorem exec_mdllWindow_idle {j : Fin 4} (count lead edge : Nat) (h : u.n E.mdllState j = 0 ∨ u.n E.mdllState j = 4) :
    exec (.mdllWindow t j count ⟨lead, edge⟩) s = .next u := by
  change execMdllWindow t j count ⟨lead, edge⟩ s = _
  rw [execMdllWindow, timed_at hAt]
  exact congrArg _ (if_pos h)

section
variable {j : Fin 4} {count lead edge : Nat} {err : Int} {x : Mdll} {v : State} (hon : u.n E.mdllState j ≠ 0)
  (href : u.n E.mdllState j ≠ 4) (hx : u.dtcWindow j lead edge = x)
  (herr : (count : Int) - u.expectCount j (x.wraps - (u.mdll j).wraps) = err)
  (hv : u.setInt E.mdllCountErr j (max (-2 ^ 31) (min err (2 ^ 31 - 1))) = v)
include hon href hx herr hv

/-- A window of a running MDLL: a good one within ±1 adds to the row, which any other ends; lock is found while ACQUIRING, and lost
afterwards. -/
theorem exec_mdllWindow_counted {good : Nat} (hgood : (if err.natAbs ≤ 1 then x.good + 1 else 0) = good) :
    exec (.mdllWindow t j count ⟨lead, edge⟩) s = .next
      (if u.n E.mdllState j = 1 then
        if 3 ≤ good ∧ x.retune.isNone ∧ ¬ x.stopping then (v.setMdll j { x with good := good }).set E.mdllState j 2
        else v.setMdll j { x with good := good }
      else if 4 < err.natAbs then
        (((v.setMdll j { x with good := good }).bump E.mdllLockLosses j).acquire j).lockEvents
      else v.setMdll j { x with good := good }) := by
  subst hx herr hv hgood
  change execMdllWindow t j count ⟨lead, edge⟩ s = _
  rw [execMdllWindow, timed_at hAt]
  exact congrArg _ (if_neg (not_or.2 ⟨hon, href⟩))

section
variable (hacq : u.n E.mdllState j = 1)
include hacq

/-- The third good window in a row locks. -/
theorem exec_mdllWindow_locks (hnear : err.natAbs ≤ 1) (hrow : 2 ≤ x.good) (hratio : x.retune = none)
    (hruns : x.stopping = false) : exec (.mdllWindow t j count ⟨lead, edge⟩) s =
      .next ((v.setMdll j { x with good := x.good + 1 }).set E.mdllState j 2) := by
  rw [exec_mdllWindow_counted hAt hon href hx herr hv (if_pos hnear), if_pos hacq,
    if_pos ⟨Nat.succ_le_succ hrow, Option.isNone_iff_eq_none.2 hratio, Bool.eq_false_iff.1 hruns⟩]

/-- Fewer do not. -/
theorem exec_mdllWindow_acquiring (hnear : err.natAbs ≤ 1) (hrow : x.good < 2) :
    exec (.mdllWindow t j count ⟨lead, edge⟩) s = .next (v.setMdll j { x with good := x.good + 1 }) := by
  rw [exec_mdllWindow_counted hAt hon href hx herr hv (if_pos hnear), if_pos hacq, if_neg (fun h => by omega)]

/-- A window outside ±1 starts the row again. -/
theorem exec_mdllWindow_restarts (hfar : 1 < err.natAbs) :
    exec (.mdllWindow t j count ⟨lead, edge⟩) s = .next (v.setMdll j { x with good := 0 }) := by
  rw [exec_mdllWindow_counted hAt hon href hx herr hv (if_neg (Nat.not_le.2 hfar)), if_pos hacq, if_neg (fun h => by omega)]
end

section
variable (hlocked : u.n E.mdllState j ≠ 1)
include hlocked

theorem exec_mdllWindow_holds (hnear : err.natAbs ≤ 1) :
    exec (.mdllWindow t j count ⟨lead, edge⟩) s = .next (v.setMdll j { x with good := x.good + 1 }) := by
  rw [exec_mdllWindow_counted hAt hon href hx herr hv (if_pos hnear), if_neg hlocked, if_neg (by omega)]

/-- A window outside ±4 loses lock. -/
theorem exec_mdllWindow_loses (hfar : 4 < err.natAbs) : exec (.mdllWindow t j count ⟨lead, edge⟩) s =
    .next ((((v.setMdll j { x with good := 0 }).bump E.mdllLockLosses j).acquire j).lockEvents) := by
  rw [exec_mdllWindow_counted hAt hon href hx herr hv (if_neg (by omega)), if_neg hlocked, if_pos hfar]
end
end

/-! ### Alignment and the return of a reference (R223, R226, R243) -/

/-- An aligned MDLL is LOCKED, the outputs it feeds may return, and the lanes realign where it is theirs. -/
theorem exec_mdllAligned_locks {j : Fin 4} {e : Int} {v z : State} (hfine : u.n E.mdllState j = 2)
    (hv : (u.set E.mdllState j 3).setInt E.mdllPhaseErr j (max (-2 ^ 31) (min e (2 ^ 31 - 1))) = v)
    (hz : (v.fed j).foldl (fun (x : State) k => if x.mayRun k then x.toMdll k else x) v = z) :
    exec (.mdllAligned t j e) s = .next (if z.n E.tlMdll = j then z.lanesRealign else z) := by
  subst hv hz
  change execMdllAligned t j e s = _
  rw [execMdllAligned, timed_at hAt]
  exact congrArg _ (if_pos hfine)

theorem exec_mdllReturnHold_over {j : Fin 4} (hlost : u.n E.mdllState j = 4) (hgood : (u.mdll j).refBad = false)
    (hheld : (u.mdll j).refOkSince + u.n E.mdllReturnHold j * 500000 ≤ u.now) :
    exec (.mdllReturnHold t j) s = .next (u.acquire j) := by
  change execMdllReturnHold t j s = _
  rw [execMdllReturnHold, timed_at hAt]
  exact congrArg _ (if_pos ⟨hlost, Bool.eq_false_iff.1 hgood, hheld⟩)

/-! ### The clock outputs (R227 to R232) -/

theorem exec_bypassSwitch_none {k : Fin 16} (harmed : (u.clkout k).armed = none) : exec (.bypassSwitch t k) s = .next u := by
  change execBypassSwitch t k s = _
  rw [execBypassSwitch, timed_at hAt]
  simp only [harmed, Option.isSome_none, Bool.false_eq_true, if_false]

section
variable {k : Fin 16} {x : Clkout} {v : State} (hx : u.clkout k = x) (hv : u.perfEvent 0x203 k = v)
include hx hv

/-- An output that returns runs on its MDLL; the divider of the former ratio, kept until then, is of no more use (the model's
choice, log 111). -/
theorem exec_bypassSwitch_returns {y : State} (harmed : x.armed = some true) (hy : ((v.setClkout k { x with
      onMdll := true, armed := none, former := 0 }).bump E.synBypassSwitches).clkRefresh k = y) : exec (.bypassSwitch t k) s =
    .next (y.set E.clkoutStatus k (ofBool (y.onGrid k) * (2 + ofBool (decide (x.shift = 0))))) := by
  subst hx hv hy
  change execBypassSwitch t k s = _
  rw [execBypassSwitch, timed_at hAt]
  simp only [harmed, Option.isSome_some, if_true]

/-- An output on bypass takes what waited for it, as does its MDLL, and asks for its return where it may run. -/
theorem exec_bypassSwitch_leaves {z : State} (harmed : x.armed = some false)
    (hz : ((((v.setClkout k { x with onMdll := false, armed := none }).bump E.synBypassSwitches).clkTake k).mdllSettle
      x.src).lockEvents = z) :
    exec (.bypassSwitch t k) s = .next (if z.mayRun k then z.toMdll k else z) := by
  subst hx hv hz
  change execBypassSwitch t k s = _
  rw [execBypassSwitch, timed_at hAt]
  simp only [harmed, Option.isSome_some, if_true]
end

/-- At a whole second an output on its MDLL reports its edge, unbounded while its island's copy is UNSYNC. -/
theorem exec_clkoutEdgeReport_mdll {k : Fin 16} {edge : Nat} {a : T96} {b : Bound} (hs : u.atSecond = true)
    (hmdll : u.n E.clkoutState k = 4)
    (ha : (if u.onGrid k then u.clkEdge k (u.tai / ofSec 1 * ofSec 1) else u.stampAt (0x200 + (u.clkout k).src) edge) = a)
    (hb : (if u.unsync (0x200 + (u.clkout k).src) then 0xFFFFFFFF else u.emitted 25) = b) :
    exec (.clkoutEdgeReport t k edge) s = .next ((((u.setT96 E.clkoutEdgeTime k a).set E.clkoutEdgeBound k b).noteOut b).emit
      (.clock k a b)) := by
  subst ha hb
  change execClkoutEdgeReport t k edge s = _
  rw [execClkoutEdgeReport, timed_at hAt]
  exact congrArg _ (if_pos ⟨hs, hmdll⟩)

/-! ### Pulse edges (R233, R234) -/

/-- With no pulse in progress the programmed edge that falls in the tick leads a new one. -/
theorem exec_ppsEdge_leads {p : Fin 8} {x : Nat} (htrail : (u.pulse p).trail = none) (hmode : u.n E.ppsMode p = 1)
    (hgrid : u.ppsGrid p = some x) : exec (.ppsEdge t p) s = .next (u.ppsLead p x (u.n E.ppsWidth p)).pulseFault := by
  change execPpsEdge t p s = _
  rw [execPpsEdge, timed_at hAt]
  simp only [htrail, hmode, hgrid]

/-- The trailing edge that falls in the tick ends its pulse; outside PROGRAMMED and follow mode no edge follows it. -/
theorem exec_ppsEdge_trails {p : Fin 8} {x : Nat} {v : State} (htrail : (u.pulse p).trail = some x) (htick : u.inTick p x = true)
    (hdrives : u.n E.ppsState p ≠ 0) (hsafe : u.holly.safe = false)
    (hv : (u.setPulse p { u.pulse p with trail := none }).ppsPlace p x false = v)
    (hprogrammed : v.n E.ppsMode p ≠ 1) (hfollow : v.n E.ppsMode p ≠ 3) :
    exec (.ppsEdge t p) s = .next v.pulseFault := by
  subst hv
  change execPpsEdge t p s = _
  rw [execPpsEdge, timed_at hAt]
  -- `hprogrammed` and `hfollow` leave the last branch of the mode.
  simp only [htrail, htick, hsafe, hdrives, State.setPulse_n, State.setPulse_holly, Bool.false_eq_true, or_self, if_true,
    if_false]

/-! ### The Time Lanes (R240, R243) -/

theorem exec_tlFrame : exec (.tlFrame t) s =
    .next ((List.range 8).foldl State.laneSend (u.set E.tlGroupSeq 0 ((u.n E.tlGroupSeq + 1) % 65536))) := by
  change execTlFrame t s = _
  rw [execTlFrame, timed_at hAt]

section
variable {l : Fin 8}

/-- A lane that has run empty realigns alone. -/
theorem exec_tlUnderrun_enabled (hon : u.flag E.tlEnable l = true) :
    exec (.tlUnderrun t l) s = .next (((u.bump E.tlUnderruns l).laneRealign l).laneRefresh l) := by
  change execTlUnderrun t l s = _
  rw [execTlUnderrun, timed_at hAt]
  exact congrArg _ (if_pos hon)

/-- A lane whose clock is lost leaves a realignment in progress. -/
theorem exec_tlClockLoss_enabled (hon : u.flag E.tlEnable l = true) : exec (.tlClockLoss t l) s =
    .next (((u.bump E.tlClockLosses l).setLane l
      { u.lane l with unlocked := true, realigning := false }).laneRefresh l) := by
  change execTlClockLoss t l s = _
  rw [execTlClockLoss, timed_at hAt]
  exact congrArg _ (if_pos hon)

theorem exec_tlClockReturn_unlocked (hlost : (u.lane l).unlocked = true) : exec (.tlClockReturn t l) s =
    .next (((u.setLane l { u.lane l with unlocked := false }).laneRealign l).laneRefresh l) := by
  change execTlClockReturn t l s = _
  rw [execTlClockReturn, timed_at hAt]
  exact congrArg _ (if_pos hlost)

/-- A realignment is over with its 64th frame. -/
theorem exec_tlRealignEnd_sent (hrealign : (u.lane l).realigning = true) (hsent : 64 ≤ (u.lane l).sent) :
    exec (.tlRealignEnd t l) s = .next ((u.setLane l { u.lane l with realigning := false }).laneRefresh l) := by
  change execTlRealignEnd t l s = _
  rw [execTlRealignEnd, timed_at hAt]
  exact congrArg _ (if_pos ⟨hrealign, hsent⟩)
end
end

/-- Settles O19: each clause is its event's row on the state at its tick. -/
theorem synthesisEvents : Obligations.SynthesisEvents := by
  intro t s u hAt
  exact ⟨fun j count lead edge err x v hon href hx herr hv => ⟨exec_mdllWindow_locks hAt hon href hx herr hv,
      exec_mdllWindow_acquiring hAt hon href hx herr hv, exec_mdllWindow_restarts hAt hon href hx herr hv,
      exec_mdllWindow_holds hAt hon href hx herr hv, exec_mdllWindow_loses hAt hon href hx herr hv⟩,
    fun j => exec_mdllWindow_idle hAt, fun j _ n f => State.expectCount_zero,
    fun j e v z hfine hv hz hother => (exec_mdllAligned_locks hAt hfine hv hz).trans (congrArg _ (if_neg hother)),
    fun j e v z hfine hv hz hlanes => (exec_mdllAligned_locks hAt hfine hv hz).trans (congrArg _ (if_pos hlanes)),
    fun j => exec_mdllReturnHold_over hAt, fun k x v hx harmed hv => exec_bypassSwitch_returns hAt hx hv harmed rfl,
    fun k x v z hx harmed hv => exec_bypassSwitch_leaves hAt hx hv harmed, fun k => exec_bypassSwitch_none hAt,
    fun k edge a b => exec_clkoutEdgeReport_mdll hAt, fun p x => exec_ppsEdge_leads hAt,
    fun p x v htrail htick hdrives hsafe hv hoff => exec_ppsEdge_trails hAt htrail htick hdrives hsafe hv (by simp [hoff])
      (by simp [hoff]),
    exec_tlFrame hAt, fun l => exec_tlUnderrun_enabled hAt, fun l => exec_tlClockLoss_enabled hAt,
    fun l => exec_tlClockReturn_unlocked hAt, fun l => exec_tlRealignEnd_sent hAt⟩

end Sys2Proof.Machine
end

section
/-! The ports' links and receivers (R247, R249, R250, R253, R254, R260, R262): a link's events, a received frame, and a pause that
is sent again, ended, received or run out. -/

namespace Sys2Proof.Machine

/-- A mode's write takes the port down, then sets the mode. -/
theorem spPortMode_apply (c : Ctx) (v : State) :
    spPortMode.apply c v = ((v.portDown c.i).set E.portMode c.i c.v).inlineRefresh := by
  rw [spPortMode]

section
variable {t : Nat} {s u : State} (hAt : At t s u)
include hAt

/-! ### Links (R249, R250, R260, R266) -/

section
variable {p : Fin 18}

section
variable (hdown : u.linkIsUp p = false) (hclear : u.tap.squelched.contains p.val = false)
include hdown hclear

/-- A port that is enabled, down and not squelched answers its partner: refused where an SGMII partner has another speed, else the
link is up and calibrates (R249, R266). -/
theorem exec_linkUp_answers {partnerOk : Bool} (hmode : u.n E.portMode p ≠ 0) :
    exec (.linkUp t p partnerOk) s = .next (if 16 ≤ p.val ∧ u.n E.portMode p = 1 ∧ ¬ partnerOk then u.bump E.portLinkRefused p
      else ((u.setPort p { u.port p with calFrom := u.now }).set E.portLink p 1).set E.portCalState p 1) := by
  have acts : ¬ (u.n E.portMode p = 0 ∨ u.linkIsUp p ∨ u.tap.squelched.contains p.val) := by
    rw [hdown, hclear]
    simp [hmode]
  change execLinkUp t p partnerOk s = _
  rw [execLinkUp, timed_at hAt]
  exact congrArg _ (if_neg acts)

/-- A service port takes a partner of any speed: its link calibrates. -/
theorem exec_linkUp_calibrates {partnerOk : Bool} (hmode : u.n E.portMode p ≠ 0) (hservice : p.val < 16) :
    exec (.linkUp t p partnerOk) s = .next (((u.setPort p { u.port p with calFrom := u.now }).set E.portLink p 1).set
      E.portCalState p 1) := by
  rw [exec_linkUp_answers hAt hdown hclear hmode, if_neg fun h => Nat.not_le.2 hservice h.1]

/-- A management port in SGMII mode refuses a partner of another speed. -/
theorem exec_linkUp_refused (hsgmii : u.n E.portMode p = 1) (hmgmt : 16 ≤ p.val) :
    exec (.linkUp t p false) s = .next (u.bump E.portLinkRefused p) := by
  rw [exec_linkUp_answers hAt hdown hclear (by omega), if_pos ⟨hmgmt, hsgmii, Bool.false_ne_true⟩]
end

section
variable (hup : u.linkIsUp p = true)
include hup

/-- A link that goes down takes its held launches that are still to come with it. -/
theorem exec_linkDown_up {v : State} (hv : ((u.port p).held.filter (fun h => decide (u.portCopy p < h.l))).foldl
      (fun (x : State) h => x.launchMiss p h) u = v) :
    exec (.linkDown t p) s = .next (((v.set E.portLink p 0).set E.portCalState p 0).ptpPortDown p) := by
  subst hv
  change execLinkDown t p s = _
  rw [execLinkDown, timed_at hAt]
  exact congrArg _ (if_pos hup)

theorem exec_portCalDone_calibrating (hcal : u.n E.portCalState p = 1) :
    exec (.portCalDone t p) s = .next (u.set E.portCalState p 2) := by
  change execPortCalDone t p s = _
  rw [execPortCalDone, timed_at hAt]
  exact congrArg _ (if_pos ⟨hup, hcal⟩)
end
end

/-! ### Receiving (R253, R254) -/

section
variable {p : Fin 18} {x : RxObs} (hx : x.port = p) (hup : u.linkIsUp p = true) (hrole : u.n E.portRole p = 0)
include hx hup hrole

/-- A frame at a service port whose link is up is counted by its reason to be dropped, or taken where it has none. -/
theorem exec_portRxFrame_service : exec (.portRxFrame t x) s = .next (match (u.perfEvent 0x301 p).rxDrop x with
    | some e => (u.perfEvent 0x301 p).bump e p
    | none => (u.perfEvent 0x301 p).rxTake x) := by
  subst hx
  change execPortRxFrame t x s = _
  rw [execPortRxFrame, timed_at hAt]
  exact congrArg _ (if_neg (not_or.2 ⟨not_not_intro hup, not_not_intro hrole⟩))

theorem exec_portRxFrame_taken (hgood : (u.perfEvent 0x301 p).rxDrop x = none) :
    exec (.portRxFrame t x) s = .next ((u.perfEvent 0x301 p).rxTake x) := by
  rw [exec_portRxFrame_service hAt hx hup hrole, hgood]

theorem exec_portRxFrame_dropped {e : Entry} (hbad : (u.perfEvent 0x301 p).rxDrop x = some e) :
    exec (.portRxFrame t x) s = .next ((u.perfEvent 0x301 p).bump e p) := by
  rw [exec_portRxFrame_service hAt hx hup hrole, hbad]
end

/-! ### Pauses that are sent (R262) -/

section
variable {p : Fin 18} {prio : Fin 8}

section
variable (hfc : u.n E.portFcMode p ≠ 0) (hrole : u.n E.portRole p = 0) (hxoff : u.xoff p prio = true)
include hfc hrole hxoff

/-- Half the pause time after an XOFF it is sent again while the occupancy is not below the XON level. -/
theorem exec_pauseResend_due
    (hhalf : tabGet 0 prio.val (u.port p).xoffAt + u.bitTicks p (u.n E.portPauseQuanta p * 256) ≤ u.now)
    (hfull : u.rxShare p * u.n E.portXonPct p ≤ u.occOf p prio * 100) :
    exec (.pauseResend t p prio) s = .next (u.sendXoff p prio) := by
  change execPauseResend t p prio s = _
  rw [execPauseResend, timed_at hAt]
  exact congrArg _ (if_pos ⟨hfc, hrole, hxoff, hhalf, hfull⟩)

/-- The occupancy has fallen to the XON level: a pause of no time ends the one in force. -/
theorem exec_pauseXon_due (hlow : u.occOf p prio * 100 ≤ u.rxShare p * u.n E.portXonPct p) :
    exec (.pauseXon t p prio) s = .next ((u.sendPause p prio 0).setXoff p prio false) := by
  change execPauseXon t p prio s = _
  rw [execPauseXon, timed_at hAt]
  exact congrArg _ (if_pos ⟨hfc, hrole, hxoff, hlow⟩)
end

/-! ### Pauses that are received (R262, R267) -/

section
variable {v : State} (hup : u.linkIsUp p = true) (hrole : u.n E.portRole p = 0) (hv : u.bump E.portPauseRcvd p = v)
include hup hrole hv

/-- A port that does not honour pauses only counts them. -/
theorem exec_pauseReceived_ignored {q : Nat} (hoff : v.flag E.portPauseRx p = false) :
    exec (.pauseReceived t p prio q) s = .next v := by
  subst hv
  change execPauseReceived t p prio q s = _
  rw [execPauseReceived, timed_at hAt]
  refine congrArg _ ((if_neg (not_or.2 ⟨not_not_intro hup, not_not_intro hrole⟩)).trans (if_pos ?_))
  exact Bool.eq_false_iff.1 hoff

/-- A pause of no time that is honoured ends the one in force, of its priority under PFC, and misses no launch. -/
theorem exec_pauseReceived_ends {k : Nat} (hon : v.flag E.portPauseRx p = true)
    (hk : (if v.n E.portFcMode p = 2 then prio.val else 8) = k) :
    exec (.pauseReceived t p prio 0) s = .next (v.setPort p { v.port p with
      pausedUntil := tabErase k (v.port p).pausedUntil }) := by
  subst hv hk
  change execPauseReceived t p prio 0 s = _
  rw [execPauseReceived, timed_at hAt]
  refine congrArg _ ((if_neg (not_or.2 ⟨not_not_intro hup, not_not_intro hrole⟩)).trans
    ((if_neg (not_not_intro hon)).trans ?_))
  -- No launch is hit by a pause of 0 quanta.
  simp only [ne_eq, not_true_eq_false, false_and, decide_false, List.filter_false, List.foldl_nil, if_true]
end

/-- A received pause whose time has run out is taken off its key: the priority under PFC, 8 otherwise. -/
theorem exec_pauseExpiry_over {k : Nat} (hk : (if u.n E.portFcMode p = 2 then prio.val else 8) = k)
    (hover : tabGet 0 k (u.port p).pausedUntil ≤ u.now) : exec (.pauseExpiry t p prio) s =
      .next (u.setPort p { u.port p with pausedUntil := tabErase k (u.port p).pausedUntil }) := by
  subst hk
  change execPauseExpiry t p prio s = _
  rw [execPauseExpiry, timed_at hAt]
  exact congrArg _ (if_pos hover)
end
end

/-- Settles O20: each clause is the effect of the mode's write, or its event's row on the state at its tick. -/
theorem portCommands : Obligations.PortCommands := by
  intro t s u hAt p
  exact ⟨fun m w x v ho => writeRow_applies hAt ho (spPortMode_apply ⟨m, w, p, [x]⟩ v),
    fun hmode hdown hclear hservice => exec_linkUp_calibrates hAt hdown hclear hmode hservice,
    fun hsgmii hdown hclear hmgmt => exec_linkUp_refused hAt hdown hclear hsgmii hmgmt,
    fun v hup hv => exec_linkDown_up hAt hup hv, exec_portCalDone_calibrating hAt, fun x => exec_portRxFrame_taken hAt,
    fun x e hx hup hrole => exec_portRxFrame_dropped hAt hx hup hrole,
    fun prio hfc hrole hxoff => exec_pauseResend_due hAt hfc hrole hxoff,
    fun prio hfc hrole hxoff => exec_pauseXon_due hAt hfc hrole hxoff,
    fun prio q hup hrole hoff => exec_pauseReceived_ignored hAt hup hrole rfl hoff,
    fun prio v hup hrole hv hon hall => exec_pauseReceived_ends hAt hup hrole hv hon (if_neg hall),
    fun prio hpfc => exec_pauseExpiry_over hAt (if_pos hpfc), fun prio hall => exec_pauseExpiry_over hAt (if_neg hall)⟩

end Sys2Proof.Machine
end

section
/-! Launching, sending, stamps and handles at the ports (R255 to R258, R260, R263 to R265): the frames on their way out in the
order of their stages, then the stamp queue. -/

namespace Sys2Proof.Machine

section
variable {t : Nat} {s u : State} (hAt : At t s u) {p : Fin 18}
include hAt

/-! ### Frames handed over (R257, R260) -/

section
variable {slack : Nat} {f : Outgoing} {rest : List Outgoing} (harr : (u.port p).arriving = f :: rest)
include harr

/-- A frame that reaches a port whose link is down is gone, with code 0x22 (R278). -/
theorem exec_launchRequest_down (hdown : u.linkIsUp p = false) : exec (.launchRequest t p slack) s =
    .next ((u.setPort p { u.port p with arriving := rest }).launchGone f 0x22) := by
  change execLaunchRequest t p slack s = _
  rw [execLaunchRequest, timed_at hAt]
  simp only [harr]
  exact congrArg _ (if_pos (Bool.eq_false_iff.1 hdown))

section
variable (hup : u.linkIsUp p = true) (hcal : u.n E.portCalState p = 2) (hstamp : f.origin.unit < 16 → u.stampBad p = false)
  (hfresh : f.stale = false) {y : State} (hy : u.setPort p { u.port p with arriving := rest } = y)
  (hkeys : y.ntsRevoked f.origin = false)
include hup hcal hstamp hfresh hy hkeys

/-- At a calibrated port a frame that needs no rebuilding is held for its launch, or fails with
code 0x24 where 512 are held (R257, R278). -/
theorem exec_launchRequest_inService : exec (.launchRequest t p slack) s =
    .next ((y.holdLaunch p f slack false).getD (y.frameDone f 0x24 0)) := by
  subst hy
  have good : ¬ (f.origin.unit < 16 ∧ u.stampBad p) := fun h => Bool.eq_false_iff.1 (hstamp h.1) h.2
  have built : ¬ (f.stale ∨ (u.setPort p { u.port p with arriving := rest }).ntsRevoked f.origin) :=
    not_or.2 ⟨Bool.eq_false_iff.1 hfresh, Bool.eq_false_iff.1 hkeys⟩
  change execLaunchRequest t p slack s = _
  rw [execLaunchRequest, timed_at hAt]
  simp only [harr]
  rw [if_neg (not_not_intro hup), if_neg (not_not_intro hcal), if_neg good, if_neg built]
  dsimp only
  cases (u.setPort p { u.port p with arriving := rest }).holdLaunch p f slack false with
  | some v => rfl
  | none => rfl

theorem exec_launchRequest_held {v : State} (hheld : y.holdLaunch p f slack false = some v) :
    exec (.launchRequest t p slack) s = .next v := by
  rw [exec_launchRequest_inService hAt harr hup hcal hstamp hfresh hy hkeys, hheld, Option.getD_some]

theorem exec_launchRequest_full (hfull : y.holdLaunch p f slack false = none) :
    exec (.launchRequest t p slack) s = .next (y.frameDone f 0x24 0) := by
  rw [exec_launchRequest_inService hAt harr hup hcal hstamp hfresh hy hkeys, hfull, Option.getD_none]
end
end

/-! ### Held launches (R256, R258, R260) -/

section
variable {h : Launch} {rest : List Launch} (hheld : (u.port p).held = h :: rest)
include hheld

/-- The first held frame waits until the port's copy reaches its instant. -/
theorem exec_frameLaunch_waits (hlater : u.portCopy p < h.l) : exec (.frameLaunch t p) s = .next u := by
  change execFrameLaunch t p s = _
  rw [execFrameLaunch, timed_at hAt]
  simp only [hheld]
  exact congrArg _ (if_pos hlater)

/-- At its instant it goes out, unless it has gone by or is blocked. -/
theorem exec_frameLaunch_due (hdue : h.l ≤ u.portCopy p) : exec (.frameLaunch t p) s =
    .next (if u.launchBlocked p h ∨ u.passed (portIsland p) h.l then u.launchMiss p h else u.launchOut p h rest) := by
  change execFrameLaunch t p s = _
  rw [execFrameLaunch, timed_at hAt]
  simp only [hheld]
  exact congrArg _ (if_neg (Nat.not_lt.2 hdue))

theorem exec_frameLaunch_out (hdue : h.l ≤ u.portCopy p) (hfree : u.launchBlocked p h = false)
    (hnow : u.passed (portIsland p) h.l = false) : exec (.frameLaunch t p) s = .next (u.launchOut p h rest) := by
  rw [exec_frameLaunch_due hAt hheld hdue, if_neg (not_or.2 ⟨Bool.eq_false_iff.1 hfree, Bool.eq_false_iff.1 hnow⟩)]

theorem exec_frameLaunch_missed (hdue : h.l ≤ u.portCopy p)
    (hmiss : u.launchBlocked p h = true ∨ u.passed (portIsland p) h.l = true) :
    exec (.frameLaunch t p) s = .next (u.launchMiss p h) := by
  rw [exec_frameLaunch_due hAt hheld hdue, if_pos hmiss]
end

/-- A held frame whose work is late within 64 ns of its instant, or that is blocked, is missed. -/
theorem exec_launchMissed_held {handle : Nat} {late : Bool} {h : Launch}
    (hheld : (u.port p).held.find? (fun x => decide (x.frame.handle = handle)) = some h)
    (hmiss : u.launchBlocked p h = true ∨ (late = true ∧ h.l ≤ u.portCopy p + ofNs 64)) :
    exec (.launchMissed t p handle late) s = .next (u.launchMiss p h) := by
  change execLaunchMissed t p handle late s = _
  rw [execLaunchMissed, timed_at hAt]
  simp only [hheld]
  exact congrArg _ (if_pos hmiss.symm)

/-! ### Frames without launch (R255, R263, R280) -/

/-- The frame that is next goes out where it clears every held launch; a world's frame takes the turn with it. -/
theorem exec_portTxFrame_goes {edge : Nat} {e : T96} {f : Outgoing} {turn : Nat} (hnext : u.nextFrame p = some f)
    (hup : u.linkIsUp p = true) (he : u.stampAt (portIsland p) edge = e) (hclears : u.clears p f e = true)
    (hfresh : f.stale = false) (hturn : (if 16 ≤ f.origin.unit then f.origin.unit - 16 else (u.port p).turn) = turn) :
    exec (.portTxFrame t p edge) s = .next ((u.setPort p { u.port p with
      sending := (u.port p).sending.erase f, turn := turn }).txSend p e f f.bytes) := by
  subst he hturn
  change execPortTxFrame t p edge s = _
  rw [execPortTxFrame, timed_at hAt]
  simp only [hnext]
  rw [if_neg (not_or.2 ⟨not_not_intro hup, not_not_intro hclears⟩), hfresh, Bool.false_and, if_neg Bool.false_ne_true]

/-! ### The stamp queue and its handles (R263 to R265) -/

section
variable {o : Origin} {b : List Byte} {rest : List (Origin × List Byte)} (hq : (u.port p).queue = (o, b) :: rest)
include hq

/-- A world whose ring for stamps has no room holds the oldest entry back. -/
theorem exec_stampQueueDrain_waits (hworld : 16 ≤ o.unit) (hroom : u.ringRoom (8 * (o.unit - 16) + 2) = false) :
    exec (.stampQueueDrain t p) s = .next u := by
  change execStampQueueDrain t p s = _
  rw [execStampQueueDrain, timed_at hAt]
  simp only [hq]
  exact congrArg _ (if_pos ⟨hworld, Bool.eq_false_iff.1 hroom⟩)

section
variable {v : State} (hstamp : beAt b 0 1 ≠ 2) (hv : (u.setPort p { u.port p with queue := rest }).portRefresh p = v)
include hstamp hv

/-- Any other entry leaves the queue; that of a stamp, not of a loss, brings its handle's quiet time. -/
theorem exec_stampQueueDrain_goes (hroom : 16 ≤ o.unit → u.ringRoom (8 * (o.unit - 16) + 2) = true) :
    exec (.stampQueueDrain t p) s = .next (if o.unit = 0 then (v.quietHandle p (beAt b 4 4)).ptpEntry o b
      else (v.quietHandle p (beAt b 4 4)).ringWrite (8 * (o.unit - 16) + 2) b) := by
  subst hv
  change execStampQueueDrain t p s = _
  rw [execStampQueueDrain, timed_at hAt]
  simp only [hq]
  rw [if_neg fun h => h.2 (hroom h.1), if_neg hstamp]

theorem exec_stampQueueDrain_ptp (hptp : o.unit = 0) :
    exec (.stampQueueDrain t p) s = .next ((v.quietHandle p (beAt b 4 4)).ptpEntry o b) := by
  rw [exec_stampQueueDrain_goes hAt hq hstamp hv (by omega), if_pos hptp]

theorem exec_stampQueueDrain_ring (hworld : 16 ≤ o.unit) (hroom : u.ringRoom (8 * (o.unit - 16) + 2) = true) :
    exec (.stampQueueDrain t p) s = .next ((v.quietHandle p (beAt b 4 4)).ringWrite (8 * (o.unit - 16) + 2) b) := by
  rw [exec_stampQueueDrain_goes hAt hq hstamp hv (fun _ => hroom), if_neg (by omega)]
end
end

theorem exec_stampLossEntry : exec (.stampLossEntry t p) s = .next (u.lossEntry p) := by
  change execStampLossEntry t p s = _
  rw [execStampLossEntry, timed_at hAt]

theorem exec_handleQuietExpiry_over {i : Fin 4096} (hquiet : (tabGet {} i.val (u.port p).handles).state = 2)
    (hover : (tabGet {} i.val (u.port p).handles).quiet ≤ u.now) : exec (.handleQuietExpiry t p i) s =
      .next (u.setHandle p i { tabGet {} i.val (u.port p).handles with state := 0 }) := by
  change execHandleQuietExpiry t p i s = _
  rw [execHandleQuietExpiry, timed_at hAt]
  exact congrArg _ (if_pos ⟨hquiet, hover⟩)
end

/-- Settles O21: each clause is its event's row on the state at its tick, or the effect of the force entry's write. -/
theorem launchCommands : Obligations.LaunchCommands := by
  intro t s u hAt p
  exact ⟨fun slack f rest => exec_launchRequest_down hAt,
    fun slack f rest v harr hup hcal hstamp hfresh hkeys =>
      exec_launchRequest_held hAt harr hup hcal hstamp hfresh rfl hkeys,
    fun slack f rest harr hup hcal hstamp hfresh => exec_launchRequest_full hAt harr hup hcal hstamp hfresh rfl,
    fun h rest => exec_frameLaunch_out hAt, fun h rest => exec_frameLaunch_waits hAt,
    fun h rest => exec_frameLaunch_missed hAt, fun handle late h => exec_launchMissed_held hAt,
    fun edge e f hnext hup he hclears hfresh hptp =>
      exec_portTxFrame_goes hAt hnext hup he hclears hfresh (if_neg (Nat.not_le.2 hptp)),
    fun edge e f hnext hup he hclears hfresh hworld =>
      exec_portTxFrame_goes hAt hnext hup he hclears hfresh (if_pos hworld),
    fun o b rest v hq hptp hstamp hv => exec_stampQueueDrain_ptp hAt hq hstamp hv hptp,
    fun o b rest v hq hworld hroom hstamp hv => exec_stampQueueDrain_ring hAt hq hstamp hv hworld hroom,
    fun o b rest => exec_stampQueueDrain_waits hAt, exec_stampLossEntry hAt, fun i => exec_handleQuietExpiry_over hAt,
    fun m w v ho => writeRow_opens hAt ho⟩

end Sys2Proof.Machine
end

section
/-! The transmit rings (R278, R280): a frame whose descriptors have not been read to an EOF. -/

namespace Sys2Proof.Machine

/-- Descriptors without an EOF are all read for the next frame. -/
theorem txFrameOf_of_noEof {ds : List DmaDesc} (h : ∀ d ∈ ds, d.flag 1 = false) : txFrameOf ds = ds := by
  have all : ∀ d ∈ ds, (!d.flag 1) = true := fun d hd => by rw [h d hd, Bool.not_false]
  rw [txFrameOf, List.takeWhile_eq_self_iff.2 all, List.dropWhile_eq_nil_iff.2 all, List.take_nil, List.append_nil]

/-- A frame is not handed over before its EOF has been read (R280). -/
theorem exec_txFrame_noEof {t : Nat} {s u : State} (hAt : At t s u) {w : Fin 16} {ds : List DmaDesc}
    (hgood : txError ds = none) (heof : ∀ d ∈ ds, d.flag 1 = false) : exec (.txFrame t w ds) s = .next u := by
  have unended : ¬ ds.any (fun d => d.flag 1) := by simpa using heof
  change execTxFrame t w ds s = _
  rw [execTxFrame, timed_at hAt, txFrameOf_of_noEof heof]
  cases ds with
  | nil => rfl
  | cons d rest =>
    refine congrArg _ (ite_eq_left_iff.2 fun _ => ?_)
    rw [hgood]
    exact if_pos unended

/-- Ring 1, the TX ring of world 0, runs with one of 16 descriptors posted, and the link of port 0 is up. -/
def txPosted : State := (((({} : State).set E.ringState 1 1).set E.ringSize 1 16).set E.ringDoorbell 1 1).set E.portLink 0 1

/-- A descriptor of one byte for port 0, with SOF and LAUNCH and without EOF. -/
def sofOnly : DmaDesc := ⟨zeros 8 ++ le 2 1 ++ le 1 0x10 ++ le 1 9 ++ zeros 20, some [0]⟩

/-- Refutes O22: its clause on TX_FRAME asks for no EOF among the descriptors that have been read. A good SOF descriptor alone stays
on its ring (`exec_txFrame_noEof`), where the clause has its frame handed to port 0. -/
theorem not_hostCommands : ¬ Obligations.HostCommands := by
  intro h
  have hAt : At 0 txPosted txPosted := ⟨by decide, rfl⟩
  have stays := exec_txFrame_noEof hAt (w := 0) (ds := [sofOnly]) (by decide) (by decide)
  obtain ⟨-, -, -, -, -, -, -, tx⟩ := h 0 txPosted txPosted hAt
  have handed := (tx 0 sofOnly [] 1 0 _ { origin := { unit := 16, seq := 1 }, bytes := [0] } rfl (by decide) (by decide)
    (by decide) (by decide) rfl (by decide) (by decide) (by decide) (.inr (.inl (by decide))) (by decide)).1 (by decide)
  have same := Host.Outcome.next.inj (handed.symm.trans stays)
  exact absurd (congrArg (fun v => (v.port 0).arriving.length) same) (by decide)

end Sys2Proof.Machine
end

section
/-! Host commands (R275, R278, R285, R286): the next descriptor of a CMD ring, then what a good one runs by its operation and, for
a host command, by its code. -/

namespace Sys2Proof.Machine

/-! ### The next descriptor (R275, R278) -/

section
variable {u v : State} {w : Nat} {d : DmaDesc} (hruns : u.ringRuns (8 * w + 5) = true) (hposted : u.ringPosted (8 * w + 5) ≠ 0)
  (hfree : u.cmdBusy w = false) (hgood : cmdError d = none)
  (hv : { u with host := { u.host with cmd := u.host.cmd ++ [(w, d, (u.ring (8 * w + 5)).genBase)] } } = v)
include hruns hposted hfree hgood hv

/-- A good descriptor of a ring that runs, has one posted and is not busy is in progress when it is run. -/
theorem State.cmdStart_good (f : State → State) : u.cmdStart w d f = f v := by
  subst hv
  have reads : ¬ (¬ u.ringRuns (8 * w + 5) ∨ u.ringPosted (8 * w + 5) = 0 ∨ u.cmdBusy w) := by
    simp [hruns, hposted, hfree]
  rw [State.cmdStart]
  dsimp only
  rw [if_neg reads, hgood]

theorem State.cmdNext_good : u.cmdNext w d = v.cmdRun w d := State.cmdStart_good hruns hposted hfree hgood hv _
end

/-! ### What a good descriptor runs (R285, R286) -/

section
variable {v : State} {w : Nat} {d : DmaDesc}

/-- A message is taken as any other; where no commit waits to answer it, it completes with LEN 0. -/
theorem State.cmdRun_irlin (hop : d.op = 0x20) {x : State} (hx : v.irlinMessageIn (.ring w) ((d.data.getD []).take d.len) = x) :
    v.cmdRun w d = if x.cmdWaits w then x else x.cmdFinish w 0 [] := by
  subst hx
  exact if_pos hop

section
variable (hop : d.op = 0x21)
include hop

theorem State.cmdRun_hostCommand : v.cmdRun w d = v.hostCommand w d := if_neg (by omega)

/-- A world that is not in HOSTCMD_WORLDS is answered 0x03. -/
theorem State.cmdRun_closed (hworld : bitOf (v.n E.hostcmdWorlds) w = false) : v.cmdRun w d = v.cmdFinish w 3 [] := by
  rw [State.cmdRun_hostCommand hop, State.hostCommand, if_pos (Bool.eq_false_iff.1 hworld)]

section
variable (hworld : bitOf (v.n E.hostcmdWorlds) w = true)
include hworld

theorem State.cmdRun_mint (hcode : d.field 16 1 = 1) :
    v.cmdRun w d = (v.hostMint w d).2.hostAnswer w (v.hostMint w d).1 := by
  rw [State.cmdRun_hostCommand hop, State.hostCommand, if_neg (not_not_intro hworld), hcode]
  rfl

theorem State.cmdRun_keyStatus (hcode : d.field 16 1 = 2) :
    v.cmdRun w d = v.cmdFinish w 0 (be 4 v.ntsKeyView.1 ++ be 4 v.ntsPrevious ++ be 4 v.ntsKeyView.2) := by
  rw [State.cmdRun_hostCommand hop, State.hostCommand, if_neg (not_not_intro hworld), hcode]
  rfl

theorem State.cmdRun_corr (hcode : d.field 16 1 = 3) : v.cmdRun w d = (v.hostCorr d).2.hostAnswer w (v.hostCorr d).1 := by
  rw [State.cmdRun_hostCommand hop, State.hostCommand, if_neg (not_not_intro hworld), hcode]
  rfl
end
end
end

/-! ### The commands at their tick -/

section
variable {t : Nat} {s u : State} (hAt : At t s u) {w : Fin 16} {d : DmaDesc} {x : State} (hx : u.cmdNext w d = x)
include hAt hx

theorem exec_cmdIrlin : exec (.cmdIrlin t w d) s = .next x := (timed_at hAt (·.cmdNext w d)).trans (congrArg _ hx)

theorem exec_ntsMint : exec (.ntsMint t w d) s = .next x := (timed_at hAt (·.cmdNext w d)).trans (congrArg _ hx)

theorem exec_ntsKeyStatus : exec (.ntsKeyStatus t w d) s = .next x := (timed_at hAt (·.cmdNext w d)).trans (congrArg _ hx)

theorem exec_gnssCorr : exec (.gnssCorr t w d) s = .next x := (timed_at hAt (·.cmdNext w d)).trans (congrArg _ hx)
end

/-- Settles O23: each row runs the next descriptor, which is good, by its operation and code. -/
theorem hostRingCommands : Obligations.HostRingCommands := by
  intro t s u hAt w d v x hruns hposted hfree hgood hv
  have next : u.cmdNext w d = v.cmdRun w d := State.cmdNext_good hruns hposted hfree hgood hv
  exact ⟨fun hop hx => exec_cmdIrlin hAt (next.trans (State.cmdRun_irlin hop hx)),
    fun hop hworld hcode => exec_ntsMint hAt (next.trans (State.cmdRun_mint hop hworld hcode)),
    fun hop hworld hcode => exec_ntsKeyStatus hAt (next.trans (State.cmdRun_keyStatus hop hworld hcode)),
    fun hop hworld hcode => exec_gnssCorr hAt (next.trans (State.cmdRun_corr hop hworld hcode)),
    fun hop hworld =>
      have closed := next.trans (State.cmdRun_closed hop hworld)
      ⟨exec_gnssCorr hAt closed, exec_ntsMint hAt closed, exec_ntsKeyStatus hAt closed⟩⟩

end Sys2Proof.Machine
end

section
/-! The SPI target's frames (R287, R288): a frame by its CRC, then each opcode's row. -/

namespace Sys2Proof.Machine

/-! ### Frames by their CRC (R288) -/

theorem State.spiFrame_right {u : State} {request : List Byte} {crc : Nat} (hcrc : crc = spiCrc request) (pad : Nat)
    (f : State → State) :
    u.spiFrame request crc pad f = f u := if_pos hcrc

theorem State.spiFrame_wrong {u : State} {request : List Byte} {crc : Nat} (hcrc : crc ≠ spiCrc request) (pad : Nat)
    (f : State → State) :
    u.spiFrame request crc pad f = (u.bump E.spitCrcErr).spiRespond (be 1 8 ++ zeros pad) := if_neg hcrc

section
variable {t : Nat} {s u : State} (hAt : At t s u)
include hAt

/-- A frame whose index and subindex fit their fields reaches the target. -/
theorem spiRow_at {index sub : Nat} (hindex : index < 65536) (hsub : sub < 256) (f : State → State) :
    spiRow t index sub s f = .next (f u) := by
  have fits : targetOk .spit (.obj index sub) = true := by simp [targetOk, wfTarget, hindex, hsub]
  rw [spiRow, timed_at hAt, if_pos fits]

/-! ### Accesses (R45, R287) -/

section
variable {index sub crc code : Nat} {v : State} (hindex : index < 65536) (hsub : sub < 256)
include hindex hsub

theorem exec_spiRead_right {word : Word} (hcrc : crc = spiCrc (be 1 1 ++ be 2 index ++ be 1 sub))
    (hread : u.read .spit ⟨index, sub, false, true⟩ .plain = ((code, word), v)) :
    exec (.spiRead t index sub crc) s = .next (v.spiRespond (be 1 code ++ be 8 word.toNat)) := by
  change execSpiRead t index sub crc s = _
  rw [execSpiRead, spiRow_at hAt hindex hsub, State.spiFrame_right hcrc, hread]

theorem exec_spiWrite_right {x : Word} (hcrc : crc = spiCrc (be 1 2 ++ be 2 index ++ be 1 sub ++ be 8 x.toNat))
    (hwrite : u.writeAt .spit ⟨index, sub, false, true⟩ [x] .plain = (code, v)) :
    exec (.spiWrite t index sub x crc) s = .next (v.spiRespond (be 1 code)) := by
  change execSpiWrite t index sub x crc s = _
  rw [execSpiWrite, spiRow_at hAt hindex hsub, State.spiFrame_right hcrc, hwrite]

theorem exec_spiGuarded_right {x c : Word}
    (hcrc : crc = spiCrc (be 1 3 ++ be 2 index ++ be 1 sub ++ be 8 x.toNat ++ be 8 c.toNat))
    (hwrite : u.writeAt .spit ⟨index, sub, false, true⟩ [x] (.guarded c) = (code, v)) :
    exec (.spiGuarded t index sub x c crc) s = .next (v.spiRespond (be 1 code)) := by
  change execSpiGuarded t index sub x c crc s = _
  rw [execSpiGuarded, spiRow_at hAt hindex hsub, State.spiFrame_right hcrc, hwrite]
end

/-! ### Irlin messages and their replies (R287) -/

theorem exec_spiIrlin_right {b : List Byte} {crc : Nat} (hcrc : crc = spiCrc (be 1 4 ++ be 2 b.length ++ b)) :
    exec (.spiIrlin t b crc) s = .next ((u.irlinMessageIn .spi b).spiRespond [0]) := by
  change execSpiIrlin t b crc s = _
  rw [execSpiIrlin, timed_at hAt, State.spiFrame_right hcrc]
  rfl

section
variable {crc : Nat} (hcrc : crc = spiCrc [5])
include hcrc

theorem exec_spiIrlinPop_oldest {b : List Byte} {rest : List (List Byte)} (hreplies : u.host.spiReplies = b :: rest) :
    exec (.spiIrlinPop t crc) s = .next (({ u with host := { u.host with spiReplies := rest } }).spiRespond
      (be 2 b.length ++ b)) := by
  change execSpiIrlinPop t crc s = _
  rw [execSpiIrlinPop, timed_at hAt, State.spiFrame_right (request := be 1 5) hcrc]
  simp only [hreplies]

theorem exec_spiIrlinPop_none (hreplies : u.host.spiReplies = []) :
    exec (.spiIrlinPop t crc) s = .next (u.spiRespond [0, 0]) := by
  change execSpiIrlinPop t crc s = _
  rw [execSpiIrlinPop, timed_at hAt, State.spiFrame_right (request := be 1 5) hcrc]
  simp only [hreplies]
  rfl
end

/-! ### Image chunks (R288) -/

theorem exec_spiImage_staged {off : Nat} {data : List Byte} {crc : Nat}
    (hcrc : crc = spiCrc (be 1 6 ++ be 4 off ++ be 2 data.length ++ data)) (hmin : 1 ≤ data.length) (hmax : data.length ≤ 256)
    (hend : off + data.length ≤ 4194304) : exec (.spiImage t off data crc) s = .next (({ u with host := { u.host with
      spiImage := u.host.spiImage ++ [(off, data)] } }).spiRespond [0]) := by
  change execSpiImage t off data crc s = _
  rw [execSpiImage, timed_at hAt, State.spiFrame_right hcrc, if_neg (by omega), if_neg (by omega)]
  rfl

/-! ### Event records (R281, R288) -/

section
variable {crc : Nat}

section
variable (hcrc : crc = spiCrc [7])
include hcrc

/-- The oldest record leaves the queue, and the loss record of its ring takes the place that is free. -/
theorem exec_spiEventPop_oldest {b : List Byte} {rest : List (List Byte)} {r : Nat} {v : State}
    (hevents : u.host.spiEvents = b :: rest) (hr : r = 8 * u.n E.bindSpit + 3)
    (hv : { u with host := { u.host with spiEvents := rest ++ (u.ring r).losses.take 1 } } = v) :
    exec (.spiEventPop t crc) s = .next ((v.setRing r ((v.ring r).lossesDone 1)).spiRespond (be 1 1 ++ padTo 32 b)) := by
  subst hr hv
  change execSpiEventPop t crc s = _
  rw [execSpiEventPop, timed_at hAt, State.spiFrame_right (request := be 1 7) hcrc]
  simp only [hevents]

theorem exec_spiEventPop_none (hevents : u.host.spiEvents = []) :
    exec (.spiEventPop t crc) s = .next (u.spiRespond (be 1 0 ++ zeros 32)) := by
  change execSpiEventPop t crc s = _
  rw [execSpiEventPop, timed_at hAt, State.spiFrame_right (request := be 1 7) hcrc]
  simp only [hevents]
end

theorem exec_spiEventPop_wrong (hcrc : crc ≠ spiCrc [7]) :
    exec (.spiEventPop t crc) s = .next ((u.bump E.spitCrcErr).spiRespond [8]) := by
  change execSpiEventPop t crc s = _
  rw [execSpiEventPop, timed_at hAt, State.spiFrame_wrong (request := be 1 7) hcrc]
  rfl
end

theorem exec_spiAborted : exec (.spiAborted t) s = .next (u.bump E.spitAborted) :=
  timed_at hAt (·.bump E.spitAborted)
end

/-- Settles O24: each clause is its opcode's row where the frame's CRC is right, or its answer where the CRC is wrong. -/
theorem spiCommands : Obligations.SpiCommands := by
  intro t s u hAt
  exact ⟨fun index sub crc code word v hindex hsub => exec_spiRead_right hAt hindex hsub,
    fun index sub x crc code v hindex hsub => exec_spiWrite_right hAt hindex hsub,
    fun index sub x c crc code v hindex hsub => exec_spiGuarded_right hAt hindex hsub,
    fun b crc => exec_spiIrlin_right hAt, fun crc b rest hcrc => exec_spiIrlinPop_oldest hAt hcrc,
    fun crc => exec_spiIrlinPop_none hAt, fun off data crc => exec_spiImage_staged hAt,
    fun crc b rest r v hcrc => exec_spiEventPop_oldest hAt hcrc, fun crc => exec_spiEventPop_none hAt, exec_spiAborted hAt,
    fun crc => exec_spiEventPop_wrong hAt⟩

end Sys2Proof.Machine
end

section
/-! What an Announce says of the bound (R156, R311, R312). -/

namespace Sys2Proof.Machine

/-- Below the two values that give 0xFE the code is the first of R156's 20 that holds the bound, or else 0x2B (R312). -/
theorem accuracyCode_eq_find {b : Nat} (h : b < 0xFFFFFFFE) : accuracyCode b =
    (((List.range 20).find? (fun k => decide (b * 10 ≤ accuracyTenths (k + 0x17)))).map (· + 0x17)).getD 0x2B := by
  rw [accuracyCode, if_neg (Nat.not_le.2 h), List.find?_map]
  rfl

/-- No limit of R156 is above 2.5 ms. -/
theorem accuracyTenths_le {k : Nat} (hk : k < 20) : accuracyTenths (k + 0x17) ≤ 25000000000 := by
  revert k
  decide

/-- A bound that a code of R156 holds gets the first of them. -/
theorem accuracyCode_of_le {b : Nat} (h : b ≤ 2500000000) : ∃ k < 20, accuracyCode b = k + 0x17 ∧
    b * 10 ≤ accuracyTenths (k + 0x17) ∧ ∀ j < k, accuracyTenths (j + 0x17) < b * 10 := by
  have hcode := accuracyCode_eq_find (b := b) (by omega)
  cases hfind : (List.range 20).find? (fun k => decide (b * 10 ≤ accuracyTenths (k + 0x17))) with
  | none =>
    have last : accuracyTenths (19 + 0x17) = 25000000000 := rfl
    have := List.find?_eq_none.1 hfind 19 (by decide)
    simp only [last, decide_eq_true_eq] at this
    omega
  | some k =>
    obtain ⟨hholds, hmem, hfirst⟩ := List.find?_range_eq_some.1 hfind
    refine ⟨k, List.mem_range.1 hmem, by rw [hcode, hfind]; rfl, of_decide_eq_true hholds, fun j hj => ?_⟩
    simpa using hfirst j hj

/-- A bound above every limit of R156 gets 0x2B. -/
theorem accuracyCode_above {b : Nat} (h : 2500000000 < b) (hb : b ≤ 0xFFFFFFFD) : accuracyCode b = 0x2B := by
  have none_holds : (List.range 20).find? (fun k => decide (b * 10 ≤ accuracyTenths (k + 0x17))) = none := by
    refine List.find?_eq_none.2 fun k hk => ?_
    have := accuracyTenths_le (List.mem_range.1 hk)
    simp only [decide_eq_true_eq]
    omega
  rw [accuracyCode_eq_find (by omega), none_holds]
  rfl

/-- Outside SAFE and NO_TIME every row of R311 has the accuracy of the emitted bound. -/
theorem State.announceRow_accuracy {s : State} (i p : Nat) (hsafe : s.holly.safe = false) (htime : s.noTime = false) :
    (s.announceRow i p).2.1 = accuracyCode (s.emitted (s.portAdd p)) := by
  simp only [State.announceRow, hsafe, htime, Bool.false_eq_true, or_self, if_false]
  cases s.bound.oot <;> cases s.bound.hold.isSome <;> rfl

/-- Settles O58: the search of R156's codes, and the accuracy of the row in force. -/
theorem clockAccuracy : Obligations.ClockAccuracy := by
  refine ⟨fun b hb => ?_, fun b => accuracyCode_above, rfl, rfl, fun s i p hsafe htime hlock hheld => ?_⟩
  · obtain ⟨k, hk, hcode, hholds, hfirst⟩ := accuracyCode_of_le hb
    rw [hcode]
    refine ⟨by omega, by omega, hholds, fun c hc hlt => ?_⟩
    obtain ⟨j, rfl⟩ := Nat.exists_eq_add_of_le' hc
    exact hfirst j (by omega)
  · have bounded : s.unbounded = false := by simp [State.unbounded, hlock, hsafe, hheld]
    rw [State.announceRow_accuracy i p hsafe htime, State.emitted, bounded]
    rfl

end Sys2Proof.Machine
end

section
/-! Re-masking (R406): a value combined into both shares cancels in the key they hold. -/

namespace Sys2Proof.Machine

/-- A value combined into both of two byte strings no longer than it cancels in their combination. -/
theorem xorBytes_xorBytes_xorBytes {a b v : List Byte} (hab : a.length = b.length) (hv : a.length ≤ v.length) :
    xorBytes (xorBytes a v) (xorBytes b v) = xorBytes a b := by
  induction a generalizing b v with
  | nil =>
    obtain rfl := List.eq_nil_of_length_eq_zero hab.symm
    rfl
  | cons x a ih =>
    cases b with
    | nil => simp at hab
    | cons y b =>
      cases v with
      | nil => simp at hv
      | cons z v =>
        have cancel : x ^^^ z ^^^ (y ^^^ z) = x ^^^ y := by
          rw [BitVec.xor_comm y z, BitVec.xor_assoc, ← BitVec.xor_assoc z z y, BitVec.xor_self, BitVec.zero_xor]
        simp only [xorBytes, cancel, ih (Nat.succ.inj hab) (Nat.le_of_succ_le_succ hv)]

/-- A mask combined twice is gone. -/
theorem xorBytes_xorBytes_self {key mask : List Byte} (h : key.length = mask.length) :
    xorBytes (xorBytes key mask) mask = key := by
  induction key generalizing mask with
  | nil =>
    obtain rfl := List.eq_nil_of_length_eq_zero h.symm
    rfl
  | cons x key ih =>
    cases mask with
    | nil => simp at h
    | cons y mask => simp only [xorBytes, BitVec.xor_assoc, BitVec.xor_self, BitVec.xor_zero, ih (Nat.succ.inj h)]

/-- Shares of one length keep their key under a fresh value of at least that length. -/
theorem Shares.key_remask {x : Shares} {v : List Byte} (h : x.a.length = x.b.length) (hv : x.a.length ≤ v.length) :
    (x.remask v).key = x.key := xorBytes_xorBytes_xorBytes h hv

/-- A pass over a table refreshes its first pair last, with a draw of its own. -/
theorem State.remaskTab_cons (s : State) (p : Nat × Shares) (tab : Tab Shares) : (s.remaskTab (p :: tab)).1 =
    (p.1, p.2.remask ((s.remaskTab tab).2.randomBytes (max p.2.a.length p.2.b.length))) :: (s.remaskTab tab).1 := rfl

/-- Settles O60: the drawn value cancels in every pair, and so over a table. -/
theorem remaskKeeps : Obligations.RemaskKeeps := by
  refine ⟨fun x v => Shares.key_remask, fun s tab htab => ?_, fun key mask => xorBytes_xorBytes_self⟩
  induction tab with
  | nil => rfl
  | cons p tab ih =>
    obtain ⟨hp, htab⟩ := List.forall_mem_cons.1 htab
    rw [State.remaskTab_cons, List.map_cons, List.map_cons, ih htab, Shares.key_remask hp (by simp [State.randomBytes])]

end Sys2Proof.Machine
end

section
/-! BAR0 offsets (R470): their fields, their alignment, and what lies outside BAR0. -/

namespace Sys2Proof.Machine

/-- The fields of an aligned offset are what it is made of. -/
theorem spotOf_bar {off index sub : Nat} {compl : Bool} (hindex : index < 2 ^ 16) (hsub : sub < 2 ^ 8)
    (hoff : off = (if compl then 2 ^ 27 else 0) + index * 2 ^ 11 + sub * 2 ^ 3) :
    spotOf (.bar off 8) = ⟨index, sub, compl, true⟩ := by
  have window : bitOf off 27 = compl := by
    cases compl <;> simp only [bitOf, decide_eq_true_eq, decide_eq_false_iff_not, Bool.false_eq_true, if_true, if_false] at hoff ⊢
    all_goals omega
  have index_field : bitsOf off 26 11 = index := by
    simp only [bitsOf]
    cases compl <;> simp only [Bool.false_eq_true, if_true, if_false] at hoff
    all_goals omega
  have sub_field : bitsOf off 10 3 = sub := by
    simp only [bitsOf]
    cases compl <;> simp only [Bool.false_eq_true, if_true, if_false] at hoff
    all_goals omega
  have aligned : off % 8 = 0 := by
    cases compl <;> simp only [Bool.false_eq_true, if_true, if_false] at hoff
    all_goals omega
  simp only [spotOf, window, index_field, sub_field, aligned, and_self, decide_true]

section
variable {u : State} {m : Master} {x : Spot} {w : Nat} (hw : u.worldOf m = some w) (ha : x.aligned = false)
include hw ha

/-- A misaligned read that meets no other code is refused with 0x08. -/
theorem State.read_misaligned (hr : u.readCodes w x.index x.sub = []) : (u.read m x).1 = (8, 0) := by
  simp [State.read, hw, ha, hr, State.perfEvent_readCodes, resolve]

/-- A misaligned write in the plain window that meets no other code is refused with 0x08. -/
theorem State.writeAt_misaligned {p : Place} {v : Word} (hp : placeOf x.index x.sub = some p) (hc : x.compl = false)
    (hv : wordCodes p.entry [v] = []) (hform : valueHalf p.entry m .plain = true ∨ formCodes m p.entry v .plain = [])
    (hg : (u.perfEvent 0x701 0).gateCodes (specialOf p.entry) ⟨m, w, p.i, [v]⟩ = []) : (u.writeAt m x [v]).1 = 8 := by
  have extra : (if valueHalf p.entry m .plain = true then [] else formCodes m p.entry v .plain) = [] := by
    rcases hform with h | h <;> simp [h]
  simp [State.writeAt, hw, hp, ha, hc, hv, hg, extra, State.writeRefused, resolve]
end

section
variable {t : Nat} {s u : State} (hAt : At t s u) (f : Fin 8) {off : Nat} (size : Nat) (hoff : 0x10000000 ≤ off)
include hAt hoff

/-- Offsets outside BAR0 reach no unit of the engine; that nothing at all changes is the model's choice (log 32). -/
theorem accessRow_outside (act : Spot → State → State) : accessRow t (.pcie f) (.bar off size) s act = .next u := by
  have outside : wfTarget (.pcie f) (.bar off size) = false := decide_eq_false fun h => Nat.not_lt.2 hoff h.1
  simp [accessRow, timed_at hAt, targetOk, outside]

theorem exec_registerWrite_outside (v : Word) : exec (.registerWrite t (.pcie f) (.bar off size) v) s = .next u :=
  accessRow_outside hAt f size hoff (fun x s => s.writeAnswer (.pcie f) x v)

theorem exec_latchRead_outside : exec (.latchRead t (.pcie f) (.bar off size)) s = .next u :=
  accessRow_outside hAt f size hoff (fun x s => s.readAnswer (.pcie f) x)
end

/-- Settles O51: the fields of an offset, the code of a misaligned access, and the two rows outside BAR0. -/
theorem bar0Offsets : Obligations.Bar0Offsets :=
  ⟨fun off index sub compl => spotOf_bar, fun off size h => by simp [spotOf, h],
    fun u m x w hw ha => State.read_misaligned hw ha, fun u m x w p v hw ha => State.writeAt_misaligned hw ha,
    fun t s u f off size v hAt hoff => ⟨exec_registerWrite_outside hAt f size hoff v, exec_latchRead_outside hAt f size hoff⟩⟩

end Sys2Proof.Machine
end

section
/-! PTP's settings, sending and deadlines (R293, R298, R302, R311 to R316): what each command does on its conditions. -/

namespace Sys2Proof.Machine

/-- A profile loads its intervals, its lowest domain and the grant limits (R293). -/
theorem spPtpProfile_apply {c : Ctx} {v : State} {a y d : Int} (h : profileLogs c.v = (a, y, d)) :
    spPtpProfile.apply c v = ((((((((((v.set E.ptpProfile c.i c.v).set E.ptpDomain c.i
      (match c.v with | 2 => 24 | 3 => 44 | _ => 0)).set E.ptpUnicast c.i (if c.v = 3 then 1 else 0)).setInt
      E.ptpLogAnnounce c.i a).setInt E.ptpLogSync c.i y).setInt E.ptpLogMinDelay c.i d).set E.ptpGrantMin c.i 60).set
      E.ptpGrantMax c.i 1000).setInt E.ptpMinLogSync c.i (-7)).setInt E.ptpMinLogAnnounce c.i (-3)).setInt
      E.ptpMinLogDelay c.i (-7) := by
  have unicast : ofBool (decide (c.v = 3)) = if c.v = 3 then 1 else 0 := by by_cases h3 : c.v = 3 <;> simp [ofBool, h3]
  obtain rfl : (profileLogs c.v).1 = a := congrArg (·.1) h
  obtain rfl : (profileLogs c.v).2.1 = y := congrArg (·.2.1) h
  obtain rfl : (profileLogs c.v).2.2 = d := congrArg (·.2.2) h
  rw [← unicast]
  rfl

/-- The frame a PTP clock sends on a port at an interval (R298): a one-step (0) or a two-step (1) Sync, or an Announce (6). -/
def intervalOrigin (y : State) (i : Fin 16) (p : Fin 18) (kind : Nat) (c : Option Nat) (q : Nat) (dst : List Byte) : Origin :=
  { unit := 0, inst := i, kind := kind, client := c.map (fun k => clientHandle k (y.client k)), seq := q, peer := dst, port := p }

section
variable {t : Nat} {s u : State} (hAt : At t s u) {i : Fin 16}
include hAt

/-! ### Syncs and Announces (R298, R314) -/

section
variable {p : Fin 18} {c : Option Nat}

theorem exec_syncInterval_noTime (htime : u.noTime = true) : exec (.syncInterval t i p c) s = .next u := by
  change execSyncInterval t i p c s = _
  rw [execSyncInterval, timed_at hAt]
  exact congrArg _ (if_pos (.inr (.inr htime)))

section
variable {c' : Option Nat} {v : State} (hmaster : u.ptpMaster i p = true) (hquiet : u.ptpQuiet = false)
include hmaster hquiet

section
variable (htime : u.noTime = false) (hsend : u.sendTo i p 0 c = (some c', v))
include htime hsend

/-- A Sync that is due is suppressed for want of a valid stamp, launched, or sent with a stamp request. -/
theorem exec_syncInterval_due {two : Bool} {q : Nat} {dst : List Byte} {y : State} (htwo : v.flag E.ptpTwoStep i = two)
    (hseq : v.sendSeq i p 0 c' = (q, dst, y)) : exec (.syncInterval t i p c) s =
      .next (if ¬ two = true ∧ v.stampBad p = true then v.ptpSuppress i
        else if two = true then y.ptpSend (intervalOrigin y i p (ofBool two) c' q dst) true
        else y.ptpLaunch (intervalOrigin y i p (ofBool two) c' q dst)) := by
  have due : ¬ (¬ u.ptpMaster i p = true ∨ u.ptpQuiet = true ∨ u.noTime = true) := by simp [hmaster, hquiet, htime]
  change execSyncInterval t i p c s = _
  rw [execSyncInterval, timed_at hAt, if_neg due, hsend]
  simp only [htwo, hseq]
  rfl

theorem exec_syncInterval_oneStep {q : Nat} {dst : List Byte} {y : State} (hone : v.flag E.ptpTwoStep i = false)
    (hstamp : v.stampBad p = false) (hseq : v.sendSeq i p 0 c' = (q, dst, y)) : exec (.syncInterval t i p c) s =
      .next (y.ptpLaunch (intervalOrigin y i p 0 c' q dst)) := by
  rw [exec_syncInterval_due hAt hmaster hquiet htime hsend hone hseq, if_neg (by simp [hstamp]), if_neg Bool.false_ne_true]
  rfl

theorem exec_syncInterval_twoStep {q : Nat} {dst : List Byte} {y : State} (htwo : v.flag E.ptpTwoStep i = true)
    (hseq : v.sendSeq i p 0 c' = (q, dst, y)) : exec (.syncInterval t i p c) s =
      .next (y.ptpSend (intervalOrigin y i p 1 c' q dst) true) := by
  rw [exec_syncInterval_due hAt hmaster hquiet htime hsend htwo hseq, if_neg (by simp), if_pos rfl]
  rfl

theorem exec_syncInterval_badStamp (hone : v.flag E.ptpTwoStep i = false) (hstamp : v.stampBad p = true) :
    exec (.syncInterval t i p c) s = .next (v.ptpSuppress i) := by
  rw [exec_syncInterval_due hAt hmaster hquiet htime hsend hone rfl, if_pos ⟨Bool.false_ne_true, hstamp⟩]
end

section
variable (hsend : u.sendTo i p 0xB c = (some c', v))
include hsend

theorem exec_announceInterval_sent {q : Nat} {dst : List Byte} {y : State} (hsync : v.unsync 0x400 = false)
    (hseq : v.sendSeq i p 0xB c' = (q, dst, y)) : exec (.announceInterval t i p c) s =
      .next (y.ptpSend (intervalOrigin y i p 6 c' q dst)) := by
  change execAnnounceInterval t i p c s = _
  rw [execAnnounceInterval, timed_at hAt, if_neg (by simp [hmaster, hquiet]), hsend]
  simp only [hsync, hseq, Bool.false_eq_true, if_false]
  rfl

theorem exec_announceInterval_unsync (hsync : v.unsync 0x400 = true) :
    exec (.announceInterval t i p c) s = .next (v.ptpSuppress i) := by
  change execAnnounceInterval t i p c s = _
  rw [execAnnounceInterval, timed_at hAt, if_neg (by simp [hmaster, hquiet]), hsend]
  simp only [hsync, if_true]
end
end
end

/-- A request opens an exchange under the next sequenceId and asks for its stamp (R298, R316). -/
theorem exec_delayReqInterval_opens {p : Fin 18} {v y : State} {a : ParentSet} {k : Nat} {e : Exchange} {o : Origin}
    (hup : u.ptpUp i p = true) (hquiet : u.ptpQuiet = false) (hgroup : u.flag E.ptpUnicast i = false)
    (hparent : (u.ptpInst i).parent = some a) (hport : a.port = p.val) (hv : u.nextReq i 65536 = v)
    (hk : k = (if u.ptpP2p i then 2 else 1))
    (he : e = { kind := k, epoch := v.n E.ptpReqEpoch i, seq := (v.ptpInst i).lastReq, port := p,
                expires := v.now + ticksMs (v.n E.ptpRespTimeout) })
    (hy : v.setPtpInst i { v.ptpInst i with exchanges := (v.ptpInst i).exchanges ++ [e] } = y)
    (ho : o = { unit := 0, inst := i, kind := 6 + k, client := none, seq := (v.ptpInst i).lastReq, port := p,
                peer := ptpDest (y.n E.ptpTransport i) (y.ptpGroup i (u.ptpP2p i)) true 0 }) :
    exec (.delayReqInterval t i p none) s = .next (y.ptpSend o true) := by
  subst hv hk he hy ho
  change execDelayReqInterval t i p none s = _
  rw [execDelayReqInterval, timed_at hAt]
  exact congrArg _ (if_neg (by simp [hup, hquiet, hgroup, hparent, hport]))

/-! ### The second (R296, R297) -/

theorem exec_ptpSecond_none (hs : u.atSecond = true) (hkept : u.keptExchanges i = []) : exec (.ptpSecond t i) s = .next u := by
  change execPtpSecond t i s = _
  rw [execPtpSecond, timed_at hAt, hkept]
  exact congrArg _ (if_neg (not_not_intro hs))

section
variable {kept : List (Int × Int × Option Bound)} {o rt : Int} {bo : Option Bound} {b : Bound} {f : Bool} {x : PtpInst}
  {y z : State} (hs : u.atSecond = true) (hkept : u.keptExchanges i = kept) (hlast : kept.getLast? = some (o, rt, bo))
  (hbound : u.exchangeBound i kept = (b, f)) (hx : u.ptpInst i = x)
  (hy : u.setPtpInst i { x with done := [], tlvBound := if f then x.tlvSeen else none } = y)
  (hz : (y.setInt E.ptpOffset i o).setInt E.ptpMeanDelay i (Int.tdiv rt 2) = z)
include hs hkept hlast hbound hx hy hz

/-- Without a slot the second's kept exchanges give the PTP clock its offset and its mean delay. -/
theorem exec_ptpSecond_unbound (hslot : z.ptpSlot i = none) : exec (.ptpSecond t i) s = .next z := by
  change execPtpSecond t i s = _
  rw [execPtpSecond, timed_at hAt, if_neg (not_not_intro hs)]
  simp only [hkept, hlast, hbound, hx, hy, hz, hslot]

/-- The slot of a PTP clock takes the kept offsets as measurements, at the tick before the whole second's own (the model's choice,
log 156). -/
theorem exec_ptpSecond_measured {n : Nat} {v : State} (hslot : z.ptpSlot i = some n)
    (hv : (z.setSlot n { z.slot n with bref := b, arrival := z.now }).termsRefresh n = v) : exec (.ptpSecond t i) s = .next
      (kept.foldl (fun (s : State) e => s.slotMeasure n (s.now - 1) (s.now * 2000000) s.privFs (-e.1) true) v).settle := by
  change execPtpSecond t i s = _
  rw [execPtpSecond, timed_at hAt, if_neg (not_not_intro hs)]
  simp only [hkept, hlast, hbound, hx, hy, hz, hslot, hv]
end

/-! ### Deadlines (R115, R297, R316) -/

section
variable {a : ParentSet} (hparent : (u.ptpInst i).parent = some a)
include hparent

theorem exec_announceTimeout_over (hover : u.resolves (u.upPaths i) (a.last + u.announceTicks i) = true) :
    exec (.announceTimeout t i) s = .next ((u.parentLost i).chooseParent i) := by
  change execAnnounceTimeout t i s = _
  rw [execAnnounceTimeout, timed_at hAt, State.announceLost, hparent]
  exact congrArg _ (if_pos hover)

theorem exec_announceTimeout_running (hover : u.resolves (u.upPaths i) (a.last + u.announceTicks i) = false) :
    exec (.announceTimeout t i) s = .next u := by
  change execAnnounceTimeout t i s = _
  rw [execAnnounceTimeout, timed_at hAt, State.announceLost, hparent]
  exact congrArg _ (if_neg (Bool.eq_false_iff.1 hover))
end

theorem exec_syncTimeout_over (hparent : (u.ptpInst i).parent.isSome = true) (hlost : (u.ptpInst i).lost = false)
    (hover : u.resolves (u.upPaths i) ((u.ptpInst i).lastSync + u.syncTicks i) = true) :
    exec (.syncTimeout t i) s = .next (u.parentLost i) := by
  change execSyncTimeout t i s = _
  rw [execSyncTimeout, timed_at hAt]
  exact congrArg _ (if_pos ⟨hparent, Bool.eq_false_iff.1 hlost, hover⟩)

theorem exec_syncTimeout_running (hover : u.resolves (u.upPaths i) ((u.ptpInst i).lastSync + u.syncTicks i) = false) :
    exec (.syncTimeout t i) s = .next u := by
  change execSyncTimeout t i s = _
  rw [execSyncTimeout, timed_at hAt]
  exact congrArg _ (if_neg fun h => Bool.eq_false_iff.1 hover h.2.2)

theorem exec_respTimeout {x : PtpInst} (hx : u.ptpInst i = x) : exec (.respTimeout t i) s = .next
    (u.setPtpInst i { x with exchanges := x.exchanges.filter (fun e => !u.resolves (u.upPaths i) e.expires) }) := by
  subst hx
  change execRespTimeout t i s = _
  rw [execRespTimeout, timed_at hAt]
end

/-- Settles O25: each clause is its command's row on the state at its tick, or its entry's effect. -/
theorem ptpTimers : Obligations.PtpTimers := by
  intro t s u hAt i
  exact ⟨fun m w x v a y d ho h => writeRow_applies hAt ho (spPtpProfile_apply h),
    fun p q c c' v y dst hmaster hquiet htime hsend => exec_syncInterval_oneStep hAt hmaster hquiet htime hsend,
    fun p q c c' v y dst hmaster hquiet htime hsend => exec_syncInterval_twoStep hAt hmaster hquiet htime hsend,
    fun p c c' v => exec_syncInterval_badStamp hAt, fun p c => exec_syncInterval_noTime hAt,
    fun p q c c' v y dst hmaster hquiet hsend => exec_announceInterval_sent hAt hmaster hquiet hsend,
    fun p c c' v => exec_announceInterval_unsync hAt,
    fun p v y a k hup hquiet hgroup hparent hport hv hk hy =>
      exec_delayReqInterval_opens hAt hup hquiet hgroup hparent hport hv hk rfl hy rfl,
    exec_ptpSecond_none hAt,
    fun kept o rt bo b f x y z hs hkept hlast hbound hx hy hz =>
      ⟨exec_ptpSecond_unbound hAt hs hkept hlast hbound hx hy hz,
        fun n v => exec_ptpSecond_measured hAt hs hkept hlast hbound hx hy hz⟩,
    fun a => exec_announceTimeout_over hAt, fun a => exec_announceTimeout_running hAt, exec_syncTimeout_over hAt,
    exec_syncTimeout_running hAt, fun x => exec_respTimeout hAt⟩

end Sys2Proof.Machine
end

section
/-! Unicast clients, partners and associations (R300 to R305, R317 to R321). The types and the layout of the TLVs are the model's
choice (log 44, log 140). -/

namespace Sys2Proof.Machine

/-! ### Unicast negotiation in messages (R300 to R302) -/

section
variable {t : Nat} {s u v : State} {x : PtpRx} {i : Nat} {auth : Bool} (hAt : At t s u) (hkind : x.kind = 0xC)
  (ha : Accepts x i auth u v)
include hAt hkind ha

section
variable (hmaster : v.ptpMaster i x.port = true) (hnego : v.flag E.ptpUnicast i = true)
include hmaster hnego

theorem exec_requestUnicastTransmission_answers : exec (.requestUnicastTransmission t x) s =
    .next ((((tlvsOf x).filter (fun p => decide (p.1 = 4))).foldl (fun (y : State) p => y.requestGrant i x auth
      (beAt p.2.2 0 1 / 16) ((BitVec.ofNat 8 (beAt p.2.2 1 1)).toInt) (beAt p.2.2 2 4)) v).heard x i v) :=
  ptpRow_heard hAt ha (List.mem_singleton.2 hkind) (if_pos (by simp [State.negotiates, hmaster, hnego]))

/-- A cancelled grant ends, and the sender's cancellation is acknowledged. -/
theorem exec_cancelUnicastTransmission_ends {p : Nat × Nat × List Byte} {kind k : Nat}
    (htlv : (tlvsOf x).filter (fun p => decide (p.1 = 6)) = [p]) (hk : kind = beAt p.2.2 0 1 / 16)
    (hclient : v.findClient i x = some k) (hgrant : (clientGrant (v.client k) kind).isSome = true) :
    exec (.cancelUnicastTransmission t x) s = .next (((v.endGrant k kind).signal i x.port x.addr x.vlan x.src
      (be 2 7 ++ be 2 2 ++ be 1 (kind * 16) ++ be 1 0) none).heard x i v) := by
  subst hk
  refine ptpRow_heard hAt ha (List.mem_singleton.2 hkind) ((if_pos (by simp [State.negotiates, hmaster, hnego])).trans ?_)
  simp only [htlv, List.foldl_cons, List.foldl_nil, hclient, hgrant, if_true]
end

/-- An accepted Partner Report is held against the table and acknowledged (R318, R319). -/
theorem exec_partnerReport_taken {r : List Byte} {status handle interval : Nat} {w : State} (htlv : orgTlv x 2 = some r)
    (hon : v.flag E.ptpPartnerAccept i = true) (hauth : v.flag E.ptpPartnerAuth = true → auth = true) (hlen : 56 ≤ r.length)
    (hreport : v.partnerReport (r.take 56) x.port (v.stampTick x.stamp) = ((status, handle, interval), w)) :
    exec (.partnerReport t x) s = .next ((w.signal i x.port x.addr x.vlan x.src (be 2 3 ++ be 2 14 ++ be 3 0xAA473E ++
      be 3 3 ++ be 4 handle ++ be 1 status ++ be 1 0 ++ be 2 interval) none).packetEnd x.port x.stamp 0 5 (some 5)
        ((v.findClient i x).map (fun k => clientHandle k (v.client k))) 0xFF v.tai) := by
  have taken : ¬ (¬ v.flag E.ptpPartnerAccept i = true ∨ (v.flag E.ptpPartnerAuth = true ∧ ¬ auth = true) ∨
      r.length < 56) := by
    rintro (h | ⟨h, hno⟩ | h)
    · exact h hon
    · exact hno (hauth h)
    · omega
  refine (ptpRow_accepts hAt (List.mem_singleton.2 hkind) ha).trans ?_
  simp only [htlv, if_neg taken, hreport]
end

/-! ### Clients (R300 to R304) -/

section
variable {t : Nat} {s u : State} (hAt : At t s u)
include hAt

section
variable {slot kind : Nat} {g : Grant} (hgrant : clientGrant (u.client slot) kind = some g)
include hgrant

theorem exec_grantExpiry_over (hover : u.resolves [0x400, portIsland (u.client slot).port] g.expires = true) :
    exec (.grantExpiry t slot kind) s = .next (u.endGrant slot kind) := by
  change execGrantExpiry t slot kind s = _
  rw [execGrantExpiry, timed_at hAt, State.grantExpired, hgrant]
  exact congrArg _ (if_pos hover)

theorem exec_grantExpiry_running (hover : u.resolves [0x400, portIsland (u.client slot).port] g.expires = false) :
    exec (.grantExpiry t slot kind) s = .next u := by
  change execGrantExpiry t slot kind s = _
  rw [execGrantExpiry, timed_at hAt, State.grantExpired, hgrant]
  exact congrArg _ (if_neg (Bool.eq_false_iff.1 hover))
end

theorem exec_clientQuietExpiry_over {slot : Nat} (hfree : (u.client slot).used = false)
    (hover : (u.client slot).quietUntil ≤ u.now) :
    exec (.clientQuietExpiry t slot) s = .next (u.setClient slot { u.client slot with quietUntil := 0 }) := by
  change execClientQuietExpiry t slot s = _
  rw [execClientQuietExpiry, timed_at hAt]
  exact congrArg _ (if_pos ⟨Bool.eq_false_iff.1 hfree, hover⟩)

/-! ### Partners (R320) -/

/-- A partner that has not reported in time is dropped, with a ledger entry. -/
theorem exec_partnerAgeOut_late {k : Fin 4096} (hon : (u.partner k).active = true)
    (hlate : u.resolves (u.partnerPaths k) (u.partnerDeadline k) = true) {v : State}
    (hv : u.setPartner k { gen := (u.partner k).gen + 1, quietUntil := u.now + ticksS (u.n E.ptpPartnerQuiet) } = v) :
    exec (.partnerAgeOut t k) s = .next (v.partnerRefresh.partnerLedger k 1 (u.partner k).bound) := by
  subst hv
  change execPartnerAgeOut t k s = _
  rw [execPartnerAgeOut, timed_at hAt]
  exact congrArg _ (if_pos ⟨hon, hlate⟩)

theorem exec_partnerQuietExpiry_over {k : Fin 4096} (hfree : (u.partner k).active = false)
    (hover : (u.partner k).quietUntil ≤ u.now) :
    exec (.partnerQuietExpiry t k) s = .next (u.setPartner k { u.partner k with quietUntil := 0 }) := by
  change execPartnerQuietExpiry t k s = _
  rw [execPartnerQuietExpiry, timed_at hAt]
  exact congrArg _ (if_pos ⟨Bool.eq_false_iff.1 hfree, hover⟩)

/-! ### Associations (R305) -/

theorem exec_saQuietExpiry_over {a : Fin 1024} (hquiet : u.n E.saState a = 4) (hover : tabGet 0 a.val u.ptp.saQuiet ≤ u.now) :
    exec (.saQuietExpiry t a) s = .next (u.set E.saState a 0) := by
  change execSaQuietExpiry t a s = _
  rw [execSaQuietExpiry, timed_at hAt]
  exact congrArg _ (if_pos ⟨hquiet, hover⟩)
end

section
variable {c : Ctx} {v : State}

/-- An association is activated with a new handle. -/
theorem spSaCtrl_apply_activate {g : Nat} (h : c.v = 1) (hg : g = (tabGet 0 c.i v.ptp.saGen + 1) % 2 ^ 22) :
    spSaCtrl.apply c v = (({ v with ptp := { v.ptp with saGen := tabPut 0 c.i g v.ptp.saGen } }).set E.saHandle c.i
      (c.i * 2 ^ 22 + g)).set E.saState c.i 1 := by
  subst hg
  exact if_pos h

/-- An active association is freed with its window, quiet where there is a quiet time. -/
theorem spSaCtrl_apply_free {q : Nat} {y : State} (h : c.v = 2) (hon : v.n E.saState c.i = 1) (hq : q = ticksS (v.n E.ptpSaQuiet))
    (hy : { v with ptp := { v.ptp with
      saQuiet := tabPut 0 c.i (v.now + q) v.ptp.saQuiet
      saWindow := v.ptp.saWindow.filter (fun w => decide (w.1 ≠ c.i)) } } = y) :
    spSaCtrl.apply c v = y.set E.saState c.i (if q = 0 then 0 else 4) := by
  subst hq hy
  exact (if_neg (by simp [h])).trans (if_pos hon)
end

/-- Settles O27: each clause is its message's row where the message is accepted, its command's row, or its entry's effect. -/
theorem clientCommands : Obligations.ClientCommands := by
  intro t s u hAt
  exact ⟨fun x i auth v hkind ha => exec_requestUnicastTransmission_answers hAt hkind ha,
    fun x i auth v p kind k hkind ha hmaster hnego => exec_cancelUnicastTransmission_ends hAt hkind ha hmaster hnego,
    fun slot kind g => exec_grantExpiry_over hAt, fun slot kind g => exec_grantExpiry_running hAt,
    fun slot => exec_clientQuietExpiry_over hAt, fun m w v ho => writeRow_opens hAt ho,
    fun m w w' x v ho => writeRow_opens hAt ho,
    fun x i auth y r status handle interval v hkind ha => exec_partnerReport_taken hAt hkind ha,
    fun k hon hlate v => exec_partnerAgeOut_late hAt hon hlate, fun k => exec_partnerQuietExpiry_over hAt,
    fun m w v ho => writeRow_opens hAt ho, fun m w w' x v ho => writeRow_opens hAt ho,
    fun m w a v g ho hg => writeRow_applies hAt ho (spSaCtrl_apply_activate rfl hg),
    fun m w a v q y ho hon hq hy => writeRow_applies hAt ho (spSaCtrl_apply_free rfl hon hq hy),
    fun a => exec_saQuietExpiry_over hAt⟩

end Sys2Proof.Machine
end

section
/-! NTP and NTS (R327 to R339): a request's stages, its NTS answer, and the rotation of the master keys. -/

namespace Sys2Proof.Machine

/-! ### The stages of a request (R327, R331, R337, R339) -/

/-- The end of a request that is dropped after its issue (R440, R442). -/
def State.ntpDropped (s : State) (x : NtpRx) : State := s.packetEnd x.port x.stamp 2 1 none none 0xFF s.tai

section
variable {g : State} {x : NtpRx} (hquiet : g.ptpQuiet = false) (htakes : g.ntpTakes x = true) (f : State → State)
include hquiet htakes

theorem State.ntpStages_malformed (hbad : ntpMalformed x = true) : g.ntpStages x f = (g.bump E.ntpMalformed).ntpDropped x :=
  (if_neg (by simp [hquiet, htakes])).trans (if_pos hbad)

section
variable (hgood : ntpMalformed x = false)
include hgood

theorem State.ntpStages_refused (hplain : isNts x = false) (hmode : g.n E.ntpAuthMode = 1) :
    g.ntpStages x f = (g.bump E.ntpPlainRefused).ntpDropped x :=
  (if_neg (by simp [hquiet, htakes])).trans ((if_neg (Bool.eq_false_iff.1 hgood)).trans
    (if_pos ⟨hmode, Bool.eq_false_iff.1 hplain⟩))

section
variable {nts : Bool} {v : State} (hnts : isNts x = nts) (hmode : nts = true ∨ g.n E.ntpAuthMode ≠ 1)
include hnts hmode

/-- A request within its limit is counted, charged and served; it is counted ahead of the rate test (the model's choice, log 73). -/
theorem State.ntpStages_within (hcharge : ((g.bump E.ntpRequests).svcPacket nts true).charge x = (true, v)) :
    g.ntpStages x f = f v := by
  subst hnts
  have accepted : ¬ (g.n E.ntpAuthMode = 1 ∧ ¬ isNts x = true) := fun h => hmode.elim h.2 (· h.1)
  refine (if_neg (by simp [hquiet, htakes])).trans ((if_neg (Bool.eq_false_iff.1 hgood)).trans ((if_neg accepted).trans ?_))
  simp only [hcharge]

/-- A request over its limit is answered RATE, or dropped. -/
theorem State.ntpStages_over (hcharge : ((g.bump E.ntpRequests).svcPacket nts true).charge x = (false, v)) {y : State}
    (hy : v.bump E.ntpRateDrop = y) {b : Bucket} (hb : y.bucketAt (y.bucketNo x) (y.stampTick x.stamp) = b) {may : Bool}
    (hmay : b.kod.all (fun k => decide (k + ticksMs (y.n E.ntpKodInterval) ≤ y.stampTick x.stamp)) = may) :
    g.ntpStages x f = if ¬ nts = true ∧ y.flag E.ntpKodEnable = true ∧ may = true
      then ((y.setBucket (y.bucketNo x) { b with kod := some (y.stampTick x.stamp) }).bump E.ntpKodSent).ntpSend
        (ntpOrigin x 3) [] none
      else y.ntpDropped x := by
  subst hnts hmay
  have accepted : ¬ (g.n E.ntpAuthMode = 1 ∧ ¬ isNts x = true) := fun h => hmode.elim h.2 (· h.1)
  refine (if_neg (by simp [hquiet, htakes])).trans ((if_neg (Bool.eq_false_iff.1 hgood)).trans ((if_neg accepted).trans ?_))
  simp only [hcharge, hy, hb]
  refine if_congr (and_congr Iff.rfl (and_congr Iff.rfl ?_)) rfl rfl
  cases b.kod with
  | none => rw [Option.all_none]
  | some k => rw [Option.all_some]
end
end
end

/-! ### An NTS request's answer (R332, R335) -/

section
variable {u : State} {x : NtpRx} {l : List (Nat × Nat × Nat)} {off : Nat × Nat × Nat} {cookie : List Byte} {keyId : Nat}
  (hexts : ntpExts x = some l) (hoff : (fieldsOf l 0x204).head? = some off)
  (hcookie : (x.payload.drop (off.2.1 + 4)).take 104 = cookie) (hid : beAt cookie 0 4 = keyId)
include hexts hoff hcookie hid

theorem State.ntsServe_unknown (hkey : u.ntsAccepted keyId x.stamp = none) : u.ntsServe x = u.ntsNak x := by
  obtain ⟨rest, hfields⟩ := List.head?_eq_some_iff.1 hoff
  subst hcookie hid
  rw [State.ntsServe, hexts]
  simp only [hfields, hkey]

section
variable {slot : Nat} {k : List Byte} {use : KeyUse} {label : Option (List Byte)} {z : State}
  (hkey : u.ntsAccepted keyId x.stamp = some slot)
  (huse : u.ntsUse slot keyId = (use, label)) (hk : u.useKey use label = (.key k, z))
include hkey huse hk

theorem State.ntsServe_closed (hopen : openCookie k cookie = none) : u.ntsServe x = z.ntsNak x := by
  obtain ⟨rest, hfields⟩ := List.head?_eq_some_iff.1 hoff
  subst hcookie hid
  rw [State.ntsServe, hexts]
  simp only [hfields, hkey, huse, hk, hopen]

/-- A cookie that opens is answered, where the authenticator verifies, with cookies minted under the current key. -/
theorem State.ntsServe_opened {ao : Nat × Nat × Nat} {c2s s2c : List Byte} {id m : Nat} {use' : KeyUse}
    {label' : Option (List Byte)} {master : List Byte} {z' : State} (hao : (fieldsOf l 0x404).head? = some ao)
    (hopen : openCookie k cookie = some (c2s, s2c)) (hdrbg : z.n E.drbgState = 1)
    (hcurrent : z.ntsCurrent = some (id, m)) (huse' : z.ntsUse m id = (use', label'))
    (hmaster : z.useKey use' label' = (.key master, z')) : u.ntsServe x = if authOk x.payload ao.2.1 c2s = true
      then ntsAnswer x keyId (refSlot use.ref) s2c (z'.mint id master c2s s2c (cookieCount x l)) else z.ntsNak x := by
  obtain ⟨rest, hfields⟩ := List.head?_eq_some_iff.1 hoff
  obtain ⟨rest', hfields'⟩ := List.head?_eq_some_iff.1 hao
  subst hcookie hid
  rw [State.ntsServe, hexts]
  simp only [hfields, hfields', hkey, huse, hk, hopen, hcurrent, huse', hmaster]
  by_cases hok : authOk x.payload ao.2.1 c2s = true
  · rw [if_neg (by simp [hok, hdrbg]), if_pos hok]
  · rw [if_pos (.inl hok), if_neg hok]
end
end

/-- The NTS response seals its cookies under S2C with a fresh nonce, in the state that minted them (R332). -/
theorem ntsAnswer_eq {x : NtpRx} {keyId slot : Nat} {s2c : List Byte} {cs : List (List Byte)} {v : State} {uid : List Byte}
    {o : Origin} (huid : uniqueId x.payload = uid)
    (ho : o = { ntpOrigin x 1 with inst := keyId, seq := v.slotGen slot, client := some slot }) :
    ntsAnswer x keyId slot s2c (cs, v) = (v.drew.bump E.ntpMinted 0 cs.length).ntpSend o uid
      (some { kind := 3, key := s2c, at_ := 48 + uid.length, nonce := v.randomBytes 16,
              plain := cs.flatMap (fun c => be 2 0x204 ++ be 2 108 ++ c) }) := by
  subst huid ho
  rfl

/-! ### The commands at their tick -/

section
variable {t : Nat} {s u : State} (hAt : At t s u)
include hAt

section
variable {x : NtpRx} {g : State} (hw : Waits x u g)
include hw

theorem exec_ntpRequest_waits (hplain : isNts x = false) : exec (.ntpRequest t x) s =
    .next (g.ntpStages x (fun s => s.ntpSend (ntpOrigin x 0) [] none)) := by
  change execNtpRequest t x s = _
  rw [execNtpRequest, timed_at hAt, if_neg (Bool.eq_false_iff.1 hplain), State.ntpTakeFrame_waits hw]

theorem exec_ntsRequest_waits (hnts : isNts x = true) : exec (.ntsRequest t x) s =
    .next (g.ntpStages x (fun s => (s.bump E.ntpNtsRequests).ntsServe x)) := by
  change execNtsRequest t x s = _
  rw [execNtsRequest, timed_at hAt, if_pos hnts, State.ntpTakeFrame_waits hw]

section
variable (hquiet : g.ptpQuiet = false) (htakes : g.ntpTakes x = true)
include hquiet htakes

theorem exec_ntpRequest_malformed (hbad : ntpMalformed x = true) (hplain : isNts x = false) {v : State}
    (hv : g.bump E.ntpMalformed = v) : exec (.ntpRequest t x) s = .next (v.ntpDropped x) := by
  rw [exec_ntpRequest_waits hAt hw hplain, State.ntpStages_malformed hquiet htakes _ hbad, hv]

section
variable (hgood : ntpMalformed x = false)
include hgood

section
variable (hplain : isNts x = false)
include hplain

theorem exec_ntpRequest_refused (hmode : g.n E.ntpAuthMode = 1) {v : State} (hv : g.bump E.ntpPlainRefused = v) :
    exec (.ntpRequest t x) s = .next (v.ntpDropped x) := by
  rw [exec_ntpRequest_waits hAt hw hplain, State.ntpStages_refused hquiet htakes _ hgood hplain hmode, hv]

section
variable (hmode : g.n E.ntpAuthMode ≠ 1) {v : State}
include hmode

theorem exec_ntpRequest_within (hcharge : ((g.bump E.ntpRequests).svcPacket false true).charge x = (true, v)) :
    exec (.ntpRequest t x) s = .next (v.ntpSend (ntpOrigin x 0) [] none) := by
  rw [exec_ntpRequest_waits hAt hw hplain,
    State.ntpStages_within hquiet htakes _ hgood hplain (.inr hmode) hcharge]

section
variable (hcharge : ((g.bump E.ntpRequests).svcPacket false true).charge x = (false, v)) {y : State}
  (hy : v.bump E.ntpRateDrop = y)
include hcharge hy

theorem exec_ntpRequest_dropped (hkod : y.flag E.ntpKodEnable = false) :
    exec (.ntpRequest t x) s = .next (y.ntpDropped x) := by
  rw [exec_ntpRequest_waits hAt hw hplain,
    State.ntpStages_over hquiet htakes _ hgood hplain (.inr hmode) hcharge hy rfl rfl, if_neg (by simp [hkod])]

/-- The first request over its limit of a source that is to be told is answered RATE (R338). -/
theorem exec_ntpRequest_rate (hkod : y.flag E.ntpKodEnable = true) {b : Bucket}
    (hb : y.bucketAt (y.bucketNo x) (y.stampTick x.stamp) = b) (hfirst : b.kod = none) :
    exec (.ntpRequest t x) s = .next (((y.setBucket (y.bucketNo x) { b with kod := some (y.stampTick x.stamp) }).bump
      E.ntpKodSent).ntpSend (ntpOrigin x 3) [] none) := by
  rw [exec_ntpRequest_waits hAt hw hplain, State.ntpStages_over hquiet htakes _ hgood hplain (.inr hmode) hcharge hy hb rfl,
    if_pos (by simp [hkod, hfirst])]
end
end
end

section
variable (hnts : isNts x = true) {v : State}
  (hcharge : ((g.bump E.ntpRequests).svcPacket true true).charge x = (true, v))
include hnts hcharge

theorem exec_ntsRequest_served : exec (.ntsRequest t x) s = .next ((v.bump E.ntpNtsRequests).ntsServe x) := by
  rw [exec_ntsRequest_waits hAt hw hnts, State.ntpStages_within hquiet htakes _ hgood hnts (.inl rfl) hcharge]

/-- A cookie whose key is not accepted gets an NTS NAK (R335). -/
theorem exec_ntsRequest_nak {y : State} {l : List (Nat × Nat × Nat)} {off : Nat × Nat × Nat} {cookie : List Byte}
    (hy : v.bump E.ntpNtsRequests = y) (hexts : ntpExts x = some l) (hoff : (fieldsOf l 0x204).head? = some off)
    (hcookie : (x.payload.drop (off.2.1 + 4)).take 104 = cookie) (hkey : y.ntsAccepted (beAt cookie 0 4) x.stamp = none) :
    exec (.ntsRequest t x) s = .next ((y.bump E.ntpNak).ntpSend (ntpOrigin x 2) (uniqueId x.payload) none) := by
  rw [exec_ntsRequest_served hAt hw hquiet htakes hgood hnts hcharge, hy,
    State.ntsServe_unknown hexts hoff hcookie rfl hkey, State.ntsNak]
end
end
end
end

theorem exec_ntsRotation_due (hsource : u.n E.ntsKeySource = 0)
    (hdue : u.atWhole (u.n E.ntsRotatePeriod * secondUnit) = true) : exec (.ntsRotation t) s =
      .next ((u.set E.ntsKeyId 0 u.ntsKeyView.1).set E.ntsRotateIn 0 u.ntsKeyView.2) := by
  change execNtsRotation t s = _
  rw [execNtsRotation, timed_at hAt]
  exact congrArg _ (if_pos ⟨hsource, hdue⟩)
end

/-! ### Provisioned master keys (R334) -/

section
variable {c : Ctx} {v : State}

/-- The slot that becomes CURRENT leaves the one before it ACTIVE. -/
theorem spMkCtrl_apply_current {y : State} (h : c.v = 1) (hy : v.mkKeep = y) : spMkCtrl.apply c v =
    ((List.range 8).foldl (fun (s : State) m => if s.n E.ntsMkState m = 2 then s.set E.ntsMkState m 1 else s) y).set
      E.ntsMkState c.i 2 :=
  hy ▸ if_pos h

theorem spMkCtrl_apply_retire (h : c.v = 2) : spMkCtrl.apply c v = v.mkKeep.set E.ntsMkState c.i 0 := if_neg (by simp [h])
end

/-- Settles O28: each clause is a stage of its request, an answer's own equation, or its entry's effect. -/
theorem ntpCommands : Obligations.NtpCommands := by
  intro t s u hAt
  refine ⟨fun x g v hw hquiet htakes hgood hplain hmode =>
      exec_ntpRequest_within hAt hw hquiet htakes hgood hplain hmode,
    fun x g hw hquiet htakes hbad hplain v => exec_ntpRequest_malformed hAt hw hquiet htakes hbad hplain,
    fun x g hw hquiet htakes hgood hplain hmode v => exec_ntpRequest_refused hAt hw hquiet htakes hgood hplain hmode,
    fun x g v y hw hquiet htakes hgood hplain hmode hcharge =>
      exec_ntpRequest_dropped hAt hw hquiet htakes hgood hplain hmode hcharge,
    fun x g v y b hw hquiet htakes hgood hplain hmode hcharge hy hkod =>
      exec_ntpRequest_rate hAt hw hquiet htakes hgood hplain hmode hcharge hy hkod,
    fun x g v y l off cookie hw hquiet htakes hgood hnts hcharge =>
      exec_ntsRequest_nak hAt hw hquiet htakes hgood hnts hcharge,
    fun x g v hw hquiet htakes hgood hnts => exec_ntsRequest_served hAt hw hquiet htakes hgood hnts, ?_,
    fun x keyId slot s2c cs v uid o => ntsAnswer_eq, exec_ntsRotation_due hAt,
    fun m w i v y ho hy => writeRow_applies hAt ho (spMkCtrl_apply_current rfl hy),
    fun m w i v ho => writeRow_applies hAt ho (spMkCtrl_apply_retire rfl)⟩
  intro x l off ao cookie keyId slot k use label z id m use' label' z' master hexts hoff hao hcookie hid hkey huse hk hdrbg
    hcurrent huse' hmaster
  cases hopen : openCookie k cookie with
  | none => exact State.ntsServe_closed hexts hoff hcookie hid hkey huse hk hopen
  | some p => exact State.ntsServe_opened hexts hoff hcookie hid hkey huse hk hao hopen hdrbg hcurrent huse' hmaster

end Sys2Proof.Machine
end

section
/-! Capture and inline pairs (R342 to R355): a received frame passed through and recorded, a digest's end, losses, and the pairs. -/

namespace Sys2Proof.Machine

/-! ### Received frames (R344, R345, R347 to R352) -/

/-- A frame received on a port of an ACTIVE pair leaves at the peer after the fixed latency of the pair's mode. -/
theorem State.inlinePass_active {u : State} {p : Nat} (e : T96) (b : List Byte) (h : u.n E.inlineState p = 2) :
    u.inlinePass p e b = u.emit (.frame (u.n E.inlinePeer p)
      (some (e + (unitsOfPs (if u.n E.portMode p = 1 then 7900 else 3600)).toNat)) [] b) := if_pos h

/-- The RUNT, NO_DIGEST, BULK and INVALID flags of the record of a good frame (R349). -/
def goodFrameFlags (len : Nat) (digest : Bool) (mode : Nat) (bad : Bool) : Nat :=
  ofBool (decide (len < 64)) + 2 * ofBool (!digest) + 16 * ofBool (decide (mode = 1)) + 32 * ofBool bad

section
variable {t : Nat} {s u : State} (hAt : At t s u) {x : TapObs} {p w : Nat} {e : T96} {a : State} (hp : p = x.port.val)
  (hw : w = u.n E.tapWorld p) (he : u.stampAt (portIsland p) x.edge = e) (ha : u.inlinePass p e x.bytes = a)
include hAt hp hw he ha

/-- A port whose frames no world records passes them on all the same. -/
theorem exec_tapFrame_unrecorded (hnone : w = 0xFF) : exec (.tapFrame t x) s = .next a := by
  subst hp hw he ha
  change execTapFrame t x s = _
  rw [execTapFrame, timed_at hAt]
  exact congrArg _ (if_pos (.inr (.inl hnone)))

section
variable {b : State} {bad : Bool} (hrole : a.n E.portRole p ≠ 0) (hworld : w ≠ 0xFF) (hquiet : a.ptpQuiet = false)
  (hup : a.linkIsUp p = true) (hbytes : x.bytes ≠ []) (haborted : x.aborted = false) (hfcs : fcsOk x.bytes = true)
  (hb : a.marksBefore p (a.rxStamp p e) = b) (hbad : b.tapInvalid p = bad)
include hrole hworld hquiet hup hbytes haborted hfcs hb hbad

/-- A good frame takes the port's next SEQ, after the marks due before it, and one record; `digest` says whether its digest is
queued. -/
theorem exec_tapFrame_captured {y y' z : State} {fill bound q : Nat} {digest : Bool}
    (hy : (if bad then (b.bump E.tapFrames p).bump E.tapInvalid p else b.bump E.tapFrames p) = y)
    (hfill : fill = (y.tap.records.filter (·.msg.isSome)).length)
    (hdigest : digest = (decide (y.keyReason y.digestUse = 0) && decide (fill < 4096)))
    (hy' : (if ¬ decide (y.keyReason y.digestUse = 0) = true then y.bump E.tapKeyFail
      else if 4096 ≤ fill then y.bump E.tapNoDigest p else y) = y')
    (hbound : bound = (if bad then 0xFFFFFFFF else y'.emitted (y'.portAdd p))) (hseq : y'.tapSeq p = (q, z)) {r : TapRec}
    (hr : r = { world := w, port := p, time := z.rxStamp p e, bound := bound,
                flags := goodFrameFlags x.bytes.length digest (y'.stampMode p) bad, length := min x.bytes.length 65535, seq := q,
                msg := if digest then some (x.bytes.take 128) else none }) :
    exec (.tapFrame t x) s = .next (((({ z with tap := { z.tap with records := z.tap.records ++ [r] } }).noteOut bound).perfEvent
      0x305 p).tapRelease) := by
  have captured : ¬ (a.n E.portRole p = 0 ∨ w = 0xFF ∨ a.ptpQuiet = true ∨ ¬ a.linkIsUp p = true ∨
      (x.bytes.isEmpty = true ∧ ¬ x.aborted = true)) := by
    simp [hrole, hworld, hquiet, hup, hbytes]
  subst hp hw he ha hfill hdigest hbound hr
  change execTapFrame t x s = _
  rw [execTapFrame, timed_at hAt]
  refine congrArg _ ((if_neg captured).trans ?_)
  simp only [hb, hbad, haborted, hfcs, Bool.not_true, Bool.and_false, Bool.false_eq_true, if_false, hy, hy', hseq]
  rfl

/-- With a usable key and room its digest is queued. -/
theorem exec_tapFrame_queued {y z : State} {fill bound flags q : Nat}
    (hy : (if bad then (b.bump E.tapFrames p).bump E.tapInvalid p else b.bump E.tapFrames p) = y)
    (hkey : y.keyReason y.digestUse = 0) (hfill : fill = (y.tap.records.filter (·.msg.isSome)).length) (hroom : fill < 4096)
    (hbound : bound = (if bad then 0xFFFFFFFF else y.emitted (y.portAdd p)))
    (hflags : flags = ofBool (decide (x.bytes.length < 64)) + 16 * ofBool (decide (y.stampMode p = 1)) + 32 * ofBool bad)
    (hseq : y.tapSeq p = (q, z)) {r : TapRec}
    (hr : r = { world := w, port := p, time := z.rxStamp p e, bound := bound, flags := flags,
                length := min x.bytes.length 65535, seq := q, msg := some (x.bytes.take 128) }) :
    exec (.tapFrame t x) s = .next (((({ z with tap := { z.tap with records := z.tap.records ++ [r] } }).noteOut bound).perfEvent
      0x305 p).tapRelease) :=
  exec_tapFrame_captured hAt hp hw he ha hrole hworld hquiet hup hbytes haborted hfcs hb hbad (digest := true) hy hfill
    (by simp [hkey, hroom]) (by simp [hkey, Nat.not_le.2 hroom]) hbound hseq (by rw [hr, hflags]; rfl)

/-- Without a usable key it has none: that is counted and marked. -/
theorem exec_tapFrame_keyless {y y' z : State} {bound flags q : Nat} (hgood : bad = false) (hy : b.bump E.tapFrames p = y)
    (hkey : y.keyReason y.digestUse ≠ 0) (hy' : y.bump E.tapKeyFail = y') (hbound : bound = y'.emitted (y'.portAdd p))
    (hflags : flags = ofBool (decide (x.bytes.length < 64)) + 2 + 16 * ofBool (decide (y'.stampMode p = 1)))
    (hseq : y'.tapSeq p = (q, z)) {r : TapRec}
    (hr : r = { world := w, port := p, time := z.rxStamp p e, bound := bound, flags := flags,
                length := min x.bytes.length 65535, seq := q, msg := none }) :
    exec (.tapFrame t x) s = .next (((({ z with tap := { z.tap with records := z.tap.records ++ [r] } }).noteOut bound).perfEvent
      0x305 p).tapRelease) :=
  exec_tapFrame_captured hAt hp hw he ha hrole hworld hquiet hup hbytes haborted hfcs hb hbad (digest := false)
    (y := y) (y' := y') (by simp [hgood, hy]) rfl (by simp [hkey]) (by simp [hkey, hy']) (by simp [hgood, hbound]) hseq
    (by rw [hr, hflags, hgood]; rfl)
end
end

section
variable {t : Nat} {s u : State} (hAt : At t s u)
include hAt

/-! ### Digests (R351, R352) -/

section
variable {r : TapRec} (hr : u.tap.records.find? (·.msg.isSome) = some r)
include hr

theorem exec_tapDigestComplete_signed {k : List Byte} {v : State} {r' : TapRec} (hk : u.useKey u.digestUse = (.key k, v))
    (hr' : r' = { r with msg := none, digest := (cmac k (r.msg.getD [])).take 8 }) :
    exec (.tapDigestComplete t) s = .next ({ v with tap := { v.tap with
      records := v.tap.records.map (fun x => if x = r then r' else x) } }).tapRelease := by
  subst hr'
  change execTapDigestComplete t s = _
  rw [execTapDigestComplete, timed_at hAt]
  simp only [hr, hk]

theorem exec_tapDigestComplete_refused {c : Nat} {v y : State} {r' : TapRec} (hk : u.useKey u.digestUse = (.refused c, v))
    (hr' : r' = { r with msg := none, flags := setBit r.flags 1 true }) (hy : v.bump E.tapKeyFail = y) :
    exec (.tapDigestComplete t) s = .next ({ y with tap := { y.tap with
      records := y.tap.records.map (fun x => if x = r then r' else x) } }).tapRelease := by
  subst hr' hy
  change execTapDigestComplete t s = _
  rw [execTapDigestComplete, timed_at hAt]
  simp only [hr, hk]
end

/-! ### Losses (R354) -/

theorem exec_tapLossRecord (w : Fin 16) : exec (.tapLossRecord t w) s = .next (u.tapFlush w 17) := by
  change execTapLossRecord t w s = _
  rw [execTapLossRecord, timed_at hAt]

/-! ### Inline pairs (R344, R346) -/

/-- A direction whose receiving port loses lock is squelched; what else is cleared is the model's choice (log 142). -/
theorem exec_inlineLockLoss_active {p : Fin 16} {v : State} (hactive : u.n E.inlineState p = 2)
    (hv : { u with tap := { u.tap with squelched := u.tap.squelched ++ [p.val] } } = v) : exec (.inlineLockLoss t p) s =
      .next (((v.bump E.inlineSquelches p).set E.portLink p 0).set E.portCalState p 0).inlineRefresh := by
  subst hv
  change execInlineLockLoss t p s = _
  rw [execInlineLockLoss, timed_at hAt]
  exact congrArg _ (if_pos hactive)

theorem exec_inlineLockReturn_squelched {p : Fin 16} {v : State} (hsquelched : u.n E.inlineState p = 3)
    (hv : { u with tap := { u.tap with squelched := u.tap.squelched.filter (· ≠ p.val) } } = v) :
    exec (.inlineLockReturn t p) s = .next ((((v.setPort p { v.port p with calFrom := v.now }).set E.portLink p 1).set
      E.portCalState p 1)).inlineRefresh := by
  subst hv
  change execInlineLockReturn t p s = _
  rw [execInlineLockReturn, timed_at hAt]
  exact congrArg _ (if_pos hsquelched)
end

/-- The lowest port's pending loss takes a free slot of its world's ring (R354). -/
theorem State.tapFlush_room {u v : State} {w fuel : Nat} {l : TapLoss} (hl : u.nextLoss w = some l)
    (hroom : u.ringRoom (8 * w + 4) = true)
    (hv : { u with tap := { u.tap with losses := u.tap.losses.erase l } } = v) : u.tapFlush w (fuel + 1) =
      ((v.ringWrite (8 * w + 4) (tapLossBytes l)).lossRefresh l.port).tapFlush w fuel := by
  subst hv
  rw [State.tapFlush, hl]
  exact if_pos hroom

/-- Storing one word sets the entry to that word's number. -/
theorem State.setWords_one (v : State) (e : Entry) (i : Nat) (x : Word) : v.setWords e i [x] = v.set e i x.toNat :=
  congrArg (v.setWordAt e i 0 0) (by rw [BitVec.ofNat_toNat, BitVec.setWidth_eq])

/-- A pair is made or dismantled without what was squelched of it. -/
theorem spInlinePeer_apply {c : Ctx} {v y : State} (hy : v.set E.inlinePeer c.i c.v = y) : spInlinePeer.apply c v =
    ({ y with tap := { y.tap with
      squelched := y.tap.squelched.filter (fun q => q ≠ c.i && q ≠ v.n E.inlinePeer c.i) } }).inlineRefresh :=
  hy ▸ rfl

/-- Settles O29: each clause is its command's row on the state at its tick, an operation's own equation, or its entry's effect. -/
theorem tapCommands : Obligations.TapCommands := by
  intro t s u hAt
  exact ⟨fun x p w e a hp hw he ha => ⟨exec_tapFrame_unrecorded hAt hp hw he ha,
      fun b bad y fill bound flags q z hrole hworld hquiet hup hbytes haborted hfcs hb hbad hy hkey hfill hroom hbound hflags
        hseq r => exec_tapFrame_queued hAt hp hw he ha hrole hworld hquiet hup hbytes haborted hfcs hb hbad hy hkey hfill hroom
          hbound hflags hseq,
      fun b y y' bound flags q z hrole hworld hquiet hup hbytes haborted hfcs hb hbad hy hkey hy' hbound hflags hseq r =>
        exec_tapFrame_keyless hAt hp hw he ha hrole hworld hquiet hup hbytes haborted hfcs hb hbad rfl hy hkey hy' hbound hflags
          hseq⟩,
    fun p e b => State.inlinePass_active e b, fun r k v r' hr => exec_tapDigestComplete_signed hAt hr,
    fun r c v y r' hr => exec_tapDigestComplete_refused hAt hr, exec_tapLossRecord hAt,
    fun w l fuel hl hroom v => State.tapFlush_room hl hroom,
    fun m w p x v ho => writeRow_applies hAt ho (State.setWords_one v E.tapWorld p x),
    fun m w p x v y ho hy => writeRow_applies hAt ho (spInlinePeer_apply hy), fun p v => exec_inlineLockLoss_active hAt,
    fun p v => exec_inlineLockReturn_squelched hAt⟩

end Sys2Proof.Machine
end

section
/-! Juniper's strobes, satellites and epochs (R359 to R376). -/

namespace Sys2Proof.Machine

section
variable {t : Nat} {s u : State} (hAt : At t s u)
include hAt

/-! ### Sample strobes (R361, R362) -/

section
variable {b : Fin 2} {mon : Fin 3} {since : Nat} (hp : u.present 0 = true) (hawake : u.gnssAsleep = false)
include hp hawake

/-- A monitor that fails makes the samples of a band that had none of them wrong invalid from `d` on; 1 ms before the rate monitor's
decision is the model's choice (log 77). -/
theorem exec_gnssStrobeFault_first {d : Nat} {v : State} (hgood : tabGet none b.val u.gnss.bad = none)
    (hd : d = (if mon = 2 then u.now - 500000 else since))
    (hv : { u with gnss := { u.gnss with bad := tabPut none b.val (some (min d u.now)) u.gnss.bad } } = v) :
    exec (.gnssStrobeFault t b mon since) s = .next ((v.bump E.gnssStbFaults).raise 321 none b) := by
  subst hd hv
  change execGnssStrobeFault t b mon since s = _
  rw [execGnssStrobeFault, timed_at hAt]
  refine congrArg _ ((if_neg (by simp [hp, hawake])).trans ?_)
  simp only [hgood, Option.isSome_none, Bool.false_eq_true, if_false]

theorem exec_gnssStrobeFault_again {d : Nat} (hbad : tabGet none b.val u.gnss.bad = some d) :
    exec (.gnssStrobeFault t b mon since) s = .next ((u.bump E.gnssStbFaults).raise 321 none b) := by
  change execGnssStrobeFault t b mon since s = _
  rw [execGnssStrobeFault, timed_at hAt]
  refine congrArg _ ((if_neg (by simp [hp, hawake])).trans ?_)
  simp only [hbad, Option.isSome_some, if_true]
end

section
variable {b : Fin 2} {d : Nat} (hbad : tabGet none b.val u.gnss.bad = some d)
include hbad

theorem exec_gnssCoastTimeout_late (hlate : d + ticksMs (u.n E.gnssCoastMax) < u.now) :
    exec (.gnssCoastTimeout t b) s = .next (u.coastOut b) := by
  change execGnssCoastTimeout t b s = _
  rw [execGnssCoastTimeout, timed_at hAt]
  simp only [hbad]
  exact congrArg _ (if_pos hlate)

theorem exec_gnssCoastTimeout_coasting (hcoasts : u.now ≤ d + ticksMs (u.n E.gnssCoastMax)) :
    exec (.gnssCoastTimeout t b) s = .next u := by
  change execGnssCoastTimeout t b s = _
  rw [execGnssCoastTimeout, timed_at hAt]
  simp only [hbad]
  exact congrArg _ (if_neg (Nat.not_lt.2 hcoasts))

/-- Valid samples return to channels that still coast, or, after `coastOut`, to channels that acquire anew. -/
theorem exec_gnssStrobeReturn_bad {w v : State}
    (hw : (if d + ticksMs (u.n E.gnssCoastMax) < u.now then u.coastOut b else u) = w)
    (hv : { w with gnss := { w.gnss with bad := tabPut none b.val none w.gnss.bad,
                                         back := tabPut none b.val (some w.now) w.gnss.back } } = v) :
    exec (.gnssStrobeReturn t b) s = .next (v.smoothRestart (fun x => !(if b.val = 0 then x.lost1 else x.lost2))) := by
  subst hw hv
  change execGnssStrobeReturn t b s = _
  rw [execGnssStrobeReturn, timed_at hAt]
  simp only [hbad]
end

/-! ### Satellites (R364, R368) -/

/-- A satellite without a slot takes the lowest free one. -/
theorem exec_gnssAcquisition_new {sys : Fin 4} {prn azim i : Nat} {elev : Int} {v w : State} (hp : u.present 0 = true)
    (hawake : u.gnssAsleep = false) (hquiet : u.quietOver = true) (hsys : bitOf (u.n E.gnssSystems) sys = true)
    (hprn : prnOk sys prn = true) (helev : (u.n E.gnssElevMask : Int) * 10 - 20 ≤ elev)
    (hnew : ∀ j x, j < 64 → u.sat j = some x → ¬ (x.sys = sys ∧ x.prn = prn))
    (hfree : (List.range 64).find? (fun i => (u.sat i).isNone) = some i)
    (hv : u.setSat i (some { sys := sys, prn := prn, lost1 := u.clusterOut 0 i, lost2 := u.clusterOut 1 i, n := 0, cmc := [],
                             fit1 := u.now, fit2 := u.now }) = v)
    (hw : (((v.set E.gnssSvId i (satKey sys prn)).setInt E.gnssSvElev i elev).set E.gnssSvAzim i azim).satRefresh i = w)
    (hfixed : w.gnss.fixed = true) : exec (.gnssAcquisition t sys prn elev azim) s = .next w := by
  have free : u.sat i = none := by simpa using List.find?_some hfree
  change execGnssAcquisition t sys prn elev azim s = _
  rw [execGnssAcquisition, timed_at hAt]
  refine congrArg _ ((if_neg (by simp [hp, hawake, hquiet, hsys, hprn, helev])).trans ?_)
  dsimp only
  rw [List.find?_eq_none.2, Option.orElse_none, hfree]
  · simp only [free, Option.getD_none, hv, hw]
    exact if_pos hfixed
  · intro j hj
    cases hx : u.sat j with
    | none => exact Bool.false_ne_true
    | some x => exact fun h => hnew j x (List.mem_range.1 hj) hx (of_decide_eq_true h)

/-! ### Epochs (R366, R367, R373, R374) -/

/-- The first epoch is taken at its instant, decoded and solved at the epoch's own tick (log 143). -/
theorem exec_measurementEpoch_first {x : EpochObs} {unit te : Nat} {v w y z : State}
    (hunit : unit = secondUnit / max 1 u.gnssRate) (hte : te = u.privet.time / unit * unit) (hp : u.present 0 = true)
    (hquiet : u.quietOver = true) (hwhole : u.atWhole unit = true) (hfirst : u.gnss.lastEpoch = none)
    (hawake : u.gnssAsleep = false)
    (hv : { u with gnss := { u.gnss with
      lastEpoch := some (te / 2 ^ 40), rate := u.gnssRate
      ratePend := if u.gnssRate = u.n E.gnssEpochRate then none else u.gnss.ratePend } } = v)
    (hw : (v.setT96 E.gnssEpochTime 0 (te / 2 ^ 40)).perfEvent 0x501 0 = w) (hgoes : w.gnss.restart = false)
    (hy : (w.epochDecode x).epochSats x.sats = y)
    (hz : { y with gnss := { y.gnss with
      corrections := y.gnss.corrections.filter (fun r => decide (te / 2 ^ 40 < r.2.until')) } } = z) :
    exec (.measurementEpoch t x) s = .next (z.corrRefresh.epochSolve (te * 10 ^ 6 / 2 ^ 56) (te / 2 ^ 40) x) := by
  have awake : v.gnssAsleep = false := hv ▸ hawake
  change execMeasurementEpoch t x s = _
  rw [execMeasurementEpoch, timed_at hAt]
  simp only [← hunit, ← hte, hfirst]
  refine congrArg _ ((if_neg (by simp [hp, hquiet, hwhole])).trans ?_)
  simp only [hv, awake, hw, hgoes, hy, hz, Bool.false_eq_true, if_false]

/-- An epoch that was taken is not taken again. -/
theorem exec_measurementEpoch_seen {x : EpochObs} {l : T96} (hlast : u.gnss.lastEpoch = some l)
    (hseen : u.privet.time / (secondUnit / max 1 u.gnssRate) * (secondUnit / max 1 u.gnssRate) / 2 ^ 40 ≤ l) :
    exec (.measurementEpoch t x) s = .next u := by
  change execMeasurementEpoch t x s = _
  rw [execMeasurementEpoch, timed_at hAt]
  simp only [hlast]
  exact congrArg _ (if_pos (.inr (.inr (.inr (decide_eq_true hseen)))))

theorem exec_exclusionHoldExpiry_due {slot : Fin 64} {x : Sat} {d : Nat} (hx : u.sat slot = some x) (hd : x.exclUntil = some d)
    (hdue : d ≤ u.now) :
    exec (.exclusionHoldExpiry t slot) s = .next ((u.setSat slot (some { x with exclUntil := none })).satRefresh slot) := by
  change execExclusionHoldExpiry t slot s = _
  rw [execExclusionHoldExpiry, timed_at hAt]
  simp only [hx, hd]
  exact congrArg _ (if_pos hdue)

theorem exec_spfHoldExpiry_due {d : Nat} {v : State} (htrip : u.gnss.trip = some d)
    (hdue : d + ticksS (u.n E.gnssSpfHold) ≤ u.now) (hv : { u with gnss := { u.gnss with trip := none, spoof := 0 } } = v) :
    exec (.spfHoldExpiry t) s = .next ((v.set E.gnssSpoofFlags 0 0).deassert 323) := by
  subst hv
  change execSpfHoldExpiry t s = _
  rw [execSpfHoldExpiry, timed_at hAt]
  simp only [htrip]
  exact congrArg _ (if_pos hdue)
end

/-- Settles O30: each clause is its command's row on the state at its tick. -/
theorem gnssEpochs : Obligations.GnssEpochs := by
  intro t s u hAt
  exact ⟨fun b mon since d hp hawake hgood hd v => exec_gnssStrobeFault_first hAt hp hawake hgood hd,
    fun b mon since d hp hawake hbad => exec_gnssStrobeFault_again hAt hp hawake hbad,
    fun b d hbad => exec_gnssCoastTimeout_late hAt hbad, fun b d hbad => exec_gnssCoastTimeout_coasting hAt hbad,
    fun b d v hbad hcoasts => exec_gnssStrobeReturn_bad hAt hbad (if_neg (Nat.not_lt.2 hcoasts)),
    fun b d w v hbad hlate hw => exec_gnssStrobeReturn_bad hAt hbad ((if_pos hlate).trans hw),
    fun sys prn elev azim i v w hp hawake hquiet hsys hprn helev hnew hfree =>
      exec_gnssAcquisition_new hAt hp hawake hquiet hsys hprn helev
        (fun j x hj hx h => List.find?_eq_none.1 hnew j (List.mem_range.2 hj) (by simp only [hx, h, and_self, decide_true])) hfree,
    fun x unit te v w y z hunit hte hp hquiet hwhole hfirst hawake =>
      exec_measurementEpoch_first hAt hunit hte hp hquiet hwhole hfirst hawake,
    fun x l => exec_measurementEpoch_seen hAt, fun slot x d => exec_exclusionHoldExpiry_due hAt,
    fun d v => exec_spfHoldExpiry_due hAt⟩

end Sys2Proof.Machine
end

section
/-! Juniper's interference, pulse, sleep and waking (R369, R370, R376, R381, R382). -/

namespace Sys2Proof.Machine

section
variable {t : Nat} {s u : State} (hAt : At t s u)
include hAt

/-! ### Interference (R369, R370) -/

theorem exec_spectrum_due {b : Fin 2} {x : SpectrumObs} {v y : State} (hp : u.present 0 = true) (hawake : u.gnssAsleep = false)
    (hwhole : u.atWhole (secondUnit / 100) = true)
    (hv : { u with gnss := { u.gnss with power := tabPut 0 b.val x.power u.gnss.power,
                                         gain := tabPut 0 b.val x.gain u.gnss.gain } } = v)
    (hy : ((v.notchesTrack b x).notchesAssign b x).notchRefresh b = y) : exec (.spectrum t b x) s =
      .next (y.set (if b.val = 0 then E.gnssJamL1 else E.gnssJamL5) 0 (y.jamOf b)).jamRefresh := by
  subst hv hy
  change execSpectrum t b x s = _
  rw [execSpectrum, timed_at hAt]
  exact congrArg _ (if_neg (by simp [hp, hawake, hwhole]))

theorem exec_spectrum_between {b : Fin 2} {x : SpectrumObs} (hbetween : u.atWhole (secondUnit / 100) = false) :
    exec (.spectrum t b x) s = .next u := by
  change execSpectrum t b x s = _
  rw [execSpectrum, timed_at hAt]
  exact congrArg _ (if_pos (by simp [hbetween]))

/-! ### The solution pulse (R376) -/

/-- The pulse of second `k`, whose instant has come, is placed: `k` is the second under way, or the next one once the pulse of the
one under way has been placed. -/
theorem exec_solutionPulse_placed {here k : Nat} {d p : Int} (hhere : u.copy56 (leafFor 0x501) * 10 ^ 6 / 2 ^ 56 = here)
    (hk : (k = here / 10 ^ 15 ∧ u.gnss.pulseSec < k) ∨ (k = here / 10 ^ 15 + 1 ∧ u.gnss.pulseSec + 1 = k))
    (hp : u.present 0 = true) (hawake : u.gnssAsleep = false) (hstate : 2 ≤ u.n E.gnssState) (hd : u.pulseOffset k = some d)
    (hsmall : d.natAbs < 4 * 10 ^ 14) (hat : p = roundDiv ((k : Int) * 10 ^ 15 - d) 1000) (hdue : p * 1000 ≤ here) :
    exec (.solutionPulse t) s = .next { u with gnss := { u.gnss with pulse := some (k, p), pulseSec := k } } := by
  subst hat
  change execSolutionPulse t s = _
  rw [execSolutionPulse, timed_at hAt]
  have awake : ¬ (¬ u.present 0 = true ∨ u.gnssAsleep = true ∨ u.n E.gnssState = 0 ∨ u.n E.gnssState = 1) := by
    simp only [hp, hawake, not_true, Bool.false_eq_true, false_or]
    omega
  refine congrArg _ ((if_neg awake).trans ?_)
  simp only [hhere]
  obtain ⟨rfl, hnew⟩ | ⟨hnext, hlast⟩ := hk
  · simp only [List.findSome?_cons, hd, hnew, hsmall, hdue, and_self, if_true]
  · have placed : ¬ u.gnss.pulseSec < here / 10 ^ 15 := by omega
    have due : u.gnss.pulseSec < k := by omega
    simp only [List.findSome?_cons, ← hnext, hd, placed, due, hsmall, hdue, false_and, if_false, and_self, if_true]
    cases u.pulseOffset (here / 10 ^ 15) <;> rfl

theorem exec_solutionPulse_unsolved (hstate : u.n E.gnssState ≤ 1) : exec (.solutionPulse t) s = .next u := by
  change execSolutionPulse t s = _
  rw [execSolutionPulse, timed_at hAt]
  have unsolved : u.n E.gnssState = 0 ∨ u.n E.gnssState = 1 := by omega
  exact congrArg _ (if_pos (.inr (.inr unsolved)))

/-! ### Sleep (R381, R382) -/

/-- Sleep releases every satellite slot (log 144). -/
theorem exec_gnssSleep_asked {v y : State} (hv : u.crossRefresh = v) (hp : v.present 0 = true) (hawake : v.gnssAsleep = false)
    (hasked : v.sleepAsked = true) (hdwell : v.gnss.dwell = none) (hcross : v.gnss.crossOk = true)
    (hwake : v.gnss.wakeAt ≠ some v.now) (hy : ((v.bump E.gnssSleeps).satsFree).set E.gnssPowerState 0 1 = y) :
    exec (.gnssSleep t) s = .next { y with gnss := { y.gnss with sleepFrom := y.now, bad := [], pulse := none } } := by
  subst hy
  change execGnssSleep t s = _
  rw [execGnssSleep, timed_at hAt, hv]
  exact congrArg _ (if_neg (by simp [hp, hawake, hasked, hdwell, hcross, hwake]))

theorem exec_gnssWake_unasked (hsleeps : u.n E.gnssPowerState = 1) (hasked : u.sleepAsked = false) :
    exec (.gnssWake t) s = .next u.gnssWakes := by
  change execGnssWake t s = _
  rw [execGnssWake, timed_at hAt]
  exact congrArg _ (if_pos ⟨hsleeps, by simp [hasked]⟩)

theorem exec_gnssWake_awake (hawake : u.n E.gnssPowerState ≠ 1) : exec (.gnssWake t) s = .next u := by
  change execGnssWake t s = _
  rw [execGnssWake, timed_at hAt]
  exact congrArg _ (if_neg fun h => hawake h.1)

theorem exec_wakeIntervalExpiry_due (hsleeps : u.n E.gnssPowerState = 1)
    (hdue : u.gnss.sleepFrom + ticksS (u.n E.gnssWakeInterval) ≤ u.now) :
    exec (.wakeIntervalExpiry t) s = .next u.gnssWakes := by
  change execWakeIntervalExpiry t s = _
  rw [execWakeIntervalExpiry, timed_at hAt]
  exact congrArg _ (if_pos ⟨hsleeps, hdue⟩)

theorem exec_wakeDwellExpiry_due {d : Nat} (hdwell : u.gnss.dwell = some d) (hdue : d ≤ u.now) :
    exec (.wakeDwellExpiry t) s = .next ({ u with gnss := { u.gnss with dwell := none } }).crossRefresh := by
  change execWakeDwellExpiry t s = _
  rw [execWakeDwellExpiry, timed_at hAt]
  simp only [hdwell]
  exact congrArg _ (if_pos hdue)
end

/-- A calibration keeps the power and the gain of both bands (the layout of a kept record is the model's choice, log 146). -/
theorem spJamCal_apply {c : Ctx} {v y : State} (hy : v.keepOne 3 0
    (be 8 (wordOfInt (tabGet 0 0 v.gnss.power)).toNat ++ be 8 (wordOfInt (tabGet 0 0 v.gnss.gain)).toNat) = y) :
    spJamCal.apply c v = y.keepOne 3 1
      (be 8 (wordOfInt (tabGet 0 1 y.gnss.power)).toNat ++ be 8 (wordOfInt (tabGet 0 1 y.gnss.gain)).toNat) :=
  hy ▸ rfl

/-- Settles O31: each clause is its command's row on the state at its tick, or its entry's effect on the state after the write. -/
theorem gnssCommands : Obligations.GnssCommands := by
  intro t s u hAt
  exact ⟨fun b x v y hp hawake hwhole => exec_spectrum_due hAt hp hawake hwhole, fun b x => exec_spectrum_between hAt,
    fun m w v y ho hy => writeRow_applies hAt ho (spJamCal_apply hy),
    fun here k d p hhere hk hp hawake hstate hd => exec_solutionPulse_placed hAt hhere hk hp hawake hstate hd,
    exec_solutionPulse_unsolved hAt,
    fun v y hv hp hawake hasked hdwell hcross hwake => exec_gnssSleep_asked hAt hv hp hawake hasked hdwell hcross hwake,
    exec_gnssWake_unasked hAt, exec_gnssWake_awake hAt, exec_wakeIntervalExpiry_due hAt, fun m w v ho => writeRow_opens hAt ho,
    fun d => exec_wakeDwellExpiry_due hAt⟩

end Sys2Proof.Machine
end

section
/-! The vault's key slots (R387, R393, R396, R397, R399, R400). -/

namespace Sys2Proof.Machine

/-! ### What the use check reads (R393) -/

/-- The entries the use check reads, and the material a load takes. -/
def keyUseEntries : List Entry :=
  [E.vaultState, E.lifecycle, E.laneState, E.anchorState, E.anchorRef, E.anchorRole, E.anchorType, E.anchorEngineMask,
   E.anchorUsage, E.anchorWorldMask, E.anchorMasterMask, E.anchorLifeMask, E.keyState, E.keyRef, E.keyClass, E.keyType,
   E.keyEngineMask, E.keyUsage, E.keyParent, E.keyLabel, E.keyMaterial]

/-- Two states whose words the use check reads agree. -/
def SameKeys (s s' : State) : Prop := ∀ e ∈ keyUseEntries, ∀ i k, k < e.words → s.wordAt e i k 0 = s'.wordAt e i k 0

theorem keyUseEntries_words_pos : ∀ e ∈ keyUseEntries, 0 < e.words := by decide

section
variable {s s' : State} (h : SameKeys s s')
include h

theorem SameKeys.n {e : Entry} (he : e ∈ keyUseEntries) (i : Nat) : s.n e i = s'.n e i :=
  congrArg BitVec.toNat (h e he i 0 (keyUseEntries_words_pos e he))

theorem SameKeys.oct {e : Entry} (he : e ∈ keyUseEntries) (i : Nat) : s.oct e i = s'.oct e i :=
  congrArg octBytes (List.map_congr_left fun k hk => h e he i k (List.mem_range.1 hk))

theorem SameKeys.n_eq {e : Entry} (he : e ∈ keyUseEntries) : @State.n s e = @State.n s' e := funext (h.n he)

theorem SameKeys.slotClass (k : Nat) : s.slotClass k = s'.slotClass k := by
  simp (disch := decide) only [State.slotClass, h.n]

theorem SameKeys.derivedSlot (k : Nat) : s.derivedSlot k = s'.derivedSlot k := by
  rw [State.derivedSlot, h.slotClass, State.derivedSlot]

theorem SameKeys.slotParent (k : Nat) : s.slotParent k = s'.slotParent k := h.n (by decide) k

theorem SameKeys.slotGen (k : Nat) : s.slotGen k = s'.slotGen k := by
  simp (disch := decide) only [State.slotGen, State.slotRef, h.n]

theorem SameKeys.slotEngine (k : Nat) : s.slotEngine k = s'.slotEngine k := by
  simp (disch := decide) only [State.slotEngine, h.n]

theorem SameKeys.derivable (fuel k : Nat) : s.derivable fuel k = s'.derivable fuel k := by
  induction fuel generalizing k with
  | zero => rfl
  | succ fuel ih =>
    rw [State.derivable, State.derivable, h.n_eq (e := E.vaultState) (by decide), h.n_eq (e := E.anchorState) (by decide),
      h.n_eq (e := E.keyState) (by decide), h.oct (by decide), h.derivedSlot, h.slotParent, ih]

theorem SameKeys.keyClassOk (x : KeyUse) : s.keyClassOk x = s'.keyClassOk x := by
  rw [State.keyClassOk, h.slotClass, State.keyClassOk]

theorem SameKeys.keyUsageOk (x : KeyUse) : s.keyUsageOk x = s'.keyUsageOk x := by
  unfold State.keyUsageOk State.slotType State.slotUsage
  rw [h.n_eq (e := E.anchorType) (by decide), h.n_eq (e := E.keyType) (by decide), h.n_eq (e := E.anchorUsage) (by decide),
    h.n_eq (e := E.keyUsage) (by decide), h.n_eq (e := E.anchorRole) (by decide)]

theorem SameKeys.laneOk (mask : Nat) (x : KeyUse) : s.laneOk mask x = s'.laneOk mask x := by
  unfold State.laneOk
  rw [h.n_eq (e := E.laneState) (by decide)]

/-- The use check has the same answer. -/
theorem SameKeys.keyReason (x : KeyUse) : s.keyReason x = s'.keyReason x := by
  unfold State.keyReason
  dsimp only
  rw [h.n_eq (e := E.vaultState) (by decide), h.keyClassOk, h.n_eq (e := E.keyState) (by decide), h.slotGen, h.derivable,
    h.keyUsageOk, h.n_eq (e := E.anchorWorldMask) (by decide), h.n_eq (e := E.anchorMasterMask) (by decide),
    h.n_eq (e := E.anchorLifeMask) (by decide), h.n_eq (e := E.lifecycle) (by decide), h.slotEngine, h.laneOk]
end

/-! ### What leaves those words alone -/

/-- Where a word of an entry lies in its block of the store. -/
theorem dictKey_mod_bounds {e : Entry} {i k : Nat} (harr : 0 < e.arr) (hk : k < e.words)
    (hfit : e.idx * 4096 + (e.sub + e.arr * e.words) * 16 ≤ 2 ^ 28) : e.idx * 4096 + e.sub * 16 ≤ dictKey e i k 0 % 2 ^ 28 ∧
      dictKey e i k 0 % 2 ^ 28 < e.idx * 4096 + (e.sub + e.arr * e.words) * 16 := by
  have last : (i % e.arr + 1) * e.words ≤ e.arr * e.words := Nat.mul_le_mul_right _ (Nat.mod_lt i harr)
  rw [Nat.succ_mul] at last
  simp only [dictKey]
  omega

/-- The entries of the use check lie below the entries of every world's refusals, or in the vault below `KEY_CTRL`. -/
theorem keyUseEntries_places : ∀ e ∈ keyUseEntries,
    0 < e.arr ∧ e.idx * 4096 + (e.sub + e.arr * e.words) * 16 ≤ 2 ^ 28 ∧
      (e.idx * 4096 + (e.sub + e.arr * e.words) * 16 ≤ 0x1100000 ∨
        0xB000000 ≤ e.idx * 4096 + e.sub * 16 ∧ e.idx * 4096 + (e.sub + e.arr * e.words) * 16 ≤ 0xB000470) := by decide

theorem dictKey_of_mem_keyUseEntries {e : Entry} (he : e ∈ keyUseEntries) (i : Nat) {k : Nat} (hk : k < e.words) :
    dictKey e i k 0 % 2 ^ 28 < 0x1100000 ∨ 0xB000000 ≤ dictKey e i k 0 % 2 ^ 28 ∧ dictKey e i k 0 % 2 ^ 28 < 0xB000470 := by
  obtain ⟨harr, hfit, hplace⟩ := keyUseEntries_places e he
  obtain ⟨low, high⟩ := dictKey_mod_bounds (i := i) harr hk hfit
  omega

theorem sameKeys_set_keyCtrl (v : State) (i x : Nat) : SameKeys (v.set E.keyCtrl i x) v := fun e he j k hk => by
  have place := dictKey_of_mem_keyUseEntries he j hk
  refine State.wordAt_setWordAt_ne _ _ _ _ _ _ _ _ _ _ fun same => ?_
  rw [same] at place
  simp only [dictKey, E.keyCtrl] at place
  omega

theorem sameKeys_set_lastAbort (v : State) (i x : Nat) : SameKeys (v.set E.lastAbort i x) v := fun e he j k hk => by
  have place := dictKey_of_mem_keyUseEntries he j hk
  refine State.wordAt_setWordAt_ne _ _ _ _ _ _ _ _ _ _ fun same => ?_
  rw [same] at place
  simp only [dictKey, E.lastAbort] at place
  omega

theorem sameKeys_bump_refused (v : State) (i : Nat) : SameKeys (v.bump E.refused i) v := fun e he j k hk => by
  have place := dictKey_of_mem_keyUseEntries he j hk
  refine State.wordAt_bump_ne _ (fun w hw same => ?_) _
  rw [same] at place
  simp only [dictKey, E.refused] at place
  omega

theorem SameKeys.trans {a b c : State} (h : SameKeys a b) (h' : SameKeys b c) : SameKeys a c :=
  fun e he i k hk => (h e he i k hk).trans (h' e he i k hk)

/-- What a refusal records leaves the use check as it was. -/
theorem sameKeys_refusal (v : State) (w index sub : Nat) (b : Bool) {code : Nat} (h : code ≠ 4 ∧ code ≠ 5 ∧ code ≠ 6) :
    SameKeys (v.refusal w code index sub b) v := by
  rw [State.refusal_recorded v w index sub b h]
  exact (sameKeys_set_lastAbort _ _ _).trans (sameKeys_bump_refused v w)

/-! ### The operations of `KEY_CTRL` (R397, R399, R400, R408) -/

theorem spKeyCtrl_apply_load {c : Ctx} {v : State} (hop : bitsOf c.v 7 0 = 1) :
    spKeyCtrl.apply c v = v.loadKey c.i (v.oct E.keyMaterial c.i) := by
  simp only [spKeyCtrl, hop]

theorem spKeyCtrl_apply_generate {c : Ctx} {v : State} (hop : bitsOf c.v 7 0 = 2) (hready : v.n E.drbgState = 1) :
    spKeyCtrl.apply c v = v.drew.loadKey c.i (v.newKey (v.n E.keyType c.i)) := by
  simp only [spKeyCtrl, hop, hready, if_true]

/-- A GENERATE while the DRBG is not READY leaves FAILED in the control entry (the model's choice, log 61). -/
theorem spKeyCtrl_apply_generate_failed {c : Ctx} {v : State} (hop : bitsOf c.v 7 0 = 2) (hready : v.n E.drbgState ≠ 1) :
    spKeyCtrl.apply c v = v.set E.keyCtrl c.i 3 := by
  simp only [spKeyCtrl, hop, hready, if_false]

theorem spKeyCtrl_apply_invalidate {c : Ctx} {v : State} (hop : bitsOf c.v 7 0 = 3) :
    spKeyCtrl.apply c v = ((c.i :: v.descendants c.i).foldl State.advanceGen v).cachePurge := by
  simp only [spKeyCtrl, hop, State.advanceTree]

theorem spKeyCtrl_apply_revoke {c : Ctx} {v : State} (hop : bitsOf c.v 7 0 = 4) : spKeyCtrl.apply c v = v.dropKey c.i 5 := by
  simp only [spKeyCtrl, hop]

theorem spKeyCtrl_apply_free {c : Ctx} {v y : State} (hop : bitsOf c.v 7 0 = 5) (hy : v.dropKey c.i 1 = y) :
    spKeyCtrl.apply c v = { y with vault := { y.vault with
      quietUntil := tabPut 0 c.i (y.now + ticksMs (y.n E.vaultSlotQuiet)) y.vault.quietUntil } } := by
  simp only [spKeyCtrl, hop, hy]

theorem spKeyCtrl_apply_loadWrapped {c : Ctx} {v : State} {key : List Byte} (hop : bitsOf c.v 7 0 = 6)
    (hkey : v.unwrapped c = some key) : spKeyCtrl.apply c v = (v.useKey (wrapUse c)).2.loadKey c.i key := by
  simp only [spKeyCtrl, hop, hkey]

/-- Material in place (R397): shares, check value, LOADED, and the generations from the slot down. -/
theorem State.loadKey_symmetric {y b z : State} {k a : Nat} {key : List Byte} (ha : y.n E.keyType k = a)
    (hpriv : privateType a = false) (hb : y.setKey k key = b)
    (hz : (((b.set E.keyKcv k (kcvOf a key)).set E.keyState k 3).setOct E.keyPubkey k []).setOct E.keyMaterial k [] = z) :
    y.loadKey k key = z.advanceTree k := by
  subst hb hz
  simp only [State.loadKey, ha, hpriv, Bool.false_eq_true, if_false]

theorem State.newKey_other {y : State} {ty : Nat} (h5 : ty ≠ 5) (h7 : ty ≠ 7) :
    y.newKey ty = y.randomBytes (typeLength ty) := by
  unfold State.newKey
  split
  · exact absurd rfl h5
  · exact absurd rfl h7
  · rfl

/-! ### LOAD_WRAPPED (R397) -/

section
variable {c : Ctx} {v : State} {wrap : Nat} (hc : c.v = wrap * 65536 + 6) (hwrap : wrap < 4096)
include hc

/-- The word of a LOAD_WRAPPED names the operation in its low byte. -/
theorem wrapped_op : bitsOf c.v 7 0 = 6 := by
  rw [hc, bitsOf]
  omega

include hwrap

/-- It names the wrapping key above. -/
theorem wrapped_slot : bitsOf c.v 27 16 = wrap := by
  rw [hc, bitsOf]
  omega

/-- With a usable wrapping key the material is what unwraps. -/
theorem State.unwrapped_usable (hreason : v.keyReason (wrapUse c) = 0) :
    v.unwrapped c = kwpUnwrap (v.slotKey wrap) (v.oct E.keyMaterial c.i) := by
  rw [State.unwrapped, if_pos hreason, wrapped_slot hc hwrap]
end

section
variable {c : Ctx} {v : State} (hop : bitsOf c.v 7 0 = 6) (hstate : v.n E.keyState c.i = 1 ∨ v.n E.keyState c.i = 2)
  (hclass : v.n E.keyClass c.i = 1) (hquiet : tabGet 0 c.i v.vault.quietUntil ≤ v.now) (hlife : 2 ≤ v.n E.lifecycle)
  (htype : v.n E.keyType c.i ≠ 0) (hpriv : privateType (v.n E.keyType c.i) = false)
include hop hstate hclass hquiet hlife htype hpriv

/-- On a slot that may be loaded, a LOAD_WRAPPED of material that does not unwrap meets 0x07. -/
theorem keyCtrlCodes_unopened (hkey : v.unwrapped c = none) : keyCtrlCodes c v = [7] := by
  have unloaded : v.n E.keyState c.i ≠ 3 := by omega
  have deployed : ¬ (v.n E.lifecycle = 0 ∨ v.n E.lifecycle = 1) := by omega
  simp [keyCtrlCodes, hop, hclass, htype, hpriv, hkey, unloaded, deployed, hstate, Nat.not_lt.2 hquiet]

/-- One of material that does meets 0x08 where its length is not its type's. -/
theorem keyCtrlCodes_opened {key : List Byte} (hkey : v.unwrapped c = some key) :
    keyCtrlCodes c v = if key.length = typeLength (v.n E.keyType c.i) then [] else [8] := by
  have unloaded : v.n E.keyState c.i ≠ 3 := by omega
  have deployed : ¬ (v.n E.lifecycle = 0 ∨ v.n E.lifecycle = 1) := by omega
  simp [keyCtrlCodes, hop, hclass, htype, hpriv, hkey, unloaded, deployed, hstate, Nat.not_lt.2 hquiet]
end

/-- A word of 32 bits is in the layout of `KEY_CTRL`. -/
theorem valueCodes_keyCtrl {x : Word} (hx : x.toNat < 2 ^ 32) : valueCodes E.keyCtrl [x] = [] := by
  have layout : valueOk E.keyCtrl x = true := (Bool.and_true _).trans (decide_eq_true hx)
  exact if_pos ((Bool.and_true _).trans layout)

/-- Where no gate of a command stands in the way, its codes are those of `KEY_CTRL`'s operations. -/
theorem writeCodes_keyCtrl {v : State} {m : Master} {w i : Nat} {x : Word} (hx : x.toNat < 2 ^ 32)
    (hgate : v.gateCodes spKeyCtrl ⟨m, w, i, [x]⟩ = []) :
    v.writeCodes spKeyCtrl ⟨m, w, i, [x]⟩ = keyCtrlCodes ⟨m, w, i, [x]⟩ v := by
  have value : valueCodes spKeyCtrl.entry [x] = [] := valueCodes_keyCtrl hx
  rw [State.writeCodes, hgate, value, ite_self]
  rfl

/-- The operation a one-word command names. -/
theorem Ctx.op_eq {c : Ctx} {x : Word} {n : Nat} (hc : c.words = [x]) (hx : bitsOf x.toNat 7 0 = n) : bitsOf c.v 7 0 = n := by
  rw [Ctx.v, hc]
  exact hx

/-- The word of a LOAD_WRAPPED of slot `wrap`'s key. -/
theorem toNat_wrapWord (wrap : Fin 4096) : (BitVec.ofNat 64 (wrap.val * 65536 + 6)).toNat = wrap.val * 65536 + 6 := by
  rw [BitVec.toNat_ofNat]
  omega

/-- A refusal of a LOAD_WRAPPED whose wrapping key is usable does nothing beside what every refusal does. -/
theorem spKeyCtrl_refused_usable {c : Ctx} {x : State} (code : Nat) (hreason : x.keyReason (wrapUse c) = 0) :
    spKeyCtrl.refused code c x = x := if_neg fun h => h.2.2 hreason

section
variable {t : Nat} {s u v : State} (hAt : At t s u) {m : Master} {w slot : Nat} {k : Fin 4080} (hslot : slot = k.val + 16)
  {wrap : Fin 4096} {c : Ctx} (hc : c = ⟨m, w, slot, [BitVec.ofNat 64 (wrap.val * 65536 + 6)]⟩) (hw : u.worldOf m = some w)
  (hmet : u.met spKeyCtrl m w = v) (hgate : v.gateCodes spKeyCtrl c = []) (hreason : v.keyReason (wrapUse c) = 0)
include hAt hslot hc hw hmet hgate hreason

/-- A LOAD_WRAPPED whose material unwraps to a key of its type's length uses the wrapping key and loads the slot. -/
theorem exec_keyLoadWrapped_opens {y : State} {key : List Byte} (hy : v.marked spKeyCtrl slot = y)
    (hkey : kwpUnwrap (v.slotKey wrap) (v.oct E.keyMaterial slot) = some key) (hcodes : keyCtrlCodes c v = []) :
    exec (.keyLoadWrapped t m k wrap) s = .next ((y.useKey (wrapUse c)).2.loadKey slot key) := by
  subst hslot hmet hy
  have hword := toNat_wrapWord wrap
  have hv : c.v = wrap.val * 65536 + 6 := by rw [hc]; exact hword
  have same : SameKeys ((u.met spKeyCtrl m w).marked spKeyCtrl (k.val + 16)) (u.met spKeyCtrl m w) :=
    sameKeys_set_keyCtrl _ _ _
  have opens : Opens spKeyCtrl m w (k.val + 16) [BitVec.ofNat 64 (wrap.val * 65536 + 6)] u _ :=
    ⟨hw, by rw [writeCodes_keyCtrl (by omega) (hc ▸ hgate), ← hc, hcodes]; rfl, rfl⟩
  subst hc
  refine writeRow_applies hAt opens (spKeyCtrl_apply_loadWrapped (wrapped_op hv) ?_)
  rw [State.unwrapped_usable hv wrap.isLt ((same.keyReason _).trans hreason), same.oct (by decide)]
  exact hkey

/-- One that meets a code of its own is refused with it, and nothing more. -/
theorem exec_keyLoadWrapped_refused {code : Nat} (hcodes : keyCtrlCodes c v = [code]) (hcode : code = 7 ∨ code = 8) :
    exec (.keyLoadWrapped t m k wrap) s =
      .next (v.refusal w code (E.keyCtrl.addr slot 0).1 (E.keyCtrl.addr slot 0).2 false) := by
  have hword := toNat_wrapWord wrap
  have resolved : resolve [code] = code := by
    obtain rfl | rfl := hcode <;> rfl
  subst hslot hmet
  have refuses : Refuses spKeyCtrl m w (k.val + 16) [BitVec.ofNat 64 (wrap.val * 65536 + 6)] code u _ :=
    ⟨hw, rfl, by rw [writeCodes_keyCtrl (by omega) (hc ▸ hgate), ← hc, hcodes, resolved], by omega⟩
  subst hc
  refine (writeRow_refuses hAt refuses).trans (congrArg _ (spKeyCtrl_refused_usable code ?_))
  exact ((sameKeys_refusal _ w _ _ _ (by omega)).keyReason _).trans hreason
end

/-! ### Quiet time and derivations (R387, R396) -/

section
variable {t : Nat} {s u : State} (hAt : At t s u)
include hAt

theorem exec_vaultSlotQuietExpiry_due {k : Fin 4080} {slot : Nat} (hslot : slot = k.val + 16)
    (hdue : tabGet 0 slot u.vault.quietUntil ≤ u.now) : exec (.vaultSlotQuietExpiry t k) s =
      .next { u with vault := { u.vault with quietUntil := tabErase slot u.vault.quietUntil } } := by
  subst hslot
  change execVaultSlotQuietExpiry t k s = _
  rw [execVaultSlotQuietExpiry, timed_at hAt]
  exact congrArg _ (if_pos hdue)

theorem exec_derivationComplete_first {d : Derivation} {rest : List Derivation} {v : State} (hd : u.vault.running = d :: rest)
    (hv : { u with vault := { u.vault with running := rest, waiting := [] } } = v) :
    exec (.derivationComplete t) s = .next (u.vault.waiting.foldl State.keyResume (v.derivationDone d)) := by
  subst hv
  change execDerivationComplete t s = _
  rw [execDerivationComplete, timed_at hAt]
  simp only [hd]

theorem exec_derivationComplete_none (hnone : u.vault.running = []) : exec (.derivationComplete t) s = .next u := by
  change execDerivationComplete t s = _
  rw [execDerivationComplete, timed_at hAt]
  simp only [hnone]
end

/-- Settles O32: each clause is its entry's effect on the state after the write, an operation's own equation, or its command's row;
a LOAD_WRAPPED's codes are formed before the mark it leaves, and the use check answers alike on both. -/
theorem keyCommands : Obligations.KeyCommands := by
  intro t s u hAt
  refine ⟨fun m w k slot hslot => ⟨?_, ?_, ?_, ?_, ?_, ?_, ?_, exec_vaultSlotQuietExpiry_due hAt hslot⟩,
    fun m w v ho => writeRow_opens hAt ho, fun d rest v hd => exec_derivationComplete_first hAt hd,
    exec_derivationComplete_none hAt, fun y k key a b z ha hpriv hb => State.loadKey_symmetric ha hpriv hb,
    fun y ty => ⟨fun h => h ▸ rfl, fun h => h ▸ rfl, State.newKey_other⟩⟩
  · subst hslot
    exact fun v ho => writeRow_applies hAt ho (spKeyCtrl_apply_load (Ctx.op_eq rfl (by decide)))
  · subst hslot
    exact fun v ho hready => writeRow_applies hAt ho (spKeyCtrl_apply_generate (Ctx.op_eq rfl (by decide)) hready)
  · subst hslot
    exact fun v ho hready => writeRow_applies hAt ho (spKeyCtrl_apply_generate_failed (Ctx.op_eq rfl (by decide)) hready)
  · subst hslot
    exact fun v ho => writeRow_applies hAt ho (spKeyCtrl_apply_invalidate (Ctx.op_eq rfl (by decide)))
  · subst hslot
    exact fun v ho => writeRow_applies hAt ho (spKeyCtrl_apply_revoke (Ctx.op_eq rfl (by decide)))
  · subst hslot
    exact fun v y ho hy => writeRow_applies hAt ho (spKeyCtrl_apply_free (Ctx.op_eq rfl (by decide)) hy)
  · intro wrap c v y bad hc hw hmet hgate hstate hclass hquiet hlife htype hpriv hreason hy hbad
    have hword : c.v = wrap.val * 65536 + 6 := by rw [hc]; exact toNat_wrapWord wrap
    have hi : c.i = slot := by rw [hc]
    rw [← hi] at hstate hclass hquiet htype hpriv
    have unwraps : v.unwrapped c = kwpUnwrap (v.slotKey wrap) (v.oct E.keyMaterial slot) := by
      rw [State.unwrapped_usable hword wrap.isLt hreason, hi]
    have opened {key : List Byte} (hkey : kwpUnwrap (v.slotKey wrap) (v.oct E.keyMaterial slot) = some key) :=
      keyCtrlCodes_opened (wrapped_op hword) hstate hclass hquiet hlife htype hpriv (unwraps.trans hkey)
    cases hkey : kwpUnwrap (v.slotKey wrap) (v.oct E.keyMaterial slot) with
    | none =>
      dsimp only
      rw [hbad]
      exact exec_keyLoadWrapped_refused hAt hslot hc hw hmet hgate hreason
        (keyCtrlCodes_unopened (wrapped_op hword) hstate hclass hquiet hlife htype hpriv (unwraps.trans hkey)) (.inl rfl)
    | some key =>
      dsimp only
      split
      next hlen =>
        exact exec_keyLoadWrapped_opens hAt hslot hc hw hmet hgate hreason hy hkey ((opened hkey).trans (if_pos (by rwa [hi])))
      next hlen =>
        rw [hbad]
        exact exec_keyLoadWrapped_refused hAt hslot hc hw hmet hgate hreason ((opened hkey).trans (if_neg (by rwa [hi]))) (.inr rfl)

end Sys2Proof.Machine
end

section
/-! The vault's shadows and anchors (R401 to R403). -/

namespace Sys2Proof.Machine

/-! ### Shadows (R402, R408) -/

theorem spShCtrl_apply_load {c : Ctx} {v : State} (hv : c.v = 1) : spShCtrl.apply c v =
    ((v.shadowKey c.i (v.oct E.shMaterial c.i)).setOct E.shMaterial c.i []).set E.shState c.i 1 := by
  simp only [spShCtrl, hv]

/-- A GENERATE while the DRBG is READY takes a fresh key. -/
theorem spShCtrl_apply_generate {c : Ctx} {v : State} {key : List Byte} (hv : c.v = 2) (hready : v.n E.drbgState = 1)
    (hkey : v.newKey (v.n E.shType c.i) = key) : spShCtrl.apply c v =
      ((v.drew.shadowKey c.i key).setOct E.shPubkey c.i (ecdsaPublic key)).set E.shState c.i 2 := by
  subst hkey
  simp only [spShCtrl, hv]
  exact if_pos hready

/-- A GENERATE while the DRBG is not READY leaves FAILED in the control entry (the model's choice, log 61). -/
theorem spShCtrl_apply_generate_failed {c : Ctx} {v : State} (hv : c.v = 2) (hready : v.n E.drbgState ≠ 1) :
    spShCtrl.apply c v = v.set E.shCtrl c.i 3 := by
  simp only [spShCtrl, hv]
  exact if_neg hready

theorem spShCtrl_apply_removal {c : Ctx} {v : State} (hv : c.v = 3) : spShCtrl.apply c v = v.set E.shState c.i 4 := by
  simp only [spShCtrl, hv]

theorem spShCtrl_apply_discard {c : Ctx} {v y : State} (hv : c.v = 4)
    (hy : (((v.set E.shState c.i 0).set E.shKcv c.i 0).setOct E.shPubkey c.i []).setOct E.shMaterial c.i [] = y) :
    spShCtrl.apply c v = { y with vault := { y.vault with shadows := tabErase c.i y.vault.shadows } } := by
  subst hy
  simp only [spShCtrl, hv]
  rfl

section
variable {t : Nat} {s u : State} (hAt : At t s u)
include hAt

section
variable {k : Fin 15} {a : Nat} (ha : a = k.val + 1)
include ha

theorem exec_shadowKcvCheck_verified (hloaded : u.n E.shState a = 1) (hkcv : u.n E.shKcv a = u.n E.shKcvExpect a) :
    exec (.shadowKcvCheck t k) s = .next (u.set E.shState a 2) := by
  subst ha
  change execShadowKcvCheck t k s = _
  rw [execShadowKcvCheck, timed_at hAt]
  exact congrArg _ ((if_neg (not_not_intro hloaded)).trans (if_pos hkcv))

theorem exec_shadowKcvCheck_mismatch (hloaded : u.n E.shState a = 1) (hkcv : u.n E.shKcv a ≠ u.n E.shKcvExpect a) :
    exec (.shadowKcvCheck t k) s = .next ((u.set E.shState a 3).bump E.anchorKcvFail) := by
  subst ha
  change execShadowKcvCheck t k s = _
  rw [execShadowKcvCheck, timed_at hAt]
  exact congrArg _ ((if_neg (not_not_intro hloaded)).trans (if_neg hkcv))

theorem exec_shadowKcvCheck_other (hloaded : u.n E.shState a ≠ 1) : exec (.shadowKcvCheck t k) s = .next u := by
  subst ha
  change execShadowKcvCheck t k s = _
  rw [execShadowKcvCheck, timed_at hAt]
  dsimp only
  rw [if_pos hloaded]
end
end

/-! ### The anchor commit (R403) -/

theorem spAnchorCommit_apply {c : Ctx} {v y : State}
    (hy : { v with vault := { v.vault with commit := some ⟨v.n E.anchorCounter + 1, v.nextAnchors, v.now⟩ } } = y) :
    spAnchorCommit.apply c v = (y.set E.anchorCommit 0 c.v).set E.anchorCommitState 0 1 :=
  hy ▸ rfl

/-- The counter burned and the commit over. -/
def State.anchorBurned (s : State) (seq : Nat) : State :=
  { s with otp := { s.otp with anchorCounter := seq }, vault := { s.vault with commit := none } }

/-- The commit under way goes on from the step it is at. -/
theorem State.anchorStep_commit {u v y : State} {c : AnchorCommit} {from' : Nat} (f : AnchorCommit → State → State)
    (hc : u.vault.commit = some c) (hv : { u with vault := { u.vault with commit := some { c with since := u.now } } } = v)
    (hstep : u.n E.anchorCommitState = from') (hy : v.set E.anchorCommitState 0 (from' + 1) = y) :
    u.anchorStep from' f = f c y := by
  subst hv hy
  rw [State.anchorStep, hc]
  dsimp only
  rw [if_pos hstep]

/-- Without a commit no step is taken. -/
theorem State.anchorStep_none {u : State} (from' : Nat) (f : AnchorCommit → State → State) (hc : u.vault.commit = none) :
    u.anchorStep from' f = u := by
  rw [State.anchorStep, hc]

section
variable {t : Nat} {s u : State} (hAt : At t s u)
include hAt

theorem exec_anchorEraseDone_eq : exec (.anchorEraseDone t) s = .next (u.anchorStep 1 fun c s =>
    s.emit (.flash (journalAddr c.seq) (s.journalBytes c.seq c.anchors))) := by
  change execAnchorEraseDone t s = _
  rw [execAnchorEraseDone, timed_at hAt]

theorem exec_anchorWriteDone_eq : exec (.anchorWriteDone t) s = .next (u.anchorStep 2 fun c s =>
    s.emit (.flash (journalAddr c.seq + 4080) (journalMarker c.seq (s.journalBytes c.seq c.anchors)))) := by
  change execAnchorWriteDone t s = _
  rw [execAnchorWriteDone, timed_at hAt]

theorem exec_anchorMarkDone_eq : exec (.anchorMarkDone t) s = .next (u.anchorStep 3 fun c s =>
    (List.range 16).foldl (fun s a => if a = 0 then s else s.shadowEmpty a) (s.setAnchors c.anchors)) := by
  change execAnchorMarkDone t s = _
  rw [execAnchorMarkDone, timed_at hAt]

theorem exec_anchorBurnDone_eq : exec (.anchorBurnDone t) s = .next (u.anchorStep 4 fun c s =>
    ((s.anchorBurned c.seq).set E.anchorCounter 0 c.seq).set E.anchorSeq 0 c.seq) := by
  change execAnchorBurnDone t s = _
  rw [execAnchorBurnDone, timed_at hAt]
  rfl

/-- A failed read-back, or a flash that stays silent for 1 s, ends the commit. -/
theorem exec_anchorFlashTimeout_fails {c : AnchorCommit} {fails : Bool} (hc : u.vault.commit = some c)
    (hstep : u.n E.anchorCommitState ≤ 3) (hfails : fails = true ∨ c.since + ticksS 1 < u.now) :
    exec (.anchorFlashTimeout t fails) s =
      .next (({ u with vault := { u.vault with commit := none } }).set E.anchorCommitState 0 6) := by
  change execAnchorFlashTimeout t fails s = _
  rw [execAnchorFlashTimeout, timed_at hAt]
  simp only [hc]
  exact congrArg _ (if_pos ⟨hstep, hfails⟩)

theorem exec_anchorFlashTimeout_none (fails : Bool) (hc : u.vault.commit = none) :
    exec (.anchorFlashTimeout t fails) s = .next u := by
  change execAnchorFlashTimeout t fails s = _
  rw [execAnchorFlashTimeout, timed_at hAt]
  simp only [hc]
end

/-- Settles O33: each clause is its entry's effect on the state after the write, or its command's row on the state at its tick. -/
theorem anchorCommands : Obligations.AnchorCommands := by
  intro t s u hAt
  refine ⟨fun m w k a ha => ⟨?_, ?_, ?_, ?_, ?_, exec_shadowKcvCheck_verified hAt ha, exec_shadowKcvCheck_mismatch hAt ha,
      exec_shadowKcvCheck_other hAt ha⟩,
    fun m w x v y ho hy => writeRow_applies hAt ho (spAnchorCommit_apply hy),
    fun c v y hc hv => ⟨fun hstep hy => ?_, fun hstep hy => ?_, fun hstep hy => ?_, fun z hstep hy hz => ?_,
      fun fails hstep hfails => exec_anchorFlashTimeout_fails hAt hc hstep hfails⟩,
    fun hc => ⟨?_, ?_, ?_, ?_, fun fails => exec_anchorFlashTimeout_none hAt fails hc⟩⟩
  · subst ha
    exact fun v ho => writeRow_applies hAt ho (spShCtrl_apply_load rfl)
  · subst ha
    exact fun v key ho hready hkey => writeRow_applies hAt ho (spShCtrl_apply_generate rfl hready hkey)
  · subst ha
    exact fun v ho hready => writeRow_applies hAt ho (spShCtrl_apply_generate_failed rfl hready)
  · subst ha
    exact fun v ho => writeRow_applies hAt ho (spShCtrl_apply_removal rfl)
  · subst ha
    exact fun v y ho hy => writeRow_applies hAt ho (spShCtrl_apply_discard rfl hy)
  · exact (exec_anchorEraseDone_eq hAt).trans (congrArg _ (State.anchorStep_commit _ hc hv hstep hy))
  · exact (exec_anchorWriteDone_eq hAt).trans (congrArg _ (State.anchorStep_commit _ hc hv hstep hy))
  · exact (exec_anchorMarkDone_eq hAt).trans (congrArg _ (State.anchorStep_commit _ hc hv hstep hy))
  · subst hz
    exact (exec_anchorBurnDone_eq hAt).trans (congrArg _ (State.anchorStep_commit _ hc hv hstep hy))
  · exact (exec_anchorEraseDone_eq hAt).trans (congrArg _ (State.anchorStep_none _ _ hc))
  · exact (exec_anchorWriteDone_eq hAt).trans (congrArg _ (State.anchorStep_none _ _ hc))
  · exact (exec_anchorMarkDone_eq hAt).trans (congrArg _ (State.anchorStep_none _ _ hc))
  · exact (exec_anchorBurnDone_eq hAt).trans (congrArg _ (State.anchorStep_none _ _ hc))

end Sys2Proof.Machine
end

section
/-! Re-masking, the DRBG, the self-tests and the certificate (R406, R408, R409). -/

namespace Sys2Proof.Machine

/-- What lets a self-test command through does not depend on what its tests find. -/
theorem opens_selftest {m : Master} {w i : Nat} {ws : List Word} {v : State} (failed : Nat) (ho : Opens spSelftest m w i ws u v) :
    Opens { spSelftest with apply := fun _ s => s.selfTests failed } m w i ws u v := by
  simp only [Opens, State.met, State.writeCodes, State.gateCodes, State.marked] at ho ⊢
  exact ho

section
variable {t : Nat} {s u : State} (hAt : At t s u)
include hAt

/-! ### Re-masking (R406) -/

/-- A pass refreshes the slots, then the shadows, then the cache, and is counted. -/
theorem exec_remaskPass_whole {k b : Tab Shares} {a c e y : State} {d : List Cached} (hready : u.n E.drbgState = 1)
    (hwhole : u.atMilli = true) (hk : u.remaskTab u.vault.keys = (k, a)) (hb : a.remaskTab a.vault.shadows = (b, c))
    (hd : c.vault.cache.foldr (fun (x : Cached) (r : List Cached × State) =>
      ({ x with key := x.key.remask (r.2.randomBytes (max x.key.a.length x.key.b.length)) } :: r.1, r.2.drew)) ([], c) = (d, e))
    (hy : { e with vault := { e.vault with keys := k, shadows := b, cache := d } } = y) :
    exec (.remaskPass t) s = .next (y.set E.remaskPasses 0 (y.n E.remaskPasses + 1)) := by
  subst hy
  change execRemaskPass t s = _
  rw [execRemaskPass, timed_at hAt]
  refine congrArg _ ((if_pos ⟨hready, hwhole⟩).trans ?_)
  simp only [hk, hb, hd]

theorem exec_remaskPass_unready (hready : u.n E.drbgState ≠ 1) : exec (.remaskPass t) s = .next u := by
  change execRemaskPass t s = _
  rw [execRemaskPass, timed_at hAt]
  exact congrArg _ (if_neg fun h => hready h.1)

/-! ### The DRBG (R408) -/

theorem exec_drbgReseed_due (hready : u.n E.drbgState = 1) (hdue : u.atSecond = true ∨ u.vault.requests + 2 ^ 20 ≤ u.draws) :
    exec (.drbgReseed t) s = .next { u with vault := { u.vault with requests := u.draws } } := by
  change execDrbgReseed t s = _
  rw [execDrbgReseed, timed_at hAt]
  exact congrArg _ (if_pos ⟨hready, hdue⟩)

theorem exec_entropyHealthFail :
    exec (.entropyHealthFail t) s = .next (((u.set E.drbgState 0 2).bump E.entropyFails).raise 386) := by
  change execEntropyHealthFail t s = _
  rw [execEntropyHealthFail, timed_at hAt]

theorem exec_drbgRecover_passed {passed : Nat} {v : State} (herror : u.n E.drbgState = 2) (hpassed : 1024 ≤ passed)
    (hv : u.set E.drbgState 0 1 = v) : exec (.drbgRecover t passed) s =
      .next (({ v with vault := { v.vault with requests := v.draws } }).deassert 386) := by
  subst hv
  change execDrbgRecover t passed s = _
  rw [execDrbgRecover, timed_at hAt]
  exact congrArg _ (if_pos ⟨herror, hpassed⟩)

theorem exec_drbgRecover_short {passed : Nat} (hshort : passed < 1024) : exec (.drbgRecover t passed) s = .next u := by
  change execDrbgRecover t passed s = _
  rw [execDrbgRecover, timed_at hAt]
  exact congrArg _ (if_neg fun h => Nat.not_le.2 hshort h.2)

/-! ### The self-tests (R409) -/

/-- A self-test command leaves what its tests found, in certified mode too (the model's choice, log 66). -/
theorem exec_selftestCmd {m : Master} {w failed : Nat} {v : State} (ho : Opens spSelftest m w 0 [1] u v) :
    exec (.selftestCmd t m failed) s = .next (v.selfTests failed) :=
  writeRow_opens hAt (opens_selftest failed ho)
end

theorem State.selfTests_failed {v : State} {failed : Nat} (h : failed ≠ 0) :
    v.selfTests failed = ((v.set E.selftestResult 0 failed).set E.vaultState 0 2).raise 385 (some 3) := if_neg h

theorem State.selfTests_passed {v : State} : v.selfTests 0 = v.set E.selftestResult 0 0 := by
  rw [State.selfTests, if_pos rfl]

/-- Settles O34: each clause is its command's row on the state at its tick, or its entry's effect on the state after the write. -/
theorem vaultCommands : Obligations.VaultCommands := by
  intro t s u hAt
  exact ⟨fun k a b c d e hready hwhole hk hb hd y => exec_remaskPass_whole hAt hready hwhole hk hb hd,
    exec_remaskPass_unready hAt, exec_drbgReseed_due hAt, exec_entropyHealthFail hAt,
    fun passed v herror hpassed => exec_drbgRecover_passed hAt herror hpassed, fun passed => exec_drbgRecover_short hAt,
    fun m w v failed ho hfailed => (exec_selftestCmd hAt ho).trans (congrArg _ (State.selfTests_failed hfailed)),
    fun m w v ho => (exec_selftestCmd hAt ho).trans (congrArg _ State.selfTests_passed),
    fun m w x v ho => writeRow_opens hAt ho⟩

end Sys2Proof.Machine
end

section
/-! Faults, records, the safe state's causes, maintenance and the self-test (R413 to R434). -/

namespace Sys2Proof.Machine

section
variable {t : Nat} {s u : State} (hAt : At t s u)
include hAt

/-! ### Events and conditions (R413 to R421) -/

theorem exec_faultEvent_present {src : Fin 512} {sev : Option (Fin 4)} {detail world : Nat} {struck : Struck}
    (hsource : isSource src = true) (hpresent : u.sourceAbsent src = false) (hself : u.holly.selfFault = false) :
    exec (.faultEvent t src sev ⟨detail, struck⟩ world) s =
      .next (((u.strike src struck).faultCounters src).raise src (sev.map (·.val)) detail world) := by
  change execFaultEvent t src sev ⟨detail, struck⟩ world s = _
  rw [execFaultEvent, timed_at hAt]
  exact congrArg _ (if_neg (by simp [hsource, hpresent, hself]))

theorem exec_conditionEnd_over {src : Fin 512} (hsource : isCondition src = true) (hover : u.conditionHeld src = false) :
    exec (.conditionEnd t src) s = .next (u.deassert src) := by
  change execConditionEnd t src s = _
  rw [execConditionEnd, timed_at hAt]
  exact congrArg _ (if_pos ⟨hsource, by simp [hover]⟩)

theorem exec_conditionEnd_held {src : Fin 512} (hheld : u.conditionHeld src = true) :
    exec (.conditionEnd t src) s = .next u := by
  change execConditionEnd t src s = _
  rw [execConditionEnd, timed_at hAt]
  exact congrArg _ (if_neg fun h => h.2 hheld)

/-- A record whose merge window is over is sent again if events merged into it, is handled, and clears itself where its sources
allow. -/
theorem exec_handlingEnd_due {rec : Fin 256} {v y : State} (hstate : (u.record rec).state = 1)
    (hdue : (u.record rec).tick + ticksUs (u.n E.hollyMergeWindow) ≤ u.now) (hself : u.holly.selfFault = false)
    (hv : (if (u.record rec).merged = 0 then u else u.sendRecord rec false) = v)
    (hy : v.setRecord rec { v.record rec with state := 2 } = y) :
    exec (.handlingEnd t rec) s = .next (if y.autoClears rec then y.clearRecord rec else y) := by
  subst hv hy
  change execHandlingEnd t rec s = _
  rw [execHandlingEnd, timed_at hAt]
  exact congrArg _ (if_pos ⟨hstate, hdue, by simp [hself]⟩)

theorem exec_promotionExpiry_promoted {src : Fin 512} (hstate : u.n E.fltState src = 2) (hself : u.holly.selfFault = false) :
    exec (.promotionExpiry t src) s = .next (u.sourceRefresh src) := by
  change execPromotionExpiry t src s = _
  rw [execPromotionExpiry, timed_at hAt]
  exact congrArg _ (if_pos ⟨hstate, by simp [hself]⟩)

/-! ### The causes that last (R425, R426) -/

theorem exec_oscinLoss_running {v : State} (hruns : u.power.oscin = true)
    (hv : { u with power := { u.power with oscin := false } } = v) : exec (.oscinLoss t) s = .next (v.raise 5) := by
  subst hv
  change execOscinLoss t s = _
  rw [execOscinLoss, timed_at hAt]
  exact congrArg _ (if_pos hruns)

theorem exec_oscinLoss_stopped (hstopped : u.power.oscin = false) : exec (.oscinLoss t) s = .next u := by
  change execOscinLoss t s = _
  rw [execOscinLoss, timed_at hAt]
  exact congrArg _ (if_neg (by simp [hstopped]))

section
variable {v y : State} (hself : u.holly.selfFault = false)
  (hy : { v with holly := { v.holly with selfFault := true, asserted := v.holly.asserted ++ [448] } } = y)
include hself hy

theorem exec_hollySelf_secded (hv : (u.bump E.eccUncorr).enterSafe 448 3 = v) :
    exec (.hollySelf t .secded) s = .next ((y.set E.fltState 448 1).set E.hollySelfFault 0 1) := by
  change execHollySelf t .secded s = _
  refine (timed_at hAt _).trans (congrArg _ ((if_neg (by simp [hself])).trans ?_))
  simp only [hv]
  rw [hy]

theorem exec_hollySelf_residue (hv : (u.bump E.resErr).enterSafe 448 3 = v) :
    exec (.hollySelf t .residue) s = .next ((y.set E.fltState 448 1).set E.hollySelfFault 0 2) := by
  change execHollySelf t .residue s = _
  refine (timed_at hAt _).trans (congrArg _ ((if_neg (by simp [hself])).trans ?_))
  simp only [hv]
  rw [hy]
end
end

/-! ### What a memory error struck (R27, R30) -/

/-- An uncorrectable error in a FIFO discards the item it struck; which item that is comes with the event (log 57). -/
theorem State.strike_item {src i : Nat} (y : State) (f : Fifo) (h : src % 64 = 57) :
    y.strike src (.item f i) = y.discardItem i f := if_pos h

theorem State.strike_record {src i : Nat} (y : State) (h : src = 320) :
    y.strike src (.record i) = { y with gnss := { y.gnss with keep := y.gnss.keep.eraseIdx i } } := if_pos h

/-! ### Clearing a record (R421, R424) -/

theorem spFltClear_apply_known {c : Ctx} {v : State} {l : Nat} (hl : v.recordOf c.v = some l) (hstate : (v.record l).state ≠ 3) :
    spFltClear.apply c v = if v.holly.safe = true ∧ (v.clearRecord l).holly.safe = false
      then (v.clearRecord l).settle true else v.clearRecord l := by
  simp only [spFltClear, hl, if_neg hstate, Bool.not_eq_true]

/-- Settles O35: each clause is its command's row on the state at its tick, an operation's own equation, or its entry's effect. -/
theorem faultCommands : Obligations.FaultCommands := by
  intro t s u hAt
  exact ⟨fun src sev detail world struck => exec_faultEvent_present hAt,
    fun y src => ⟨rfl, fun f i => y.strike_item f, fun i => y.strike_record, fun a w h => if_pos h⟩,
    fun src => exec_conditionEnd_over hAt, fun src => exec_conditionEnd_held hAt,
    fun rec v y hstate hdue hself => exec_handlingEnd_due hAt hstate hdue hself,
    fun src => exec_promotionExpiry_promoted hAt,
    fun m w x v l ho hl hstate => writeRow_applies hAt ho (spFltClear_apply_known hl hstate),
    fun v hruns => exec_oscinLoss_running hAt hruns, exec_oscinLoss_stopped hAt,
    fun v y hself hv hy => exec_hollySelf_secded hAt hself hy hv, fun v y hself hv hy => exec_hollySelf_residue hAt hself hy hv,
    fun m w v ho => writeRow_opens hAt ho, fun m w v ho => writeRow_opens hAt ho⟩

/-! ### The self-test (R429 to R431) -/

/-- A BIST starts on the fitted islands of its target; its domain's sources are masked where the whole domain is the target
(log 58). -/
theorem spBistStart_apply {c : Ctx} {v y z : State} {l : List Nat} (hy : v.set E.bistStart 0 c.v = y) (hl : y.testSet c.v = l)
    (hz : { y with holly := { y.holly with testing := l, testKind := c.v / 4096 % 4, testFailed := false } } = z) :
    spBistStart.apply c v = (((l.filter (fun i => i % 256 ≠ 255)).foldl State.testIsland z).set E.bistState 0
      1).maskRefresh (c.v % 4096 / 256) := by
  subst hy hl hz
  rfl

/-- What is under test, but for the domain's own mark: the fitted islands of the target, none of them a core island. -/
theorem State.mem_testSet {i : Nat} (y : State) (x : Nat) (hi : i % 256 ≠ 255) :
    i ∈ y.testSet x ↔ i ∈ bistTarget x ∧ y.islandFitted i = true ∧ coreIsland i = false := by
  have mark : i ∉ (if x % 256 = 255 then [x % 4096] else []) := by
    split
    · simp only [List.mem_singleton]
      omega
    · exact List.not_mem_nil
  rw [State.testSet, List.mem_append, or_iff_left mark, List.mem_filter, Bool.and_eq_true, Bool.not_eq_true']

section
variable {t island a b : Nat} {s u : State} (hAt : At t s u)
include hAt

theorem exec_bistComplete_untested (huntested : u.holly.testing.contains island = false) :
    exec (.bistComplete t island a b) s = .next u := by
  change execBistComplete t island a b s = _
  rw [execBistComplete, timed_at hAt]
  exact congrArg _ (if_pos (.inl (by simp only [huntested, Bool.false_eq_true, not_false_eq_true])))

section
variable {kind : Nat} {v y : State} {pass : Bool} {rest : List Nat} (htested : u.holly.testing.contains island = true)
  (hisland : island % 256 ≠ 255) (hrest : u.holly.testing.filter (· ≠ island) = rest) (hkind : u.holly.testKind = kind)
  (hpass : u.bistPass island kind a b = pass) (hlow : island < 0x510)
  (hy : ((if bitOf kind 1 then v.arraysZero island else v).maskRefresh (island / 256)).bistResult island kind a b = y)
include htested hisland hrest hkind hpass hlow hy

/-- An island's test ends with its signatures and its result, the last one with the test's; a memory test leaves zeros in the
arrays (log 59). -/
theorem exec_bistComplete_tested {left : List Nat} (hleft : (if rest.all (fun i => i % 256 = 255) then [] else rest) = left)
    (hv : { u with holly := { u.holly with testing := left, testFailed := u.holly.testFailed || !pass } } = v) :
    exec (.bistComplete t island a b) s =
      .next (if left.isEmpty then y.set E.bistState 0 (if y.holly.testFailed then 3 else 2) else y) := by
  have notLane : ¬ (0x610 ≤ island ∧ island < 0x618) := by omega
  have notCluster : ¬ (0x510 ≤ island ∧ island < 0x518 ∧ pass = true) := by omega
  subst hkind hrest hpass hleft hv hy
  change execBistComplete t island a b s = _
  rw [execBistComplete, timed_at hAt]
  refine congrArg _ ((if_neg (by simp only [htested, hisland, not_true, or_self, not_false_eq_true])).trans ?_)
  simp only [if_neg notLane, if_neg notCluster]

theorem exec_bistComplete_last (hlast : rest.all (fun i => i % 256 = 255) = true)
    (hv : { u with holly := { u.holly with testing := [], testFailed := u.holly.testFailed || !pass } } = v) :
    exec (.bistComplete t island a b) s = .next (y.set E.bistState 0 (if y.holly.testFailed then 3 else 2)) :=
  exec_bistComplete_tested hAt htested hisland hrest hkind hpass hlow hy (if_pos hlast) hv

theorem exec_bistComplete_more (hmore : rest.all (fun i => i % 256 = 255) = false)
    (hv : { u with holly := { u.holly with testing := rest, testFailed := u.holly.testFailed || !pass } } = v) :
    exec (.bistComplete t island a b) s = .next y := by
  have left : ¬ rest.isEmpty = true := fun h => by
    rw [List.isEmpty_iff.1 h] at hmore
    exact Bool.noConfusion hmore
  rw [exec_bistComplete_tested hAt htested hisland hrest hkind hpass hlow hy (if_neg (by simp [hmore])) hv, if_neg left]
end
end

/-- Settles O36: starting is the entry's effect, completing the row on the state at its tick. -/
theorem bistCommands : Obligations.BistCommands := by
  intro t s u hAt
  exact ⟨fun m w x v l y z ho hy hl hz => writeRow_applies hAt ho (spBistStart_apply hy hl hz), fun y x i => y.mem_testSet x,
    fun island a b => exec_bistComplete_untested hAt,
    fun island a b kind v y pass rest htested hisland hrest hkind hpass hlow hy =>
      ⟨exec_bistComplete_last hAt htested hisland hrest hkind hpass hlow hy,
       exec_bistComplete_more hAt htested hisland hrest hkind hpass hlow hy⟩⟩

end Sys2Proof.Machine
end

section
/-! The performance monitor, temperatures and JTAG (R438, R441, R443, R463, R464). -/

namespace Sys2Proof.Machine

/-! ### The performance monitor (R438, R441) -/

/-- A global command waits, BUSY, for the strobe. -/
theorem spPerfGlobal_apply {c : Ctx} {v y : State} (hy : { v with perf := { v.perf with pend := some (c.v, v.now) } } = y) :
    spPerfGlobal.apply c v = y.set E.perfGlobal 0 1 :=
  hy ▸ rfl

theorem spSampleCtrl_apply {c : Ctx} {v y : State} (hy : { v with perf := { v.perf with samples := [], seq := 0 } } = y) :
    spSampleCtrl.apply c v = (y.set E.perfSampleFill 0 0).set E.perfSampleLost 0 0 :=
  hy ▸ rfl

/-! ### Temperatures (R463) -/

section
variable {t : Nat} {s u : State} (hAt : At t s u) {die : Int} {d0 d1 : Option Int}
include hAt

theorem exec_tempReading_due {v : State} {l : Tab Nat} (hwhole : u.atWhole (secondUnit / 10) = true)
    (hl : l = tabPut 0 2 v.now (tabPut 0 1 v.now (tabPut 0 0 v.now v.yew.tempTicks)))
    (hv : ((((u.setInt E.dieTemp 0 die).corMax E.dieTempMax 0 die.toNat).setInt E.temp0Reading 0 (d0.getD (-2 ^ 31))).setInt
      E.temp1Reading 0 (d1.getD (-2 ^ 31))) = v) :
    exec (.tempReading t die d0 d1) s = .next { v with yew := { v.yew with tempTicks := l } } := by
  subst hl
  change execTempReading t die d0 d1 s = _
  rw [execTempReading, timed_at hAt]
  refine congrArg _ ((if_neg (not_not_intro hwhole)).trans ?_)
  simp only [hv]
  rfl

theorem exec_tempReading_between (hbetween : u.atWhole (secondUnit / 10) = false) :
    exec (.tempReading t die d0 d1) s = .next u := by
  change execTempReading t die d0 d1 s = _
  rw [execTempReading, timed_at hAt]
  exact congrArg _ (if_pos (by simp [hbetween]))
end

/-- Settles O37: each clause is its entry's effect on the state that took the write, or a reading's row on the state at its tick. -/
theorem perfCommands : Obligations.PerfCommands := by
  intro t s u hAt
  exact ⟨fun m w v y ho hy => writeRow_applies hAt ho (spPerfGlobal_apply hy),
    fun m w v y ho hy => writeRow_applies hAt ho (spPerfGlobal_apply hy),
    fun m w v y ho hy => writeRow_applies hAt ho (spPerfGlobal_apply hy), fun m w c v ho => writeRow_opens hAt ho,
    fun m w v y ho hy => writeRow_applies hAt ho (spSampleCtrl_apply hy), fun m w k x v ho => writeRow_opens hAt ho,
    fun die d0 d1 v l => exec_tempReading_due hAt, fun die d0 d1 => exec_tempReading_between hAt⟩

/-! ### JTAG (R464) -/

/-- A register shifted by as many places as the operand's bits (log 146), and what the instruction keeps of what was shifted in. -/
theorem jtagRow_eq {t ir : Nat} {tdi reg : List Bool} {s u v : State} {update : List Bool → Jtag → Jtag}
    (hu : (if s.power.held then s else s.runTo t) = u) (hv : u.emit (.tdo ((reg ++ tdi).take tdi.length)) = v) :
    jtagRow t ir tdi s reg update = .next { v with
      jtag := update ((reg ++ tdi).drop tdi.length) { v.jtag with instruction := ir, driving := false } } := by
  subst hu hv
  rfl

/-- The identification code of R464 over the part's number, which its fuses hold (log 17). -/
theorem idcodeOf_eq (part : Part) : idcodeOf part = 0x20000000 + part.number * 4096 + 0x56F := by
  simp only [idcodeOf]
  omega

/-- Settles O38: every instruction is the same row over its own register. -/
theorem jtagCommands : Obligations.JtagCommands := by
  intro t s u hu tdi pins
  exact ⟨fun v hv => jtagRow_eq (update := fun _ j => j) hu hv,
    fun v hv => jtagRow_eq (update := fun _ j => j) hu (idcodeOf_eq s.otp.part ▸ hv),
    fun v hv => jtagRow_eq (update := fun r j => { j with cells := r }) hu hv,
    fun v hv => jtagRow_eq (update := fun r j => { j with cells := r, driving := true }) hu hv⟩

end Sys2Proof.Machine
end
